-- ==== Sys2Proof/Word.lean ====
section
/-! DEFINITION. The words of the block: 32-bit registers (spec/00_scope.md, R9) and bytes. -/

namespace Sys2Proof

/-- A register word (R9). -/
abbrev Word := BitVec 32

/-- A byte of a record, an image or a memory. -/
abbrev Byte := BitVec 8

end Sys2Proof
end

