-- ==== Sys2Proof/Machine/SMap.lean ====
section
/-! DEFINITION. Sparse tables: a list of (key, value) pairs, keys rising. They hold what the block has many of and uses
few of (register copies, counters, queues, streams, parts). A key that is not listed has the default its reader names. -/

namespace Sys2Proof.Machine

/-- A sparse table from numbers to values. -/
abbrev SMap (α : Type) := List (Nat × α)

/-- The value listed under a key. -/
def SMap.find {α : Type} (m : SMap α) (k : Nat) : Option α :=
  match m with
  | [] => none
  | (k', v) :: t => if k' = k then some v else SMap.find t k

/-- The value under a key, or the default. -/
def SMap.getD {α : Type} (m : SMap α) (k : Nat) (d : α) : α := (m.find k).getD d

/-- List a value under a key, keeping the keys in order. -/
def SMap.put {α : Type} (m : SMap α) (k : Nat) (v : α) : SMap α :=
  match m with
  | [] => [(k, v)]
  | (k', v') :: t =>
    if k' = k then (k, v) :: t
    else if k < k' then (k, v) :: (k', v') :: t
    else (k', v') :: SMap.put t k v

/-- Take a key off the list. -/
def SMap.del {α : Type} (m : SMap α) (k : Nat) : SMap α := m.filter (fun p => p.1 != k)

/-- List a value under a key, or take the key off where the value is the default. -/
def SMap.putD {α : Type} [DecidableEq α] (m : SMap α) (d : α) (k : Nat) (v : α) : SMap α :=
  if v = d then m.del k else m.put k v

/-- Change the value under a key. -/
def SMap.upd {α : Type} (m : SMap α) (k : Nat) (d : α) (f : α → α) : SMap α := m.put k (f (m.getD k d))

/-- The keys listed, rising. -/
def SMap.keys {α : Type} (m : SMap α) : List Nat := m.map (fun p => p.1)

end Sys2Proof.Machine
end

