-- ==== Sys2Proof/Syntax.lean ====
section
/-! DEFINITION. The commands of the block: one constructor per row of spec/opcode_table.json, in its order, with the operands
that the row's step takes from outside. A register command names its master and the word it writes; an arriving message
names its port and its fields; the completion of an attached part carries what the part answered. -/

namespace Sys2Proof.Machine

/-- The three masters that reach the registers (R369): the management port, VSB and the test port. -/
inductive Master where
  | mgmt
  | vsb
  | test
  deriving DecidableEq, Repr

/-- A record as a producer forms it (R16, R227): every header field but SEQ and the check, and its payload bytes.
LEN is the payload's length in units of 8 bytes. `raw` holds the bytes of a quarantined record, which enters its queue unchanged (R246). -/
structure Rec where
  typ : Nat
  fmt : Nat := 0
  flags : Nat := 0
  stream : Nat := 0
  epoch : Nat := 0
  ldi : Nat := 0
  sev : Nat := 0
  cls : Nat := 0
  phase : Nat := 0
  wall : Nat := 0
  bytes : List Byte := []
  raw : Option (List Byte) := none
  deriving DecidableEq, Repr

/-- An element's exact value (R116): a quotient num / den, or a special. `neg0` marks the -0 of a floating format. -/
inductive Val where
  | fin (num : Int) (den : Nat) (neg0 : Bool)
  | pinf
  | ninf
  | nan
  deriving DecidableEq, Repr

/-- An exact accumulator (R121): A as the integer its 320 bits stand for, its residue, the sticky flags, the count. -/
structure ExAcc where
  a : Int := 0
  res : Nat := 0
  pinf : Bool := false
  ninf : Bool := false
  nan : Bool := false
  nz : Bool := false
  n : Nat := 0
  deriving DecidableEq, Repr

/-- A sketch (R128): counts below and above, the key of bucket 0, SAT, the buckets that are not 0. -/
structure Sketch where
  below : Nat := 0
  above : Nat := 0
  keyBase : Int := 0
  sat : Bool := false
  buckets : SMap Nat := []
  deriving DecidableEq, Repr

/-- A verdict entry (Table 8-2). -/
structure VEntry where
  kind : Nat
  clear : Bool := false
  ongoing : Bool := false
  bound : Bool := false
  late : Bool := false
  count : Nat := 0
  sev : Nat := 0
  action : Nat := 0
  rule : Nat := 0
  entity : Nat := 0
  entkind : Nat := 0
  metric : Nat := 0
  ref : Nat := 0
  deriving DecidableEq, Repr

/-- A TRAY_SUM message (R189): the sender's LAI, the wingbeat, M_T (none with too few peers) and n, then entries. `extra` marks one
that brings entries only (R191, R196). -/
structure TraySum where
  lai : Nat
  step : Nat
  idx : Nat
  median : Option Nat := none
  n : Nat := 0
  extra : Bool := false
  entries : List VEntry := []
  deriving DecidableEq, Repr

/-- A demand interval that is open (R199, R200): its number, energy and tokens, missing die-wingbeats, wingbeats lost and which (step and
index), first and last W (88-bit internal time), RESUMED, whether the limit was reached; on the mirror, whether it is closed. -/
structure Interval where
  k : Nat
  energy : ExAcc := {}
  tokens : ExAcc := {}
  missing : Nat := 0
  lost : Nat := 0
  first : Option Nat := none
  last : Option Nat := none
  resumed : Bool := false
  over_ : Bool := false
  lostAt : List Nat := []
  closed : Bool := false
  deriving DecidableEq, Repr

/-- What an aggregator's or die's image says of its place in the fabric (the TOPOLOGY body has no byte layout in the spec: log
entry 12). `lai` is the index of an aggregator, `ldi` of a die bound by image; tags are the four failure-domain tags, spares the pool of spare D-roles (PLOC, downstream port);
`trays` are the T-roles with their
home LDI ranges (LAI, first, last), `childLdis` the LDI ranges below each child (LAI, first, last), `groups` the LDI ranges of each member group, `below` the
aggregators below each port (port, LAI), `beacons` the followers of each source LDI (LDI, port; R53), `closing` the port of a ring's closing link (R24). -/
structure Topo where
  lai : Nat := 0
  buddy : Nat := 0
  parent : Nat := 0
  parentBuddy : Nat := 0
  isRoot : Bool := false
  isStandby : Bool := false
  homeLdis : List Nat := []
  buddyLdis : List Nat := []
  children : List Nat := []
  spares : List (Nat × Nat) := []
  deadPeriods : Nat := 8
  budgetNs : Nat := 0
  tags : List Nat := []
  beacons : List (Nat × Nat) := []
  tierDepth : Nat := 0
  below : List (Nat × Nat) := []
  trays : List (Nat × Nat × Nat) := []
  childLdis : List (Nat × Nat × Nat) := []
  groups : List (List (Nat × Nat)) := []
  closing : Option Nat := none
  deriving DecidableEq, Repr, Inhabited

/-- What a NAND target reports at start (R268): data KiB of a page, spare bytes per KiB, pages of a block, blocks, tPROG_max in µs,
whether it has NV-LPDDR4. -/
structure Geo where
  pageKib : Nat
  spare : Nat
  pages : Nat
  blocks : Nat
  progUs : Nat
  lpddr : Bool
  deriving DecidableEq, Repr

/-- How far a page read went down the ladder of R269 (steps 1 to 5), and the most bits corrected in a codeword. -/
structure Ladder where
  step : Nat
  fixed : Nat
  deriving DecidableEq, Repr

/-- A status of the NVM port (R268, R274, R287): the start of a target, none where it has no valid parameter page; a page program;
an erase; a page read; an entry appended to a counter log. -/
inductive NandResult where
  | param (ch tgt : Nat) (geo : Option Geo)
  | program (ch tgt blk page : Nat) (pass : Bool)
  | erase (ch tgt blk : Nat) (pass : Bool)
  | read (ch tgt blk page : Nat) (ladder : Ladder)
  | counter (copyB pass : Bool)
  deriving DecidableEq, Repr

/-- What an uncorrectable word held: SRAM or a DRAM line (R314, Table 14-3), a parity error of R313, a retained word (R348). -/
inductive SramHeld where
  | swarm (tag : Nat)
  | model (tree : Nat)
  | row (entity : Nat)
  | drift (ch : Nat)
  | item (queue num : Nat)
  | ownerCopy (ldi epoch stream seq : Nat) (buddyOk : Bool)
  | rwl
  | probe (index : Nat) (monitor : Bool)
  | txn (tag : Nat)
  | queue (queue : Nat)
  | fire
  | retained (addr : Nat)
  | other
  deriving DecidableEq, Repr

/-- What the patrol of R314 found in an SRAM word. -/
inductive SramWord where
  | clean
  | corrected
  | uncorr (addr : Nat) (what : SramHeld)
  deriving DecidableEq, Repr

/-- Who operates on a sync counter or claims an interrupt (R331, R335): a master, or a Steward thread. -/
inductive Agent where
  | master (m : Master)
  | thread (n : Nat)
  deriving DecidableEq, Repr

/-- A VSB frame (R342, Table 15-7), without its CRC. -/
structure VsbFrame where
  dest : Nat
  src : Nat
  typ : Nat
  payload : List Byte := []
  deriving DecidableEq, Repr

/-- A contribution (R136): tag, LDI and EPOCH, fire CAUSE and WALL, and for each collective of the batch its packed elements, none
where it is marked ABSENT. -/
structure Contrib where
  tag : Nat
  ldi : Nat
  epoch : Nat
  cause : Nat
  wall : Nat
  parts : List (Option (List Byte))
  deriving DecidableEq, Repr

/-- A partial element (Table 6-4): exact SUM; F64 SUM as blocks (k, j, ASTAT, value); MIN or MAX and whether every contribution was
NaN; the LOC forms with their LDI; a sketch, none where nothing was merged. -/
inductive PElem where
  | acc (x : ExAcc)
  | blocks (l : List (Nat × Nat × Nat × Nat))
  | ext (v : Option Val) (allNan : Bool)
  | loc (v : Option Val) (ldi : Nat) (allNan : Bool)
  | skb (s : Option Sketch)
  deriving DecidableEq, Repr

/-- One collective's share of a partial: members combined, members absent, the elements. -/
structure PCol where
  contrib : Nat := 0
  absent : Nat := 0
  elems : List PElem := []
  deriving DecidableEq, Repr

/-- A partial (R139, R142): tag, the child's LAI, W, error, missing members and the lowest 16 of them, the collectives in batch
order; an error partial with NOENTRY has none (R149). -/
structure Partial where
  tag : Nat
  child : Nat
  w : Nat
  err : Nat := 0
  missing : Nat := 0
  list : List Nat := []
  cols : List PCol := []
  deriving DecidableEq, Repr

/-- What Swarm sends on EXPRESS (R208). -/
inductive SwarmUnit where
  | contrib (c : Contrib)
  | partial_ (p : Partial)
  deriving DecidableEq, Repr

/-- The bytes of a partial element (Table 6-4). -/
def PElem.lenb (e : PElem) : Nat :=
  match e with
  | .acc _ => 48
  | .blocks l => 16 * l.length
  | .ext _ _ => 16
  | .loc _ _ _ => 16
  | .skb _ => 8208

/-- The bytes of a contribution's elements, or of a partial's (log entry 11). -/
def SwarmUnit.lenb (u : SwarmUnit) : Nat :=
  match u with
  | .contrib c => (c.parts.map (fun p => (p.getD []).length)).foldl (· + ·) 0
  | .partial_ p => (p.cols.map (fun c => (c.elems.map PElem.lenb).foldl (· + ·) 0)).foldl (· + ·) 0

/-- A check of R169 that failed: the tree, the vector's place in its batch, the tile, the operation (Table 14-5), what was expected
and observed; and the same of the second scoring where that failed too. -/
structure TreeFault where
  tree : Nat
  vec : Nat
  tile : Nat
  op : Nat
  exp : Nat
  obs : Nat
  again : Option (Nat × Nat × Nat × Nat) := none
  deriving DecidableEq, Repr

/-- One update of the mirror between buddies (R245), or a record on its way to its owner (R237). A procedure's mark carries the new epoch
and the spare (PLOC, port) that its intent names (R33). -/
inductive Mirror where
  | record (ldi epoch stream seq : Nat) (bytes : List Byte)
  | release (ldi epoch stream seq : Nat)
  | stream (ldi epoch stream next acc : Nat)
  | binding (ldi ploc epoch port : Nat)
  | proc (proc ldi step repoch epoch ploc port : Nat)
  | straggler (entity count : Nat)
  | running (coll : Nat) (accs : List ExAcc)
  | interval (x : Interval)
  | relay (bytes : List Byte)
  deriving DecidableEq, Repr

/-- An entry of an ACCEPT message (R240, Table 10-3): STREAM and the highest accepted SEQ. -/
structure AcceptEntry where
  stream : Nat
  seq : Nat
  deriving DecidableEq, Repr

/-- A CONTROL message (R212, Table 9-5), by its fields. Only ACCEPT has a byte layout in the spec (log entry 11). -/
inductive Msg where
  | heartbeat (lai : Nat) (actingHome : Bool)
  | sync (seq stamp rate : Nat) (valid : Bool)
  | pdelayReq (seq t1 : Nat)
  | pdelayResp (seq t1 t2 t3 : Nat)
  | wbMark (step idx wall : Nat)
  | beacon (ldi epoch step pos idx wall : Nat)
  | bind (ldi epoch : Nat)
  | bindAck (ldi epoch : Nat)
  | unbind (ldi epoch : Nat)
  | unbindAck (ldi epoch : Nat)
  | route (ldi lai epoch : Nat)
  | start (tag w : Nat)
  | end_ (tag code : Nat)
  | resend (tag : Nat)
  | traySum (t : TraySum)
  | accept (epoch ldi : Nat) (gap : Bool) (entries : List AcceptEntry)
  | discover (lai : Nat) (tags : List Nat)
  deriving DecidableEq, Repr

/-- What a frame carries: the bytes of a record, a CONTROL message, a Swarm unit, or an update of the mirror with its number. A frame that
is a part of a longer unit names the whole unit. -/
inductive Content where
  | bytes (l : List Byte)
  | msg (m : Msg)
  | swarm (u : SwarmUnit)
  | mirror (u : Mirror) (num : Nat)
  deriving DecidableEq, Repr

/-- How a received frame fared in its checks (R209, R213, R217): good, failing its CRC, stomped, or lost to a framing error of a flit header
while the channels of the mask had a frame in progress. -/
inductive FrameCheck where
  | good
  | bad
  | stomped
  | framing (mask : Nat)
  deriving DecidableEq, Repr

/-- What a ROUTE names (R33, R54): the aggregator that announces it, and the binding's epoch. -/
structure Route where
  lai : Nat
  epoch : Nat
  deriving DecidableEq, Repr

/-- A received frame (Table 9-3): channel (0 BULK, 1 EXPRESS, 2 CONTROL, 3 reserved), FTYPE, class, SOR, EOR, RPL, SEQ, ACK, context,
whether a reserved header bit is 1, payload, and how it fared. -/
structure FrameIn where
  vc : Nat
  ftype : Nat := vc + 1
  cls : Nat := 0
  sor : Bool := true
  eor : Bool := true
  rpl : Bool := false
  seq : Nat
  ack : Nat
  ctx : Nat := 0
  rsvd : Bool := false
  payload : List Byte := []
  check : FrameCheck := .good
  deriving DecidableEq, Repr

end Sys2Proof.Machine

namespace Sys2Proof

open Sys2Proof.Machine

/-- The commands. -/
inductive Instr where
  /-- REGISTER_WRITE (R10): A write to a register field that has no row of its own replaces, clears or sets that field according to its access code. -/
  | registerWrite (m : Master) (off strb data hw : Nat)
  /-- MULTI_COMMAND_WRITE (R396): A write that sets two or more command bits of one register performs none of their actions, and only its RW fields take their values. -/
  | multiCommandWrite (m : Master) (off data : Nat)
  /-- DISCOVER_RECEIVED (R30): A DISCOVER control message drives discovery, the exchange of domain tags and the measurement of latency to the root. -/
  | discoverReceived (port lai : Nat) (tags : List Nat) (fromBuddy : Bool) (latNs : Nat)
  /-- DEAD_TIMEOUT (R32): After no traffic from an LDI for the dead timeout, the acting home declares the LDI dead. -/
  | deadTimeout (ldi : Nat)
  /-- BIND_REPEAT (R33): BIND is sent again to the spare until BIND_ACK arrives. -/
  | bindRepeat (ldi : Nat)
  /-- BIND_RECEIVED (R397): A D-role takes, repeats or replaces its binding and answers BIND_ACK. -/
  | bindReceived (port ldi epoch : Nat)
  /-- BIND_ACK_RECEIVED (R33): The acting home announces the new route and marks the rebind intent complete. -/
  | bindAckReceived (port ldi epoch : Nat)
  /-- ROUTE_RECEIVED (R33): A parent S-role updates its routing by LDI. -/
  | routeReceived (port ldi : Nat) (via : Route)
  /-- UNBIND_RECEIVED (R247): A D-role discards its Hold Buffer and stream state, joins the spare pool and answers UNBIND_ACK. -/
  | unbindReceived (port ldi epoch : Nat)
  /-- UNBIND_REPEAT (R35): The acting home sends UNBIND again until UNBIND_ACK arrives. -/
  | unbindRepeat (ldi epoch : Nat)
  /-- UNBIND_ACK_RECEIVED (R35): The UNBIND procedure completes. -/
  | unbindAckReceived (port ldi epoch : Nat)
  /-- JOB_START (R37): At a job start, an aggregator takes the warm set-up or the cold set-up. -/
  | jobStart
  /-- SETUP_VERIFY_TIMEOUT (R37): Bound LDIs that have not answered within the 2 ms warm verification window are treated as unanswering. -/
  | setupVerifyTimeout
  /-- HEARTBEAT_SEND (R40): An aggregator sends a heartbeat every 100 µs on every link. -/
  | heartbeatSend
  /-- HEARTBEAT_RECEIVED (R40): A heartbeat restarts the loss timer of the sender, or is forwarded along the lane chain. -/
  | heartbeatReceived (port lai : Nat) (actingHome : Bool)
  /-- HEARTBEAT_LOSS (R40): After no heartbeat for L, the watching role declares the aggregator lost. -/
  | heartbeatLoss
  /-- PHASE_LOAD (R44): A rising PHR_SET loads PHR_VALUE when it is above the present phase, and otherwise raises SET_REFUSED. -/
  | phaseLoad (value : Nat) (stepRise : Bool) (adv : Nat)
  /-- STEP_STROBE (R44): A rising PHR_STEP enqueues catch-up fires, increments the step and resets the fraction. -/
  | stepStrobe (adv : Nat)
  /-- PHASE_ADVANCE (R44): PHR_ADV is added to the fraction with a clamp, and each wingbeat position crossed is enqueued. -/
  | phaseAdvance (adv : Nat)
  /-- STEP_TIMEOUT (R45): The step-strobe timeout expires and raises STEP_TIMEOUT once. -/
  | stepTimeout
  /-- WINGBEAT_FIRE (R49): The head fire request fires once MINGAP has passed: it stamps WALL, drives PHR_WB and triggers the captures. -/
  | wingbeatFire
  /-- BEACON_RECEIVED (R54): A follower adopts a beacon's phase and enqueues a BEACON fire, or drops a stale beacon. -/
  | beaconReceived (port ldi epoch step pos idx wall : Nat)
  /-- BEACON_LOST (R54): The beacon timeout expires and raises BEACON_LOST. -/
  | beaconLost
  /-- TIME_WINGBEAT (R55): A due time-wingbeat instant enqueues a fire request of cause TIME. -/
  | timeWingbeat
  /-- SYNC_SEND (R57): A time parent sends SYNC to each time child every 32 µs. -/
  | syncSend
  /-- SYNC_RECEIVED (R59): A child computes θ and steps, slews or refuses it. -/
  | syncReceived (port ts tr : Nat) (rpl : Bool)
  /-- PDELAY_REQ_SEND (R57): Every 1 ms, a child starts a peer-delay exchange with its parent. -/
  | pdelayReqSend
  /-- PDELAY_REQ_RECEIVED (R57): The parent answers with a PDELAY_RESP that carries its timestamps. -/
  | pdelayReqReceived (port seq t2 : Nat) (rpl : Bool)
  /-- PDELAY_RESP_RECEIVED (R58): The child computes the link delay d and updates its mean d̄. -/
  | pdelayRespReceived (port seq t2 t3 t4 : Nat) (disturbed : Bool)
  /-- SYNC_TIMEOUT (R60): After no SYNC for 128 µs, HOLDOVER is set. -/
  | syncTimeout
  /-- ASYM_MEASURE (R58): Every 1 ms, ANT_ASYMn.INTERNAL is measured again. -/
  | asymMeasure (n value : Nat)
  /-- TIME_STEP (R62): ANT_TIME_STEP.STEP adds ANT_OFFSET to the time. -/
  | timeStep (m : Master)
  /-- TIME_LOAD (R62): At the root, ANT_TIME_STEP.LOAD replaces the whole internal time from the SET registers. -/
  | timeLoad (m : Master)
  /-- EPOCH_MARK_PERIODIC (R62): When the low 20 bits of seconds become 0, a periodic epoch marker is emitted. -/
  | epochMarkPeriodic
  /-- LAUNCH_ARM (R65): ANT_LAUNCH_CFG.ARM arms a launch slot and clears LATE and EMPTY. -/
  | launchArm (m : Master) (word : Nat)
  /-- LAUNCH_FIRE (R65): A slot whose trigger is reached releases its head item to Monarch and disarms. -/
  | launchFire (slot : Nat)
  /-- PHASE_LO_READ (R46): A read of ANT_PHASE_LO latches phase [63:32] into ANT_PHASE_HI. -/
  | phaseLoRead (m : Master)
  /-- TIME_LO_READ (R46): A read of ANT_TIME_LO latches ANT_TIME_MID and ANT_TIME_HI. -/
  | timeLoRead (m : Master)
  /-- LANE_INCREMENT (R71): Probe Bus lane increments are added to their mapped counters. -/
  | laneIncrement (incs : List (Nat × Nat))
  /-- PROBE_MESSAGE (R72): A Probe Message is taken into the 256-place message queue. -/
  | probeMessage (data : Nat)
  /-- MESSAGE_APPLY (R74): A queued message is applied: CADD adds to a counter, MSAMPLE samples a monitor, and a bad message is dropped. -/
  | messageApply
  /-- SNAPSHOT_DRAIN_DONE (R76): A snapshot drain ends, its buffer frees, and the next drain starts. -/
  | snapshotDrainDone (monitors : Bool)
  /-- COUNTER_READ (R79): A read of PRB_CNT_LO latches the rest of the counter or chained pair. -/
  | counterRead (m : Master)
  /-- COUNTER_APPLY (R80): A write of PRB_CNT_HI applies the staged value to the selected counter. -/
  | counterApply (m : Master) (word : Nat)
  /-- LANE_STUCK (R82): A run of PRB_GUARD.STUCK × 1,024 equal non-zero increments sets STUCK and may fence the lane. -/
  | laneStuck (lane : Nat)
  /-- FAST_WINDOW_END (R82): At the end of a 64-cycle window, too many edges set FAST and may fence the lane. -/
  | fastWindowEnd
  /-- SCALES_CONVERSION (R85): The converter converts the next scan slot, once per µs. -/
  | scalesConversion (code : Nat)
  /-- WIRE_TEST_START (R87): A wire test of the due group begins with the conversions taken with the bias off. -/
  | wireTestStart (codes : List Nat)
  /-- WIRE_BIAS_SETTLED (R87): After SETTLE µs, the channels are converted with the bias on. -/
  | wireBiasSettled (codes : List Nat)
  /-- WIRE_TEST_DONE (R88): The group's result is classed and confirmed, or the test is discarded. -/
  | wireTestDone
  /-- SCALES_TRANSIENT (R89): A rising SCL_TRANSIENT raises TRANSIENT and starts glitch flagging. -/
  | scalesTransient (level : Bool)
  /-- TRACE_TICK (R93): A trace tick samples the lanes and writes the DROP, TRIG, TS, CTX and SAMPLE packets. -/
  | traceTick (lanes : List (Nat × Nat × Nat))
  /-- POST_END (R101): The POST tick count expires, and the buffer goes to ARMED or OFF. -/
  | postEnd (buf : Nat)
  /-- TRACE_ARM (R101): Buffer CMD.ARM moves the buffer from OFF to ARMED. -/
  | traceArm (m : Master) (buf word : Nat)
  /-- TRACE_STOP (R101): Buffer CMD.STOP takes the machine to OFF at the next tick. -/
  | traceStop (m : Master) (buf word : Nat)
  /-- TRACE_DUMP (R104): Buffer CMD.DUMP drains a RING buffer once, once its machine is OFF. -/
  | traceDump (m : Master) (buf word : Nat)
  /-- CONTEXT_TAG (R96): A context tag becomes the current context of its partition. -/
  | contextTag (part layer op : Nat)
  /-- TRC_TRIG_EDGE (R101): A rising TRC_TRIG is noted for the next tick's trigger conditions. -/
  | trcTrigEdge
  /-- TRACE_RECORD_FORM (R105): Trace DMA forms a TRC_DATA record from the waiting packets. -/
  | traceRecordForm (buf : Nat)
  /-- HANG_EVENT (R107): A hang event is stored in its unit's ring with its DT. -/
  | hangEvent (slots : List (Nat × Nat))
  /-- HANG_FREEZE_PIN (R109): A rising HNG_FREEZE freezes the hang rings. -/
  | hangFreezePin
  /-- HANG_FREEZE_CMD (R109): TRC_HANG_CTRL.FREEZE freezes the hang rings. -/
  | hangFreezeCmd (m : Master) (word : Nat)
  /-- HANG_UNFREEZE (R109): TRC_HANG_CTRL.UNFREEZE resumes storing, clearing the rings when CLEAR is written with it. -/
  | hangUnfreeze (m : Master) (word : Nat)
  /-- HANG_WALL_READ (R110): A read of TRC_HANG_WALL_LO latches TRC_HANG_WALL_HI. -/
  | hangWallRead (m : Master)
  /-- CONTRIBUTION_RECEIVED (R142): An aggregator combines, quarantines, strays or counts late a contribution for its transaction entry. -/
  | contributionReceived (port : Nat) (c : Contrib)
  /-- PARTIAL_RECEIVED (R142): A child partial is checked and combined into its transaction entry. -/
  | partialReceived (port : Nat) (p : Partial)
  /-- WB_MARK_RECEIVED (R51): The first WB_MARK of a (step, index) forms the aggregator's boundary and is forwarded to its parent. -/
  | wbMarkReceived (port step idx wall : Nat)
  /-- TRANSACTION_CUTOFF (R141): At the cutoff, an open entry closes with its missing members counted. -/
  | transactionCutoff (tag : Nat)
  /-- REDUCTION_DONE (R142): The program over the retained inputs completes, and the entry sends its partial or decides at the root. -/
  | reductionDone (tag : Nat) (mis : Option (Nat × Nat × Nat × Nat × Nat))
  /-- END_RECEIVED (R146): END is passed down to the children, the entry is freed, and a D-role records SWM_LAST_END. -/
  | endReceived (port tag code : Nat)
  /-- END_GRACE (R146): With no END by W + DEADLINE + grace, the transaction ends with TIMEOUT and raises ORPHAN. -/
  | endGrace (tag : Nat)
  /-- RESEND_RECEIVED (R148): A child sends its retained partial again. -/
  | resendReceived (port tag : Nat)
  /-- START_RECEIVED (R154): A D-role contributes to a software-launched transaction, or ignores the START. -/
  | startReceived (port tag w : Nat)
  /-- SWARM_LAUNCH (R154): SWM_LAUNCH.GO at the root increments the launch count and sends START. -/
  | swarmLaunch (m : Master) (word : Nat)
  /-- SWARM_ABORT (R154): SWM_LAUNCH.ABORT ends the collective's open transactions with ABORTED. -/
  | swarmAbort (m : Master) (word : Nat)
  /-- RUNNING_CLEAR (R153): SWM_LAUNCH.RUNCLR clears a collective's running accumulators. -/
  | runningClear (m : Master) (word : Nat)
  /-- LANE_FENCE_WRITE (R155): A write of SWM_LANE_FENCE fences or returns lanes, and abandons and reruns their segments. -/
  | laneFenceWrite (m : Master) (k word : Nat)
  /-- LAST_END_READ (R146): A read of SWM_LAST_END_LO latches the MID and HI registers. -/
  | lastEndRead (m : Master)
  /-- MODEL_EXPAND (R163): HWK_EXPAND.GO starts expansion of the staged model section under MGMT_BUSY. -/
  | modelExpand (m : Master) (word : Nat)
  /-- EXPAND_DONE (R164): Expansion ends with STAGED set or with an error code. -/
  | expandDone
  /-- MODEL_COPY_DONE (R166): The copy of the new model into the model store ends, and passes resume on it. -/
  | modelCopyDone
  /-- PASS_REQUEST (R175): DELAY µs after a boundary of the ensemble's index, a pass request is queued. -/
  | passRequest (ens : Nat)
  /-- PASS_START (R176): The next queued pass begins copying its first batch of rows. -/
  | passStart
  /-- BATCH_DONE (R177): A batch of vectors is scored on the unfenced tiles. -/
  | batchDone (faults : List TreeFault)
  /-- PASS_DONE (R179): A pass merges its scores and emits HWK_SCORE records and notices to the Verdict unit. -/
  | passDone
  /-- TILE_FENCE_WRITE (R178): A write of HWK_TILE_FENCE fences tiles and rescores their trees on the rest. -/
  | tileFenceWrite (m : Master) (word : Nat)
  /-- LOCAL_PASS_DONE (R181): The local pass ends, judges a hit, and emits FEATROW and HWK_SCORE records. -/
  | localPassDone (faults : List TreeFault)
  /-- ROW_READ (R182): A read of HWK_ROW_LO latches HWK_ROW_HI and HWK_ROW_STAT. -/
  | rowRead (m : Master)
  /-- ROUND_CLOSE (R184): At W + VRD_PLAN.OFFSET, the round closes and its main record is emitted. -/
  | roundClose (step idx : Nat)
  /-- SUPPLEMENT_EMIT (R185): Two wingbeat periods after a main record, its pending supplement is emitted. -/
  | supplementEmit
  /-- TRAY_SUM_RECEIVED (R189): The root takes a tray's median and entries for the round's fleet median. -/
  | traySumReceived (port : Nat) (ts : TraySum)
  /-- INTERVAL_CLOSE (R200): At the interval end plus CLOSE, the EN_INTERVAL record is formed and committed. -/
  | intervalClose
  /-- TARIFF_WRITE (R205): A write of TARIFF_AT_HI changes a tariff entry as a whole. -/
  | tariffWrite (m : Master) (word : Nat)
  /-- LANE_ERROR (R214): Lane errors beyond KL_DEGRADE.TH exclude the lane and retrain the port. -/
  | laneError (port lane : Nat)
  /-- NO_FLIT_TIMEOUT (R214): With no valid flit for 1 µs, the port enters RETRAIN. -/
  | noFlitTimeout (port : Nat)
  /-- NEG_SEND (R214): In NEGOTIATE, NEG is sent every 500 ns. -/
  | negSend (port : Nat)
  /-- NEG_RECEIVED (R216): The version, features and credits are computed from the partner's offer. -/
  | negReceived (port ver feat : Nat) (credits : List Nat) (lanes : Nat)
  /-- NEG_ACK_RECEIVED (R216): An agreeing NEG_ACK completes negotiation. -/
  | negAckReceived (port ver feat : Nat) (credits : List Nat) (width : Nat)
  /-- TRAINING_DONE (R214): The port reaches ACTIVE with its width chosen, and unacknowledged frames are replayed. -/
  | trainingDone (port locked : Nat)
  /-- TRAINING_TIMEOUT (R215): A port that has not reached ACTIVE within KL_TIMERS.DOWN is declared down. -/
  | trainingTimeout (port : Nat)
  /-- DOWN_FLIT (R215): A received DOWN flit declares the port down. -/
  | downFlit (port : Nat)
  /-- DOWN_RETRY (R215): A port declared down tries training again after KL_TIMERS.DOWN. -/
  | downRetry (port : Nat)
  /-- KL_RETRAIN (R214): KL_CMD.RETRAIN retrains the selected port with every lane. -/
  | klRetrain (m : Master)
  /-- KL_DOWN (R215): KL_CMD.DOWN sends DOWN and takes the port down. -/
  | klDown (m : Master)
  /-- KL_UP (R215): KL_CMD.UP starts training now. -/
  | klUp (m : Master)
  /-- PORT_ENABLE_WRITE (R305): Before the first apply, a change of KL_PORT_CFG.EN declares the port down or starts training. -/
  | portEnableWrite (m : Master) (word : Nat)
  /-- FRAME_RECEIVED (R217): A frame is delivered in SEQ order, or discarded with a NAK. -/
  | frameReceived (port : Nat) (frame : FrameIn)
  /-- ACK_RECEIVED (R217): A cumulative ACK frees the acknowledged frames and their credits. -/
  | ackReceived (port : Nat) (acks frees : List Nat)
  /-- NAK_RECEIVED (R217): A NAK applies its ACK value and replays from there. -/
  | nakReceived (port mask : Nat) (acks frees : List Nat)
  /-- REPLAY_TIMEOUT (R217): With base unchanged for KL_TIMERS.REPLAY, the channel replays, and retrains after 8 replays. -/
  | replayTimeout (port vc : Nat)
  /-- ACK_SEND (R217): An LC ACK is sent every ACK_INT while any delivery is unacknowledged. -/
  | ackSend (port : Nat)
  /-- PAUSE_RECEIVED (R219): A PAUSE flit sets or clears the pause timers of its classes. -/
  | pauseReceived (port mask time : Nat)
  /-- PAUSE_EXPIRE (R219): A class pause timer lapses and the class resumes. -/
  | pauseExpire (port cls : Nat)
  /-- PAUSE_REPEAT (R220): Every half TIME, PAUSE is repeated while staging stays above LOW. -/
  | pauseRepeat (port cls : Nat)
  /-- BULK_SCHEDULE (R222): When a port can start a bulk frame, Monarch tags the eligible queues and serves one. -/
  | bulkSchedule (port : Nat)
  /-- SHAPE_COMMIT (R223): MON_SHAPE_CMD.COMMIT stages a shaper change with its mode. -/
  | shapeCommit (m : Master) (word : Nat)
  /-- SHAPE_APPLY (R223): A staged shaper change applies on every port and raises SHAPE_APPLIED. -/
  | shapeApply (cls : Nat)
  /-- GATE_WINDOW_START (R224): At B + OFF, a gated class closes. -/
  | gateWindowStart (cls : Nat)
  /-- GATE_WINDOW_END (R224): At B + OFF + LEN, the gate reopens. -/
  | gateWindowEnd (cls : Nat)
  /-- RECORD_RECEIVED (R241): The owner holds, journals, relays, or answers as a duplicate or a gap a received record. -/
  | recordReceived (port : Nat) (bytes : List Byte) (bad : List Nat)
  /-- ACCEPT_RECEIVED (R241): A D-role frees the held records covered by the ACCEPT, and resends on GAP. -/
  | acceptReceived (port epoch ldi : Nat) (gap : Bool) (entries : List AcceptEntry)
  /-- ACCEPT_SEND (R240): The owner sends a coalesced ACCEPT by COALESCE after its first unreported acceptance. -/
  | acceptSend (ldi : Nat)
  /-- RETRANSMIT_TIMEOUT (R241): After RTO without progress, a D-role resends a stream's unaccepted records. -/
  | retransmitTimeout (stream : Nat)
  /-- MIRROR_RECEIVED (R245): A buddy stores a mirror update and confirms it. -/
  | mirrorReceived (update : Mirror)
  /-- MIRROR_CONFIRM (R238): A buddy's confirmation lets the owner accept under branch 2. -/
  | mirrorConfirm (key : Nat)
  /-- QUEUE_LOSS (R234): When a queue first has room after drops, a QUE_LOSS record is taken ahead of the next item. -/
  | queueLoss (q : Nat)
  /-- QUEUE_FLUSH (R235): QUE_CMD.FLUSH discards the completed items that have no SEQ. -/
  | queueFlush (m : Master)
  /-- FLUSH_DONE (R235): The last item affected is discarded, and FLUSHING clears. -/
  | flushDone (q : Nat)
  /-- PUSH_START (R236): QUE_PUSH_CMD.START reserves room for a pushed item, or drops it or waits under the FULL policy. -/
  | pushStart (m : Master) (word : Nat)
  /-- PUSH_DATA (R236): A write of QUE_PUSH_DATA appends the next word of the pushed item. -/
  | pushData (m : Master) (word : Nat)
  /-- PUSH_END (R236): QUE_PUSH_CMD.END completes the pushed item, or discards it with PUSH_BAD. -/
  | pushEnd (m : Master)
  /-- PUSH_ABORT (R236): QUE_PUSH_CMD.ABORT discards or withdraws the push. -/
  | pushAbort (m : Master)
  /-- PUSH_RESERVED (R236): A waiting push gets its room; WAITING clears and PUSH_OPEN sets. -/
  | pushReserved
  /-- PROCEDURE_RENEW (R249): The controller's Steward renews its procedure's progress every TAKEOVER/4. -/
  | procedureRenew
  /-- PROCEDURE_TAKEOVER (R249): With no renewal for TAKEOVER, the buddy or the parent takes the procedure over with a higher REPOCH. -/
  | procedureTakeover (who : Nat)
  /-- INJECTION_ARM (R250): QUE_INJ_CFG.ARM arms an injection slot. -/
  | injectionArm (m : Master) (word : Nat)
  /-- INJECTION_FIRE (R250): An armed slot injects its fault, or refuses with INJ_REFUSED. -/
  | injectionFire (slot : Nat)
  /-- REHEARSAL_DONE (R250): The injected recovery ends, and a REHEARSAL record is emitted. -/
  | rehearsalDone (slot : Nat)
  /-- JOB_DONE (R256): A job completes and its packed or original record enters the queue in order. -/
  | jobDone (engine : Nat) (checkFail : Bool)
  /-- JOB_STOP (R263): A job whose output cannot be placed stops: a trace job saves its state, and a Cocoon job fails. -/
  | jobStop (engine : Nat)
  /-- JOB_RESUME (R263): A stopped trace job resumes from CONSUMED on any free engine. -/
  | jobResume (buf : Nat)
  /-- CONTEXT_RESET (R256): SLK_RULE_CFG.RESET clears a context's counts. -/
  | contextReset (m : Master) (word : Nat)
  /-- ENGINE_FENCE_WRITE (R263): A write of SLK_ENG_FENCE fences engines and restarts their trace jobs elsewhere. -/
  | engineFenceWrite (m : Master) (word : Nat)
  /-- GROUP_CLOSE (R274): A journal group closes when full or GTIME µs after its first byte, and its data pages are programmed. -/
  | groupClose
  /-- NAND_STATUS (R274): A NAND program, erase or read completes with its pass or fail status. -/
  | nandStatus (result : NandResult)
  /-- TARGET_FAIL_TIMEOUT (R272): A target that fails every operation for 1 ms is excluded. -/
  | targetFailTimeout (ch tgt : Nat)
  /-- PATROL_READ (R271): The patrol reads a page through the ladder and marks blocks for refresh. -/
  | patrolRead (ch tgt blk page : Nat) (ladder : Ladder)
  /-- JOURNAL_RECOVERY_DONE (R275): The journal rebuild ends, STATE becomes READY and RECOVERED is raised. -/
  | journalRecoveryDone (bad : List (Nat × Nat × Nat))
  /-- COCOON_READY_TIMEOUT (R280): A Cocoon not READY within 1 s of start withholds heartbeats. -/
  | cocoonReadyTimeout
  /-- CURSOR_OLDEST (R281): The cursor moves to the oldest record and loads it. -/
  | cursorOldest (m : Master) (word : Nat)
  /-- CURSOR_NEWEST (R281): The cursor moves to the newest committed record and loads it. -/
  | cursorNewest (m : Master) (word : Nat)
  /-- CURSOR_NEXT (R282): The cursor moves to the next record that passes the filter. -/
  | cursorNext (m : Master) (word : Nat)
  /-- CURSOR_PREV (R282): The cursor moves to the previous record that passes the filter. -/
  | cursorPrev (m : Master) (word : Nat)
  /-- CURSOR_SEEK (R281): The cursor moves to the JPOS in COC_CUR_POS. -/
  | cursorSeek (m : Master) (word : Nat)
  /-- CURSOR_RELEASE (R278): The release point is set to the cursor's JPOS + 1. -/
  | cursorRelease (m : Master) (word : Nat)
  /-- CURSOR_LOAD_DONE (R281): A cursor load ends with STAT OK, END or GONE. -/
  | cursorLoadDone (c : Nat)
  /-- REL_LO_READ (R292): A read of COC_REL_LO latches COC_REL_HI. -/
  | relLoRead (m : Master)
  /-- NEW_LO_READ (R292): A read of COC_NEW_LO latches COC_NEW_HI. -/
  | newLoRead (m : Master)
  /-- CUR_POS_READ (R292): A read of COC_CUR_POS_LO latches POS_HI. -/
  | curPosRead (m : Master)
  /-- MCTR_READ (R292): A read of COC_MCTR_LO latches the counter's high word. -/
  | mctrRead (m : Master)
  /-- COUNTER_RAISE (R287): COC_MCTR_CMD.RAISE appends the value to copy A of a software counter slot. -/
  | counterRaise (m : Master)
  /-- COUNTER_RAISE_DONE (R287): Both copies pass and DONE is set. -/
  | counterRaiseDone
  /-- COCOON_CLEAR (R291): COC_OP.CLEAR starts an authorised clear under MGMT_BUSY. -/
  | cocoonClear (m : Master)
  /-- COCOON_FORMAT (R291): COC_OP.FORMAT starts a format, or is refused while records are unreleased. -/
  | cocoonFormat (m : Master) (force : Bool)
  /-- OP_DONE (R291): A clear or format ends and raises OP_DONE. -/
  | opDone
  /-- NOR_WRITE_DONE (R290): A NOR record write completes with its commit word. -/
  | norWriteDone
  /-- PF_FLUSH_DONE (R283): The FLUSHED group commits and PF_DONE is raised. -/
  | pfFlushDone
  /-- IMAGE_LOAD (R301): FIM_CMD.LOAD starts loading an image from the selected source. -/
  | imageLoad (m : Master) (word : Nat)
  /-- IMAGE_DATA (R301): A write of FIM_DATA adds the next image word. -/
  | imageData (m : Master) (word : Nat)
  /-- IMAGE_ABORT (R301): FIM_CMD.ABORT ends a load with state IDLE. -/
  | imageAbort (m : Master) (word : Nat)
  /-- LOAD_COMPLETE (R302): At the end of a load, the checks run and STATE becomes VERIFIED or FAILED. -/
  | loadComplete (dram : List Byte)
  /-- IMAGE_COMMIT (R304): FIM_CMD.COMMIT raises MGMT_BUSY and waits for the named boundary, or is refused. -/
  | imageCommit (m : Master) (word : Nat)
  /-- COMMIT_NO_BOUNDARY (R304): With no matching boundary within 30 ms, the commit ends with NOBOUNDARY. -/
  | commitNoBoundary
  /-- IMAGE_APPLY (R305): At the boundary, the new configuration applies. -/
  | imageApply
  /-- COMMIT_DONE (R304): The generation raise completes, ACTIVE swaps, and COMMITTED is raised. -/
  | commitDone
  /-- IMAGE_ROLLBACK (R307): FIM_CMD.ROLLBACK loads PREVIOUS and commits it. -/
  | imageRollback (m : Master) (word : Nat)
  /-- IMAGE_CONFIRM (R309): FIM_CMD.CONFIRM ends probation. -/
  | imageConfirm (m : Master) (word : Nat)
  /-- PROBATION_END (R309): Probation ends after BOUNDARIES boundaries. -/
  | probationEnd
  /-- SENSOR_SAMPLE (R316): The temperature and supply are sampled every 1 µs and RANGE is updated. -/
  | sensorSample (temp vdd : Nat)
  /-- SRAM_PATROL (R314): The patrol reads SRAM words and writes corrected words back. -/
  | sramPatrol (w : SramWord)
  /-- SELFTEST_DUE (R319): Every PERIOD ms, the next part in rotation becomes due. -/
  | selftestDue
  /-- SELFTEST_START (R319): A due part that becomes idle is test-fenced and its test begins. -/
  | selftestStart
  /-- SELFTEST_WAIT_EXPIRE (R319): A part not idle within WAIT µs is skipped and raises ST_SKIP. -/
  | selftestWaitExpire
  /-- SELFTEST_DONE (R319): A self-test ends with pass or fail, and TEST clears. -/
  | selftestDone (pass : Bool)
  /-- CONFIRMATION_START (R320): A queued confirmation test-fences its part and starts its repeated self-tests. -/
  | confirmationStart
  /-- PART_UNFENCE (R321): INT_PART_STAT.UNFENCE retests a faulted part, or releases a host core. -/
  | partUnfence (m : Master)
  /-- SCL_FENCE_WRITE (R318): A write of INT_SCL_FENCE takes Scales groups out of the scan or returns them. -/
  | sclFenceWrite (m : Master) (word : Nat)
  /-- SHADOW_OP (R323): A host operation digest is taken and sampled one in 2^SHIFT. -/
  | shadowOp (cls id digest : Nat)
  /-- SHADOW_REQUEST_TAKEN (R323): The host takes a recomputation request. -/
  | shadowRequestTaken
  /-- SHADOW_RESULT (R324): A recomputation result is judged against the sample. -/
  | shadowResult (tag digest : Nat)
  /-- SHADOW_TIMEOUT (R323): A result not returned within TMO ends the sample and raises SHD_LOST. -/
  | shadowTimeout (tag : Nat)
  /-- SHADOW_TARGET_MOVE (R324): After DWELL steps, SHD_TARGET moves to the next unfenced core. -/
  | shadowTargetMove
  /-- INT_LAST_READ (R326): A read of INT_LAST latches INT_LAST_INFO. -/
  | intLastRead (m : Master)
  /-- POST_RECHECK (R329): Every 1 ms, each unit posts again the conditions that still hold. -/
  | postRecheck
  /-- LOAD_WINDOW (R330): At the end of a 1 ms window, the load is recorded and the shed level may change. -/
  | loadWindow (ready : Nat)
  /-- WDOG_WARN (R330): A rank-0 duty that has not checked in for TIMEOUT/2 raises WDOG_WARN. -/
  | wdogWarn (duty : Nat)
  /-- WDOG_TIMEOUT (R330): At TIMEOUT, heartbeats stop and the watchdog reset is taken. -/
  | wdogTimeout (duty : Nat)
  /-- SYN_READ (R331): SYN_CMD READ returns a counter's value. -/
  | synRead (by_ : Agent) (idx n : Nat)
  /-- SYN_INC (R331): SYN_CMD INC adds n with saturation and OVF. -/
  | synInc (by_ : Agent) (idx n : Nat)
  /-- SYN_DEC (R331): SYN_CMD DEC subtracts n with saturation and UNF. -/
  | synDec (by_ : Agent) (idx n : Nat)
  /-- SYN_TAKE (R331): SYN_CMD TAKE subtracts n when v ≥ n, and returns NOTREADY otherwise. -/
  | synTake (by_ : Agent) (idx n : Nat)
  /-- SYN_SET (R331): SYN_CMD SET sets v = n while no thread waits. -/
  | synSet (by_ : Agent) (idx n : Nat)
  /-- SYN_CLRF (R331): SYN_CMD CLRF clears OVF and UNF. -/
  | synClrf (by_ : Agent) (idx n : Nat)
  /-- SYN_RESERVED_OP (R331): SYN_CMD with OP 6 or 7 returns DENIED. -/
  | synReservedOp (by_ : Agent) (op idx n : Nat)
  /-- IRQ_IN_EDGE (R334): A synchronised IRQ_IN level or edge updates its IRQ_EXT bit. -/
  | irqInEdge (n : Nat) (level : Bool)
  /-- IRQ_CLAIM (R335): A read of IRQ_CLAIM claims the highest eligible source and raises RP. -/
  | irqClaim (by_ : Agent) (t : Nat)
  /-- IRQ_EOI (R335): A write of IRQ_EOI pops the top source, or raises EOI_BAD. -/
  | irqEoi (by_ : Agent) (t src : Nat)
  /-- IRQ_HOLD_EXPIRE (R336): The moderation hold expires and the line goes low for waiting sources. -/
  | irqHoldExpire (t : Nat)
  /-- STORM_GUARD_END (R337): A guarded source's HOLD ends and it becomes eligible again. -/
  | stormGuardEnd (src : Nat)
  /-- EVT_LOG_RECORD (R339): An EVT_LOG record is formed when 64 entries wait, or 1 ms after the oldest. -/
  | evtLogRecord
  /-- LOG_SELECT (R339): A write of STW_LOG_SEL latches a copy of an entry into STW_LOG_DATA. -/
  | logSelect (m : Master) (seqno : Nat)
  /-- WAKE_WATCH_FIRE (R340): A watcher slot sees its condition, latches, and tells the power controller. -/
  | wakeWatchFire (slot : Nat)
  /-- WAKE_TIMER_EXPIRE (R340): PWR_WAKE_TIMER reaches 0. -/
  | wakeTimerExpire
  /-- VSB_FRAME_SEND (R342): After 12 µs of idle, a node starts a frame and arbitrates. -/
  | vsbFrameSend (frame : VsbFrame) (won acked : Bool)
  /-- VSB_READ (R343): A received VSB READ is served by hardware and answered with a RESP. -/
  | vsbRead (src off : Nat)
  /-- VSB_WRITE (R343): A received VSB WRITE is served by hardware and answered with a RESP. -/
  | vsbWrite (src off value : Nat)
  /-- VSB_RESP_RECEIVED (R343): A RESP completes an outstanding VSB request. -/
  | vsbRespReceived (src status value : Nat)
  /-- VSB_BEACON_RECEIVED (R344): A BEACON frame is taken, ending solo-listen when it comes from another node. -/
  | vsbBeaconReceived (src ploc role : Nat) (solo : Bool)
  /-- VSB_PROC_RECEIVED (R249): A PROC frame carries a procedure message to the VSB duty. -/
  | vsbProcReceived (src proc ldi step repoch : Nat)
  /-- VSB_NOACK_RETRY (R344): A unicast frame without ACK is retried with backoff, or ends in NOACK or solo-listen. -/
  | vsbNoackRetry (acked : Bool)
  /-- VSB_RESP_TIMEOUT (R343): A request with no RESP within 1 ms is sent again. -/
  | vsbRespTimeout (acked : Bool)
  /-- VSB_STUCK (R343): VSB_D held low for more than 50 µs outside a START raises VSB_STUCK. -/
  | vsbStuck
  /-- VSB_SOLO_BEACON (R344): In solo-listen, a BEACON is sent at a doubling interval. -/
  | vsbSoloBeacon
  /-- SLEEP_GO (R351): PWR_SLEEP.GO starts a sleep, or is refused. -/
  | sleepGo (m : Master) (word : Nat)
  /-- DOMAIN_ANSWER (R351): A domain answers READY and is isolated, or REFUSE, which rolls the sleep back. -/
  | domainAnswer
  /-- DOMAIN_ANSWER_TIMEOUT (R351): No answer within WAIT µs counts as REFUSE with TIMEOUT. -/
  | domainAnswerTimeout
  /-- SWITCH_ACK (R349): PWR_ACK confirms a domain's requested state, and the sequence continues. -/
  | switchAck (d : Nat)
  /-- SWITCH_ACK_TIMEOUT (R349): No acknowledgement within 100 µs sets the domain to FAULT. -/
  | switchAckTimeout (d : Nat)
  /-- SLEEP_WAKE (R354): PWR_SLEEP.WAKE wakes the domains that the sleep stopped. -/
  | sleepWake (m : Master) (word : Nat)
  /-- PF_WARN (R355): A falling PF_WARN_N raises PF_WARN and starts the power-fail actions. -/
  | pfWarn
  /-- PF_CLEAR (R355): A rising PF_WARN_N raises PF_CLEAR. -/
  | pfClear
  /-- POR_RESET (R357): A power-on reset clears every domain and the retained banks. -/
  | porReset
  /-- MAIN_RESET (R357): A fall of PWR_MAIN_OK resets domains 1–11. -/
  | mainReset
  /-- PIN_RESET (R357): RST_N low resets domains 1–11. -/
  | pinReset
  /-- SOFT_RESET (R357): RST_CMD.BLOCK with the key resets domains 1–11. -/
  | softReset (m : Master) (key : Nat)
  /-- UNIT_RESET (R361): RST_UNIT with the key resets the named domains. -/
  | unitReset (m : Master) (word : Nat)
  /-- START_SEQUENCE (R359): Once the inputs have been steady for 2 ms, the start sequence runs. -/
  | startSequence
  /-- DOMAIN_RELEASE (R350): After RST_GAP cycles, the next domain in release order is released. -/
  | domainRelease
  /-- START_GOOD (R360): GOOD seconds after an apply without reset, the start is good and FAILS clears. -/
  | startGood
  /-- START_LIMIT (R360): No image applied within LIMIT s fails the start. -/
  | startLimit
  /-- START_FAIL_RESET (R359): 1 s after a failed start, a SOFT reset is taken. -/
  | startFailReset
  /-- RET_DATA_ACCESS (R364): An access to PWR_RET_DATA reads or writes retained memory and advances the address. -/
  | retDataAccess (m : Master) (wr : Bool) (data : Nat)
  /-- UNLOCK_CHAL (R371): SEC_UNLOCK.CHAL draws a new nonce. -/
  | unlockChal (m : Master)
  /-- UNLOCK_RESPOND (R371): SEC_UNLOCK.RESPOND checks the HMAC and may grant rights. -/
  | unlockRespond (m : Master) (word : Nat)
  /-- UNLOCK_PASSWORD (R371): SEC_UNLOCK.PASSWORD checks the password digest and may grant rights. -/
  | unlockPassword (m : Master) (word : Nat)
  /-- UNLOCK_RELOCK (R373): SEC_UNLOCK.RELOCK returns the master to its baseline. -/
  | unlockRelock (m : Master)
  /-- NONCE_EXPIRE (R371): A nonce stops being live 10 s after CHAL. -/
  | nonceExpire (m : Master)
  /-- LOCKOUT_END (R372): A master's lockout time elapses. -/
  | lockoutEnd (m : Master)
  /-- KEY_REVOKE (R368): SEC_KEY_STAT.REVOKE programs a slot's REVOKED byte, or is refused. -/
  | keyRevoke (m : Master)
  /-- KEY_PGM_DONE (R389): The OTP program completes, or fails and refuses the revocation. -/
  | keyPgmDone (fail : Bool)
  /-- TEST_INSTRUCTION (R375): A test-port instruction is loaded, with private instructions needing DEBUG. -/
  | testInstruction (code : Nat)
  /-- MEMORY_RESPONSE (R385): A Memory Port response is checked against its line CRC and delivered. -/
  | memoryResponse (ch tag addr : Nat) (data : List Byte) (chk : Nat) (err : Bool) (held : SramHeld)
  /-- MEMORY_TIMEOUT (R385): A request unanswered for 100 µs is a DRAM line failure. -/
  | memoryTimeout (ch tag addr : Nat) (held : SramHeld)
  /-- SELF_REFRESH_ACK (R386): MP_SR_ACK confirms that the memory has entered or left self-refresh. -/
  | selfRefreshAck (level : Bool)
  /-- RC_FIELD_READ (R11): A read of a register holding an RC field returns the value held before its access cycle and clears the field, keeping only that cycle's update. -/
  | rcFieldRead (m : Master) (off strb upd : Nat)
  /-- SLEW_ABSORBED (R59): A slew in progress has absorbed its θ and time returns to the rate set by ANT_RATE. -/
  | slewAbsorbed
  /-- HEARTBEAT_WITHHOLD_END (R285): After a start following a loss of power, once 2 × max(P, 200 µs) has passed without the buddy's heartbeats showing it as acting home, the aggregator stops withholding heartbeats and rejoins. -/
  | heartbeatWithholdEnd
  /-- GUARD_COUNT_CLEAR (R337): When a guard's HOLD has ended and a further WIN passes without a new guard, the source's consecutive-guard count and GCOUNT are cleared. -/
  | guardCountClear (src : Nat)
  /-- VSB_FRAME_CRC_FAIL (R342): A received VSB frame that fails its CRC gets no ACK, is counted in STW_VSB_STAT.CRC and raises VSB_CRC. -/
  | vsbFrameCrcFail
  deriving DecidableEq, Repr

end Sys2Proof
end

