-- ==== Sys2Proof/Decode.lean ====
section
/-! DEFINITION. The commands that a word spells. No row of spec/opcode_table.json gives bits: commands are accesses, messages, pin events and
completions, and none has an encoding of its own. -/

namespace Sys2Proof

/-- The command that a word of the opcode table spells: none, as no row gives bits. -/
def decodeTableWord (_nbits _w : Nat) : Option Instr := none

end Sys2Proof
end

