-- ==== Sys2Proof/Machine/Bits.lean ====
section
/-! DEFINITION. Bit fields, byte orders, saturation and packing, as the chapters use them. -/

namespace Sys2Proof.Machine

/-- Bits [lo + w - 1 : lo] of a number. -/
def bits (x lo w : Nat) : Nat := x / 2 ^ lo % 2 ^ w

/-- Bit i of a number. -/
def bit (x i : Nat) : Nat := x / 2 ^ i % 2

/-- Set bit i of a number to v (0 or 1). -/
def setBit (x i v : Nat) : Nat := x - bit x i * 2 ^ i + v % 2 * 2 ^ i

/-- The largest value of w bits. -/
def maxOf (w : Nat) : Nat := 2 ^ w - 1

/-- Saturate at w bits. -/
def sat (w x : Nat) : Nat := min x (maxOf w)

/-- A field where 0 acts as 1 (said of many timer fields). -/
def atLeast1 (x : Nat) : Nat := if x = 0 then 1 else x

/-- The n little-endian bytes of a number (R112, R227). -/
def leBytes (n x : Nat) : List Byte :=
  match n with
  | 0 => []
  | n + 1 => BitVec.ofNat 8 x :: leBytes n (x / 256)

/-- The number that little-endian bytes spell. -/
def ofLe (bs : List Byte) : Nat :=
  match bs with
  | [] => 0
  | b :: t => b.toNat + 256 * ofLe t

/-- The number that big-endian bytes spell. -/
def ofBe (bs : List Byte) : Nat := bs.foldl (fun a b => 256 * a + b.toNat) 0

/-- The n big-endian bytes of a number. -/
def beBytes (n x : Nat) : List Byte := (leBytes n x).reverse

/-- Bytes [i, i + n) of a list, zero where the list ends. -/
def slice (bs : List Byte) (i n : Nat) : List Byte :=
  let t := (bs.drop i).take n
  t ++ List.replicate (n - t.length) 0

/-- The little-endian number in bytes [i, i + n). -/
def leAt (bs : List Byte) (i n : Nat) : Nat := ofLe ((bs.drop i).take n)

/-- Items packed from bit 0 upward, each (value, width), with no gaps (R339). -/
def packItems (items : List (Nat × Nat)) : Nat :=
  match items with
  | [] => 0
  | (v, w) :: t => v % 2 ^ w + 2 ^ w * packItems t

/-- Bit j of the byte, reflected CRC step (polynomial 0x1EDC_6F41 reflected is 0x82F6_3B78). -/
def crcBit (c : Nat) : Nat := if c % 2 = 1 then (c / 2) ^^^ 0x82F63B78 else c / 2

/-- One byte of the CRC-32C (R227). -/
def crcByte (c : Nat) (b : Byte) : Nat :=
  crcBit (crcBit (crcBit (crcBit (crcBit (crcBit (crcBit (crcBit (c ^^^ b.toNat))))))))

/-- CRC-32C: reflected, initial value and final XOR 0xFFFF_FFFF (R227). -/
def crc32c (bs : List Byte) : Nat := bs.foldl crcByte 0xFFFFFFFF ^^^ 0xFFFFFFFF

/-- Insert by key, rising, after equal keys. -/
def insertBy {α : Type} (key : α → Nat) (x : α) (l : List α) : List α :=
  match l with
  | [] => [x]
  | y :: t => if key x < key y then x :: y :: t else y :: insertBy key x t

/-- Sort by key, rising, equal keys in the order given. -/
def sortBy {α : Type} (key : α → Nat) (l : List α) : List α := l.foldl (fun a x => insertBy key x a) []

/-- Round a quotient to the nearest, ties to even. -/
def roundHalfEven (n d : Nat) : Nat :=
  let q := n / d
  let r := n % d
  if 2 * r < d then q else if 2 * r > d then q + 1 else if q % 2 = 0 then q else q + 1

/-- Replace element i of a list. -/
def setAt {α : Type} (l : List α) (i : Nat) (x : α) : List α :=
  match l, i with
  | [], _ => []
  | _ :: t, 0 => x :: t
  | y :: t, i + 1 => y :: setAt t i x

/-- The signed value of a field of w bits. -/
def signed (w x : Nat) : Int := if x % 2 ^ w < 2 ^ (w - 1) then ((x % 2 ^ w : Nat) : Int) else ((x % 2 ^ w : Nat) : Int) - ((2 ^ w : Nat) : Int)

/-- A signed value as a field of w bits, saturating (ANT_OFFSET). -/
def satSigned (w : Nat) (x : Int) : Nat :=
  let hi : Int := ((2 ^ (w - 1) : Nat) : Int) - 1
  let y := max (-hi - 1) (min hi x)
  (if y < 0 then y + ((2 ^ w : Nat) : Int) else y).toNat

end Sys2Proof.Machine
end

