-- ==== Sys2Proof/Config.lean ====
section
/-! DEFINITION. Values that the spec leaves open, as constants with no body: no proof can see what they are. -/

namespace Sys2Proof

/-- The stream of free values: the n-th value that the spec leaves open in a run (log entry 4). Each use takes the
value at State's counter and moves the counter on, and reduces it to the width it needs. -/
opaque Config.free : Nat → Nat

/-- The bytes of a contribution on the link, by their place: the spec gives them no order (log entry 11). -/
opaque Config.unitByte : Machine.Contrib → Nat → Byte

/-- How many category sets a Hawkmoth model section holds: its layout (R159) does not say (log entry 23). -/
opaque Config.categorySets : List Byte → Nat

/-- What an image's TOPOLOGY and GROUPS bodies say of the place of the block with a PLOC: the bodies have no byte layout in the spec (log
entry 12). -/
opaque Config.topology : List Byte → List Byte → Nat → Machine.Topo

/-- The words of the block's part of the retained memory, by its content and the address: the spec says what the part holds (R299, R300, R364)
and gives no layout (log entry 87). -/
opaque Config.retOwn : List Byte → Nat → Nat

/-- The VSB address of an aggregator's node, by its LAI: no rule says how a Steward knows it (R249, log entry 71). -/
opaque Config.vsbNode : Nat → Nat

/-- The cause byte of the TRIG packet that ARM writes, by buffer and tick: Table 4-3 names none for it (log entry 34). -/
opaque Config.armCause : Nat → Nat → Byte

/-- What a conversion to or from P64 leaves, by formats and element: none exists (Table 5-2, log entry 142). -/
opaque Config.noConversion : Nat → Nat → Nat → Nat

/-- KEY_BASE of a MERGE collective, by the image and the STREAM of its results: R130 sets it in the image, and no field of it does (log entry
48). -/
opaque Config.mergeKey : List Byte → Nat → Nat

/-- The payload of an EN_CKPT record: the spec gives it no layout (R199, log entry 144). -/
opaque Config.ckptBytes : Machine.Interval → List Byte

/-- The payload of a PROC frame on VSB, by procedure, LDI, step and REPOCH (R249): the spec gives it no layout (log entry 71). -/
opaque Config.procBytes : Nat → Nat → Nat → Nat → List Byte

/-- Which thing the block's part of the retained memory holds at an address: 0 the list of R299 or the digest of ACTIVE, 1 the digest of
PREVIOUS, else nothing (log entry 87). -/
opaque Config.retPart : Nat → Nat

end Sys2Proof
end

