-- ==== Sys2Proof/Machine/State.lean ====
section
/-! DEFINITION. The state of the block: every register field, queue, buffer, counter, mode and pin the spec gives it, as
plain data, the queue of waiting commands, and the state after reset. The default of each field is its value after a
power-on reset. -/

namespace Sys2Proof.Machine

/-- Register access codes (R10, Table 0-6). -/
inductive Acc where
  | ro | rw | wo | w1c | rc | rwl
  deriving DecidableEq, Repr

/-- The builds in which a register exists (R391). -/
inductive InBuild where
  | both | d | agg
  deriving DecidableEq, Repr

/-- One field of a register: its lowest bit, its width, its access code, its reset value. -/
structure RField where
  lo : Nat
  w : Nat
  acc : Acc
  rst : Nat
  deriving DecidableEq, Repr

/-- One row of the register map: offset, how many copies stand side by side and how far apart, the offset of the
selector register that names a hidden copy (0: none), the builds that have it, its fields. -/
structure RegSpec where
  off : Nat
  count : Nat
  stride : Nat
  sel : Nat
  inb : InBuild
  fields : List RField
  deriving DecidableEq, Repr

/-- A field by its place: the register's offset (a hidden copy adds 2^18 times its selector value), the field's lowest
bit, its width and its reset value. -/
structure Fld where
  off : Nat
  lo : Nat
  w : Nat
  rst : Nat
  deriving DecidableEq, Repr

/-- What the integrator fixes for an instance: build, clock, tie-offs and straps (R17, R341, R378, R393). No command
changes it. -/
structure Synth where
  agg : Bool := false
  coreMHz : Nat := 1250
  hostUnits : Nat := 1
  klPresent : Nat := 0xFF
  norMiB : Nat := 0
  norSfdp : Bool := true
  mpSize : Nat := 0
  nvmPresent : Nat := 0
  jtagMfr : Nat := 0
  rolePins : Nat := 0
  vsbPins : Nat := 1
  deriving DecidableEq, Repr

/-- The model's counters: CLK_CORE cycles, CLK_AON cycles, and the part of the next CLK_AON cycle already passed, in
units of 1/coreMHz of a cycle (R377). -/
structure Clk where
  core : Nat := 0
  aon : Nat := 0
  sub : Nat := 0
  deriving DecidableEq, Repr

/-- The answer of a port to the last access of a master: response code (R381) and read data. -/
structure Resp where
  code : Nat := 0
  data : Nat := 0
  deriving DecidableEq, Repr

/-- Output pins (the port tables of the chapters): PHR_WB and PHR_WB_IDX (Table 2-1), the Shadow port (Table 14-8),
PRB_MSG_READY, MP_SR_REQ. -/
structure Pins where
  phrWb : Bool := false
  phrWbIdx : Nat := 0
  shdReq : Option (Nat × Nat × Nat) := none
  shdFence : Option (Nat × Bool) := none
  shdReplay : Option Nat := none
  mpSrReq : Bool := false
  mpSrAck : Bool := false
  deriving DecidableEq, Repr

/-- The operation that holds MGMT_BUSY (R14). -/
inductive BusyOp where
  | commit | expand | clear | format
  deriving DecidableEq, Repr

/-- A binding (R27, R32, R36): where the die is, its epoch, the port and time at which it was learned, when it was last heard; whether the buddy
has learned it since (R135). -/
structure Bind where
  ploc : Nat := 0
  epoch : Nat := 0
  port : Option Nat := none
  learned : Nat := 0
  heard : Nat := 0
  alive : Bool := true
  away : Bool := false
  deriving DecidableEq, Repr

/-- A rebind in progress (R33): LDI, new epoch, the spare's PLOC, steps marked, the CLK_CORE cycle of the last BIND. -/
structure Rebind where
  ldi : Nat
  epoch : Nat
  ploc : Nat
  step : Nat := 1
  port : Nat := 0
  deriving DecidableEq, Repr

/-- Roles and the fabric (R17 to R41): the image's topology; the binding table, the routes and the epoch announced with each, the port on which each aggregator was heard; the port on which the last record of each LDI came; the D-role's path (B or A), when
its home's heartbeats began to come without a gap and last came on link A; aggregators declared lost (parent, buddy),
when they were last heard, whether this block sends on U1 or moves to it at the next boundary; the CLK_CORE cycles of
the last 16 boundaries, newest first; the wingbeats whose first mark came (newest first, 4,096 kept); heartbeats stopped by the watchdog or withheld; rebinds, unbinds; the job
set-up and the digest it was built under, and the digest of the running image; whether the buddy has taken the home role over (`displaced`), whether its mirror was complete when it was last
heard, whether Cocoon keeps the heartbeats back (R280); unbinds as (LDI, EPOCH, port); units that joined the spare pool after UNBIND_ACK
(PLOC, port) and units replaced that have not answered it yet (LDI, EPOCH, PLOC) (R35); whether a job start waits for a rebind (R38);
DUP_LDI findings after the one recorded (R36); whether a D-role was told to unbind and has no new binding (R247). -/
structure Fab where
  topo : Topo := {}
  binds : SMap Bind := []
  routes : SMap Nat := []
  routeEpochs : SMap Nat := []
  nbr : SMap Nat := []
  via : SMap Nat := []
  pathB : Bool := false
  hbFrom : Option Nat := none
  hbLast : Option Nat := none
  parentLast : Nat := 0
  buddyLast : Nat := 0
  parentLost : Bool := false
  buddyLost : Bool := false
  rejoining : Bool := false
  displaced : Bool := false
  buddySynced : Bool := false
  cocSilent : Bool := false
  onU1 : Bool := false
  toU1 : Bool := false
  takeOver : Bool := false
  actingRoot : Bool := false
  boundaries : List Nat := []
  marks : List (Nat × Nat) := []
  hbSent : Nat := 0
  hbStopped : Bool := false
  withheld : Option Nat := none
  rebinds : List Rebind := []
  unbinds : List (Nat × Nat × Nat) := []
  pendingMembers : List Nat := []
  setupDigest : Nat := 0
  topoDigest : Nat := 0
  verifyFrom : Option Nat := none
  powerLost : Bool := false
  latency : List Nat := [0, 0]
  pool : List (Nat × Nat) := []
  gone : List (Nat × Nat × Nat) := []
  jobWaits : Bool := false
  dups : Nat := 0
  released : Bool := false
  deriving DecidableEq, Repr

/-- A fire request of the Antenna (R49, R50, Table 2-4): step, position, index, cause (Table 2-5), capture actions (FREEZE, MON,
SCL, SWM from bit 0), whether the entry sends a beacon, the source's WALL of a BEACON, and the CLK_CORE cycle in which it
fires uncontended (Table 2-3). -/
structure FireReq where
  step : Nat
  pos : Nat
  idx : Nat
  cause : Nat
  acts : Nat
  bcn : Bool := false
  srcWall : Nat := 0
  due : Nat
  deriving DecidableEq, Repr

/-- An armed launch slot (R65): kind (1 phase, 2 time), queue, trigger, whether its fire will be late. -/
structure Launch where
  kind : Nat
  queue : Nat
  trig : Nat
  late : Bool := false
  deriving DecidableEq, Repr

/-- The Antenna (R42 to R68). `fine` is internal time in units of 2^-40 s divided by coreMHz * 10^9; step, frac, clamped are
the phase; `sampled` that the port inputs were sampled since ANTENNA came ON or PHSRC became 0b00; the fire queue and the
CLK_CORE cycle of the last fire; what remains of a slew, in units of `fine`; the exchanges kept (twice the delay, in UI,
newest first), the exchange under way (SEQ, t1), SEQ of the last one; CLK_CORE cycles of the last SYNC received, SYNC sent,
exchange started and asymmetry measured (by port index); the CLK_AON cycles at which the step and the beacon time-outs
began to count, and whether they were raised since; internal time in µs up to which time wingbeats were judged; the
low-20-bit period of seconds last marked; armed launch slots; whether the next cycle takes the last of a slew (R59); the descriptor handed to
the capture units at the last fire (Table 2-4). -/
structure Ant where
  fine : Nat := 0
  step : Nat := 0
  frac : Nat := 0
  clamped : Bool := false
  sampled : Bool := false
  fireQ : List FireReq := []
  lastFire : Option Nat := none
  slew : Int := 0
  exch : List Int := []
  exOut : Option (Nat × Nat) := none
  exSeq : Nat := 0
  syncAt : Nat := 0
  sentAt : Nat := 0
  reqAt : Nat := 0
  asymAt : List Nat := [0, 0, 0, 0]
  stepFrom : Nat := 0
  stepHit : Bool := false
  bcnFrom : Nat := 0
  bcnHit : Bool := false
  twbFrom : Nat := 0
  epochMark : Nat := 0
  launches : SMap Launch := []
  slewEnd : Bool := false
  desc : Option FireReq := none
  deriving DecidableEq, Repr

/-- A drain of a snapshot buffer (R76): the buffer (0 A, 1 B), the CLK_CORE cycle at which it starts, cycles per record, the
records it forms, how many of them went to their queue, and the number of the one that a flush found being written (R235). -/
structure Drain where
  buf : Nat
  start : Nat
  per : Nat
  recs : List Rec
  given : Nat := 0
  doomed : Option Nat := none
  deriving DecidableEq, Repr

/-- A monitor (R83): minimum, maximum, count, the bins that are not 0. -/
structure Monitor where
  min : Int := 0
  max : Int := 0
  count : Nat := 0
  bins : SMap Nat := []
  deriving DecidableEq, Repr

/-- A lane's run of equal non-zero increments (R82): the increment and the cycles. -/
structure LaneRun where
  inc : Nat := 0
  run : Nat := 0
  deriving DecidableEq, Repr

/-- The Probe Bus, counters and monitors (R69 to R84): counters that are not 0; their values at the last snapshot taken and its
cycle; whether none was taken since the domain came up; banks and counters written since; lanes fenced, and lanes that
presented an increment, since; staged register values; counter and monitor drains; monitors, the cycle of their last
capture; the message queue (message, the cycle from which it may be applied) and the last two cycles of application;
stalled cycles below 1,024; lanes whose level was 1 in the last cycle; runs; edges in the present window of 64 cycles and
that window's number; the Probe Bus cycles so far, and whether lanes were presented in the present one. -/
structure Prb where
  cnt : SMap Nat := []
  prev : SMap Nat := []
  snapAt : Option Nat := none
  fresh : Bool := true
  written : Nat := 0
  wrote : List Nat := []
  fenced : List Nat := []
  active : List Nat := []
  stLo : Nat := 0
  stX0 : Nat := 0
  stX1 : Nat := 0
  drains : List Drain := []
  mons : SMap Monitor := []
  monAt : Option Nat := none
  mdrains : List Drain := []
  msgs : List (Nat × Nat) := []
  applied : List Nat := []
  stall : Nat := 0
  high : List Nat := []
  runs : SMap LaneRun := []
  edges : SMap Nat := []
  window : Nat := 0
  cyc : Nat := 0
  fed : Bool := false
  deriving DecidableEq, Repr

/-- A Scales channel (R85): latest code, CLK_AON cycle of its conversion, whether that was flagged GLITCH, and the code of the
last conversion of any kind (R89). -/
structure SclCh where
  code : Nat := 0
  at_ : Option Nat := none
  glitch : Bool := false
  lastCode : Option Nat := none
  deriving DecidableEq, Repr

/-- The result of a wire test (Table 3-7): the content of SCL_FAULT[g]. -/
structure WireResult where
  opens : Nat := 0
  shorts : Nat := 0
  ret : Bool := false
  ambig : Bool := false
  deriving DecidableEq, Repr

/-- A wire test in progress (R87): group, step (1 bias on, 2 bias off again), the CLK_AON cycle at which the step began, codes
without and with bias, whether it will be discarded. -/
structure Wire where
  group : Nat
  step : Nat := 1
  since : Nat
  off : List Nat
  on : List Nat := []
  abort : Bool := false
  deriving DecidableEq, Repr

/-- Scales (R85 to R89): channels, the next scan slot, the CLK_AON cycle of the last conversion, SCL_TRANSIENT and when it
fell, the wire test, the CLK_AON cycle of the last test, the group next to be tested, its candidate result, the CLK_CORE
cycle of the last SCL_READ fire. -/
structure Scl where
  ch : SMap SclCh := []
  slot : Nat := 0
  last : Option Nat := none
  transient : Bool := false
  fellAt : Option Nat := none
  wire : Option Wire := none
  wireAt : Nat := 0
  group : Nat := 0
  cand : Option WireResult := none
  readAt : Option Nat := none
  deriving DecidableEq, Repr

/-- A trace buffer and its trigger machine (R94 to R105; STATE stands in the register field): the 256 KiB store, drain and
write offsets, packets held (bytes, the cycle of TRACE), those in a record on its way, how many of those a RING has discarded since, bytes
drained so far; the tick of entry to POST and of the last TS, counted without end, the state that POST ends in once its count has expired, whether a TS is due, TRIG packets due (state, cause), drops since the last DROP,
contexts last written by partition, a STOP or DUMP asked for; wingbeat indices fired, and whether the context entered or
left the match, since the last tick. -/
structure TrcBuf where
  mem : SMap Byte := []
  rd : Nat := 0
  wr : Nat := 0
  pkts : List (Nat × Nat) := []
  taken : Nat := 0
  passed : Nat := 0
  total : Nat := 0
  entered : Nat := 0
  ended : Option Nat := none
  lastTs : Nat := 0
  needTs : Bool := false
  trigs : List (Nat × Nat) := []
  drops : List Nat := [0, 0, 0, 0]
  written : SMap (Nat × Nat) := []
  stop : Bool := false
  dump : Bool := false
  fired : List Nat := []
  ctxIn : Bool := false
  ctxOut : Bool := false
  deriving DecidableEq, Repr

/-- The hang ring of a host unit (R107, R108): entries (code, DT) by index, NEXT, WRAPPED, events since the clear, WALL of the
newest, the counter B at it. -/
structure HangUnit where
  ents : SMap (Nat × Nat) := []
  next : Nat := 0
  wrapped : Bool := false
  count : Nat := 0
  wall : Nat := 0
  lastB : Option Nat := none
  deriving DecidableEq, Repr

/-- The trace unit and the hang rings (R91 to R111): buffers, current contexts by partition; CLK_CORE cycles while TRACE is ON, by which
the unit runs (its state holds in retention); ticks so far, the cycle of the next tick, a TRC_TRIG edge since the last tick; last PC of
each lane, and the lanes with the buffer in which they need no resynchronisation; hang rings by unit, WALL at the freeze, discarded events below 256. -/
structure Trc where
  bufs : SMap TrcBuf := []
  ctx : SMap (Nat × Nat) := []
  cyc : Nat := 0
  ticks : Nat := 0
  nextAt : Nat := 0
  trig : Bool := false
  lastPc : SMap Nat := []
  synced : List (Nat × Nat) := []
  units : SMap HangUnit := []
  freezeWall : Nat := 0
  discard : Nat := 0
  deriving DecidableEq, Repr

/-- A program (R138): FILTER mask, LATENESS, the opcode of its reduction, that instruction's format and KEY_BASE. -/
structure Prog where
  filter : Nat := 0
  lateness : Bool := false
  op : Nat := 0
  fmt : Nat := 0
  key : Int := 0
  deriving DecidableEq, Repr

/-- A collective's definition (Table 6-1), as the registers hold it. -/
structure Coll where
  num : Nat
  fin : Nat
  fout : Nat
  idx : Nat
  sw : Bool
  run : Bool
  group : Nat
  elems : Nat
  maxmiss : Nat
  deadline : Nat
  prog : Prog
  queue : Nat
  stream : Nat
  src : Nat
  base : Nat
  mfield : Nat
  deriving DecidableEq, Repr

/-- What a report says of the moment of its detection (R315): PHASE, WALL, TEMP, VDD, and whether the sensor is out of its range. -/
structure Seen where
  phase : Nat
  wall : Nat
  temp : Nat
  vdd : Nat
  out : Bool
  deriving DecidableEq, Repr

/-- What a residue mismatch names (R125): lane, opcode, format, expected and observed residue, the moment of its detection. -/
structure Mismatch where
  lane : Nat
  op : Nat
  fmt : Nat
  exp : Nat
  obs : Nat
  seen : Seen
  deriving DecidableEq, Repr

/-- A transaction-table entry (Table 6-7): tag, W, the collectives of its batch as defined when it opened, `state` 0 OPEN, 1
REDUCING, 2 FORWARDED; the expected set (LDIs at a T-role, child LAIs at an S-role), those of it heard from, retained inputs, missing members, the error,
contributions not merged (R130), the mismatch of a first run, children asked to send again, whether staging ran out, the partial sent; whether it only
stands for the END of a tag that the root had no entry for (R149). -/
structure Txn where
  tag : Nat
  w : Nat
  colls : List Coll
  state : Nat := 0
  expect : List Nat
  heard : List Nat := []
  contribs : List Contrib := []
  partials : List Partial := []
  missing : Nat := 0
  list : List Nat := []
  err : Nat := 0
  unmerged : Nat := 0
  first : Option Mismatch := none
  resent : List Nat := []
  full : Bool := false
  sent : Option Partial := none
  ghost : Bool := false
  deriving DecidableEq, Repr

/-- A transaction that a D-role contributed to and that has not ended: tag, W, DEADLINE in units of 10 ns. -/
structure OpenTag where
  tag : Nat
  w : Nat
  deadline : Nat
  deriving DecidableEq, Repr

/-- Swarm (R132 to R156): entries, oldest first; tags freed or ended, newest first; tags refused for want of an entry; running
accumulators by collective; the root's launch count; a D-role's transactions; the latest ended one (tag, code); the ASTAT that inserting into
sketches last left here (R129). -/
structure Swm where
  txns : List Txn := []
  freed : List Nat := []
  refused : List Nat := []
  running : SMap (List ExAcc) := []
  launches : Nat := 0
  mine : List OpenTag := []
  lastEnd : Nat × Nat := (0, 0)
  insAstat : Nat := 0
  deriving DecidableEq, Repr

/-- An expanded node (R165): threshold key, or category set as a 256-bit number; FEATURE; KIND categorical; DEFAULT right; LO, HI. -/
structure TNode where
  thresh : Nat
  feature : Nat
  cat : Bool := false
  dflt : Bool := false
  lo : Nat
  hi : Nat
  deriving DecidableEq, Repr

/-- An expanded tree: the output it adds to, nodes, leaf values (F32 patterns) in position order. -/
structure Tree where
  out : Nat
  nodes : List TNode
  leaves : List Nat
  deriving DecidableEq, Repr

/-- An ensemble: the F32 BASE of each output, the trees. -/
structure Ens where
  base : List Nat := [0]
  trees : List Tree := []
  deriving DecidableEq, Repr

/-- An expanded model: FEATFMT, ensembles. -/
structure Model where
  featfmt : List Nat
  ens : List Ens
  deriving DecidableEq, Repr

/-- A feature of a row (R170, R173): key, valid bit, whether it is valid for one pass only. -/
structure Feat where
  key : Nat := 0
  valid : Bool := false
  perWb : Bool := false
  deriving DecidableEq, Repr

/-- A row of the feature table (R170): features by number, PHASE stamp. -/
structure Row where
  feats : SMap Feat := []
  stamp : Nat := 0
  deriving DecidableEq, Repr

/-- A pass request (R175): ensemble, PHASE and WALL its records carry. -/
structure PassReq where
  ens : Nat
  phase : Nat
  wall : Nat
  deriving DecidableEq, Repr

/-- An entry of a pass (Table 7-8): entity, ERROR, NOROW, the F32 scores with their ASTAT. -/
structure Score where
  entity : Nat
  error : Bool := false
  norow : Bool := false
  outs : List (Nat × Nat) := []
  deriving DecidableEq, Repr

/-- A running pass: its request, the rows of the batch in progress and of the next one (entity, copy), the next offset to copy, the
entries formed, whether no tile was left, the tiles that the trees were dealt to at the start of the batch (R177). -/
structure Pass where
  req : PassReq
  batch : List (Nat × Row) := []
  ahead : List (Nat × Row) := []
  next : Nat := 0
  done : List Score := []
  failed : Bool := false
  tiles : List Nat := []
  deriving DecidableEq, Repr

/-- Hawkmoth (R157 to R182): active and staged model, a model that waits to be copied into the model store and whether the copy
has begun, the section being expanded; delayed triggers (ensemble, CLK_CORE cycle, PHASE), the pass queue, the pass; the feature
table, the cached entities (latest used first), trees being copied again after an SRAM error; the D build's local row, local pass
(PHASE, WALL, row) with the model it began on (R166), and passes left in a FEATROW hold; whether the pass that runs lost its last tile (R178). -/
structure Hwk where
  active : Option Model := none
  staged : Option Model := none
  swap : Option Model := none
  copying : Bool := false
  expanding : Option (List Byte) := none
  triggers : List (Nat × Nat × Nat) := []
  queue : List PassReq := []
  pass : Option Pass := none
  rows : SMap Row := []
  cached : List Nat := []
  badTrees : List Nat := []
  local_ : Row := {}
  lpass : Option (Nat × Nat × Row) := none
  lmodel : Option Model := none
  lost : Bool := false
  hold : Nat := 0
  deriving DecidableEq, Repr

/-- A verdict round that is open (R184): its wingbeat, W, whether the straggler collective is decided, TRAY_SUMs taken (LAI, M_T,
n), the ensembles whose root pass is in, entries, NOPEER. -/
structure Round where
  step : Nat
  idx : Nat
  w : Nat
  decided : Bool := false
  sums : List (Nat × Option Nat × Nat) := []
  passes : List Nat := []
  entries : List VEntry := []
  nopeer : Bool := false
  deriving DecidableEq, Repr

/-- A round whose main record is out (R185): wingbeat, the CLK_CORE cycle of that record, F and whether it was formed, the LAIs whose TRAY_SUM
was taken, late TRAY_SUMs, late entries, NOPEER, whether its supplement is out. -/
structure Closed where
  step : Nat
  idx : Nat
  at_ : Nat
  fleet : Nat := 0
  formed : Bool := false
  lais : List Nat := []
  trays : Nat := 0
  entries : List VEntry := []
  nopeer : Bool := false
  any : Bool := false
  gone : Bool := false
  deriving DecidableEq, Repr

/-- A confirmation count (R188, R191): c, asserted, rounds missing in a row. -/
structure Confirm where
  c : Nat := 0
  asserted : Bool := false
  silent : Nat := 0
  deriving DecidableEq, Repr

/-- A drift channel (R193, R194): window of F32 patterns, oldest first; S1 and St as multiples of 2^-149; samples since the last
evaluation, none before the first; the CLK_CORE cycle of the last sample. -/
structure Drift where
  win : List Nat := []
  s1 : Int := 0
  st : Int := 0
  since : Option Nat := none
  last : Option Nat := none
  deriving DecidableEq, Repr

/-- A content of a tariff entry (R201): AT, PRICE, VALID, and the first interval it may price. -/
structure Tariff where
  at_ : Nat := 0
  price : Nat := 0
  valid : Bool := false
  since : Nat := 0
  deriving DecidableEq, Repr

/-- The Verdict unit (R183 to R205): open rounds, rounds with their main record out (newest first), entries for the next round;
counts of dies, trays (by LAI), rules (rule * 65536 + entity); a T-role's last straggler transactions (tag, M_T, entries it
emitted under BOUND); drift channels; open intervals, the next interval to close, intervals closed (newest first), checkpoints read from
the journal at start and not closed yet; tariff entries, latest content first, and those marked applied; entries of wingbeats whose round is
not open (step, index, entry); whether a new acting root awaits its first boundary, and that boundary's phase (R186); a T-role's late
contributions to straggler transactions not judged yet, its straggler transactions that wait for an earlier one (R188); drift channels whose
next sample fails its check (R193); TRAY_SUM messages taken lately, newest first; reports whose finding was formed before their turn
(LDI, EPOCH, STREAM, SEQ). -/
structure Vrd where
  rounds : List Round := []
  closed : List Closed := []
  waiting : List VEntry := []
  dies : SMap Confirm := []
  trays : SMap Confirm := []
  rules : SMap Confirm := []
  judged : List (Nat × Nat × List VEntry) := []
  drift : SMap Drift := []
  ivs : List Interval := []
  nextK : Option Nat := none
  shut : List Nat := []
  ckpt : List Interval := []
  tariffs : SMap (List Tariff) := []
  applied : List Nat := []
  early : List (Nat × Nat × VEntry) := []
  rootWait : Bool := false
  rootFrom : Option Nat := none
  lates : List Contrib := []
  defer : List Txn := []
  driftBad : List Nat := []
  driftFailed : List Nat := []
  taken : List TraySum := []
  found : List (Nat × Nat × Nat × Nat) := []
  deriving DecidableEq, Repr

/-- A link-control flit put on a port (R211, Table 9-4). -/
inductive Lc where
  | ack (acks frees : List Nat)
  | nak (mask : Nat) (acks frees : List Nat)
  | pause (mask time : Nat)
  | neg (ver feat : Nat) (credits : List Nat) (lanes : Nat)
  | negAck (ver feat : Nat) (credits : List Nat) (width : Nat)
  | down
  deriving DecidableEq, Repr

/-- A frame sent and kept for replay (R209, R217): SEQ, FTYPE, the ACK it carried when it was launched, class, SOR, EOR, RPL, whether it was
stomped (R213), context, payload length, content. -/
structure Frame where
  seq : Nat
  ftype : Nat := 1
  ack : Nat := 0
  stomp : Bool := false
  cls : Nat := 0
  sor : Bool := true
  eor : Bool := true
  rpl : Bool := false
  ctx : Nat := 0
  lenb : Nat := 0
  content : Content
  deriving DecidableEq, Repr

/-- One virtual channel of a port, both directions (R217, R218): next and base SEQ and the replay buffer; expected SEQ and
whether a NAK was sent; replays of one base; the CLK_CORE cycle at which base last moved; flits sent and the
partner's count of flits freed; its declared credits; flits freed here; since when a delivery waits to be
acknowledged; units in progress by context (class, bytes so far); frames of a replay still to be sent; frames that wait to be launched;
whether the frame launched last was stomped and its SEQ waits for the whole frame (R213). -/
structure Chan where
  next : Nat := 0
  base : Nat := 0
  held : List Frame := []
  expect : Nat := 0
  nakSent : Bool := false
  replays : Nat := 0
  baseAt : Nat := 0
  sent : Nat := 0
  freedBy : Nat := 0
  credit : Nat := 0
  freed : Nat := 0
  ackDue : Option Nat := none
  rx : SMap (Nat × List Byte) := []
  again : List Frame := []
  stalled : List Frame := []
  stomp : Bool := false
  deriving DecidableEq, Repr

/-- A KL port (R206 to R220). `state` is 0 DOWN, 1 TRAINING, 2 ACTIVE, 3 RETRAIN. `excl` masks the excluded lanes, `since` is the
CLK_CORE cycle of the present attempt, `swDown` that software took the port down, `negFail` that the attempt failed
negotiation, `agreed` that a NEG_ACK agreed; `pauses` are the ends of the class pause timers; `laneErrs` the times of
lane errors; `wire` the CLK_CORE cycles at which the frames that BULK, EXPRESS and CONTROL started last have left (R207, R208);
`declared` that the port was declared down and has not come up since (R56, R215). -/
structure Port where
  state : Nat := 0
  width : Nat := 0
  ver : Nat := 0
  feat : Nat := 0
  excl : Nat := 0
  since : Nat := 0
  swDown : Bool := false
  declared : Bool := false
  negFail : Bool := false
  offered : Bool := false
  agreed : Bool := false
  negSent : Option Nat := none
  lastFlit : Nat := 0
  laneErrs : List (Nat × Nat) := []
  pauses : List Nat := [0, 0, 0, 0, 0, 0, 0, 0]
  pausing : List (Option Nat) := [none, none, none, none, none, none, none, none]
  bulk : Chan := {}
  express : Chan := {}
  control : Chan := {}
  ctxUsed : List Nat := []
  fwd : List Frame := []
  fwdCtx : SMap Nat := []
  wire : List Nat := [0, 0, 0]
  deriving DecidableEq, Repr

/-- A unit the links delivered and no unit has taken yet: port, channel, class, bytes (R210, R220). -/
structure Staged where
  port : Nat
  vc : Nat
  cls : Nat
  bytes : List Byte
  deriving DecidableEq, Repr

/-- The Links unit: ports, delivered units, and link-control flits put on each port (newest first, 64 kept). -/
structure Links where
  ports : SMap Port := []
  delivered : List Staged := []
  lc : List (Nat × Lc) := []
  deriving DecidableEq, Repr

/-- A queue as Monarch sees it on a port (R222): its tag and the last tag served. -/
structure MonQ where
  tag : Option Nat := none
  last : Nat := 0
  deriving DecidableEq, Repr

/-- A class on a port (R222, R223): virtual time, candidate queue, tag, last tag, tokens in bytes, the CLK_AON cycle up to which
tokens were added. -/
structure MonCls where
  v : Nat := 0
  cand : Option Nat := none
  tag : Option Nat := none
  last : Nat := 0
  tokens : Int := 0
  at_ : Nat := 0
  deriving DecidableEq, Repr

/-- Monarch on one port. -/
structure MonPort where
  vl : Nat := 0
  qs : SMap MonQ := []
  cls : List MonCls := [{}, {}, {}, {}, {}, {}, {}, {}]
  deriving DecidableEq, Repr

/-- A staged shaper change (R223). -/
structure Shape where
  rate : Nat
  burst : Nat
  mode : Nat
  deriving DecidableEq, Repr

/-- A class's gate (R224): the window set by the last matching boundary (CLK_CORE cycles), whether it is closed now, the
boundary before, and whether the class has started a frame or been without one since. -/
structure Gate where
  window : Option (Nat × Nat) := none
  closed : Bool := false
  boundary : Option Nat := none
  starved : Bool := true
  deriving DecidableEq, Repr

/-- Monarch (R221 to R225): each port's scheduler, staged shaper changes and gates of the classes, items released by launch
slots (queue and item number). -/
structure Mon where
  ports : SMap MonPort := []
  staged : List (Option Shape) := [none, none, none, none, none, none, none, none]
  gates : List Gate := [{}, {}, {}, {}, {}, {}, {}, {}]
  launched : List (Nat × Nat) := []
  deriving DecidableEq, Repr

/-- An item of a queue (R230): its record, its SEQ once the consumer has taken it, whether the item waits for the
header of the item behind it (a QUE_LOSS record, R234), its number in order of entry; whether it was sent whole on the
present path, the bytes of it sent so far, the context its frames use (R210). -/
structure Item where
  body : Rec
  seq : Option Nat := none
  loss : Bool := false
  num : Nat := 0
  sent : Bool := false
  off : Nat := 0
  ctx : Option Nat := none
  deriving DecidableEq, Repr

/-- Items dropped since the last QUE_LOSS record (R234). -/
structure Loss where
  items : Nat
  bytes : Nat
  first : Nat
  last : Nat
  sev : Nat
  deriving DecidableEq, Repr

/-- A hardware queue (R230 to R235): its items, oldest first; drops to report; whether a flush still waits for its
last item (a push in progress at a flush). -/
structure QueSt where
  items : List Item := []
  loss : Option Loss := none
  flushing : Bool := false
  deriving DecidableEq, Repr

/-- A stream of this source (R232, R241): next SEQ, highest accepted SEQ plus one, CLK_CORE cycle of its last progress. -/
structure StreamSt where
  next : Nat := 0
  acc : Nat := 0
  progress : Nat := 0
  deriving DecidableEq, Repr

/-- A record an owner holds (R238, R241): its SEQ and bytes, whether its journal write committed, whether the buddy
confirmed its copy. -/
structure Held where
  seq : Nat
  bytes : List Byte
  journalled : Bool := false
  mirrored : Bool := false
  quarantined : Bool := false
  deriving DecidableEq, Repr

/-- An owner's state for a key (LDI, EPOCH, STREAM): next SEQ wanted, SEQs accepted (highest plus one), the records held and not
released, how far the buddy has confirmed acceptance, the acceptance last reported, and since when one is to be reported. -/
structure OwnKey where
  ldi : Nat
  epoch : Nat
  stream : Nat
  next : Nat := 0
  acc : Nat := 0
  held : List Held := []
  sure : Nat := 0
  reported : Nat := 0
  dueSince : Option Nat := none
  deriving DecidableEq, Repr

/-- A software push (R236): queue, LEN, SEV, the words so far, whether it waits for room. -/
structure Push where
  queue : Nat
  len : Nat
  sev : Nat
  words : List Nat := []
  waiting : Bool := false
  doomed : Bool := false
  deriving DecidableEq, Repr

/-- A recovery procedure (R248, R249): its number, the LDI it is for, last step marked, who controls it, REPOCH, the CLK_CORE
cycle of the last renewal, whether the controller here has stopped renewing; of a rebind, the new epoch and the spare (PLOC, port) its intent names. -/
structure Proc where
  proc : Nat
  ldi : Nat := 0
  step : Nat := 0
  ctrl : Nat := 0
  repoch : Nat := 0
  renewed : Nat := 0
  stalled : Bool := false
  epoch : Nat := 0
  ploc : Nat := 0
  port : Nat := 0
  deriving DecidableEq, Repr

/-- An injection in progress (R250): slot, fault, start, procedures run, LDI or port. -/
structure Inj where
  slot : Nat
  kind : Nat
  start : Nat
  procs : Nat := 0
  target : Nat := 0
  deriving DecidableEq, Repr

/-- An update sent to or taken from the buddy's mirror (R245). -/
structure MirrorUpd where
  upd : Mirror
  num : Nat
  deriving DecidableEq, Repr

/-- Queues, delivery and recovery (R227 to R251): queues, streams of this source, item numbers, the push; keys this block owns; mirror updates not
yet confirmed, what it keeps for its buddy, updates it confirmed; procedures it runs and those its buddy runs; whether the next step stalls; the
injection in progress, armed slots with their trigger, boundaries left to a repeat; the faults that wait; the HOST ring; procedures whose
block is being driven over VSB (R249). -/
structure Que where
  queues : SMap QueSt := []
  streams : SMap StreamSt := []
  itemNum : Nat := 0
  push : Option Push := none
  keys : List OwnKey := []
  mirrorOut : List MirrorUpd := []
  mirrorNum : Nat := 0
  mirror : List Mirror := []
  confirmed : Nat := 0
  procs : List Proc := []
  remote : List Proc := []
  driven : List Proc := []
  stallNext : Bool := false
  inj : Option Inj := none
  injArmed : SMap Nat := []
  injRepeat : SMap Nat := []
  dropAccept : Option Nat := none
  corrupt : Option Nat := none
  muteUntil : Option Nat := none
  hostRing : List (List Byte) := []
  deriving DecidableEq, Repr

/-- A record in Silkworm (R253, R260): its queue and its place; the context of a job (none: it passes unchanged and only waits its
turn), the trace buffer of trace traffic, the trace buffer of any record of trace DMA with its packets, the engine that runs it and since when, whether it is stopped,
the input taken at its last start, the input and output to show, what leaves once it has ended, room reserved for it. -/
structure SlkJob where
  num : Nat
  queue : Nat
  body : Rec
  ctx : Option Nat := none
  trace : Option Nat := none
  dma : Option Nat := none
  pkts : Nat := 0
  engine : Option Nat := none
  since : Nat := 0
  stopped : Bool := false
  base : Nat := 0
  out : Option Rec := none
  resv : Nat := 0
  deriving DecidableEq, Repr

/-- Silkworm (R252 to R265): jobs and waiting records in order of arrival, the next number, and each context's counts of
literal/length and distance symbols; a context that is not listed has have = 0. -/
structure Slk where
  jobs : List SlkJob := []
  num : Nat := 0
  ctxs : SMap (List Nat × List Nat) := []
  deriving DecidableEq, Repr

/-- A record in a journal (R273, R276): key, SEV, the tag bits QUAR, DUPRISK and whether a FIRST copy is written, its bytes, its JPOS
once committed; the interval state that an EN_CKPT record holds (R199). -/
structure JRec where
  ldi : Nat
  epoch : Nat
  stream : Nat
  seq : Nat
  sev : Nat
  quar : Bool := false
  dup : Bool := false
  first : Bool := false
  bytes : List Byte
  jpos : Nat := 0
  en : Option Interval := none
  deriving DecidableEq, Repr

/-- What the journal takes (R273, R202, R248): a record, an intent or progress mark of a procedure, and whether it is complete, or the close of
a demand interval. -/
inductive JEntry where
  | record (r : JRec)
  | mark (p : Proc) (done : Bool)
  | close (k : Nat)
  deriving DecidableEq, Repr

/-- A journal page: where it stands, whether its program passed, whether it lies in the FIRST area. -/
structure GPage where
  ch : Nat
  tgt : Nat
  blk : Nat
  page : Nat
  ok : Bool := false
  first : Bool := false
  deriving DecidableEq, Repr

/-- A journal group (R273, R274): GSEQ, RELOC, the entries that end in it, FLUSHED, its data pages and commit pages, whether it is
lost, the CLK_AON cycle at which it was closed. -/
structure Group where
  gseq : Nat
  reloc : Nat := 0
  entries : List JEntry := []
  flushed : Bool := false
  data : List GPage := []
  a : Option GPage := none
  b : Option GPage := none
  lost : Bool := false
  at_ : Nat := 0
  deriving DecidableEq, Repr

/-- A block of the NAND (R270 to R272): erases; phase 0 erased, 1 open, 2 full, 3 being erased, 4 retired; the next page to write;
marked for refresh; the CLK_AON cycle of its oldest page. -/
structure Blk where
  erases : Nat := 0
  phase : Nat := 0
  next : Nat := 0
  marked : Bool := false
  at_ : Nat := 0
  deriving DecidableEq, Repr

/-- A cursor (R281, R282): its JPOS, the loaded record, what ends its load (STAT, JPOS, record), the latched POS_HI. -/
structure Cursor where
  pos : Nat := 0
  loaded : Option JRec := none
  load : Option (Nat × Nat × Option JRec) := none
  latch : Nat := 0
  deriving DecidableEq, Repr

/-- A clear or a format, recorded as an intent in META (R291). -/
inductive CocOp where
  | clear
  | format
  deriving DecidableEq, Repr

/-- A record of the NOR Cocoon (R290): the record, whether it lies in the FIRST area, whether its commit word is programmed. -/
structure NorRec where
  r : JRec
  first : Bool
  done : Bool := false
  deriving DecidableEq, Repr

/-- Cocoon (R266 to R292). Of the NAND: the targets in use and those excluded (by 8 * channel + target), the CLK_AON cycle at which
a target began to fail every operation, the blocks that are not as erased at the factory, the blocks under refresh. Of the
journal: groups committed (rising GSEQ), groups being programmed, entries that wait with the bytes still to place and since when, the next GSEQ and
JPOS, the release point, the next GSEQ of the newest checkpoint, streams' accepted state at it, the FIRST area's records with its bytes used,
whether it is full, and its size. Of the counters: copies A and B, raises in progress (slot, value, whether A has passed), the latched high
word. The clear or format in progress, and whether the flush stopped it, or it waits for
another long operation (R14); whether a power-fail flush took over, the group that ends it, whether that group has committed, the entries
kept back meanwhile; procedures and intervals closed at the newest checkpoint; cursors; the CLK_AON cycle at which Cocoon
began to recover; the NOR records. -/
structure Coc where
  tgts : SMap Geo := []
  excl : List Nat := []
  failing : SMap Nat := []
  blks : SMap Blk := []
  refresh : List Nat := []
  groups : List Group := []
  progs : List Group := []
  buf : List (JEntry × Nat) := []
  bufSince : Option Nat := none
  nextG : Nat := 1
  nextJ : Nat := 0
  rel : Nat := 0
  ckpt : Nat := 1
  ckptKeys : List OwnKey := []
  firsts : List JRec := []
  firstUsed : Nat := 0
  firstFull : Bool := false
  firstSize : Nat := 0
  logA : SMap Nat := []
  logB : SMap Nat := []
  raises : List (Nat × Nat × Bool) := []
  ctrLatch : Nat := 0
  relLatch : Nat := 0
  newLatch : Nat := 0
  op : Option CocOp := none
  flush : Bool := false
  flushG : Option Nat := none
  cursors : List Cursor := [{}, {}, {}, {}]
  since : Option Nat := none
  lostPower : Bool := false
  flushed : Bool := false
  opStop : Bool := false
  opWait : Bool := false
  parked : List (JEntry × Nat) := []
  ckptProcs : List Proc := []
  ckptShut : List Nat := []
  nor : List NorRec := []
  deriving DecidableEq, Repr

/-- Cocoon as it comes up when its domain loses power: the media keep what was programmed (R275, R286, R290); everything else is gone. A
group whose commit page A or B passed stands; a NOR record without its commit word is discarded. -/
def Coc.powerUp (c : Coc) : Coc :=
  { blks := c.blks, groups := c.groups, progs := c.progs, nextG := c.nextG, nextJ := c.nextJ, rel := c.rel, ckpt := c.ckpt, ckptKeys := c.ckptKeys,
    firsts := c.firsts, firstUsed := c.firstUsed, firstFull := c.firstFull, firstSize := c.firstSize, logA := c.logA, logB := c.logB, op := c.op,
    nor := c.nor.filter (fun r => r.done), ckptProcs := c.ckptProcs, ckptShut := c.ckptShut, lostPower := true }

/-- Cocoon over a reset with power kept (R357): the same media; only a loss of power counts as one. -/
def Coc.reset (c : Coc) : Coc := { c.powerUp with lostPower := c.lostPower }

/-- A copy of the image store (R299): its bytes, and the SELF_PLOC kept with it. -/
structure ImgCopy where
  bytes : List Byte
  ploc : Nat
  deriving DecidableEq, Repr

/-- A load in progress (R301, R307): its source, the words written so far (latest first), the IDX and ANY of the ROLLBACK it belongs to. -/
structure ImgLoad where
  src : Nat
  words : List Nat := []
  roll : Option (Nat × Bool) := none
  deriving DecidableEq, Repr

/-- A commit in progress (R304): the CLK_CORE cycle of its start, its index and ANY, whether it applies at once, whether it has applied, the PHASE of
its boundary, the generation that it raises. -/
structure Commit where
  since : Nat
  idx : Nat
  any : Bool
  now : Bool
  applied : Bool := false
  phase : Nat := 0
  gen : Nat := 0
  deriving DecidableEq, Repr

/-- The Fabric Image unit (R293 to R310): the copies X and Y; whether ACTIVE and PREVIOUS are valid; probation, and the boundaries since
its apply, and whether the fire of the boundary it applied at is still to come; the staged image and its source; the load in progress; the IDX and ANY of a ROLLBACK whose expansion runs; the commit in progress; the
image applied; without a store, digest and BUILD of ACTIVE and of PREVIOUS; the MEDIUM list in retained memory and on the NAND (R299); whether the start at hand follows a
power-on reset. -/
structure Fim where
  x : Option ImgCopy := none
  y : Option ImgCopy := none
  actOk : Bool := false
  prevOk : Bool := false
  prob : Bool := false
  probSeen : Nat := 0
  probSkip : Bool := false
  stage : List Byte := []
  stageSrc : Nat := 0
  load : Option ImgLoad := none
  rollWait : Option (Nat × Bool) := none
  commit : Option Commit := none
  run : Option (List Byte) := none
  digA : Option (List Byte × Nat) := none
  digP : Option (List Byte × Nat) := none
  medium : List Byte := []
  mediumNand : List Byte := []
  por : Bool := true
  deriving DecidableEq, Repr

/-- What outlives a reset (R299, R300, R309): the copies, the probation flag, the retained memory's part and the list on the NAND. -/
def Fim.blockReset (f : Fim) : Fim :=
  { x := f.x, y := f.y, prevOk := f.prevOk, prob := f.prob, probSeen := f.probSeen, digA := f.digA, digP := f.digP, medium := f.medium, mediumNand := f.mediumNand, por := false }

/-- What outlives a power-on reset: the media, and the flag kept with the counters. -/
def Fim.powerUp (f : Fim) (store : Bool) : Fim :=
  { x := f.x, y := f.y, prevOk := f.prevOk && store, prob := f.prob && store, probSeen := if store then f.probSeen else 0, mediumNand := f.mediumNand }

/-- A part's fences TEST and FAULT (SW stands in the fence registers, R317), the class of its last report, the CLK_AON
cycles of its transients (newest first), and the software fence of a host core's part. -/
structure PartSt where
  test : Bool := false
  fault : Bool := false
  cls : Nat := 0
  trans : List Nat := []
  deriving DecidableEq, Repr

/-- A self-test or confirmation that runs: the part, how many runs are left, whether it confirms (and the report it updates),
whether it is an UNFENCE. -/
structure TestRun where
  kind : Nat
  index : Nat
  left : Nat
  confirm : Option Nat := none
  firstCls : Nat := 0
  unfence : Bool := false
  failed : Bool := false
  deriving DecidableEq, Repr

/-- A report's content (Table 14-4), kept so that an UPDATE can repeat it. -/
structure Report where
  rnum : Nat
  unit : Nat
  op : Nat
  fmt : Nat
  cls : Nat
  flags : Nat
  part : Nat
  temp : Nat
  vdd : Nat
  exp : Nat
  obs : Nat
  ctx : Nat
  phase : Nat
  wall : Nat
  ref : Nat
  deriving DecidableEq, Repr

/-- A shadow sample in judgement (R324): the core, operation, its digest and step; which recomputation is out; the digests
that came back; reruns done and bad; whether its request waits; the checker that d1 came from. -/
structure Sample where
  core : Nat
  cls : Nat
  id : Nat
  d0 : Nat
  step : Nat
  tag : Nat
  on : Nat
  asked : Option Nat := none
  stage : Nat := 0
  d1 : Nat := 0
  d2 : Nat := 0
  runs : Nat := 0
  bad : Nat := 0
  waiting : Bool := true
  chk : Nat := 0
  deriving DecidableEq, Repr

/-- The integrity unit (R312 to R326): parts; the place of the due part in the rotation, when it fell due, and whether it
waits for idle; the test that runs; confirmations and UNFENCE runs that wait; reports (newest first, for updates);
shadow samples, operations since the last one, the step at which the target was chosen, steps ordered replayed. -/
structure Integ where
  parts : SMap PartSt := []
  due : Nat := 0
  dueAt : Nat := 0
  waitSince : Option Nat := none
  running : Option TestRun := none
  confQ : List TestRun := []
  unfQ : List TestRun := []
  rnum : Nat := 0
  last : Option Report := none
  reports : List Report := []
  samples : List Sample := []
  opCount : Nat := 0
  dwellStep : Nat := 0
  replayed : List Nat := []
  deriving DecidableEq, Repr

/-- An event-log entry (Table 15-8), with the CLK_CORE cycle of its entry. -/
structure LogEntry where
  seqno : Nat
  source : Nat
  injected : Bool := false
  deferred : Bool := false
  missed : Bool := false
  rep : Nat := 0
  phase : Nat := 0
  wall : Nat := 0
  arg : Nat := 0
  time : Nat := 0
  deriving DecidableEq, Repr

/-- A raise waiting in the capture queue (R338): raised while STEWARD was not ON (`late`), or in a cycle whose four entries were written, with
the phase and time of that cycle. -/
structure Raise where
  source : Nat
  injected : Bool := false
  rep : Nat := 0
  arg : Nat := 0
  time : Nat := 0
  late : Bool := false
  phase : Nat := 0
  wall : Nat := 0
  deriving DecidableEq, Repr

/-- The event log (R338, R339): the ring, newest entry first; the next SEQNO; the capture queue in AON; whether raises
were missed since the last entry; the SEQNO of the last entry carried in an EVT_LOG record; the latched copy; the CLK_CORE cycle of the latest
entry and how many were written in it. -/
structure EvLog where
  ring : List LogEntry := []
  next : Nat := 1
  waiting : List Raise := []
  missed : Bool := false
  carried : Nat := 0
  latch : List Nat := []
  cyc : Nat := 0
  wrote : Nat := 0
  deriving DecidableEq, Repr

/-- The storm guard of a source (R337): the CLK_CORE cycles at which it began to pend, newest first; the end of a HOLD
that runs; the consecutive guards; the end of the last HOLD. -/
structure Guard where
  begins : List Nat := []
  holdEnd : Option Nat := none
  count : Nat := 0
  lastEnd : Option Nat := none
  deriving DecidableEq, Repr

/-- An interrupt target (R335, R336): running priority, the stack of (source, saved RP), the line, and the CLK_CORE cycles
at which the line last went low for any cause and for a cause other than BYPASS. -/
structure IrqTgt where
  rp : Nat := 0
  stack : List (Nat × Nat) := []
  line : Bool := false
  lastLow : Option Nat := none
  lastLowHeld : Option Nat := none
  deriving DecidableEq, Repr

/-- The interrupt controller (R333 to R337): its targets, storm guards, the synchronised levels of IRQ_IN, and the edge
latch in AON with its copy of the modes (R334). -/
structure Irq where
  tgts : List IrqTgt := [{}, {}, {}, {}]
  guards : SMap Guard := []
  inLvl : Nat := 0
  latchMode : List Nat := []
  latched : Nat := 0
  deriving DecidableEq, Repr

/-- A sync counter (R331): value and the two sticky flags. -/
structure SynCtr where
  v : Nat := 0
  ovf : Bool := false
  unf : Bool := false
  deriving DecidableEq, Repr

/-- SYN_RESULT of a requester (R331). -/
structure SynRes where
  value : Nat := 0
  status : Nat := 0
  ovf : Bool := false
  unf : Bool := false
  deriving DecidableEq, Repr

/-- The sync counters, the result register of each requester (0 management port, 1 VSB, 2 test port, 8 + n thread n), and the
threads that wait on a TAKE, oldest wait first: (thread, counter, n). -/
structure Syn where
  ctrs : SMap SynCtr := []
  results : SMap SynRes := []
  waiters : List (Nat × Nat × Nat) := []
  deriving DecidableEq, Repr

/-- The Steward (R328 to R330): descriptors waiting in each duty's post queue (0 to 7), windows in a row at or above HIGH
and at or below LOW, the CLK_CORE cycle at which the load window began, the CLK_AON cycle of the last check-in of each
rank-0 duty, the duties warned of, and the CLK_CORE cycle of the last recheck of posted conditions. -/
structure Stw where
  posts : List Nat := [0, 0, 0, 0, 0, 0, 0, 0]
  hiRun : Nat := 0
  loRun : Nat := 0
  windowStart : Nat := 0
  checkIn : List Nat := [0, 0, 0, 0]
  warned : List Nat := []
  recheck : Nat := 0
  deriving DecidableEq, Repr

/-- A unicast VSB frame in progress: retries done, the CLK_AON cycle of its last send, whether it was acknowledged. -/
structure VsbOut where
  frame : VsbFrame
  tries : Nat := 0
  sentAt : Nat := 0
  acked : Bool := false
  deriving DecidableEq, Repr

/-- The VSB node (R341 to R344): its frames waiting to start, the unicast request in progress, the CLK_AON cycle of the last
valid frame from another node, the beacon interval and the time of the next beacon in solo-listen, whether a frame was seen in this cycle, frames put on
the wire (newest first, at most 64 kept), the last answer to a request (status, value), and frames that
failed, of which
those sent in solo-listen are kept to be sent again (R344). -/
structure Vsb where
  queue : List VsbFrame := []
  out : Option VsbOut := none
  heard : Option Nat := none
  beaconIv : Nat := 0
  beaconAt : Nat := 0
  seen : Bool := false
  sent : List VsbFrame := []
  answer : Option (Nat × Nat) := none
  failed : List VsbFrame := []
  lone : List VsbFrame := []
  deriving DecidableEq, Repr

/-- What a running power sequence does (R350 to R356, R359): it stops domains on the way to sleep, wakes the domains a
sleep stopped, rolls a refused or interrupted entry back, or releases the domains of a start. -/
inductive SeqKind where
  | entry | wake | rollback | start
  deriving DecidableEq, Repr

/-- What the sequence waits for: the answer of a domain, its switch, or the gap before the next domain. -/
inductive SeqWait where
  | answer | ack | gap
  deriving DecidableEq, Repr

/-- A running sequence: its kind, what it waits for, the domain in hand, the domains still to come, and the CLK_AON cycle
at which the wait began. -/
structure PSeq where
  kind : SeqKind
  wait : SeqWait
  dom : Nat
  todo : List Nat
  since : Nat
  deriving DecidableEq, Repr

/-- Where a start stands (R358 to R360): domains held in reset since the inputs became steady, the release sequence,
running with no image yet (since), running with an image applied (since), waiting 1 s after a failure (since), or
good. -/
inductive StartPhase where
  | hold (since : Nat)
  | release
  | noImage (since : Nat)
  | running (since : Nat)
  | failed (since : Nat)
  | good
  deriving DecidableEq, Repr

/-- The power and reset controller in AON (R346 to R365): the sequence that runs; the domains the sleep stopped (last stopped
first) and whether each went OFF; the domains held in reset; the reset held until PF_DONE; where the start stands; the
refusal or interruption that a rollback will report (domain, REASON, mask of domains stopped); whether a slot fired
during the entry or the rollback; what PWR_REQ asks of each domain; the CLK_AON cycle at which PWR_WAKE_TIMER was written and
whether it has just reached 0; PF_WARN_N low. -/
structure Pwr where
  seq : Option PSeq := none
  stopped : List (Nat × Bool) := []
  held : List Nat := [1, 2, 3, 4, 5, 6, 7, 8, 9, 10, 11]
  heldReset : Option Nat := none
  start : StartPhase := .hold 0
  refusal : Option (Nat × Nat × Nat) := none
  woken : Bool := false
  late : Bool := false
  req : SMap Nat := []
  timerFrom : Nat := 0
  timerHit : Bool := false
  pfLow : Bool := false
  deriving DecidableEq, Repr

/-- What the Security unit keeps for a master (R369 to R373): the rights and partitions an unlock added, the count of
consecutive BAD results, the end of a lockout (CLK_AON cycle), the live nonce with its end, SEC_RESP words, the last
RESULT. -/
structure MasterSec where
  addR : Nat := 0
  addP : Nat := 0
  fails : Nat := 0
  lockEnd : Option Nat := none
  nonce : Option (Nat × Nat) := none
  resp : List Nat := [0, 0, 0, 0, 0, 0, 0, 0]
  result : Nat := 0
  deriving DecidableEq, Repr

/-- The Security unit (R366 to R376): one record per master, the OTP as the integrator holds it, the copy read at POR
(the key store), whether its CRC matched, a revocation in progress (slot), the test port's instruction. -/
structure Sec where
  mgmt : MasterSec := {}
  vsb : MasterSec := {}
  test : MasterSec := {}
  otp : SMap Byte := []
  keys : SMap Byte := []
  crcOk : Bool := false
  pgm : Option Nat := none
  jtag : Nat := 0xFF
  signer : Option Nat := none
  deriving DecidableEq, Repr

/-- The OTP at power-on in this model (log entry 3): no key, no HMAC key, a zero password digest, and the CRC-32C of that in
bytes 0x374 to 0x377 (R366). -/
def resetOtp : SMap Byte := [(0x374, 0x67), (0x375, 0xDE), (0x376, 0x66), (0x377, 0x79)]

/-- The Memory Port (R384 to R386): tags of requests that went unanswered for 100 µs, by 1,024 * channel + tag; each stays in use until its response
comes. What the attached DRAM holds stands with the units that own it. -/
structure MemPort where
  late : List Nat := []
  deriving DecidableEq, Repr

/-- A byte memory in canonical form: addresses strictly rising, no entry 0 (what an unlisted address reads as). -/
abbrev Memory := List Host.Cell

/-- The block, without the queue of commands and the retained memory. Field names follow the units of Table 0-2;
`flds` holds the register fields that differ from their reset values, by place (Fld.key). -/
structure Block where
  syn : Synth := {}
  clk : Clk := {}
  freeN : Nat := 0
  flds : SMap Nat := []
  rspMgmt : Resp := {}
  rspVsb : Resp := {}
  rspTest : Resp := {}
  pins : Pins := {}
  busy : Option BusyOp := none
  fab : Fab := {}
  ant : Ant := {}
  prb : Prb := {}
  scl : Scl := {}
  trc : Trc := {}
  swm : Swm := {}
  hwk : Hwk := {}
  vrd : Vrd := {}
  kl : Links := {}
  mon : Mon := {}
  que : Que := {}
  slk : Slk := {}
  coc : Coc := {}
  fim : Fim := {}
  int : Integ := {}
  stw : Stw := {}
  syn_ : Syn := {}
  irq : Irq := {}
  evl : EvLog := {}
  vsb : Vsb := {}
  pwr : Pwr := {}
  sec : Sec := {}
  mp : MemPort := {}
  deriving DecidableEq, Repr

/-- The state of the machine: the commands that wait (first in, first out), the 64 KiB of retained memory (R364), and the
block. -/
structure State where
  pending : List Instr := []
  mem : Memory := []
  b : Block := {}
  deriving DecidableEq, Repr

/-- Why a run stops with a fault. No command of this model faults: nobody raises it, so it is safe. -/
inductive Fault where
  /-- Raised by nobody: the block reports its faults in its own state (events, reports, response codes). Safe. -/
  | none
  deriving DecidableEq, Repr

/-- Why a command has no meaning. -/
inductive Refusal where
  /-- Raised by an arm of exec that has no meaning yet; the command is named. Safe. -/
  | notModelled (mnemonic : String)
  deriving DecidableEq, Repr

/-- The machine right after a power-on reset (R357, R358): the AON domain runs, every other domain is off and held in
reset, RST_CAUSE reads POR, each master is in the lockout of R372 for 1 s, the queue is empty. What the spec leaves open
here is named in log entry 3. -/
def State.reset : State :=
  let m : MasterSec := { lockEnd := some 25000000 }
  { b := { sec := { mgmt := m, vsb := m, test := m, otp := resetOtp, keys := resetOtp, crcOk := true },
           flds := [(0xF084 * 32, 1)] } }

end Sys2Proof.Machine
end

