-- ==== Sys2Proof/Machine/Fields.lean ====
section
/-! DEFINITION. Names of the register fields that the meanings use: each is the field's offset, its lowest bit, its
width and its reset value, as the register table of its chapter gives them (see Machine/RegTable.lean). -/

namespace Sys2Proof.Machine

/-- `ANT_ASYM_BOARD`. -/
def F.ANT_ASYM_BOARD : Fld := ⟨0x1100, 0, 16, 0⟩
/-- `ANT_ASYM_INTERNAL`. -/
def F.ANT_ASYM_INTERNAL : Fld := ⟨0x1100, 16, 16, 0⟩
/-- `ANT_BEACON_SRC_LDI`. -/
def F.ANT_BEACON_SRC_LDI : Fld := ⟨0x1020, 0, 20, 0⟩
/-- `ANT_CTRL_MINGAP`. -/
def F.ANT_CTRL_MINGAP : Fld := ⟨0x1000, 8, 8, 64⟩
/-- `ANT_CTRL_PHSRC`. -/
def F.ANT_CTRL_PHSRC : Fld := ⟨0x1000, 0, 2, 0⟩
/-- `ANT_CTRL_TWB_EN`. -/
def F.ANT_CTRL_TWB_EN : Fld := ⟨0x1000, 2, 1, 0⟩
/-- `ANT_JUMP_THRESH`. -/
def F.ANT_JUMP_THRESH : Fld := ⟨0x1044, 0, 16, 32⟩
/-- `ANT_LAUNCH_AT_HI_AT_HI`. -/
def F.ANT_LAUNCH_AT_HI_AT_HI : Fld := ⟨0x120C, 0, 32, 0⟩
/-- `ANT_LAUNCH_AT_LO_AT_LO`. -/
def F.ANT_LAUNCH_AT_LO_AT_LO : Fld := ⟨0x1208, 0, 32, 0⟩
/-- `ANT_LAUNCH_CFG_ARMED`. -/
def F.ANT_LAUNCH_CFG_ARMED : Fld := ⟨0x1204, 19, 1, 0⟩
/-- `ANT_LAUNCH_CFG_EMPTY`. -/
def F.ANT_LAUNCH_CFG_EMPTY : Fld := ⟨0x1204, 21, 1, 0⟩
/-- `ANT_LAUNCH_CFG_KIND`. -/
def F.ANT_LAUNCH_CFG_KIND : Fld := ⟨0x1204, 16, 2, 0⟩
/-- `ANT_LAUNCH_CFG_LATE`. -/
def F.ANT_LAUNCH_CFG_LATE : Fld := ⟨0x1204, 20, 1, 0⟩
/-- `ANT_LAUNCH_CFG_QUEUE`. -/
def F.ANT_LAUNCH_CFG_QUEUE : Fld := ⟨0x1204, 0, 16, 0⟩
/-- `ANT_LAUNCH_SEL_SLOT`. -/
def F.ANT_LAUNCH_SEL_SLOT : Fld := ⟨0x1200, 0, 5, 0⟩
/-- `ANT_OFFSET_OFFSET`. -/
def F.ANT_OFFSET_OFFSET : Fld := ⟨0x1048, 0, 32, 0⟩
/-- `ANT_OVERRUN_UNITS`. -/
def F.ANT_OVERRUN_UNITS : Fld := ⟨0x1018, 0, 32, 0⟩
/-- `ANT_PHASE_HI_PHASE_HI`. -/
def F.ANT_PHASE_HI_PHASE_HI : Fld := ⟨0x1014, 0, 32, 0⟩
/-- `ANT_RATE_RATE`. -/
def F.ANT_RATE_RATE : Fld := ⟨0x1040, 0, 32, 0⟩
/-- `ANT_STATUS_CLAMPED`. -/
def F.ANT_STATUS_CLAMPED : Fld := ⟨0x1004, 8, 1, 0⟩
/-- `ANT_STATUS_FIREQ`. -/
def F.ANT_STATUS_FIREQ : Fld := ⟨0x1004, 4, 4, 0⟩
/-- `ANT_STATUS_HOLDOVER`. -/
def F.ANT_STATUS_HOLDOVER : Fld := ⟨0x1004, 1, 1, 0⟩
/-- `ANT_STATUS_TIME_VALID`. -/
def F.ANT_STATUS_TIME_VALID : Fld := ⟨0x1004, 0, 1, 0⟩
/-- `ANT_STATUS_TPARENT`. -/
def F.ANT_STATUS_TPARENT : Fld := ⟨0x1004, 2, 2, 3⟩
/-- `ANT_TIMEOUTS_BEACON`. -/
def F.ANT_TIMEOUTS_BEACON : Fld := ⟨0x101C, 16, 16, 0⟩
/-- `ANT_TIMEOUTS_STEP`. -/
def F.ANT_TIMEOUTS_STEP : Fld := ⟨0x101C, 0, 16, 0⟩
/-- `ANT_TIME_HI_SEC_HI`. -/
def F.ANT_TIME_HI_SEC_HI : Fld := ⟨0x1038, 0, 24, 0⟩
/-- `ANT_TIME_MID_FRAC_HI`. -/
def F.ANT_TIME_MID_FRAC_HI : Fld := ⟨0x1034, 0, 8, 0⟩
/-- `ANT_TIME_MID_SEC_LO`. -/
def F.ANT_TIME_MID_SEC_LO : Fld := ⟨0x1034, 8, 24, 0⟩
/-- `ANT_TIME_SET_HI_SEC_HI`. -/
def F.ANT_TIME_SET_HI_SEC_HI : Fld := ⟨0x1058, 0, 24, 0⟩
/-- `ANT_TIME_SET_LO_FRAC_LO`. -/
def F.ANT_TIME_SET_LO_FRAC_LO : Fld := ⟨0x1050, 0, 32, 0⟩
/-- `ANT_TIME_SET_MID_FRAC_HI`. -/
def F.ANT_TIME_SET_MID_FRAC_HI : Fld := ⟨0x1054, 0, 8, 0⟩
/-- `ANT_TIME_SET_MID_SEC_LO`. -/
def F.ANT_TIME_SET_MID_SEC_LO : Fld := ⟨0x1054, 8, 24, 0⟩
/-- `ANT_TWB_ACT_FREEZE`. -/
def F.ANT_TWB_ACT_FREEZE : Fld := ⟨0x1028, 0, 1, 0⟩
/-- `ANT_TWB_ACT_IDX`. -/
def F.ANT_TWB_ACT_IDX : Fld := ⟨0x1028, 8, 8, 255⟩
/-- `ANT_TWB_ACT_MON`. -/
def F.ANT_TWB_ACT_MON : Fld := ⟨0x1028, 1, 1, 0⟩
/-- `ANT_TWB_ACT_SCL`. -/
def F.ANT_TWB_ACT_SCL : Fld := ⟨0x1028, 2, 1, 0⟩
/-- `ANT_TWB_ACT_SWM`. -/
def F.ANT_TWB_ACT_SWM : Fld := ⟨0x1028, 3, 1, 0⟩
/-- `ANT_TWB_PERIOD_PERIOD`. -/
def F.ANT_TWB_PERIOD_PERIOD : Fld := ⟨0x1024, 0, 24, 1000000⟩
/-- `ANT_WB_ENTRY_BCN`. -/
def F.ANT_WB_ENTRY_BCN : Fld := ⟨0x1400, 25, 1, 0⟩
/-- `ANT_WB_ENTRY_EN`. -/
def F.ANT_WB_ENTRY_EN : Fld := ⟨0x1400, 24, 1, 0⟩
/-- `ANT_WB_ENTRY_FREEZE`. -/
def F.ANT_WB_ENTRY_FREEZE : Fld := ⟨0x1400, 28, 1, 0⟩
/-- `ANT_WB_ENTRY_MON`. -/
def F.ANT_WB_ENTRY_MON : Fld := ⟨0x1400, 29, 1, 0⟩
/-- `ANT_WB_ENTRY_POS`. -/
def F.ANT_WB_ENTRY_POS : Fld := ⟨0x1400, 0, 24, 0⟩
/-- `ANT_WB_ENTRY_SCL`. -/
def F.ANT_WB_ENTRY_SCL : Fld := ⟨0x1400, 30, 1, 0⟩
/-- `ANT_WB_ENTRY_SWM`. -/
def F.ANT_WB_ENTRY_SWM : Fld := ⟨0x1400, 31, 1, 0⟩
/-- `COC_AREA_FIRST`. -/
def F.COC_AREA_FIRST : Fld := ⟨0xC014, 0, 7, 16⟩
/-- `COC_AREA_FSEV`. -/
def F.COC_AREA_FSEV : Fld := ⟨0xC014, 7, 3, 5⟩
/-- `COC_CFG_CKPT`. -/
def F.COC_CFG_CKPT : Fld := ⟨0xC018, 16, 16, 4096⟩
/-- `COC_CFG_GTIME`. -/
def F.COC_CFG_GTIME : Fld := ⟨0xC018, 0, 10, 50⟩
/-- `COC_CFG_LOWPCT`. -/
def F.COC_CFG_LOWPCT : Fld := ⟨0xC018, 10, 6, 10⟩
/-- `COC_CTRL_EN`. -/
def F.COC_CTRL_EN : Fld := ⟨0xC000, 0, 1, 0⟩
/-- `COC_CUR_CTRL_AREA`. -/
def F.COC_CUR_CTRL_AREA : Fld := ⟨0xC10C, 3, 1, 0⟩
/-- `COC_CUR_CTRL_PAGE`. -/
def F.COC_CUR_CTRL_PAGE : Fld := ⟨0xC10C, 4, 4, 0⟩
/-- `COC_CUR_CTRL_STAT`. -/
def F.COC_CUR_CTRL_STAT : Fld := ⟨0xC10C, 8, 3, 0⟩
/-- `COC_CUR_FILT_QUAR`. -/
def F.COC_CUR_FILT_QUAR : Fld := ⟨0xC110, 17, 1, 0⟩
/-- `COC_CUR_FILT_SEL`. -/
def F.COC_CUR_FILT_SEL : Fld := ⟨0xC110, 16, 1, 0⟩
/-- `COC_CUR_FILT_STREAM`. -/
def F.COC_CUR_FILT_STREAM : Fld := ⟨0xC110, 0, 16, 0⟩
/-- `COC_CUR_INFO_TAG`. -/
def F.COC_CUR_INFO_TAG : Fld := ⟨0xC114, 0, 3, 0⟩
/-- `COC_CUR_POS_HI_POS_HI`. -/
def F.COC_CUR_POS_HI_POS_HI : Fld := ⟨0xC108, 0, 32, 0⟩
/-- `COC_CUR_POS_LO_POS_LO`. -/
def F.COC_CUR_POS_LO_POS_LO : Fld := ⟨0xC104, 0, 32, 0⟩
/-- `COC_CUR_SEL_CUR`. -/
def F.COC_CUR_SEL_CUR : Fld := ⟨0xC100, 0, 2, 0⟩
/-- `COC_ECC_REBUILDS`. -/
def F.COC_ECC_REBUILDS : Fld := ⟨0xC030, 16, 8, 0⟩
/-- `COC_ECC_RETRIES`. -/
def F.COC_ECC_RETRIES : Fld := ⟨0xC030, 0, 16, 0⟩
/-- `COC_ECC_UNCORR`. -/
def F.COC_ECC_UNCORR : Fld := ⟨0xC030, 24, 8, 0⟩
/-- `COC_HEALTH_MAXERASE`. -/
def F.COC_HEALTH_MAXERASE : Fld := ⟨0xC034, 16, 16, 0⟩
/-- `COC_HEALTH_RETIRED`. -/
def F.COC_HEALTH_RETIRED : Fld := ⟨0xC034, 0, 16, 0⟩
/-- `COC_MCTR_CMD_DONE`. -/
def F.COC_MCTR_CMD_DONE : Fld := ⟨0xC20C, 1, 1, 1⟩
/-- `COC_MCTR_HI_VAL_HI`. -/
def F.COC_MCTR_HI_VAL_HI : Fld := ⟨0xC208, 0, 32, 0⟩
/-- `COC_MCTR_LO_VAL_LO`. -/
def F.COC_MCTR_LO_VAL_LO : Fld := ⟨0xC204, 0, 32, 0⟩
/-- `COC_MCTR_SEL_SLOT`. -/
def F.COC_MCTR_SEL_SLOT : Fld := ⟨0xC200, 0, 12, 0⟩
/-- `COC_PF_LIMIT`. -/
def F.COC_PF_LIMIT : Fld := ⟨0xC01C, 0, 12, 8⟩
/-- `COC_SCRUB_AGE`. -/
def F.COC_SCRUB_AGE : Fld := ⟨0xC028, 16, 8, 90⟩
/-- `COC_SCRUB_TH`. -/
def F.COC_SCRUB_TH : Fld := ⟨0xC028, 8, 8, 40⟩
/-- `COC_STATUS_FULL`. -/
def F.COC_STATUS_FULL : Fld := ⟨0xC004, 2, 1, 0⟩
/-- `COC_STATUS_STATE`. -/
def F.COC_STATUS_STATE : Fld := ⟨0xC004, 0, 2, 0⟩
/-- `COC_WEAR_DELTA`. -/
def F.COC_WEAR_DELTA : Fld := ⟨0xC024, 0, 16, 512⟩
/-- `COC_WEAR_LIMIT`. -/
def F.COC_WEAR_LIMIT : Fld := ⟨0xC024, 16, 16, 3000⟩
/-- `FIM_ACT_BUILD_BUILD`. -/
def F.FIM_ACT_BUILD_BUILD : Fld := ⟨0xD020, 0, 32, 0⟩
/-- `FIM_CMD_ANY`. -/
def F.FIM_CMD_ANY : Fld := ⟨0xD008, 7, 1, 0⟩
/-- `FIM_CMD_IDX`. -/
def F.FIM_CMD_IDX : Fld := ⟨0xD008, 8, 8, 0⟩
/-- `FIM_CMD_SRC`. -/
def F.FIM_CMD_SRC : Fld := ⟨0xD008, 0, 2, 0⟩
/-- `FIM_ERR_CODE`. -/
def F.FIM_ERR_CODE : Fld := ⟨0xD01C, 0, 8, 0⟩
/-- `FIM_ERR_REGION`. -/
def F.FIM_ERR_REGION : Fld := ⟨0xD01C, 16, 5, 31⟩
/-- `FIM_ERR_SECTION`. -/
def F.FIM_ERR_SECTION : Fld := ⟨0xD01C, 8, 8, 0⟩
/-- `FIM_PREV_BUILD_BUILD`. -/
def F.FIM_PREV_BUILD_BUILD : Fld := ⟨0xD024, 0, 32, 0⟩
/-- `FIM_PROB_BOUNDARIES`. -/
def F.FIM_PROB_BOUNDARIES : Fld := ⟨0xD030, 0, 8, 16⟩
/-- `FIM_SIZE_BYTES`. -/
def F.FIM_SIZE_BYTES : Fld := ⟨0xD018, 0, 26, 0⟩
/-- `FIM_STATUS_LEVEL`. -/
def F.FIM_STATUS_LEVEL : Fld := ⟨0xD000, 9, 2, 0⟩
/-- `FIM_STATUS_NEED`. -/
def F.FIM_STATUS_NEED : Fld := ⟨0xD000, 7, 1, 0⟩
/-- `FIM_STATUS_ROLLED`. -/
def F.FIM_STATUS_ROLLED : Fld := ⟨0xD000, 8, 1, 0⟩
/-- `FIM_STATUS_STATE`. -/
def F.FIM_STATUS_STATE : Fld := ⟨0xD000, 0, 3, 0⟩
/-- `FIM_STG_BUILD_BUILD`. -/
def F.FIM_STG_BUILD_BUILD : Fld := ⟨0xD028, 0, 32, 0⟩
/-- `FIM_TOPO_TOPO`. -/
def F.FIM_TOPO_TOPO : Fld := ⟨0xD02C, 0, 32, 0⟩
/-- `HOST_CAP_NOR`. -/
def F.HOST_CAP_NOR : Fld := ⟨0x24, 14, 1, 0⟩
/-- `HOST_CAP_NOR_MIB`. -/
def F.HOST_CAP_NOR_MIB : Fld := ⟨0x24, 16, 9, 0⟩
/-- `HWK_CACHE_EVICTS`. -/
def F.HWK_CACHE_EVICTS : Fld := ⟨0x6018, 16, 16, 0⟩
/-- `HWK_CACHE_MISSES`. -/
def F.HWK_CACHE_MISSES : Fld := ⟨0x6018, 0, 16, 0⟩
/-- `HWK_CTRL_EN`. -/
def F.HWK_CTRL_EN : Fld := ⟨0x6000, 0, 1, 0⟩
/-- `HWK_DROPS_FEAT`. -/
def F.HWK_DROPS_FEAT : Fld := ⟨0x6014, 0, 16, 0⟩
/-- `HWK_DROPS_SKIP`. -/
def F.HWK_DROPS_SKIP : Fld := ⟨0x6014, 16, 16, 0⟩
/-- `HWK_ENS_CFG_COLL`. -/
def F.HWK_ENS_CFG_COLL : Fld := ⟨0x6024, 10, 12, 0⟩
/-- `HWK_ENS_CFG_EMIT`. -/
def F.HWK_ENS_CFG_EMIT : Fld := ⟨0x6024, 23, 1, 0⟩
/-- `HWK_ENS_CFG_EN`. -/
def F.HWK_ENS_CFG_EN : Fld := ⟨0x6024, 0, 1, 0⟩
/-- `HWK_ENS_CFG_IDX`. -/
def F.HWK_ENS_CFG_IDX : Fld := ⟨0x6024, 2, 8, 0⟩
/-- `HWK_ENS_CFG_PIN`. -/
def F.HWK_ENS_CFG_PIN : Fld := ⟨0x6024, 22, 1, 0⟩
/-- `HWK_ENS_CFG_TRIG`. -/
def F.HWK_ENS_CFG_TRIG : Fld := ⟨0x6024, 1, 1, 0⟩
/-- `HWK_ENS_DEST_QUEUE`. -/
def F.HWK_ENS_DEST_QUEUE : Fld := ⟨0x6030, 0, 16, 0⟩
/-- `HWK_ENS_DEST_STREAM`. -/
def F.HWK_ENS_DEST_STREAM : Fld := ⟨0x6030, 16, 16, 0⟩
/-- `HWK_ENS_ENT_COUNT`. -/
def F.HWK_ENS_ENT_COUNT : Fld := ⟨0x6028, 16, 16, 0⟩
/-- `HWK_ENS_ENT_FIRST`. -/
def F.HWK_ENS_ENT_FIRST : Fld := ⟨0x6028, 0, 16, 0⟩
/-- `HWK_ENS_TIME_DELAY`. -/
def F.HWK_ENS_TIME_DELAY : Fld := ⟨0x602C, 0, 20, 0⟩
/-- `HWK_ENS_TREES_COUNT`. -/
def F.HWK_ENS_TREES_COUNT : Fld := ⟨0x6034, 0, 14, 0⟩
/-- `HWK_ENS_TREES_OUTPUTS`. -/
def F.HWK_ENS_TREES_OUTPUTS : Fld := ⟨0x6034, 16, 3, 0⟩
/-- `HWK_EXPAND_ERR`. -/
def F.HWK_EXPAND_ERR : Fld := ⟨0x600C, 4, 4, 0⟩
/-- `HWK_EXPAND_ERR_ENS`. -/
def F.HWK_EXPAND_ERR_ENS : Fld := ⟨0x600C, 22, 2, 0⟩
/-- `HWK_EXPAND_ERR_NODE`. -/
def F.HWK_EXPAND_ERR_NODE : Fld := ⟨0x600C, 24, 8, 0⟩
/-- `HWK_EXPAND_ERR_TREE`. -/
def F.HWK_EXPAND_ERR_TREE : Fld := ⟨0x600C, 8, 14, 0⟩
/-- `HWK_FMAP_ENT_ENT`. -/
def F.HWK_FMAP_ENT_ENT : Fld := ⟨0x6050, 0, 20, 0⟩
/-- `HWK_FMAP_MATCH_AGG`. -/
def F.HWK_FMAP_MATCH_AGG : Fld := ⟨0x6044, 8, 1, 0⟩
/-- `HWK_FMAP_MATCH_STREAM`. -/
def F.HWK_FMAP_MATCH_STREAM : Fld := ⟨0x6044, 16, 16, 0⟩
/-- `HWK_FMAP_MATCH_TYPE`. -/
def F.HWK_FMAP_MATCH_TYPE : Fld := ⟨0x6044, 0, 8, 0⟩
/-- `HWK_FMAP_SRC_ENTSRC`. -/
def F.HWK_FMAP_SRC_ENTSRC : Fld := ⟨0x6048, 24, 1, 0⟩
/-- `HWK_FMAP_SRC_FMT`. -/
def F.HWK_FMAP_SRC_FMT : Fld := ⟨0x6048, 19, 4, 0⟩
/-- `HWK_FMAP_SRC_MODE`. -/
def F.HWK_FMAP_SRC_MODE : Fld := ⟨0x6048, 23, 1, 0⟩
/-- `HWK_FMAP_SRC_OFFSET`. -/
def F.HWK_FMAP_SRC_OFFSET : Fld := ⟨0x6048, 0, 19, 0⟩
/-- `HWK_FMAP_TGT_EN`. -/
def F.HWK_FMAP_TGT_EN : Fld := ⟨0x604C, 10, 1, 0⟩
/-- `HWK_FMAP_TGT_FEATURE`. -/
def F.HWK_FMAP_TGT_FEATURE : Fld := ⟨0x604C, 0, 10, 0⟩
/-- `HWK_LFEAT_CFG_EN`. -/
def F.HWK_LFEAT_CFG_EN : Fld := ⟨0x6090, 23, 1, 0⟩
/-- `HWK_LFEAT_CFG_INDEX`. -/
def F.HWK_LFEAT_CFG_INDEX : Fld := ⟨0x6090, 3, 14, 0⟩
/-- `HWK_LFEAT_CFG_MFIELD`. -/
def F.HWK_LFEAT_CFG_MFIELD : Fld := ⟨0x6090, 17, 2, 0⟩
/-- `HWK_LFEAT_CFG_SRC`. -/
def F.HWK_LFEAT_CFG_SRC : Fld := ⟨0x6090, 0, 3, 0⟩
/-- `HWK_LOCAL_CFG_EMIT`. -/
def F.HWK_LOCAL_CFG_EMIT : Fld := ⟨0x6080, 9, 1, 0⟩
/-- `HWK_LOCAL_CFG_EN`. -/
def F.HWK_LOCAL_CFG_EN : Fld := ⟨0x6080, 8, 1, 0⟩
/-- `HWK_LOCAL_CFG_HOLD`. -/
def F.HWK_LOCAL_CFG_HOLD : Fld := ⟨0x6080, 16, 8, 0⟩
/-- `HWK_LOCAL_CFG_IDX`. -/
def F.HWK_LOCAL_CFG_IDX : Fld := ⟨0x6080, 0, 8, 0⟩
/-- `HWK_LOCAL_DEST_QUEUE`. -/
def F.HWK_LOCAL_DEST_QUEUE : Fld := ⟨0x6088, 0, 12, 0⟩
/-- `HWK_LOCAL_DEST_STREAM`. -/
def F.HWK_LOCAL_DEST_STREAM : Fld := ⟨0x6088, 16, 16, 0⟩
/-- `HWK_LOCAL_TH_TH`. -/
def F.HWK_LOCAL_TH_TH : Fld := ⟨0x6084, 0, 32, 1065353216⟩
/-- `HWK_ROW_HI_KEY_HI`. -/
def F.HWK_ROW_HI_KEY_HI : Fld := ⟨0x60A8, 0, 32, 0⟩
/-- `HWK_ROW_SEL_ENTITY`. -/
def F.HWK_ROW_SEL_ENTITY : Fld := ⟨0x60A0, 0, 16, 0⟩
/-- `HWK_ROW_SEL_FEATURE`. -/
def F.HWK_ROW_SEL_FEATURE : Fld := ⟨0x60A0, 16, 10, 0⟩
/-- `HWK_ROW_STAT_CACHED`. -/
def F.HWK_ROW_STAT_CACHED : Fld := ⟨0x60AC, 1, 1, 0⟩
/-- `HWK_ROW_STAT_VALID`. -/
def F.HWK_ROW_STAT_VALID : Fld := ⟨0x60AC, 0, 1, 0⟩
/-- `HWK_TILE_FENCE_FENCE`. -/
def F.HWK_TILE_FENCE_FENCE : Fld := ⟨0x6010, 0, 16, 0⟩
/-- `INT_CLASS_TLIMIT`. -/
def F.INT_CLASS_TLIMIT : Fld := ⟨0xE014, 0, 8, 3⟩
/-- `INT_CLASS_TWIN`. -/
def F.INT_CLASS_TWIN : Fld := ⟨0xE014, 8, 16, 24⟩
/-- `INT_CTRL_EN`. -/
def F.INT_CTRL_EN : Fld := ⟨0xE000, 0, 1, 0⟩
/-- `INT_CTRL_SHD_EN`. -/
def F.INT_CTRL_SHD_EN : Fld := ⟨0xE000, 2, 1, 0⟩
/-- `INT_CTRL_ST_EN`. -/
def F.INT_CTRL_ST_EN : Fld := ⟨0xE000, 1, 1, 0⟩
/-- `INT_DEST_QUEUE`. -/
def F.INT_DEST_QUEUE : Fld := ⟨0xE034, 0, 16, 0⟩
/-- `INT_DEST_STREAM`. -/
def F.INT_DEST_STREAM : Fld := ⟨0xE034, 16, 16, 0⟩
/-- `INT_ECC_CORR`. -/
def F.INT_ECC_CORR : Fld := ⟨0xE060, 0, 16, 0⟩
/-- `INT_ECC_DRAM`. -/
def F.INT_ECC_DRAM : Fld := ⟨0xE060, 24, 8, 0⟩
/-- `INT_ECC_UNCORR`. -/
def F.INT_ECC_UNCORR : Fld := ⟨0xE060, 16, 8, 0⟩
/-- `INT_LAST_INFO_CLASS`. -/
def F.INT_LAST_INFO_CLASS : Fld := ⟨0xE054, 4, 3, 0⟩
/-- `INT_LAST_INFO_OP`. -/
def F.INT_LAST_INFO_OP : Fld := ⟨0xE054, 8, 8, 0⟩
/-- `INT_LAST_INFO_PART`. -/
def F.INT_LAST_INFO_PART : Fld := ⟨0xE054, 16, 16, 0⟩
/-- `INT_LAST_INFO_UNIT`. -/
def F.INT_LAST_INFO_UNIT : Fld := ⟨0xE054, 0, 4, 0⟩
/-- `INT_PART_SEL_INDEX`. -/
def F.INT_PART_SEL_INDEX : Fld := ⟨0xE020, 4, 13, 0⟩
/-- `INT_PART_SEL_KIND`. -/
def F.INT_PART_SEL_KIND : Fld := ⟨0xE020, 0, 4, 0⟩
/-- `INT_SCL_FENCE_FENCE`. -/
def F.INT_SCL_FENCE_FENCE : Fld := ⟨0xE030, 0, 32, 0⟩
/-- `INT_SENSE_TEMP`. -/
def F.INT_SENSE_TEMP : Fld := ⟨0xE00C, 0, 16, 0⟩
/-- `INT_SENSE_VDD`. -/
def F.INT_SENSE_VDD : Fld := ⟨0xE00C, 16, 16, 0⟩
/-- `INT_SHD_CFG_DWELL`. -/
def F.INT_SHD_CFG_DWELL : Fld := ⟨0xE040, 4, 8, 16⟩
/-- `INT_SHD_CFG_MAXAGE`. -/
def F.INT_SHD_CFG_MAXAGE : Fld := ⟨0xE040, 12, 8, 4⟩
/-- `INT_SHD_CFG_SHIFT`. -/
def F.INT_SHD_CFG_SHIFT : Fld := ⟨0xE040, 0, 4, 10⟩
/-- `INT_SHD_CFG_TMO`. -/
def F.INT_SHD_CFG_TMO : Fld := ⟨0xE040, 20, 12, 1000⟩
/-- `INT_SHD_COUNT_LOST`. -/
def F.INT_SHD_COUNT_LOST : Fld := ⟨0xE048, 24, 8, 0⟩
/-- `INT_SHD_COUNT_MISMATCH`. -/
def F.INT_SHD_COUNT_MISMATCH : Fld := ⟨0xE048, 16, 8, 0⟩
/-- `INT_SHD_COUNT_SAMPLED`. -/
def F.INT_SHD_COUNT_SAMPLED : Fld := ⟨0xE048, 0, 16, 0⟩
/-- `INT_SHD_STAT_TARGET`. -/
def F.INT_SHD_STAT_TARGET : Fld := ⟨0xE044, 0, 13, 0⟩
/-- `INT_STATUS_RANGE`. -/
def F.INT_STATUS_RANGE : Fld := ⟨0xE004, 17, 1, 0⟩
/-- `INT_STATUS_TINDEX`. -/
def F.INT_STATUS_TINDEX : Fld := ⟨0xE004, 4, 13, 0⟩
/-- `INT_STATUS_TKIND`. -/
def F.INT_STATUS_TKIND : Fld := ⟨0xE004, 0, 4, 15⟩
/-- `INT_ST_CFG_PERIOD`. -/
def F.INT_ST_CFG_PERIOD : Fld := ⟨0xE010, 0, 8, 10⟩
/-- `INT_ST_CFG_REPEAT`. -/
def F.INT_ST_CFG_REPEAT : Fld := ⟨0xE010, 24, 4, 3⟩
/-- `INT_ST_CFG_WAIT`. -/
def F.INT_ST_CFG_WAIT : Fld := ⟨0xE010, 8, 16, 1000⟩
/-- `IRQ_MOD_COUNT`. -/
def F.IRQ_MOD_COUNT : Fld := ⟨0xF21C, 10, 7, 8⟩
/-- `IRQ_MOD_HOLD`. -/
def F.IRQ_MOD_HOLD : Fld := ⟨0xF21C, 0, 10, 0⟩
/-- `IRQ_SRC_CFG_BYPASS`. -/
def F.IRQ_SRC_CFG_BYPASS : Fld := ⟨0xF204, 7, 1, 0⟩
/-- `IRQ_SRC_CFG_EN`. -/
def F.IRQ_SRC_CFG_EN : Fld := ⟨0xF204, 0, 1, 0⟩
/-- `IRQ_SRC_CFG_GUARD`. -/
def F.IRQ_SRC_CFG_GUARD : Fld := ⟨0xF204, 8, 1, 1⟩
/-- `IRQ_SRC_CFG_MODE`. -/
def F.IRQ_SRC_CFG_MODE : Fld := ⟨0xF204, 9, 2, 0⟩
/-- `IRQ_SRC_CFG_PRIO`. -/
def F.IRQ_SRC_CFG_PRIO : Fld := ⟨0xF204, 3, 4, 0⟩
/-- `IRQ_SRC_CFG_TGT`. -/
def F.IRQ_SRC_CFG_TGT : Fld := ⟨0xF204, 1, 2, 0⟩
/-- `IRQ_SRC_SEL_SRC`. -/
def F.IRQ_SRC_SEL_SRC : Fld := ⟨0xF200, 0, 9, 0⟩
/-- `IRQ_STORM_GMAX`. -/
def F.IRQ_STORM_GMAX : Fld := ⟨0xF250, 26, 2, 3⟩
/-- `IRQ_STORM_HOLD`. -/
def F.IRQ_STORM_HOLD : Fld := ⟨0xF250, 18, 8, 10⟩
/-- `IRQ_STORM_LAST_SRC`. -/
def F.IRQ_STORM_LAST_SRC : Fld := ⟨0xF254, 0, 9, 0⟩
/-- `IRQ_STORM_LAST_VALID`. -/
def F.IRQ_STORM_LAST_VALID : Fld := ⟨0xF254, 31, 1, 0⟩
/-- `IRQ_STORM_LIMIT`. -/
def F.IRQ_STORM_LIMIT : Fld := ⟨0xF250, 10, 8, 32⟩
/-- `IRQ_STORM_WIN`. -/
def F.IRQ_STORM_WIN : Fld := ⟨0xF250, 0, 10, 100⟩
/-- `KL_DEGRADE_TH`. -/
def F.KL_DEGRADE_TH : Fld := ⟨0x8014, 0, 16, 64⟩
/-- `KL_DEGRADE_WIN`. -/
def F.KL_DEGRADE_WIN : Fld := ⟨0x8014, 16, 16, 1000⟩
/-- `KL_DUPLDI_LDI`. -/
def F.KL_DUPLDI_LDI : Fld := ⟨0x8404, 0, 20, 0⟩
/-- `KL_DUPLDI_PORT`. -/
def F.KL_DUPLDI_PORT : Fld := ⟨0x8404, 20, 8, 0⟩
/-- `KL_DUPLDI_VALID`. -/
def F.KL_DUPLDI_VALID : Fld := ⟨0x8404, 31, 1, 0⟩
/-- `KL_LEARN_WINDOW_WINDOW`. -/
def F.KL_LEARN_WINDOW_WINDOW : Fld := ⟨0x8400, 0, 16, 64⟩
/-- `KL_PAUSE_CFG_HIGH`. -/
def F.KL_PAUSE_CFG_HIGH : Fld := ⟨0x801C, 0, 12, 1024⟩
/-- `KL_PAUSE_CFG_LOW`. -/
def F.KL_PAUSE_CFG_LOW : Fld := ⟨0x801C, 12, 12, 512⟩
/-- `KL_PAUSE_CFG_TIME`. -/
def F.KL_PAUSE_CFG_TIME : Fld := ⟨0x801C, 24, 8, 16⟩
/-- `KL_PORT_CFG_EN`. -/
def F.KL_PORT_CFG_EN : Fld := ⟨0x8004, 0, 1, 0⟩
/-- `KL_PORT_CFG_MAXVER`. -/
def F.KL_PORT_CFG_MAXVER : Fld := ⟨0x8004, 3, 2, 2⟩
/-- `KL_PORT_CFG_MAXW`. -/
def F.KL_PORT_CFG_MAXW : Fld := ⟨0x8004, 1, 2, 2⟩
/-- `KL_PORT_CFG_MINVER`. -/
def F.KL_PORT_CFG_MINVER : Fld := ⟨0x8004, 5, 2, 0⟩
/-- `KL_PORT_ERR_CRC`. -/
def F.KL_PORT_ERR_CRC : Fld := ⟨0x800C, 0, 16, 0⟩
/-- `KL_PORT_ERR_REPLAY`. -/
def F.KL_PORT_ERR_REPLAY : Fld := ⟨0x800C, 16, 16, 0⟩
/-- `KL_PORT_SEL_PORT`. -/
def F.KL_PORT_SEL_PORT : Fld := ⟨0x8000, 0, 8, 0⟩
/-- `KL_SETUP_STATUS_BUDGET_LINK`. -/
def F.KL_SETUP_STATUS_BUDGET_LINK : Fld := ⟨0x8408, 8, 8, 0⟩
/-- `KL_SETUP_STATUS_MISSING`. -/
def F.KL_SETUP_STATUS_MISSING : Fld := ⟨0x8408, 16, 16, 0⟩
/-- `KL_SETUP_STATUS_OVER_BUDGET`. -/
def F.KL_SETUP_STATUS_OVER_BUDGET : Fld := ⟨0x8408, 4, 1, 0⟩
/-- `KL_SETUP_STATUS_SHARED_DOMAIN`. -/
def F.KL_SETUP_STATUS_SHARED_DOMAIN : Fld := ⟨0x8408, 3, 1, 0⟩
/-- `KL_SETUP_STATUS_STATE`. -/
def F.KL_SETUP_STATUS_STATE : Fld := ⟨0x8408, 0, 2, 0⟩
/-- `KL_SETUP_STATUS_WARM`. -/
def F.KL_SETUP_STATUS_WARM : Fld := ⟨0x8408, 2, 1, 0⟩
/-- `KL_TIMERS_ACK_INT`. -/
def F.KL_TIMERS_ACK_INT : Fld := ⟨0x8018, 0, 8, 8⟩
/-- `KL_TIMERS_DOWN`. -/
def F.KL_TIMERS_DOWN : Fld := ⟨0x8018, 16, 8, 10⟩
/-- `KL_TIMERS_REPLAY`. -/
def F.KL_TIMERS_REPLAY : Fld := ⟨0x8018, 8, 8, 4⟩
/-- `MON_CLASS_CFG_CCOST`. -/
def F.MON_CLASS_CFG_CCOST : Fld := ⟨0x9014, 1, 16, 1⟩
/-- `MON_CLASS_CFG_MODE`. -/
def F.MON_CLASS_CFG_MODE : Fld := ⟨0x9014, 0, 1, 0⟩
/-- `MON_CLASS_SEL_CLASS`. -/
def F.MON_CLASS_SEL_CLASS : Fld := ⟨0x9010, 0, 3, 0⟩
/-- `MON_CTRL_EN`. -/
def F.MON_CTRL_EN : Fld := ⟨0x9000, 0, 1, 0⟩
/-- `MON_GATE_IDX_ALL`. -/
def F.MON_GATE_IDX_ALL : Fld := ⟨0x9024, 8, 1, 0⟩
/-- `MON_GATE_IDX_IDX`. -/
def F.MON_GATE_IDX_IDX : Fld := ⟨0x9024, 0, 8, 0⟩
/-- `MON_GATE_LEN`. -/
def F.MON_GATE_LEN : Fld := ⟨0x9020, 16, 16, 0⟩
/-- `MON_GATE_OFF`. -/
def F.MON_GATE_OFF : Fld := ⟨0x9020, 0, 16, 0⟩
/-- `MON_Q_CFG_CLASS`. -/
def F.MON_Q_CFG_CLASS : Fld := ⟨0x9034, 0, 3, 0⟩
/-- `MON_Q_CFG_QCOST`. -/
def F.MON_Q_CFG_QCOST : Fld := ⟨0x9034, 3, 16, 1⟩
/-- `MON_SHAPE_ACT_BURST`. -/
def F.MON_SHAPE_ACT_BURST : Fld := ⟨0x9028, 16, 16, 16⟩
/-- `MON_SHAPE_ACT_RATE`. -/
def F.MON_SHAPE_ACT_RATE : Fld := ⟨0x9028, 0, 16, 0⟩
/-- `MON_SHAPE_BURST`. -/
def F.MON_SHAPE_BURST : Fld := ⟨0x9018, 16, 16, 16⟩
/-- `MON_SHAPE_RATE`. -/
def F.MON_SHAPE_RATE : Fld := ⟨0x9018, 0, 16, 0⟩
/-- `PRB_CNT_HI_CNT_HI`. -/
def F.PRB_CNT_HI_CNT_HI : Fld := ⟨0x2028, 0, 16, 0⟩
/-- `PRB_CNT_SEL_INDEX`. -/
def F.PRB_CNT_SEL_INDEX : Fld := ⟨0x2020, 0, 14, 0⟩
/-- `PRB_CNT_X0_HIGH_LO`. -/
def F.PRB_CNT_X0_HIGH_LO : Fld := ⟨0x202C, 0, 32, 0⟩
/-- `PRB_CNT_X1_HIGH_HI`. -/
def F.PRB_CNT_X1_HIGH_HI : Fld := ⟨0x2030, 0, 16, 0⟩
/-- `PRB_CTRL_AUTOFENCE`. -/
def F.PRB_CTRL_AUTOFENCE : Fld := ⟨0x2000, 1, 1, 0⟩
/-- `PRB_CTRL_EN`. -/
def F.PRB_CTRL_EN : Fld := ⟨0x2000, 0, 1, 0⟩
/-- `PRB_GUARD_FAST`. -/
def F.PRB_GUARD_FAST : Fld := ⟨0x2010, 16, 6, 16⟩
/-- `PRB_GUARD_STUCK`. -/
def F.PRB_GUARD_STUCK : Fld := ⟨0x2010, 0, 16, 1024⟩
/-- `PRB_LANE_CFG_FAST`. -/
def F.PRB_LANE_CFG_FAST : Fld := ⟨0x2044, 6, 1, 0⟩
/-- `PRB_LANE_CFG_FENCE`. -/
def F.PRB_LANE_CFG_FENCE : Fld := ⟨0x2044, 4, 1, 0⟩
/-- `PRB_LANE_CFG_MODE`. -/
def F.PRB_LANE_CFG_MODE : Fld := ⟨0x2044, 0, 2, 3⟩
/-- `PRB_LANE_CFG_QUIET`. -/
def F.PRB_LANE_CFG_QUIET : Fld := ⟨0x2044, 7, 1, 0⟩
/-- `PRB_LANE_CFG_STUCK`. -/
def F.PRB_LANE_CFG_STUCK : Fld := ⟨0x2044, 5, 1, 0⟩
/-- `PRB_LANE_CFG_WATCH_QUIET`. -/
def F.PRB_LANE_CFG_WATCH_QUIET : Fld := ⟨0x2044, 2, 1, 0⟩
/-- `PRB_LANE_CFG_WATCH_STUCK`. -/
def F.PRB_LANE_CFG_WATCH_STUCK : Fld := ⟨0x2044, 3, 1, 0⟩
/-- `PRB_MAP_LANE`. -/
def F.PRB_MAP_LANE : Fld := ⟨0x2034, 0, 11, 0⟩
/-- `PRB_MAP_SRC`. -/
def F.PRB_MAP_SRC : Fld := ⟨0x2034, 11, 2, 0⟩
/-- `PRB_MON_BASE_HI_BASE_HI`. -/
def F.PRB_MON_BASE_HI_BASE_HI : Fld := ⟨0x205C, 0, 8, 0⟩
/-- `PRB_MON_BASE_LO_BASE_LO`. -/
def F.PRB_MON_BASE_LO_BASE_LO : Fld := ⟨0x2058, 0, 32, 0⟩
/-- `PRB_MON_CFG_CUMUL`. -/
def F.PRB_MON_CFG_CUMUL : Fld := ⟨0x2054, 5, 1, 0⟩
/-- `PRB_MON_CFG_EN`. -/
def F.PRB_MON_CFG_EN : Fld := ⟨0x2054, 0, 1, 0⟩
/-- `PRB_MON_CFG_LOG`. -/
def F.PRB_MON_CFG_LOG : Fld := ⟨0x2054, 4, 1, 0⟩
/-- `PRB_MON_CFG_SHIFT`. -/
def F.PRB_MON_CFG_SHIFT : Fld := ⟨0x2054, 6, 6, 0⟩
/-- `PRB_MON_CFG_SIGNED`. -/
def F.PRB_MON_CFG_SIGNED : Fld := ⟨0x2054, 3, 1, 0⟩
/-- `PRB_MON_CFG_SOURCE`. -/
def F.PRB_MON_CFG_SOURCE : Fld := ⟨0x2054, 14, 14, 0⟩
/-- `PRB_MON_CFG_SRC`. -/
def F.PRB_MON_CFG_SRC : Fld := ⟨0x2054, 1, 2, 0⟩
/-- `PRB_MSG_STATS_BAD`. -/
def F.PRB_MSG_STATS_BAD : Fld := ⟨0x2014, 0, 16, 0⟩
/-- `PRB_MSG_STATS_STALL`. -/
def F.PRB_MSG_STATS_STALL : Fld := ⟨0x2014, 16, 16, 0⟩
/-- `PRB_SNAP_CFG_BANKS`. -/
def F.PRB_SNAP_CFG_BANKS : Fld := ⟨0x200C, 0, 8, 255⟩
/-- `PRB_SNAP_CFG_DELTA`. -/
def F.PRB_SNAP_CFG_DELTA : Fld := ⟨0x200C, 8, 8, 255⟩
/-- `PRB_SNAP_CFG_MGROUPS`. -/
def F.PRB_SNAP_CFG_MGROUPS : Fld := ⟨0x200C, 16, 16, 0⟩
/-- `PWR_DOM_TGT_TGT`. -/
def F.PWR_DOM_TGT_TGT : Fld := ⟨0x10008, 0, 24, 11184810⟩
/-- `PWR_RET_ADDR_WORD`. -/
def F.PWR_RET_ADDR_WORD : Fld := ⟨0x10300, 2, 14, 0⟩
/-- `PWR_SLEEP_STAT_DOMAIN`. -/
def F.PWR_SLEEP_STAT_DOMAIN : Fld := ⟨0x10010, 0, 4, 0⟩
/-- `PWR_SLEEP_STAT_REASON`. -/
def F.PWR_SLEEP_STAT_REASON : Fld := ⟨0x10010, 4, 4, 0⟩
/-- `PWR_SLEEP_STAT_STOPPED`. -/
def F.PWR_SLEEP_STAT_STOPPED : Fld := ⟨0x10010, 8, 12, 0⟩
/-- `PWR_SLEEP_STAT_VALID`. -/
def F.PWR_SLEEP_STAT_VALID : Fld := ⟨0x10010, 31, 1, 0⟩
/-- `PWR_SLEEP_STAT_WOKEN`. -/
def F.PWR_SLEEP_STAT_WOKEN : Fld := ⟨0x10010, 20, 1, 0⟩
/-- `PWR_SLEEP_WAIT`. -/
def F.PWR_SLEEP_WAIT : Fld := ⟨0x1000C, 8, 8, 16⟩
/-- `PWR_STATUS_ASLEEP`. -/
def F.PWR_STATUS_ASLEEP : Fld := ⟨0x10000, 25, 1, 0⟩
/-- `PWR_STATUS_CHRYS`. -/
def F.PWR_STATUS_CHRYS : Fld := ⟨0x10000, 27, 1, 0⟩
/-- `PWR_STATUS_PF`. -/
def F.PWR_STATUS_PF : Fld := ⟨0x10000, 26, 1, 0⟩
/-- `PWR_STATUS_SEQ`. -/
def F.PWR_STATUS_SEQ : Fld := ⟨0x10000, 24, 1, 0⟩
/-- `PWR_WAKE_SRC_EN`. -/
def F.PWR_WAKE_SRC_EN : Fld := ⟨0x10800, 10, 1, 0⟩
/-- `PWR_WAKE_SRC_SRC`. -/
def F.PWR_WAKE_SRC_SRC : Fld := ⟨0x10800, 0, 10, 0⟩
/-- `PWR_WAKE_TIMER_US`. -/
def F.PWR_WAKE_TIMER_US : Fld := ⟨0x10884, 0, 32, 0⟩
/-- `QUE_ACC_CFG_COALESCE`. -/
def F.QUE_ACC_CFG_COALESCE : Fld := ⟨0xA050, 0, 8, 20⟩
/-- `QUE_ACC_CFG_DRAM_OK`. -/
def F.QUE_ACC_CFG_DRAM_OK : Fld := ⟨0xA050, 8, 1, 1⟩
/-- `QUE_ACC_STAT_DUP`. -/
def F.QUE_ACC_STAT_DUP : Fld := ⟨0xA054, 0, 10, 0⟩
/-- `QUE_ACC_STAT_GAP`. -/
def F.QUE_ACC_STAT_GAP : Fld := ⟨0xA054, 10, 10, 0⟩
/-- `QUE_ACC_STAT_HDRBAD`. -/
def F.QUE_ACC_STAT_HDRBAD : Fld := ⟨0xA054, 20, 10, 0⟩
/-- `QUE_CFG_CONS`. -/
def F.QUE_CFG_CONS : Fld := ⟨0xA014, 1, 2, 0⟩
/-- `QUE_CFG_EN`. -/
def F.QUE_CFG_EN : Fld := ⟨0xA014, 0, 1, 0⟩
/-- `QUE_CFG_SPILL`. -/
def F.QUE_CFG_SPILL : Fld := ⟨0xA014, 5, 1, 0⟩
/-- `QUE_CFG_FULL`. -/
def F.QUE_CFG_FULL : Fld := ⟨0xA014, 3, 2, 1⟩
/-- `QUE_CTRL_EN`. -/
def F.QUE_CTRL_EN : Fld := ⟨0xA000, 0, 1, 0⟩
/-- `QUE_DROPS_FLUSHED`. -/
def F.QUE_DROPS_FLUSHED : Fld := ⟨0xA024, 16, 16, 0⟩
/-- `QUE_DROPS_ITEMS`. -/
def F.QUE_DROPS_ITEMS : Fld := ⟨0xA024, 0, 16, 0⟩
/-- `QUE_EVENTS_DUAL_FAULT`. -/
def F.QUE_EVENTS_DUAL_FAULT : Fld := ⟨0xA008, 6, 1, 0⟩
/-- `QUE_HOLD_CFG_RESV`. -/
def F.QUE_HOLD_CFG_RESV : Fld := ⟨0xA040, 16, 8, 16⟩
/-- `QUE_HOLD_CFG_RSEV`. -/
def F.QUE_HOLD_CFG_RSEV : Fld := ⟨0xA040, 24, 3, 6⟩
/-- `QUE_HOLD_CFG_RTO`. -/
def F.QUE_HOLD_CFG_RTO : Fld := ⟨0xA040, 0, 16, 1000⟩
/-- `QUE_HOLD_STAT_RETX`. -/
def F.QUE_HOLD_STAT_RETX : Fld := ⟨0xA044, 16, 16, 0⟩
/-- `QUE_INJ_AT_HI_AT`. -/
def F.QUE_INJ_AT_HI_AT : Fld := ⟨0xA08C, 0, 32, 0⟩
/-- `QUE_INJ_AT_LO_AT`. -/
def F.QUE_INJ_AT_LO_AT : Fld := ⟨0xA088, 0, 32, 0⟩
/-- `QUE_INJ_CFG_KIND`. -/
def F.QUE_INJ_CFG_KIND : Fld := ⟨0xA084, 0, 3, 0⟩
/-- `QUE_INJ_CFG_PERIOD`. -/
def F.QUE_INJ_CFG_PERIOD : Fld := ⟨0xA084, 6, 6, 0⟩
/-- `QUE_INJ_CFG_TARGET`. -/
def F.QUE_INJ_CFG_TARGET : Fld := ⟨0xA084, 12, 20, 0⟩
/-- `QUE_INJ_CFG_TRIG`. -/
def F.QUE_INJ_CFG_TRIG : Fld := ⟨0xA084, 3, 1, 0⟩
/-- `QUE_INJ_SEL_SLOT`. -/
def F.QUE_INJ_SEL_SLOT : Fld := ⟨0xA080, 0, 3, 0⟩
/-- `QUE_QUAR_COUNT`. -/
def F.QUE_QUAR_COUNT : Fld := ⟨0xA060, 16, 16, 0⟩
/-- `QUE_QUAR_QUEUE`. -/
def F.QUE_QUAR_QUEUE : Fld := ⟨0xA060, 0, 16, 0⟩
/-- `QUE_RDEST_QUEUE`. -/
def F.QUE_RDEST_QUEUE : Fld := ⟨0xA100, 0, 16, 0⟩
/-- `QUE_RDEST_STREAM`. -/
def F.QUE_RDEST_STREAM : Fld := ⟨0xA100, 16, 16, 0⟩
/-- `QUE_REC_CFG_TAKEOVER`. -/
def F.QUE_REC_CFG_TAKEOVER : Fld := ⟨0xA070, 0, 16, 100⟩
/-- `QUE_SEL_QUEUE`. -/
def F.QUE_SEL_QUEUE : Fld := ⟨0xA010, 0, 16, 0⟩
/-- `QUE_SIZE_KIB`. -/
def F.QUE_SIZE_KIB : Fld := ⟨0xA018, 0, 16, 0⟩
/-- `QUE_STATUS_SYNC`. -/
def F.QUE_STATUS_SYNC : Fld := ⟨0xA004, 16, 1, 0⟩
/-- `ROLE_STATUS_BUILD`. -/
def F.ROLE_STATUS_BUILD : Fld := ⟨0x4, 2, 1, 0⟩
/-- `ROLE_STATUS_MISMATCH`. -/
def F.ROLE_STATUS_MISMATCH : Fld := ⟨0x4, 6, 1, 0⟩
/-- `ROLE_STATUS_ROLE`. -/
def F.ROLE_STATUS_ROLE : Fld := ⟨0x4, 3, 2, 3⟩
/-- `ROLE_STATUS_STRAP`. -/
def F.ROLE_STATUS_STRAP : Fld := ⟨0x4, 0, 2, 0⟩
/-- `ROLE_STATUS_STRAP_BAD`. -/
def F.ROLE_STATUS_STRAP_BAD : Fld := ⟨0x4, 5, 1, 0⟩
/-- `RST_CAUSE_LAST`. -/
def F.RST_CAUSE_LAST : Fld := ⟨0x10100, 8, 3, 1⟩
/-- `RST_GAP_CYCLES`. -/
def F.RST_GAP_CYCLES : Fld := ⟨0x10114, 0, 8, 16⟩
/-- `RST_START_GOOD`. -/
def F.RST_START_GOOD : Fld := ⟨0x1010C, 0, 8, 60⟩
/-- `RST_START_LIMIT`. -/
def F.RST_START_LIMIT : Fld := ⟨0x1010C, 8, 8, 30⟩
/-- `RST_STAT_BOOTS`. -/
def F.RST_STAT_BOOTS : Fld := ⟨0x10110, 16, 16, 0⟩
/-- `RST_STAT_CCAUSE`. -/
def F.RST_STAT_CCAUSE : Fld := ⟨0x10110, 4, 2, 0⟩
/-- `RST_STAT_CHRYS`. -/
def F.RST_STAT_CHRYS : Fld := ⟨0x10110, 3, 1, 0⟩
/-- `RST_STAT_FAILS`. -/
def F.RST_STAT_FAILS : Fld := ⟨0x10110, 0, 2, 0⟩
/-- `RST_STAT_GOOD`. -/
def F.RST_STAT_GOOD : Fld := ⟨0x10110, 2, 1, 0⟩
/-- `RST_STAT_LAST`. -/
def F.RST_STAT_LAST : Fld := ⟨0x10110, 8, 4, 0⟩
/-- `RST_STAT_UREF`. -/
def F.RST_STAT_UREF : Fld := ⟨0x10110, 6, 1, 0⟩
/-- `SCL_CH_CFG_REPORT`. -/
def F.SCL_CH_CFG_REPORT : Fld := ⟨0x3800, 0, 1, 0⟩
/-- `SCL_CH_CFG_SLEW`. -/
def F.SCL_CH_CFG_SLEW : Fld := ⟨0x3800, 1, 1, 0⟩
/-- `SCL_CH_CFG_WIRE`. -/
def F.SCL_CH_CFG_WIRE : Fld := ⟨0x3800, 2, 1, 0⟩
/-- `SCL_CTRL_LEN`. -/
def F.SCL_CTRL_LEN : Fld := ⟨0x3000, 0, 9, 0⟩
/-- `SCL_CTRL_WIRE_EN`. -/
def F.SCL_CTRL_WIRE_EN : Fld := ⟨0x3000, 9, 1, 0⟩
/-- `SCL_FAULT_AMBIG`. -/
def F.SCL_FAULT_AMBIG : Fld := ⟨0x3100, 17, 1, 0⟩
/-- `SCL_FAULT_OPEN`. -/
def F.SCL_FAULT_OPEN : Fld := ⟨0x3100, 0, 8, 0⟩
/-- `SCL_FAULT_RETURN`. -/
def F.SCL_FAULT_RETURN : Fld := ⟨0x3100, 16, 1, 0⟩
/-- `SCL_FAULT_SHORT`. -/
def F.SCL_FAULT_SHORT : Fld := ⟨0x3100, 8, 8, 0⟩
/-- `SCL_GLITCH_HOLD`. -/
def F.SCL_GLITCH_HOLD : Fld := ⟨0x3018, 16, 8, 10⟩
/-- `SCL_GLITCH_SLEW`. -/
def F.SCL_GLITCH_SLEW : Fld := ⟨0x3018, 0, 16, 1024⟩
/-- `SCL_STATUS_CANDIDATE`. -/
def F.SCL_STATUS_CANDIDATE : Fld := ⟨0x3004, 6, 1, 0⟩
/-- `SCL_STATUS_GROUP`. -/
def F.SCL_STATUS_GROUP : Fld := ⟨0x3004, 0, 5, 0⟩
/-- `SCL_STATUS_TESTING`. -/
def F.SCL_STATUS_TESTING : Fld := ⟨0x3004, 5, 1, 0⟩
/-- `SCL_WIRE_LIM_HI`. -/
def F.SCL_WIRE_LIM_HI : Fld := ⟨0x3014, 16, 16, 4096⟩
/-- `SCL_WIRE_LIM_LO`. -/
def F.SCL_WIRE_LIM_LO : Fld := ⟨0x3014, 0, 16, 16⟩
/-- `SCL_WIRE_PERIOD`. -/
def F.SCL_WIRE_PERIOD : Fld := ⟨0x3010, 0, 8, 100⟩
/-- `SCL_WIRE_SETTLE`. -/
def F.SCL_WIRE_SETTLE : Fld := ⟨0x3010, 8, 8, 50⟩
/-- `SEC_BANK_PART_P`. -/
def F.SEC_BANK_PART_P : Fld := ⟨0x11068, 0, 24, 16434824⟩
/-- `SEC_BASE_PART`. -/
def F.SEC_BASE_PART : Fld := ⟨0x11060, 8, 8, 255⟩
/-- `SEC_BASE_RIGHTS`. -/
def F.SEC_BASE_RIGHTS : Fld := ⟨0x11060, 0, 4, 0⟩
/-- `SEC_KEY_SEL_SLOT`. -/
def F.SEC_KEY_SEL_SLOT : Fld := ⟨0x11070, 0, 3, 0⟩
/-- `SELF_EPOCH_EPOCH`. -/
def F.SELF_EPOCH_EPOCH : Fld := ⟨0x10, 0, 16, 0⟩
/-- `SELF_LDI_BOUND`. -/
def F.SELF_LDI_BOUND : Fld := ⟨0x8, 20, 1, 0⟩
/-- `SELF_LDI_INDEX`. -/
def F.SELF_LDI_INDEX : Fld := ⟨0x8, 0, 20, 0⟩
/-- `SELF_PLOC_PLOC`. -/
def F.SELF_PLOC_PLOC : Fld := ⟨0xC, 0, 32, 4294967295⟩
/-- `SLK_CFG_BLOCK`. -/
def F.SLK_CFG_BLOCK : Fld := ⟨0xB00C, 0, 7, 16⟩
/-- `SLK_CFG_DEPTH`. -/
def F.SLK_CFG_DEPTH : Fld := ⟨0xB00C, 8, 4, 8⟩
/-- `SLK_CFG_MIN`. -/
def F.SLK_CFG_MIN : Fld := ⟨0xB00C, 16, 16, 256⟩
/-- `SLK_CTRL_EN`. -/
def F.SLK_CTRL_EN : Fld := ⟨0xB000, 0, 1, 0⟩
/-- `SLK_ENG_FENCE_FENCE`. -/
def F.SLK_ENG_FENCE_FENCE : Fld := ⟨0xB010, 0, 4, 0⟩
/-- `SLK_RULE_CFG_EN`. -/
def F.SLK_RULE_CFG_EN : Fld := ⟨0xB024, 16, 1, 0⟩
/-- `SLK_RULE_CFG_QUEUE`. -/
def F.SLK_RULE_CFG_QUEUE : Fld := ⟨0xB024, 0, 16, 0⟩
/-- `SLK_RULE_SEL_RULE`. -/
def F.SLK_RULE_SEL_RULE : Fld := ⟨0xB020, 0, 6, 0⟩
/-- `SLK_STATS_FAIL`. -/
def F.SLK_STATS_FAIL : Fld := ⟨0xB014, 16, 16, 0⟩
/-- `SLK_STATS_NOTSMALL`. -/
def F.SLK_STATS_NOTSMALL : Fld := ⟨0xB014, 0, 16, 0⟩
/-- `SLK_TRC_CONS_CONSUMED`. -/
def F.SLK_TRC_CONS_CONSUMED : Fld := ⟨0xB040, 0, 32, 0⟩
/-- `SLK_TRC_PROD_PRODUCED`. -/
def F.SLK_TRC_PROD_PRODUCED : Fld := ⟨0xB044, 0, 32, 0⟩
/-- `STW_CTRL_LOG_EMIT`. -/
def F.STW_CTRL_LOG_EMIT : Fld := ⟨0xF000, 1, 1, 0⟩
/-- `STW_CTRL_SHED_EN`. -/
def F.STW_CTRL_SHED_EN : Fld := ⟨0xF000, 0, 1, 1⟩
/-- `STW_HIST_WINDOWS`. -/
def F.STW_HIST_WINDOWS : Fld := ⟨0xF018, 0, 32, 0⟩
/-- `STW_LOG_SEL_SEQNO`. -/
def F.STW_LOG_SEL_SEQNO : Fld := ⟨0xF038, 0, 32, 0⟩
/-- `STW_LOG_STAT_MISSED`. -/
def F.STW_LOG_STAT_MISSED : Fld := ⟨0xF030, 16, 16, 0⟩
/-- `STW_LOG_STAT_OVERWRITTEN`. -/
def F.STW_LOG_STAT_OVERWRITTEN : Fld := ⟨0xF030, 0, 16, 0⟩
/-- `STW_POSTS_LOST`. -/
def F.STW_POSTS_LOST : Fld := ⟨0xF01C, 0, 16, 0⟩
/-- `STW_SHED_HIGH`. -/
def F.STW_SHED_HIGH : Fld := ⟨0xF00C, 0, 7, 90⟩
/-- `STW_SHED_LOW`. -/
def F.STW_SHED_LOW : Fld := ⟨0xF00C, 7, 7, 60⟩
/-- `STW_SHED_SPAN`. -/
def F.STW_SHED_SPAN : Fld := ⟨0xF00C, 14, 8, 10⟩
/-- `STW_STATUS_LEVEL`. -/
def F.STW_STATUS_LEVEL : Fld := ⟨0xF004, 16, 2, 0⟩
/-- `STW_STATUS_LOAD`. -/
def F.STW_STATUS_LOAD : Fld := ⟨0xF004, 18, 7, 0⟩
/-- `STW_VSB_CFG_BMAX`. -/
def F.STW_VSB_CFG_BMAX : Fld := ⟨0xF080, 4, 8, 100⟩
/-- `STW_VSB_CFG_EN`. -/
def F.STW_VSB_CFG_EN : Fld := ⟨0xF080, 0, 1, 1⟩
/-- `STW_VSB_CFG_RETRY`. -/
def F.STW_VSB_CFG_RETRY : Fld := ⟨0xF080, 1, 3, 3⟩
/-- `STW_VSB_STATUS_ADDR`. -/
def F.STW_VSB_STATUS_ADDR : Fld := ⟨0xF084, 0, 6, 0⟩
/-- `STW_VSB_STATUS_SOLO`. -/
def F.STW_VSB_STATUS_SOLO : Fld := ⟨0xF084, 6, 1, 0⟩
/-- `STW_VSB_STAT_CRC`. -/
def F.STW_VSB_STAT_CRC : Fld := ⟨0xF088, 16, 8, 0⟩
/-- `STW_VSB_STAT_FRAMES`. -/
def F.STW_VSB_STAT_FRAMES : Fld := ⟨0xF088, 0, 16, 0⟩
/-- `STW_VSB_STAT_NOACK`. -/
def F.STW_VSB_STAT_NOACK : Fld := ⟨0xF088, 24, 8, 0⟩
/-- `STW_WDOG_TIMEOUT`. -/
def F.STW_WDOG_TIMEOUT : Fld := ⟨0xF010, 0, 16, 500⟩
/-- `SWM_COLL_CFG_EN`. -/
def F.SWM_COLL_CFG_EN : Fld := ⟨0x5204, 0, 1, 0⟩
/-- `SWM_COLL_CFG_FMT_IN`. -/
def F.SWM_COLL_CFG_FMT_IN : Fld := ⟨0x5204, 1, 4, 0⟩
/-- `SWM_COLL_CFG_FMT_OUT`. -/
def F.SWM_COLL_CFG_FMT_OUT : Fld := ⟨0x5204, 5, 4, 0⟩
/-- `SWM_COLL_CFG_GROUP`. -/
def F.SWM_COLL_CFG_GROUP : Fld := ⟨0x5204, 19, 6, 0⟩
/-- `SWM_COLL_CFG_IDX`. -/
def F.SWM_COLL_CFG_IDX : Fld := ⟨0x5204, 9, 8, 0⟩
/-- `SWM_COLL_CFG_RUN`. -/
def F.SWM_COLL_CFG_RUN : Fld := ⟨0x5204, 18, 1, 0⟩
/-- `SWM_COLL_CFG_SW`. -/
def F.SWM_COLL_CFG_SW : Fld := ⟨0x5204, 17, 1, 0⟩
/-- `SWM_COLL_DEST_QUEUE`. -/
def F.SWM_COLL_DEST_QUEUE : Fld := ⟨0x5210, 0, 16, 0⟩
/-- `SWM_COLL_DEST_STREAM`. -/
def F.SWM_COLL_DEST_STREAM : Fld := ⟨0x5210, 16, 16, 0⟩
/-- `SWM_COLL_PROG_PROG`. -/
def F.SWM_COLL_PROG_PROG : Fld := ⟨0x5214, 0, 12, 0⟩
/-- `SWM_COLL_SIZE_ELEMS`. -/
def F.SWM_COLL_SIZE_ELEMS : Fld := ⟨0x5208, 0, 14, 1⟩
/-- `SWM_COLL_SIZE_MAXMISS`. -/
def F.SWM_COLL_SIZE_MAXMISS : Fld := ⟨0x5208, 16, 16, 0⟩
/-- `SWM_COLL_SRC_BASE`. -/
def F.SWM_COLL_SRC_BASE : Fld := ⟨0x5218, 3, 14, 0⟩
/-- `SWM_COLL_SRC_MFIELD`. -/
def F.SWM_COLL_SRC_MFIELD : Fld := ⟨0x5218, 17, 2, 0⟩
/-- `SWM_COLL_SRC_SRC`. -/
def F.SWM_COLL_SRC_SRC : Fld := ⟨0x5218, 0, 3, 0⟩
/-- `SWM_COLL_TIME_DEADLINE`. -/
def F.SWM_COLL_TIME_DEADLINE : Fld := ⟨0x520C, 0, 24, 1000⟩
/-- `SWM_CTRL_EN`. -/
def F.SWM_CTRL_EN : Fld := ⟨0x5000, 0, 1, 0⟩
/-- `SWM_DVAL_VALUE`. -/
def F.SWM_DVAL_VALUE : Fld := ⟨0x5400, 0, 32, 0⟩
/-- `SWM_END_GRACE_GRACE`. -/
def F.SWM_END_GRACE_GRACE : Fld := ⟨0x5048, 0, 16, 100⟩
/-- `SWM_LANE_FENCE_FENCE`. -/
def F.SWM_LANE_FENCE_FENCE : Fld := ⟨0x5100, 0, 32, 0⟩
/-- `SWM_LAST_END_HI_CODE`. -/
def F.SWM_LAST_END_HI_CODE : Fld := ⟨0x5018, 0, 4, 0⟩
/-- `SWM_LAST_END_HI_VALID`. -/
def F.SWM_LAST_END_HI_VALID : Fld := ⟨0x5018, 31, 1, 0⟩
/-- `SWM_LAST_END_MID_TAG_HI`. -/
def F.SWM_LAST_END_MID_TAG_HI : Fld := ⟨0x5014, 0, 29, 0⟩
/-- `SWM_PROG_DATA_WORD`. -/
def F.SWM_PROG_DATA_WORD : Fld := ⟨0x5304, 0, 32, 0⟩
/-- `SWM_STAGE_PEAK`. -/
def F.SWM_STAGE_PEAK : Fld := ⟨0x504C, 16, 16, 0⟩
/-- `SWM_STAGE_USED`. -/
def F.SWM_STAGE_USED : Fld := ⟨0x504C, 0, 16, 0⟩
/-- `SWM_TIER_OFFSET_OFFSET`. -/
def F.SWM_TIER_OFFSET_OFFSET : Fld := ⟨0x5044, 0, 24, 0⟩
/-- `SWM_TXN_LIMIT_LIMIT`. -/
def F.SWM_TXN_LIMIT_LIMIT : Fld := ⟨0x5040, 0, 15, 16384⟩
/-- `SWM_TXN_LIMIT_SWRES`. -/
def F.SWM_TXN_LIMIT_SWRES : Fld := ⟨0x5040, 16, 15, 64⟩
/-- `SYN_FAULT_INDEX`. -/
def F.SYN_FAULT_INDEX : Fld := ⟨0xF108, 0, 12, 0⟩
/-- `SYN_FAULT_KIND`. -/
def F.SYN_FAULT_KIND : Fld := ⟨0xF108, 12, 1, 0⟩
/-- `SYN_FAULT_VALID`. -/
def F.SYN_FAULT_VALID : Fld := ⟨0xF108, 31, 1, 0⟩
/-- `TARIFF_AT_LO_AT_LO`. -/
def F.TARIFF_AT_LO_AT_LO : Fld := ⟨0x7214, 0, 32, 0⟩
/-- `TARIFF_PRICE_PRICE`. -/
def F.TARIFF_PRICE_PRICE : Fld := ⟨0x721C, 0, 32, 0⟩
/-- `TARIFF_SEL_ENTRY`. -/
def F.TARIFF_SEL_ENTRY : Fld := ⟨0x7210, 0, 4, 0⟩
/-- `TRC_BUF_CFG_CHUNK`. -/
def F.TRC_BUF_CFG_CHUNK : Fld := ⟨0x4100, 10, 6, 3⟩
/-- `TRC_BUF_CFG_COMPRESS`. -/
def F.TRC_BUF_CFG_COMPRESS : Fld := ⟨0x4100, 1, 1, 0⟩
/-- `TRC_BUF_CFG_MODE`. -/
def F.TRC_BUF_CFG_MODE : Fld := ⟨0x4100, 0, 1, 0⟩
/-- `TRC_BUF_CFG_PARTMASK`. -/
def F.TRC_BUF_CFG_PARTMASK : Fld := ⟨0x4100, 2, 8, 0⟩
/-- `TRC_BUF_CMD_POST`. -/
def F.TRC_BUF_CMD_POST : Fld := ⟨0x4118, 16, 16, 0⟩
/-- `TRC_BUF_CMD_STATE`. -/
def F.TRC_BUF_CMD_STATE : Fld := ⟨0x4118, 0, 2, 0⟩
/-- `TRC_BUF_LOST_CTX`. -/
def F.TRC_BUF_LOST_CTX : Fld := ⟨0x4124, 24, 8, 0⟩
/-- `TRC_BUF_LOST_SAMPLES`. -/
def F.TRC_BUF_LOST_SAMPLES : Fld := ⟨0x4124, 0, 24, 0⟩
/-- `TRC_BUF_MASK_LAYER`. -/
def F.TRC_BUF_MASK_LAYER : Fld := ⟨0x4110, 0, 16, 0⟩
/-- `TRC_BUF_MASK_OP`. -/
def F.TRC_BUF_MASK_OP : Fld := ⟨0x4110, 16, 16, 0⟩
/-- `TRC_BUF_MATCH_LAYER`. -/
def F.TRC_BUF_MATCH_LAYER : Fld := ⟨0x410C, 0, 16, 0⟩
/-- `TRC_BUF_MATCH_OP`. -/
def F.TRC_BUF_MATCH_OP : Fld := ⟨0x410C, 16, 16, 0⟩
/-- `TRC_BUF_QUEUE_QUEUE`. -/
def F.TRC_BUF_QUEUE_QUEUE : Fld := ⟨0x4114, 0, 12, 0⟩
/-- `TRC_BUF_QUEUE_STREAM`. -/
def F.TRC_BUF_QUEUE_STREAM : Fld := ⟨0x4114, 16, 16, 0⟩
/-- `TRC_BUF_TH_TH0`. -/
def F.TRC_BUF_TH_TH0 : Fld := ⟨0x4104, 0, 8, 64⟩
/-- `TRC_BUF_TH_TH1`. -/
def F.TRC_BUF_TH_TH1 : Fld := ⟨0x4104, 8, 8, 32⟩
/-- `TRC_BUF_TH_TH2`. -/
def F.TRC_BUF_TH_TH2 : Fld := ⟨0x4104, 16, 8, 8⟩
/-- `TRC_BUF_TRIG_CTXPART`. -/
def F.TRC_BUF_TRIG_CTXPART : Fld := ⟨0x4108, 25, 3, 0⟩
/-- `TRC_BUF_TRIG_REARM`. -/
def F.TRC_BUF_TRIG_REARM : Fld := ⟨0x4108, 24, 1, 0⟩
/-- `TRC_BUF_TRIG_START`. -/
def F.TRC_BUF_TRIG_START : Fld := ⟨0x4108, 0, 4, 0⟩
/-- `TRC_BUF_TRIG_START_IDX`. -/
def F.TRC_BUF_TRIG_START_IDX : Fld := ⟨0x4108, 8, 8, 0⟩
/-- `TRC_BUF_TRIG_STOP`. -/
def F.TRC_BUF_TRIG_STOP : Fld := ⟨0x4108, 4, 4, 0⟩
/-- `TRC_BUF_TRIG_STOP_IDX`. -/
def F.TRC_BUF_TRIG_STOP_IDX : Fld := ⟨0x4108, 16, 8, 0⟩
/-- `TRC_CTRL_EN`. -/
def F.TRC_CTRL_EN : Fld := ⟨0x4000, 0, 1, 0⟩
/-- `TRC_CTRL_PERIOD`. -/
def F.TRC_CTRL_PERIOD : Fld := ⟨0x4000, 16, 16, 1250⟩
/-- `TRC_HANG_CTRL_DUMP`. -/
def F.TRC_HANG_CTRL_DUMP : Fld := ⟨0x4200, 4, 1, 0⟩
/-- `TRC_HANG_CTRL_ON_STEP`. -/
def F.TRC_HANG_CTRL_ON_STEP : Fld := ⟨0x4200, 3, 1, 0⟩
/-- `TRC_HANG_STATUS_BADUNIT`. -/
def F.TRC_HANG_STATUS_BADUNIT : Fld := ⟨0x4204, 16, 8, 0⟩
/-- `TRC_HANG_STATUS_CAUSE`. -/
def F.TRC_HANG_STATUS_CAUSE : Fld := ⟨0x4204, 1, 2, 0⟩
/-- `TRC_HANG_STATUS_DISCARDED`. -/
def F.TRC_HANG_STATUS_DISCARDED : Fld := ⟨0x4204, 24, 8, 0⟩
/-- `TRC_HANG_STATUS_FROZEN`. -/
def F.TRC_HANG_STATUS_FROZEN : Fld := ⟨0x4204, 0, 1, 0⟩
/-- `TRC_HANG_WALL_HI_HI`. -/
def F.TRC_HANG_WALL_HI_HI : Fld := ⟨0x420C, 0, 32, 0⟩
/-- `TRC_HANG_WALL_LO_LO`. -/
def F.TRC_HANG_WALL_LO_LO : Fld := ⟨0x4208, 0, 32, 0⟩
/-- `TRC_LANE_CFG_BUF`. -/
def F.TRC_LANE_CFG_BUF : Fld := ⟨0x4014, 1, 2, 0⟩
/-- `TRC_LANE_CFG_DIV`. -/
def F.TRC_LANE_CFG_DIV : Fld := ⟨0x4014, 8, 8, 1⟩
/-- `TRC_LANE_CFG_EN`. -/
def F.TRC_LANE_CFG_EN : Fld := ⟨0x4014, 0, 1, 0⟩
/-- `TRC_LANE_CFG_PART`. -/
def F.TRC_LANE_CFG_PART : Fld := ⟨0x4014, 5, 3, 0⟩
/-- `TRC_LANE_CFG_PRIO`. -/
def F.TRC_LANE_CFG_PRIO : Fld := ⟨0x4014, 3, 2, 0⟩
/-- `TRC_STATUS_TICK`. -/
def F.TRC_STATUS_TICK : Fld := ⟨0x4004, 0, 32, 0⟩
/-- `TRC_TS_INTERVAL`. -/
def F.TRC_TS_INTERVAL : Fld := ⟨0x400C, 0, 16, 1024⟩
/-- `TRC_WIN_SEL_BUF`. -/
def F.TRC_WIN_SEL_BUF : Fld := ⟨0x4018, 0, 2, 0⟩
/-- `TRC_WIN_SEL_HPAGE`. -/
def F.TRC_WIN_SEL_HPAGE : Fld := ⟨0x4018, 8, 7, 0⟩
/-- `TRC_WIN_SEL_PAGE`. -/
def F.TRC_WIN_SEL_PAGE : Fld := ⟨0x4018, 2, 3, 0⟩
/-- `VRD_CTRL_DRIFT`. -/
def F.VRD_CTRL_DRIFT : Fld := ⟨0x7000, 2, 1, 0⟩
/-- `VRD_CTRL_EN`. -/
def F.VRD_CTRL_EN : Fld := ⟨0x7000, 0, 1, 0⟩
/-- `VRD_CTRL_ENERGY`. -/
def F.VRD_CTRL_ENERGY : Fld := ⟨0x7000, 3, 1, 0⟩
/-- `VRD_CTRL_STRAG`. -/
def F.VRD_CTRL_STRAG : Fld := ⟨0x7000, 1, 1, 0⟩
/-- `VRD_DEST_QUEUE`. -/
def F.VRD_DEST_QUEUE : Fld := ⟨0x700C, 0, 16, 0⟩
/-- `VRD_DEST_STREAM`. -/
def F.VRD_DEST_STREAM : Fld := ⟨0x700C, 16, 16, 0⟩
/-- `VRD_DRIFT_CFG_EN`. -/
def F.VRD_DRIFT_CFG_EN : Fld := ⟨0x7104, 0, 1, 0⟩
/-- `VRD_DRIFT_CFG_HOT`. -/
def F.VRD_DRIFT_CFG_HOT : Fld := ⟨0x7104, 1, 1, 0⟩
/-- `VRD_DRIFT_CFG_N`. -/
def F.VRD_DRIFT_CFG_N : Fld := ⟨0x7104, 6, 24, 1024⟩
/-- `VRD_DRIFT_CFG_SEV`. -/
def F.VRD_DRIFT_CFG_SEV : Fld := ⟨0x7104, 3, 3, 3⟩
/-- `VRD_DRIFT_CFG_YEN`. -/
def F.VRD_DRIFT_CFG_YEN : Fld := ⟨0x7104, 2, 1, 0⟩
/-- `VRD_DRIFT_EVAL_EVAL`. -/
def F.VRD_DRIFT_EVAL_EVAL : Fld := ⟨0x7110, 0, 23, 1⟩
/-- `VRD_DRIFT_MEAN_TH_TH`. -/
def F.VRD_DRIFT_MEAN_TH_TH : Fld := ⟨0x7114, 0, 32, 0⟩
/-- `VRD_DRIFT_POOL_MIB`. -/
def F.VRD_DRIFT_POOL_MIB : Fld := ⟨0x7120, 0, 5, 0⟩
/-- `VRD_DRIFT_SLOPE_TH_TH`. -/
def F.VRD_DRIFT_SLOPE_TH_TH : Fld := ⟨0x7118, 0, 32, 0⟩
/-- `VRD_DRIFT_STAT_DRIFTING`. -/
def F.VRD_DRIFT_STAT_DRIFTING : Fld := ⟨0x711C, 24, 1, 0⟩
/-- `VRD_DRIFT_STAT_DROPS`. -/
def F.VRD_DRIFT_STAT_DROPS : Fld := ⟨0x711C, 25, 7, 0⟩
/-- `VRD_DRIFT_STAT_FILL`. -/
def F.VRD_DRIFT_STAT_FILL : Fld := ⟨0x711C, 0, 24, 0⟩
/-- `VRD_DRIFT_X_ENTITY`. -/
def F.VRD_DRIFT_X_ENTITY : Fld := ⟨0x7108, 0, 16, 0⟩
/-- `VRD_DRIFT_X_FEATURE`. -/
def F.VRD_DRIFT_X_FEATURE : Fld := ⟨0x7108, 16, 10, 0⟩
/-- `VRD_DRIFT_Y_ENTITY`. -/
def F.VRD_DRIFT_Y_ENTITY : Fld := ⟨0x710C, 0, 16, 0⟩
/-- `VRD_DRIFT_Y_FEATURE`. -/
def F.VRD_DRIFT_Y_FEATURE : Fld := ⟨0x710C, 16, 10, 0⟩
/-- `VRD_EN_CFG_CLOSE`. -/
def F.VRD_EN_CFG_CLOSE : Fld := ⟨0x7200, 12, 8, 150⟩
/-- `VRD_EN_CFG_GUARD`. -/
def F.VRD_EN_CFG_GUARD : Fld := ⟨0x7200, 20, 8, 1⟩
/-- `VRD_EN_CFG_LEN`. -/
def F.VRD_EN_CFG_LEN : Fld := ⟨0x7200, 0, 12, 900⟩
/-- `VRD_EN_COLL_ENERGY`. -/
def F.VRD_EN_COLL_ENERGY : Fld := ⟨0x7204, 0, 12, 0⟩
/-- `VRD_EN_COLL_TOKENS`. -/
def F.VRD_EN_COLL_TOKENS : Fld := ⟨0x7204, 16, 12, 0⟩
/-- `VRD_EN_LIMIT_KW`. -/
def F.VRD_EN_LIMIT_KW : Fld := ⟨0x7208, 0, 32, 0⟩
/-- `VRD_PLAN_OFFSET`. -/
def F.VRD_PLAN_OFFSET : Fld := ⟨0x7010, 0, 24, 50⟩
/-- `VRD_RULE_CFG_ACTION`. -/
def F.VRD_RULE_CFG_ACTION : Fld := ⟨0x7044, 14, 4, 0⟩
/-- `VRD_RULE_CFG_CODE`. -/
def F.VRD_RULE_CFG_CODE : Fld := ⟨0x7044, 18, 5, 0⟩
/-- `VRD_RULE_CFG_CONFIRM`. -/
def F.VRD_RULE_CFG_CONFIRM : Fld := ⟨0x7044, 7, 4, 1⟩
/-- `VRD_RULE_CFG_EN`. -/
def F.VRD_RULE_CFG_EN : Fld := ⟨0x7044, 0, 1, 0⟩
/-- `VRD_RULE_CFG_ENS`. -/
def F.VRD_RULE_CFG_ENS : Fld := ⟨0x7044, 1, 2, 0⟩
/-- `VRD_RULE_CFG_OUT`. -/
def F.VRD_RULE_CFG_OUT : Fld := ⟨0x7044, 3, 3, 0⟩
/-- `VRD_RULE_CFG_ROUND`. -/
def F.VRD_RULE_CFG_ROUND : Fld := ⟨0x7044, 6, 1, 0⟩
/-- `VRD_RULE_CFG_SEV`. -/
def F.VRD_RULE_CFG_SEV : Fld := ⟨0x7044, 11, 3, 3⟩
/-- `VRD_RULE_TH_TH`. -/
def F.VRD_RULE_TH_TH : Fld := ⟨0x7048, 0, 32, 1065353216⟩
/-- `VRD_STATUS_OPEN`. -/
def F.VRD_STATUS_OPEN : Fld := ⟨0x7004, 4, 1, 0⟩
/-- `VRD_STRAG_CFG_COLL`. -/
def F.VRD_STRAG_CFG_COLL : Fld := ⟨0x7020, 0, 12, 0⟩
/-- `VRD_STRAG_CFG_CONFIRM`. -/
def F.VRD_STRAG_CFG_CONFIRM : Fld := ⟨0x7020, 12, 4, 2⟩
/-- `VRD_STRAG_CFG_MINPEERS`. -/
def F.VRD_STRAG_CFG_MINPEERS : Fld := ⟨0x7020, 16, 10, 8⟩
/-- `VRD_STRAG_CFG_SEV`. -/
def F.VRD_STRAG_CFG_SEV : Fld := ⟨0x7020, 26, 3, 4⟩
/-- `VRD_STRAG_TH_DIE_TH`. -/
def F.VRD_STRAG_TH_DIE_TH : Fld := ⟨0x7024, 0, 16, 200⟩
/-- `VRD_STRAG_TH_TRAY_TH`. -/
def F.VRD_STRAG_TH_TRAY_TH : Fld := ⟨0x7024, 16, 16, 200⟩

end Sys2Proof.Machine
end

