-- ==== Sys2Proof/Machine/RegTable.lean ====
section
/-! DEFINITION. The register map (spec/18_ports_register_map.md, R391): one row per register, with its offset, count,
stride, selector, build and fields (bit, width, access code, reset value), from the register tables of each chapter.
Bits that no field names are reserved and read 0 (R12). A field whose bits are write-1-to-clear stands one bit a row. -/

namespace Sys2Proof.Machine

/-- Registers of region 0x0_000. -/
def regTable00 : List RegSpec :=
  [⟨0x0, 1, 4, 0x0, .both, -- BLOCK_VERSION
    [⟨0, 16, .ro, 2⟩, ⟨16, 16, .ro, 3⟩]⟩,
   ⟨0x4, 1, 4, 0x0, .both, -- ROLE_STATUS
    [⟨0, 2, .ro, 0⟩, ⟨2, 1, .ro, 0⟩, ⟨3, 2, .ro, 3⟩, ⟨5, 1, .ro, 0⟩, ⟨6, 1, .w1c, 0⟩]⟩,
   ⟨0x8, 1, 4, 0x0, .both, -- SELF_LDI
    [⟨0, 20, .ro, 0⟩, ⟨20, 1, .ro, 0⟩]⟩,
   ⟨0xC, 1, 4, 0x0, .both, -- SELF_PLOC
    [⟨0, 32, .rwl, 4294967295⟩]⟩,
   ⟨0x10, 1, 4, 0x0, .both, -- SELF_EPOCH
    [⟨0, 16, .ro, 0⟩]⟩,
   ⟨0x14, 1, 4, 0x0, .both, -- PART_ID
    [⟨0, 16, .ro, 3955⟩]⟩,
   ⟨0x20, 1, 4, 0x0, .both, -- BUILD_CAP
    [⟨0, 7, .ro, 0⟩, ⟨7, 5, .ro, 0⟩, ⟨12, 3, .ro, 0⟩, ⟨16, 5, .ro, 0⟩]⟩,
   ⟨0x24, 1, 4, 0x0, .d, -- HOST_CAP
    [⟨0, 14, .ro, 0⟩, ⟨14, 1, .ro, 0⟩, ⟨16, 9, .ro, 0⟩]⟩,
   ⟨0x28, 1, 4, 0x0, .agg, -- MEM_CAP
    [⟨0, 7, .ro, 0⟩, ⟨8, 8, .ro, 0⟩, ⟨16, 5, .ro, 0⟩]⟩,
   ⟨0x2C, 1, 4, 0x0, .both, -- LINK_CAP
    [⟨0, 8, .ro, 0⟩, ⟨8, 8, .ro, 32⟩, ⟨16, 4, .ro, 15⟩]⟩]

/-- Registers of region 0x1_000, part 1. -/
def regTable01_0 : List RegSpec :=
  [⟨0x1000, 1, 4, 0x0, .both, -- ANT_CTRL
    [⟨0, 2, .rwl, 0⟩, ⟨2, 1, .rwl, 0⟩, ⟨8, 8, .rwl, 64⟩]⟩,
   ⟨0x1004, 1, 4, 0x0, .both, -- ANT_STATUS
    [⟨0, 1, .ro, 0⟩, ⟨1, 1, .ro, 0⟩, ⟨2, 2, .ro, 3⟩, ⟨4, 4, .ro, 0⟩, ⟨8, 1, .ro, 0⟩]⟩,
   ⟨0x1008, 1, 4, 0x0, .both, -- ANT_EVENTS
    [⟨0, 1, .w1c, 0⟩, ⟨1, 1, .w1c, 0⟩, ⟨2, 1, .w1c, 0⟩, ⟨3, 1, .w1c, 0⟩, ⟨4, 1, .w1c, 0⟩, ⟨5, 1, .w1c, 0⟩, ⟨6, 1, .w1c, 0⟩, ⟨7, 1, .w1c, 0⟩, ⟨8, 1, .w1c, 0⟩, ⟨9, 1, .w1c, 0⟩, ⟨10, 1, .w1c, 0⟩, ⟨11, 1, .w1c, 0⟩]⟩,
   ⟨0x1010, 1, 4, 0x0, .both, -- ANT_PHASE_LO
    [⟨0, 32, .ro, 0⟩]⟩,
   ⟨0x1014, 1, 4, 0x0, .both, -- ANT_PHASE_HI
    [⟨0, 32, .ro, 0⟩]⟩,
   ⟨0x1018, 1, 4, 0x0, .both, -- ANT_OVERRUN
    [⟨0, 32, .rc, 0⟩]⟩,
   ⟨0x101C, 1, 4, 0x0, .both, -- ANT_TIMEOUTS
    [⟨0, 16, .rwl, 0⟩, ⟨16, 16, .rwl, 0⟩]⟩,
   ⟨0x1020, 1, 4, 0x0, .both, -- ANT_BEACON_SRC
    [⟨0, 20, .rwl, 0⟩]⟩,
   ⟨0x1024, 1, 4, 0x0, .both, -- ANT_TWB_PERIOD
    [⟨0, 24, .rwl, 1000000⟩]⟩,
   ⟨0x1028, 1, 4, 0x0, .both, -- ANT_TWB_ACT
    [⟨0, 1, .rwl, 0⟩, ⟨1, 1, .rwl, 0⟩, ⟨2, 1, .rwl, 0⟩, ⟨3, 1, .rwl, 0⟩, ⟨8, 8, .rwl, 255⟩]⟩,
   ⟨0x1030, 1, 4, 0x0, .both, -- ANT_TIME_LO
    [⟨0, 32, .ro, 0⟩]⟩,
   ⟨0x1034, 1, 4, 0x0, .both, -- ANT_TIME_MID
    [⟨0, 8, .ro, 0⟩, ⟨8, 24, .ro, 0⟩]⟩]

/-- Registers of region 0x1_000, part 2. -/
def regTable01_1 : List RegSpec :=
  [⟨0x1038, 1, 4, 0x0, .both, -- ANT_TIME_HI
    [⟨0, 24, .ro, 0⟩]⟩,
   ⟨0x1040, 1, 4, 0x0, .both, -- ANT_RATE
    [⟨0, 32, .rw, 0⟩]⟩,
   ⟨0x1044, 1, 4, 0x0, .both, -- ANT_JUMP
    [⟨0, 16, .rwl, 32⟩]⟩,
   ⟨0x1048, 1, 4, 0x0, .both, -- ANT_OFFSET
    [⟨0, 32, .rw, 0⟩]⟩,
   ⟨0x104C, 1, 4, 0x0, .both, -- ANT_TIME_STEP
    [⟨0, 1, .wo, 0⟩, ⟨1, 1, .wo, 0⟩]⟩,
   ⟨0x1050, 1, 4, 0x0, .both, -- ANT_TIME_SET_LO
    [⟨0, 32, .rw, 0⟩]⟩,
   ⟨0x1054, 1, 4, 0x0, .both, -- ANT_TIME_SET_MID
    [⟨0, 8, .rw, 0⟩, ⟨8, 24, .rw, 0⟩]⟩,
   ⟨0x1058, 1, 4, 0x0, .both, -- ANT_TIME_SET_HI
    [⟨0, 24, .rw, 0⟩]⟩,
   ⟨0x1100, 4, 4, 0x0, .both, -- ANT_ASYM
    [⟨0, 16, .rwl, 0⟩, ⟨16, 16, .ro, 0⟩]⟩,
   ⟨0x1200, 1, 4, 0x0, .both, -- ANT_LAUNCH_SEL
    [⟨0, 5, .rw, 0⟩]⟩,
   ⟨0x1204, 1, 4, 0x1200, .both, -- ANT_LAUNCH_CFG
    [⟨0, 16, .rw, 0⟩, ⟨16, 2, .rw, 0⟩, ⟨18, 1, .wo, 0⟩, ⟨19, 1, .ro, 0⟩, ⟨20, 1, .ro, 0⟩, ⟨21, 1, .ro, 0⟩]⟩,
   ⟨0x1208, 1, 4, 0x1200, .both, -- ANT_LAUNCH_AT_LO
    [⟨0, 32, .rw, 0⟩]⟩]

/-- Registers of region 0x1_000, part 3. -/
def regTable01_2 : List RegSpec :=
  [⟨0x120C, 1, 4, 0x1200, .both, -- ANT_LAUNCH_AT_HI
    [⟨0, 32, .rw, 0⟩]⟩,
   ⟨0x1400, 256, 4, 0x0, .both, -- ANT_WB_ENTRY
    [⟨0, 24, .rwl, 0⟩, ⟨24, 1, .rwl, 0⟩, ⟨25, 1, .rwl, 0⟩, ⟨28, 1, .rwl, 0⟩, ⟨29, 1, .rwl, 0⟩, ⟨30, 1, .rwl, 0⟩, ⟨31, 1, .rwl, 0⟩]⟩]

/-- Registers of region 0x1_000. -/
def regTable01 : List RegSpec := regTable01_0 ++ regTable01_1 ++ regTable01_2

/-- Registers of region 0x2_000, part 1. -/
def regTable02_0 : List RegSpec :=
  [⟨0x2000, 1, 4, 0x0, .d, -- PRB_CTRL
    [⟨0, 1, .rwl, 0⟩, ⟨1, 1, .rw, 0⟩]⟩,
   ⟨0x2004, 1, 4, 0x0, .d, -- PRB_STATUS
    [⟨0, 2, .ro, 0⟩, ⟨2, 2, .ro, 0⟩, ⟨4, 9, .ro, 0⟩]⟩,
   ⟨0x2008, 1, 4, 0x0, .d, -- PRB_EVENTS
    [⟨0, 1, .w1c, 0⟩, ⟨1, 1, .w1c, 0⟩, ⟨2, 1, .w1c, 0⟩, ⟨3, 1, .w1c, 0⟩, ⟨4, 1, .w1c, 0⟩, ⟨5, 1, .w1c, 0⟩, ⟨6, 1, .w1c, 0⟩]⟩,
   ⟨0x200C, 1, 4, 0x0, .d, -- PRB_SNAP_CFG
    [⟨0, 8, .rwl, 255⟩, ⟨8, 8, .rwl, 255⟩, ⟨16, 16, .rwl, 0⟩]⟩,
   ⟨0x2010, 1, 4, 0x0, .d, -- PRB_GUARD
    [⟨0, 16, .rwl, 1024⟩, ⟨16, 6, .rwl, 16⟩]⟩,
   ⟨0x2014, 1, 4, 0x0, .d, -- PRB_MSG_STATS
    [⟨0, 16, .rc, 0⟩, ⟨16, 16, .rc, 0⟩]⟩,
   ⟨0x2020, 1, 4, 0x0, .d, -- PRB_CNT_SEL
    [⟨0, 14, .rw, 0⟩]⟩,
   ⟨0x2024, 1, 4, 0x0, .d, -- PRB_CNT_LO
    [⟨0, 32, .rw, 0⟩]⟩,
   ⟨0x2028, 1, 4, 0x0, .d, -- PRB_CNT_HI
    [⟨0, 16, .rw, 0⟩]⟩,
   ⟨0x202C, 1, 4, 0x0, .d, -- PRB_CNT_X0
    [⟨0, 32, .rw, 0⟩]⟩,
   ⟨0x2030, 1, 4, 0x0, .d, -- PRB_CNT_X1
    [⟨0, 16, .rw, 0⟩]⟩,
   ⟨0x2034, 1, 4, 0x2020, .d, -- PRB_MAP
    [⟨0, 11, .rwl, 0⟩, ⟨11, 2, .rwl, 0⟩]⟩]

/-- Registers of region 0x2_000, part 2. -/
def regTable02_1 : List RegSpec :=
  [⟨0x2040, 1, 4, 0x0, .d, -- PRB_LANE_SEL
    [⟨0, 11, .rw, 0⟩]⟩,
   ⟨0x2044, 1, 4, 0x2040, .d, -- PRB_LANE_CFG
    [⟨0, 2, .rwl, 3⟩, ⟨2, 1, .rwl, 0⟩, ⟨3, 1, .rwl, 0⟩, ⟨4, 1, .rw, 0⟩, ⟨5, 1, .w1c, 0⟩, ⟨6, 1, .w1c, 0⟩, ⟨7, 1, .w1c, 0⟩]⟩,
   ⟨0x2050, 1, 4, 0x0, .d, -- PRB_MON_SEL
    [⟨0, 10, .rw, 0⟩]⟩,
   ⟨0x2054, 1, 4, 0x2050, .d, -- PRB_MON_CFG
    [⟨0, 1, .rwl, 0⟩, ⟨1, 2, .rwl, 0⟩, ⟨3, 1, .rwl, 0⟩, ⟨4, 1, .rwl, 0⟩, ⟨5, 1, .rwl, 0⟩, ⟨6, 6, .rwl, 0⟩, ⟨14, 14, .rwl, 0⟩]⟩,
   ⟨0x2058, 1, 4, 0x2050, .d, -- PRB_MON_BASE_LO
    [⟨0, 32, .rwl, 0⟩]⟩,
   ⟨0x205C, 1, 4, 0x2050, .d, -- PRB_MON_BASE_HI
    [⟨0, 8, .rwl, 0⟩]⟩]

/-- Registers of region 0x2_000. -/
def regTable02 : List RegSpec := regTable02_0 ++ regTable02_1

/-- Registers of region 0x3_000. -/
def regTable03 : List RegSpec :=
  [⟨0x3000, 1, 4, 0x0, .d, -- SCL_CTRL
    [⟨0, 9, .rwl, 0⟩, ⟨9, 1, .rwl, 0⟩]⟩,
   ⟨0x3004, 1, 4, 0x0, .d, -- SCL_STATUS
    [⟨0, 5, .ro, 0⟩, ⟨5, 1, .ro, 0⟩, ⟨6, 1, .ro, 0⟩]⟩,
   ⟨0x3008, 1, 4, 0x0, .d, -- SCL_EVENTS
    [⟨0, 1, .w1c, 0⟩, ⟨1, 1, .w1c, 0⟩, ⟨2, 1, .w1c, 0⟩, ⟨3, 1, .w1c, 0⟩, ⟨4, 1, .w1c, 0⟩]⟩,
   ⟨0x3010, 1, 4, 0x0, .d, -- SCL_WIRE
    [⟨0, 8, .rwl, 100⟩, ⟨8, 8, .rwl, 50⟩]⟩,
   ⟨0x3014, 1, 4, 0x0, .d, -- SCL_WIRE_LIM
    [⟨0, 16, .rwl, 16⟩, ⟨16, 16, .rwl, 4096⟩]⟩,
   ⟨0x3018, 1, 4, 0x0, .d, -- SCL_GLITCH
    [⟨0, 16, .rwl, 1024⟩, ⟨16, 8, .rwl, 10⟩]⟩,
   ⟨0x3100, 32, 4, 0x0, .d, -- SCL_FAULT
    [⟨0, 8, .ro, 0⟩, ⟨8, 8, .ro, 0⟩, ⟨16, 1, .ro, 0⟩, ⟨17, 1, .ro, 0⟩]⟩,
   ⟨0x3400, 256, 4, 0x0, .d, -- SCL_SCAN
    [⟨0, 8, .rwl, 0⟩]⟩,
   ⟨0x3800, 256, 4, 0x0, .d, -- SCL_CH_CFG
    [⟨0, 1, .rwl, 0⟩, ⟨1, 1, .rwl, 0⟩, ⟨2, 1, .rwl, 0⟩]⟩,
   ⟨0x3C00, 256, 4, 0x0, .d, -- SCL_CH_DATA
    [⟨0, 16, .ro, 0⟩, ⟨16, 8, .ro, 255⟩, ⟨24, 8, .ro, 48⟩]⟩]

/-- Registers of region 0x4_000, part 1. -/
def regTable04_0 : List RegSpec :=
  [⟨0x4000, 1, 4, 0x0, .d, -- TRC_CTRL
    [⟨0, 1, .rwl, 0⟩, ⟨16, 16, .rwl, 1250⟩]⟩,
   ⟨0x4004, 1, 4, 0x0, .d, -- TRC_STATUS
    [⟨0, 32, .ro, 0⟩]⟩,
   ⟨0x4008, 1, 4, 0x0, .d, -- TRC_EVENTS
    [⟨0, 1, .w1c, 0⟩, ⟨1, 1, .w1c, 0⟩, ⟨2, 1, .w1c, 0⟩, ⟨3, 1, .w1c, 0⟩, ⟨4, 1, .w1c, 0⟩, ⟨5, 1, .w1c, 0⟩, ⟨6, 1, .w1c, 0⟩, ⟨7, 1, .w1c, 0⟩, ⟨8, 1, .w1c, 0⟩, ⟨9, 1, .w1c, 0⟩]⟩,
   ⟨0x400C, 1, 4, 0x0, .d, -- TRC_TS
    [⟨0, 16, .rwl, 1024⟩]⟩,
   ⟨0x4010, 1, 4, 0x0, .d, -- TRC_LANE_SEL
    [⟨0, 6, .rw, 0⟩]⟩,
   ⟨0x4014, 1, 4, 0x4010, .d, -- TRC_LANE_CFG
    [⟨0, 1, .rwl, 0⟩, ⟨1, 2, .rwl, 0⟩, ⟨3, 2, .rwl, 0⟩, ⟨5, 3, .rwl, 0⟩, ⟨8, 8, .rwl, 1⟩]⟩,
   ⟨0x4018, 1, 4, 0x0, .d, -- TRC_WIN_SEL
    [⟨0, 2, .rw, 0⟩, ⟨2, 3, .rw, 0⟩, ⟨8, 7, .rw, 0⟩]⟩,
   ⟨0x4100, 4, 64, 0x0, .d, -- TRC_BUF_CFG
    [⟨0, 1, .rwl, 0⟩, ⟨1, 1, .rwl, 0⟩, ⟨2, 8, .rwl, 0⟩, ⟨10, 6, .rwl, 3⟩]⟩,
   ⟨0x4104, 4, 64, 0x0, .d, -- TRC_BUF_TH
    [⟨0, 8, .rwl, 64⟩, ⟨8, 8, .rwl, 32⟩, ⟨16, 8, .rwl, 8⟩]⟩,
   ⟨0x4108, 4, 64, 0x0, .d, -- TRC_BUF_TRIG
    [⟨0, 4, .rwl, 0⟩, ⟨4, 4, .rwl, 0⟩, ⟨8, 8, .rwl, 0⟩, ⟨16, 8, .rwl, 0⟩, ⟨24, 1, .rwl, 0⟩, ⟨25, 3, .rwl, 0⟩]⟩,
   ⟨0x410C, 4, 64, 0x0, .d, -- TRC_BUF_MATCH
    [⟨0, 16, .rwl, 0⟩, ⟨16, 16, .rwl, 0⟩]⟩,
   ⟨0x4110, 4, 64, 0x0, .d, -- TRC_BUF_MASK
    [⟨0, 16, .rwl, 0⟩, ⟨16, 16, .rwl, 0⟩]⟩]

/-- Registers of region 0x4_000, part 2. -/
def regTable04_1 : List RegSpec :=
  [⟨0x4114, 4, 64, 0x0, .d, -- TRC_BUF_QUEUE
    [⟨0, 12, .rwl, 0⟩, ⟨16, 16, .rwl, 0⟩]⟩,
   ⟨0x4118, 4, 64, 0x0, .d, -- TRC_BUF_CMD
    [⟨0, 2, .ro, 0⟩, ⟨2, 1, .wo, 0⟩, ⟨3, 1, .wo, 0⟩, ⟨4, 1, .wo, 0⟩, ⟨16, 16, .rw, 0⟩]⟩,
   ⟨0x411C, 4, 64, 0x0, .d, -- TRC_BUF_WR
    [⟨0, 18, .ro, 0⟩]⟩,
   ⟨0x4120, 4, 64, 0x0, .d, -- TRC_BUF_RD
    [⟨0, 18, .ro, 0⟩]⟩,
   ⟨0x4124, 4, 64, 0x0, .d, -- TRC_BUF_LOST
    [⟨0, 24, .rc, 0⟩, ⟨24, 8, .rc, 0⟩]⟩,
   ⟨0x4200, 1, 4, 0x0, .d, -- TRC_HANG_CTRL
    [⟨0, 1, .wo, 0⟩, ⟨1, 1, .wo, 0⟩, ⟨2, 1, .wo, 0⟩, ⟨3, 1, .rwl, 0⟩, ⟨4, 1, .rwl, 0⟩]⟩,
   ⟨0x4204, 1, 4, 0x0, .d, -- TRC_HANG_STATUS
    [⟨0, 1, .ro, 0⟩, ⟨1, 2, .ro, 0⟩, ⟨16, 8, .rc, 0⟩, ⟨24, 8, .rc, 0⟩]⟩,
   ⟨0x4208, 1, 4, 0x0, .d, -- TRC_HANG_WALL_LO
    [⟨0, 32, .ro, 0⟩]⟩,
   ⟨0x420C, 1, 4, 0x0, .d, -- TRC_HANG_WALL_HI
    [⟨0, 32, .ro, 0⟩]⟩,
   ⟨0x4210, 1, 4, 0x0, .d, -- TRC_HANG_UNITS
    [⟨0, 14, .ro, 0⟩]⟩]

/-- Registers of region 0x4_000. -/
def regTable04 : List RegSpec := regTable04_0 ++ regTable04_1

/-- Registers of region 0x5_000, part 1. -/
def regTable05_0 : List RegSpec :=
  [⟨0x5000, 1, 4, 0x0, .both, -- SWM_CTRL
    [⟨0, 1, .rwl, 0⟩]⟩,
   ⟨0x5004, 1, 4, 0x0, .agg, -- SWM_STATUS
    [⟨0, 15, .ro, 0⟩, ⟨16, 9, .ro, 256⟩, ⟨25, 1, .ro, 0⟩]⟩,
   ⟨0x5008, 1, 4, 0x0, .both, -- SWM_EVENTS
    [⟨0, 1, .w1c, 0⟩, ⟨1, 1, .w1c, 0⟩, ⟨2, 1, .w1c, 0⟩, ⟨3, 1, .w1c, 0⟩, ⟨4, 1, .w1c, 0⟩, ⟨5, 1, .w1c, 0⟩, ⟨6, 1, .w1c, 0⟩, ⟨7, 1, .w1c, 0⟩, ⟨8, 1, .w1c, 0⟩, ⟨9, 1, .w1c, 0⟩, ⟨10, 1, .w1c, 0⟩, ⟨11, 1, .w1c, 0⟩, ⟨12, 1, .w1c, 0⟩]⟩,
   ⟨0x5010, 1, 4, 0x0, .both, -- SWM_LAST_END_LO
    [⟨0, 32, .ro, 0⟩]⟩,
   ⟨0x5014, 1, 4, 0x0, .both, -- SWM_LAST_END_MID
    [⟨0, 29, .ro, 0⟩]⟩,
   ⟨0x5018, 1, 4, 0x0, .both, -- SWM_LAST_END_HI
    [⟨0, 4, .ro, 0⟩, ⟨31, 1, .rc, 0⟩]⟩,
   ⟨0x5040, 1, 4, 0x0, .agg, -- SWM_TXN_LIMIT
    [⟨0, 15, .rwl, 16384⟩, ⟨16, 15, .rwl, 64⟩]⟩,
   ⟨0x5044, 1, 4, 0x0, .agg, -- SWM_TIER_OFFSET
    [⟨0, 24, .rwl, 0⟩]⟩,
   ⟨0x5048, 1, 4, 0x0, .both, -- SWM_END_GRACE
    [⟨0, 16, .rwl, 100⟩]⟩,
   ⟨0x504C, 1, 4, 0x0, .agg, -- SWM_STAGE
    [⟨0, 16, .ro, 0⟩, ⟨16, 16, .rc, 0⟩]⟩,
   ⟨0x5050, 1, 4, 0x0, .agg, -- SWM_LAUNCH
    [⟨0, 12, .rw, 0⟩, ⟨12, 1, .wo, 0⟩, ⟨13, 1, .wo, 0⟩, ⟨14, 1, .wo, 0⟩]⟩,
   ⟨0x5100, 8, 4, 0x0, .agg, -- SWM_LANE_FENCE
    [⟨0, 32, .rw, 0⟩]⟩]

/-- Registers of region 0x5_000, part 2. -/
def regTable05_1 : List RegSpec :=
  [⟨0x5200, 1, 4, 0x0, .both, -- SWM_COLL_SEL
    [⟨0, 12, .rw, 0⟩]⟩,
   ⟨0x5204, 1, 4, 0x5200, .both, -- SWM_COLL_CFG
    [⟨0, 1, .rwl, 0⟩, ⟨1, 4, .rwl, 0⟩, ⟨5, 4, .rwl, 0⟩, ⟨9, 8, .rwl, 0⟩, ⟨17, 1, .rwl, 0⟩, ⟨18, 1, .rwl, 0⟩, ⟨19, 6, .rwl, 0⟩]⟩,
   ⟨0x5208, 1, 4, 0x5200, .both, -- SWM_COLL_SIZE
    [⟨0, 14, .rwl, 1⟩, ⟨16, 16, .rwl, 0⟩]⟩,
   ⟨0x520C, 1, 4, 0x5200, .both, -- SWM_COLL_TIME
    [⟨0, 24, .rwl, 1000⟩]⟩,
   ⟨0x5210, 1, 4, 0x5200, .both, -- SWM_COLL_DEST
    [⟨0, 16, .rwl, 0⟩, ⟨16, 16, .rwl, 0⟩]⟩,
   ⟨0x5214, 1, 4, 0x5200, .both, -- SWM_COLL_PROG
    [⟨0, 12, .rwl, 0⟩]⟩,
   ⟨0x5218, 1, 4, 0x5200, .both, -- SWM_COLL_SRC
    [⟨0, 3, .rwl, 0⟩, ⟨3, 14, .rwl, 0⟩, ⟨17, 2, .rwl, 0⟩]⟩,
   ⟨0x5300, 1, 4, 0x0, .agg, -- SWM_PROG_SEL
    [⟨0, 12, .rw, 0⟩]⟩,
   ⟨0x5304, 1, 4, 0x5300, .agg, -- SWM_PROG_DATA
    [⟨0, 32, .rwl, 0⟩]⟩,
   ⟨0x5400, 16, 4, 0x0, .d, -- SWM_DVAL
    [⟨0, 32, .rw, 0⟩]⟩]

/-- Registers of region 0x5_000. -/
def regTable05 : List RegSpec := regTable05_0 ++ regTable05_1

/-- Registers of region 0x6_000, part 1. -/
def regTable06_0 : List RegSpec :=
  [⟨0x6000, 1, 4, 0x0, .both, -- HWK_CTRL
    [⟨0, 1, .rwl, 0⟩]⟩,
   ⟨0x6004, 1, 4, 0x0, .both, -- HWK_STATUS
    [⟨0, 5, .ro, 0⟩, ⟨5, 1, .ro, 0⟩, ⟨6, 1, .ro, 0⟩, ⟨7, 1, .ro, 0⟩, ⟨8, 4, .ro, 0⟩, ⟨12, 1, .ro, 0⟩, ⟨13, 1, .ro, 0⟩]⟩,
   ⟨0x6008, 1, 4, 0x0, .both, -- HWK_EVENTS
    [⟨0, 1, .w1c, 0⟩, ⟨1, 1, .w1c, 0⟩, ⟨2, 1, .w1c, 0⟩, ⟨3, 1, .w1c, 0⟩, ⟨4, 1, .w1c, 0⟩, ⟨5, 1, .w1c, 0⟩, ⟨6, 1, .w1c, 0⟩, ⟨7, 1, .w1c, 0⟩, ⟨8, 1, .w1c, 0⟩]⟩,
   ⟨0x600C, 1, 4, 0x0, .agg, -- HWK_EXPAND
    [⟨0, 1, .wo, 0⟩, ⟨4, 4, .ro, 0⟩, ⟨8, 14, .ro, 0⟩, ⟨22, 2, .ro, 0⟩, ⟨24, 8, .ro, 0⟩]⟩,
   ⟨0x6010, 1, 4, 0x0, .both, -- HWK_TILE_FENCE
    [⟨0, 16, .rw, 0⟩]⟩,
   ⟨0x6014, 1, 4, 0x0, .both, -- HWK_DROPS
    [⟨0, 16, .rc, 0⟩, ⟨16, 16, .rc, 0⟩]⟩,
   ⟨0x6018, 1, 4, 0x0, .agg, -- HWK_CACHE
    [⟨0, 16, .rc, 0⟩, ⟨16, 16, .rc, 0⟩]⟩,
   ⟨0x6020, 1, 4, 0x0, .agg, -- HWK_ENS_SEL
    [⟨0, 2, .rw, 0⟩]⟩,
   ⟨0x6024, 1, 4, 0x6020, .agg, -- HWK_ENS_CFG
    [⟨0, 1, .rwl, 0⟩, ⟨1, 1, .rwl, 0⟩, ⟨2, 8, .rwl, 0⟩, ⟨10, 12, .rwl, 0⟩, ⟨22, 1, .rwl, 0⟩, ⟨23, 1, .rwl, 0⟩]⟩,
   ⟨0x6028, 1, 4, 0x6020, .agg, -- HWK_ENS_ENT
    [⟨0, 16, .rwl, 0⟩, ⟨16, 16, .rwl, 0⟩]⟩,
   ⟨0x602C, 1, 4, 0x6020, .agg, -- HWK_ENS_TIME
    [⟨0, 20, .rwl, 0⟩]⟩,
   ⟨0x6030, 1, 4, 0x6020, .agg, -- HWK_ENS_DEST
    [⟨0, 16, .rwl, 0⟩, ⟨16, 16, .rwl, 0⟩]⟩]

/-- Registers of region 0x6_000, part 2. -/
def regTable06_1 : List RegSpec :=
  [⟨0x6034, 1, 4, 0x6020, .agg, -- HWK_ENS_TREES
    [⟨0, 14, .ro, 0⟩, ⟨16, 3, .ro, 0⟩]⟩,
   ⟨0x6040, 1, 4, 0x0, .agg, -- HWK_FMAP_SEL
    [⟨0, 12, .rw, 0⟩]⟩,
   ⟨0x6044, 1, 4, 0x6040, .agg, -- HWK_FMAP_MATCH
    [⟨0, 8, .rwl, 0⟩, ⟨8, 1, .rwl, 0⟩, ⟨16, 16, .rwl, 0⟩]⟩,
   ⟨0x6048, 1, 4, 0x6040, .agg, -- HWK_FMAP_SRC
    [⟨0, 19, .rwl, 0⟩, ⟨19, 4, .rwl, 0⟩, ⟨23, 1, .rwl, 0⟩, ⟨24, 1, .rwl, 0⟩]⟩,
   ⟨0x604C, 1, 4, 0x6040, .agg, -- HWK_FMAP_TGT
    [⟨0, 10, .rwl, 0⟩, ⟨10, 1, .rwl, 0⟩]⟩,
   ⟨0x6050, 1, 4, 0x6040, .agg, -- HWK_FMAP_ENT
    [⟨0, 20, .rwl, 0⟩]⟩,
   ⟨0x6080, 1, 4, 0x0, .d, -- HWK_LOCAL_CFG
    [⟨0, 8, .rwl, 0⟩, ⟨8, 1, .rwl, 0⟩, ⟨9, 1, .rwl, 0⟩, ⟨16, 8, .rwl, 0⟩]⟩,
   ⟨0x6084, 1, 4, 0x0, .d, -- HWK_LOCAL_TH
    [⟨0, 32, .rwl, 1065353216⟩]⟩,
   ⟨0x6088, 1, 4, 0x0, .d, -- HWK_LOCAL_DEST
    [⟨0, 12, .rwl, 0⟩, ⟨16, 16, .rwl, 0⟩]⟩,
   ⟨0x608C, 1, 4, 0x0, .d, -- HWK_LFEAT_SEL
    [⟨0, 10, .rw, 0⟩]⟩,
   ⟨0x6090, 1, 4, 0x608C, .d, -- HWK_LFEAT_CFG
    [⟨0, 3, .rwl, 0⟩, ⟨3, 14, .rwl, 0⟩, ⟨17, 2, .rwl, 0⟩, ⟨19, 4, .rwl, 0⟩, ⟨23, 1, .rwl, 0⟩]⟩,
   ⟨0x60A0, 1, 4, 0x0, .both, -- HWK_ROW_SEL
    [⟨0, 16, .rw, 0⟩, ⟨16, 10, .rw, 0⟩]⟩]

/-- Registers of region 0x6_000, part 3. -/
def regTable06_2 : List RegSpec :=
  [⟨0x60A4, 1, 4, 0x0, .both, -- HWK_ROW_LO
    [⟨0, 32, .ro, 0⟩]⟩,
   ⟨0x60A8, 1, 4, 0x0, .both, -- HWK_ROW_HI
    [⟨0, 32, .ro, 0⟩]⟩,
   ⟨0x60AC, 1, 4, 0x0, .both, -- HWK_ROW_STAT
    [⟨0, 1, .ro, 0⟩, ⟨1, 1, .ro, 0⟩]⟩]

/-- Registers of region 0x6_000. -/
def regTable06 : List RegSpec := regTable06_0 ++ regTable06_1 ++ regTable06_2

/-- Registers of region 0x7_000, part 1. -/
def regTable07_0 : List RegSpec :=
  [⟨0x7000, 1, 4, 0x0, .agg, -- VRD_CTRL
    [⟨0, 1, .rwl, 0⟩, ⟨1, 1, .rwl, 0⟩, ⟨2, 1, .rwl, 0⟩, ⟨3, 1, .rwl, 0⟩]⟩,
   ⟨0x7004, 1, 4, 0x0, .agg, -- VRD_STATUS
    [⟨0, 4, .ro, 0⟩, ⟨4, 1, .ro, 0⟩]⟩,
   ⟨0x7008, 1, 4, 0x0, .agg, -- VRD_EVENTS
    [⟨0, 1, .w1c, 0⟩, ⟨1, 1, .w1c, 0⟩, ⟨2, 1, .w1c, 0⟩, ⟨3, 1, .w1c, 0⟩, ⟨4, 1, .w1c, 0⟩, ⟨5, 1, .w1c, 0⟩, ⟨6, 1, .w1c, 0⟩, ⟨7, 1, .w1c, 0⟩, ⟨8, 1, .w1c, 0⟩, ⟨9, 1, .w1c, 0⟩, ⟨10, 1, .w1c, 0⟩, ⟨11, 1, .w1c, 0⟩, ⟨12, 1, .w1c, 0⟩, ⟨13, 1, .w1c, 0⟩]⟩,
   ⟨0x700C, 1, 4, 0x0, .agg, -- VRD_DEST
    [⟨0, 16, .rwl, 0⟩, ⟨16, 16, .rwl, 0⟩]⟩,
   ⟨0x7010, 1, 4, 0x0, .agg, -- VRD_PLAN
    [⟨0, 24, .rwl, 50⟩]⟩,
   ⟨0x7020, 1, 4, 0x0, .agg, -- VRD_STRAG_CFG
    [⟨0, 12, .rwl, 0⟩, ⟨12, 4, .rwl, 2⟩, ⟨16, 10, .rwl, 8⟩, ⟨26, 3, .rwl, 4⟩]⟩,
   ⟨0x7024, 1, 4, 0x0, .agg, -- VRD_STRAG_TH
    [⟨0, 16, .rwl, 200⟩, ⟨16, 16, .rwl, 200⟩]⟩,
   ⟨0x7040, 1, 4, 0x0, .agg, -- VRD_RULE_SEL
    [⟨0, 4, .rw, 0⟩]⟩,
   ⟨0x7044, 1, 4, 0x7040, .agg, -- VRD_RULE_CFG
    [⟨0, 1, .rwl, 0⟩, ⟨1, 2, .rwl, 0⟩, ⟨3, 3, .rwl, 0⟩, ⟨6, 1, .rwl, 0⟩, ⟨7, 4, .rwl, 1⟩, ⟨11, 3, .rwl, 3⟩, ⟨14, 4, .rwl, 0⟩, ⟨18, 5, .rwl, 0⟩]⟩,
   ⟨0x7048, 1, 4, 0x7040, .agg, -- VRD_RULE_TH
    [⟨0, 32, .rwl, 1065353216⟩]⟩,
   ⟨0x7100, 1, 4, 0x0, .agg, -- VRD_DRIFT_SEL
    [⟨0, 6, .rw, 0⟩]⟩,
   ⟨0x7104, 1, 4, 0x7100, .agg, -- VRD_DRIFT_CFG
    [⟨0, 1, .rwl, 0⟩, ⟨1, 1, .rwl, 0⟩, ⟨2, 1, .rwl, 0⟩, ⟨3, 3, .rwl, 3⟩, ⟨6, 24, .rwl, 1024⟩]⟩]

/-- Registers of region 0x7_000, part 2. -/
def regTable07_1 : List RegSpec :=
  [⟨0x7108, 1, 4, 0x7100, .agg, -- VRD_DRIFT_X
    [⟨0, 16, .rwl, 0⟩, ⟨16, 10, .rwl, 0⟩]⟩,
   ⟨0x710C, 1, 4, 0x7100, .agg, -- VRD_DRIFT_Y
    [⟨0, 16, .rwl, 0⟩, ⟨16, 10, .rwl, 0⟩]⟩,
   ⟨0x7110, 1, 4, 0x7100, .agg, -- VRD_DRIFT_EVAL
    [⟨0, 23, .rwl, 1⟩]⟩,
   ⟨0x7114, 1, 4, 0x7100, .agg, -- VRD_DRIFT_MEAN_TH
    [⟨0, 32, .rwl, 0⟩]⟩,
   ⟨0x7118, 1, 4, 0x7100, .agg, -- VRD_DRIFT_SLOPE_TH
    [⟨0, 32, .rwl, 0⟩]⟩,
   ⟨0x711C, 1, 4, 0x7100, .agg, -- VRD_DRIFT_STAT
    [⟨0, 24, .ro, 0⟩, ⟨24, 1, .ro, 0⟩, ⟨25, 7, .rc, 0⟩]⟩,
   ⟨0x7120, 1, 4, 0x0, .agg, -- VRD_DRIFT_POOL
    [⟨0, 5, .rwl, 0⟩]⟩,
   ⟨0x7200, 1, 4, 0x0, .agg, -- VRD_EN_CFG
    [⟨0, 12, .rwl, 900⟩, ⟨12, 8, .rwl, 150⟩, ⟨20, 8, .rwl, 1⟩]⟩,
   ⟨0x7204, 1, 4, 0x0, .agg, -- VRD_EN_COLL
    [⟨0, 12, .rwl, 0⟩, ⟨16, 12, .rwl, 0⟩]⟩,
   ⟨0x7208, 1, 4, 0x0, .agg, -- VRD_EN_LIMIT
    [⟨0, 32, .rw, 0⟩]⟩,
   ⟨0x7210, 1, 4, 0x0, .agg, -- TARIFF_SEL
    [⟨0, 4, .rw, 0⟩]⟩,
   ⟨0x7214, 1, 4, 0x7210, .agg, -- TARIFF_AT_LO
    [⟨0, 32, .rw, 0⟩]⟩]

/-- Registers of region 0x7_000, part 3. -/
def regTable07_2 : List RegSpec :=
  [⟨0x7218, 1, 4, 0x7210, .agg, -- TARIFF_AT_HI
    [⟨0, 16, .rw, 0⟩, ⟨31, 1, .rw, 0⟩]⟩,
   ⟨0x721C, 1, 4, 0x7210, .agg, -- TARIFF_PRICE
    [⟨0, 32, .rw, 0⟩]⟩]

/-- Registers of region 0x7_000. -/
def regTable07 : List RegSpec := regTable07_0 ++ regTable07_1 ++ regTable07_2

/-- Registers of region 0x8_000, part 1. -/
def regTable08_0 : List RegSpec :=
  [⟨0x8000, 1, 4, 0x0, .both, -- KL_PORT_SEL
    [⟨0, 8, .rw, 0⟩]⟩,
   ⟨0x8004, 1, 4, 0x8000, .both, -- KL_PORT_CFG
    [⟨0, 1, .rwl, 0⟩, ⟨1, 2, .rwl, 2⟩, ⟨3, 2, .rwl, 2⟩, ⟨5, 2, .rwl, 0⟩]⟩,
   ⟨0x8008, 1, 4, 0x8000, .both, -- KL_PORT_STATUS
    [⟨0, 2, .ro, 0⟩, ⟨2, 3, .ro, 0⟩, ⟨5, 2, .ro, 0⟩, ⟨7, 4, .ro, 0⟩, ⟨11, 4, .ro, 0⟩, ⟨15, 8, .ro, 0⟩, ⟨23, 1, .ro, 0⟩]⟩,
   ⟨0x800C, 1, 4, 0x8000, .both, -- KL_PORT_ERR
    [⟨0, 16, .rc, 0⟩, ⟨16, 16, .rc, 0⟩]⟩,
   ⟨0x8010, 1, 4, 0x8000, .both, -- KL_LANE_ERR
    [⟨0, 8, .rc, 0⟩, ⟨8, 8, .rc, 0⟩, ⟨16, 8, .rc, 0⟩, ⟨24, 8, .rc, 0⟩]⟩,
   ⟨0x8014, 1, 4, 0x0, .both, -- KL_DEGRADE
    [⟨0, 16, .rwl, 64⟩, ⟨16, 16, .rwl, 1000⟩]⟩,
   ⟨0x8018, 1, 4, 0x0, .both, -- KL_TIMERS
    [⟨0, 8, .rwl, 8⟩, ⟨8, 8, .rwl, 4⟩, ⟨16, 8, .rwl, 10⟩]⟩,
   ⟨0x801C, 1, 4, 0x0, .both, -- KL_PAUSE_CFG
    [⟨0, 12, .rwl, 1024⟩, ⟨12, 12, .rwl, 512⟩, ⟨24, 8, .rwl, 16⟩]⟩,
   ⟨0x8020, 1, 4, 0x0, .both, -- KL_CMD
    [⟨0, 1, .wo, 0⟩, ⟨1, 1, .wo, 0⟩, ⟨2, 1, .wo, 0⟩]⟩,
   ⟨0x8024, 1, 4, 0x0, .both, -- KL_EVENTS
    [⟨0, 1, .w1c, 0⟩, ⟨1, 1, .w1c, 0⟩, ⟨2, 1, .w1c, 0⟩, ⟨3, 1, .w1c, 0⟩, ⟨4, 1, .w1c, 0⟩, ⟨5, 1, .w1c, 0⟩, ⟨6, 1, .w1c, 0⟩, ⟨7, 1, .w1c, 0⟩, ⟨8, 1, .w1c, 0⟩]⟩,
   ⟨0x8400, 1, 4, 0x0, .both, -- KL_LEARN_WINDOW
    [⟨0, 16, .rwl, 64⟩]⟩,
   ⟨0x8404, 1, 4, 0x0, .both, -- KL_DUPLDI
    [⟨0, 20, .ro, 0⟩, ⟨20, 8, .ro, 0⟩, ⟨31, 1, .rc, 0⟩]⟩]

/-- Registers of region 0x8_000, part 2. -/
def regTable08_1 : List RegSpec :=
  [⟨0x8408, 1, 4, 0x0, .both, -- KL_SETUP_STATUS
    [⟨0, 2, .ro, 0⟩, ⟨2, 1, .ro, 0⟩, ⟨3, 1, .ro, 0⟩, ⟨4, 1, .w1c, 0⟩, ⟨8, 8, .ro, 0⟩, ⟨16, 16, .ro, 0⟩]⟩]

/-- Registers of region 0x8_000. -/
def regTable08 : List RegSpec := regTable08_0 ++ regTable08_1

/-- Registers of region 0x9_000. -/
def regTable09 : List RegSpec :=
  [⟨0x9000, 1, 4, 0x0, .both, -- MON_CTRL
    [⟨0, 1, .rwl, 0⟩]⟩,
   ⟨0x9004, 1, 4, 0x0, .both, -- MON_STATUS
    [⟨0, 8, .ro, 0⟩, ⟨8, 8, .ro, 0⟩, ⟨16, 8, .ro, 0⟩]⟩,
   ⟨0x9008, 1, 4, 0x0, .both, -- MON_EVENTS
    [⟨0, 1, .w1c, 0⟩, ⟨1, 1, .w1c, 0⟩]⟩,
   ⟨0x9010, 1, 4, 0x0, .both, -- MON_CLASS_SEL
    [⟨0, 3, .rw, 0⟩]⟩,
   ⟨0x9014, 1, 4, 0x9010, .both, -- MON_CLASS_CFG
    [⟨0, 1, .rwl, 0⟩, ⟨1, 16, .rwl, 1⟩]⟩,
   ⟨0x9018, 1, 4, 0x9010, .both, -- MON_SHAPE
    [⟨0, 16, .rw, 0⟩, ⟨16, 16, .rw, 16⟩]⟩,
   ⟨0x901C, 1, 4, 0x9010, .both, -- MON_SHAPE_CMD
    [⟨0, 2, .rw, 0⟩, ⟨2, 1, .wo, 0⟩, ⟨3, 1, .ro, 0⟩]⟩,
   ⟨0x9020, 1, 4, 0x9010, .both, -- MON_GATE
    [⟨0, 16, .rwl, 0⟩, ⟨16, 16, .rwl, 0⟩]⟩,
   ⟨0x9024, 1, 4, 0x9010, .both, -- MON_GATE_IDX
    [⟨0, 8, .rwl, 0⟩, ⟨8, 1, .rwl, 0⟩]⟩,
   ⟨0x9028, 1, 4, 0x9010, .both, -- MON_SHAPE_ACT
    [⟨0, 16, .ro, 0⟩, ⟨16, 16, .ro, 16⟩]⟩,
   ⟨0x9030, 1, 4, 0x0, .both, -- MON_Q_SEL
    [⟨0, 16, .rw, 0⟩]⟩,
   ⟨0x9034, 1, 4, 0x9030, .both, -- MON_Q_CFG
    [⟨0, 3, .rwl, 0⟩, ⟨3, 16, .rwl, 1⟩]⟩]

/-- Registers of region 0xA_000, part 1. -/
def regTable0A_0 : List RegSpec :=
  [⟨0xA000, 1, 4, 0x0, .both, -- QUE_CTRL
    [⟨0, 1, .rwl, 0⟩]⟩,
   ⟨0xA004, 1, 4, 0x0, .both, -- QUE_STATUS
    [⟨0, 16, .ro, 0⟩, ⟨16, 1, .ro, 0⟩, ⟨17, 1, .ro, 0⟩, ⟨18, 1, .ro, 0⟩]⟩,
   ⟨0xA008, 1, 4, 0x0, .both, -- QUE_EVENTS
    [⟨0, 1, .w1c, 0⟩, ⟨1, 1, .w1c, 0⟩, ⟨2, 1, .w1c, 0⟩, ⟨3, 1, .w1c, 0⟩, ⟨4, 1, .w1c, 0⟩, ⟨5, 1, .w1c, 0⟩, ⟨6, 1, .w1c, 0⟩, ⟨7, 1, .w1c, 0⟩, ⟨8, 1, .w1c, 0⟩, ⟨9, 1, .w1c, 0⟩, ⟨10, 1, .w1c, 0⟩]⟩,
   ⟨0xA010, 1, 4, 0x0, .both, -- QUE_SEL
    [⟨0, 16, .rw, 0⟩]⟩,
   ⟨0xA014, 1, 4, 0xA010, .both, -- QUE_CFG
    [⟨0, 1, .rwl, 0⟩, ⟨1, 2, .rwl, 0⟩, ⟨3, 2, .rwl, 1⟩, ⟨5, 1, .rwl, 0⟩]⟩,
   ⟨0xA018, 1, 4, 0xA010, .both, -- QUE_SIZE
    [⟨0, 16, .rwl, 0⟩]⟩,
   ⟨0xA01C, 1, 4, 0xA010, .both, -- QUE_FILL
    [⟨0, 16, .ro, 0⟩, ⟨16, 16, .ro, 0⟩]⟩,
   ⟨0xA020, 1, 4, 0xA010, .both, -- QUE_CMD
    [⟨0, 1, .wo, 0⟩, ⟨1, 1, .ro, 0⟩]⟩,
   ⟨0xA024, 1, 4, 0xA010, .both, -- QUE_DROPS
    [⟨0, 16, .rc, 0⟩, ⟨16, 16, .rc, 0⟩]⟩,
   ⟨0xA030, 1, 4, 0x0, .both, -- QUE_PUSH_DATA
    [⟨0, 32, .wo, 0⟩]⟩,
   ⟨0xA034, 1, 4, 0x0, .both, -- QUE_PUSH_CMD
    [⟨0, 1, .wo, 0⟩, ⟨1, 1, .wo, 0⟩, ⟨2, 1, .wo, 0⟩, ⟨3, 1, .ro, 0⟩, ⟨4, 1, .ro, 0⟩, ⟨5, 3, .wo, 0⟩, ⟨16, 16, .wo, 0⟩]⟩,
   ⟨0xA040, 1, 4, 0x0, .d, -- QUE_HOLD_CFG
    [⟨0, 16, .rwl, 1000⟩, ⟨16, 8, .rwl, 16⟩, ⟨24, 3, .rwl, 6⟩]⟩]

/-- Registers of region 0xA_000, part 2. -/
def regTable0A_1 : List RegSpec :=
  [⟨0xA044, 1, 4, 0x0, .d, -- QUE_HOLD_STAT
    [⟨0, 16, .ro, 0⟩, ⟨16, 16, .rc, 0⟩]⟩,
   ⟨0xA050, 1, 4, 0x0, .agg, -- QUE_ACC_CFG
    [⟨0, 8, .rwl, 20⟩, ⟨8, 1, .rwl, 1⟩]⟩,
   ⟨0xA054, 1, 4, 0x0, .agg, -- QUE_ACC_STAT
    [⟨0, 10, .rc, 0⟩, ⟨10, 10, .rc, 0⟩, ⟨20, 10, .rc, 0⟩]⟩,
   ⟨0xA060, 1, 4, 0x0, .agg, -- QUE_QUAR
    [⟨0, 16, .rwl, 0⟩, ⟨16, 16, .rc, 0⟩]⟩,
   ⟨0xA070, 1, 4, 0x0, .both, -- QUE_REC_CFG
    [⟨0, 16, .rwl, 100⟩]⟩,
   ⟨0xA074, 1, 4, 0x0, .both, -- QUE_REC_STAT
    [⟨0, 4, .ro, 0⟩, ⟨4, 4, .ro, 0⟩, ⟨8, 2, .ro, 0⟩, ⟨16, 16, .ro, 0⟩]⟩,
   ⟨0xA080, 1, 4, 0x0, .both, -- QUE_INJ_SEL
    [⟨0, 3, .rw, 0⟩]⟩,
   ⟨0xA084, 1, 4, 0xA080, .both, -- QUE_INJ_CFG
    [⟨0, 3, .rw, 0⟩, ⟨3, 1, .rw, 0⟩, ⟨4, 1, .wo, 0⟩, ⟨5, 1, .ro, 0⟩, ⟨6, 6, .rw, 0⟩, ⟨12, 20, .rw, 0⟩]⟩,
   ⟨0xA088, 1, 4, 0xA080, .both, -- QUE_INJ_AT_LO
    [⟨0, 32, .rw, 0⟩]⟩,
   ⟨0xA08C, 1, 4, 0xA080, .both, -- QUE_INJ_AT_HI
    [⟨0, 32, .rw, 0⟩]⟩,
   ⟨0xA100, 8, 4, 0x0, .both, -- QUE_RDEST
    [⟨0, 16, .rwl, 0⟩, ⟨16, 16, .rwl, 0⟩]⟩]

/-- Registers of region 0xA_000. -/
def regTable0A : List RegSpec := regTable0A_0 ++ regTable0A_1

/-- Registers of region 0xB_000. -/
def regTable0B : List RegSpec :=
  [⟨0xB000, 1, 4, 0x0, .both, -- SLK_CTRL
    [⟨0, 1, .rwl, 0⟩]⟩,
   ⟨0xB004, 1, 4, 0x0, .both, -- SLK_STATUS
    [⟨0, 4, .ro, 0⟩, ⟨4, 4, .ro, 0⟩]⟩,
   ⟨0xB008, 1, 4, 0x0, .both, -- SLK_EVENTS
    [⟨0, 1, .w1c, 0⟩, ⟨1, 1, .w1c, 0⟩, ⟨2, 1, .w1c, 0⟩, ⟨3, 1, .w1c, 0⟩, ⟨4, 1, .w1c, 0⟩]⟩,
   ⟨0xB00C, 1, 4, 0x0, .both, -- SLK_CFG
    [⟨0, 7, .rwl, 16⟩, ⟨8, 4, .rwl, 8⟩, ⟨16, 16, .rwl, 256⟩]⟩,
   ⟨0xB010, 1, 4, 0x0, .both, -- SLK_ENG_FENCE
    [⟨0, 4, .rw, 0⟩]⟩,
   ⟨0xB014, 1, 4, 0x0, .both, -- SLK_STATS
    [⟨0, 16, .rc, 0⟩, ⟨16, 16, .rc, 0⟩]⟩,
   ⟨0xB020, 1, 4, 0x0, .both, -- SLK_RULE_SEL
    [⟨0, 6, .rw, 0⟩]⟩,
   ⟨0xB024, 1, 4, 0xB020, .both, -- SLK_RULE_CFG
    [⟨0, 16, .rwl, 0⟩, ⟨16, 1, .rwl, 0⟩, ⟨17, 1, .wo, 0⟩]⟩,
   ⟨0xB040, 4, 8, 0x0, .d, -- SLK_TRC_CONS
    [⟨0, 32, .ro, 0⟩]⟩,
   ⟨0xB044, 4, 8, 0x0, .d, -- SLK_TRC_PROD
    [⟨0, 32, .ro, 0⟩]⟩]

/-- Registers of region 0xC_000, part 1. -/
def regTable0C_0 : List RegSpec :=
  [⟨0xC000, 1, 4, 0x0, .both, -- COC_CTRL
    [⟨0, 1, .rwl, 0⟩]⟩,
   ⟨0xC004, 1, 4, 0x0, .both, -- COC_STATUS
    [⟨0, 2, .ro, 0⟩, ⟨2, 1, .ro, 0⟩, ⟨3, 1, .ro, 0⟩, ⟨4, 1, .ro, 0⟩, ⟨5, 5, .ro, 0⟩]⟩,
   ⟨0xC008, 1, 4, 0x0, .both, -- COC_EVENTS
    [⟨0, 1, .w1c, 0⟩, ⟨1, 1, .w1c, 0⟩, ⟨2, 1, .w1c, 0⟩, ⟨3, 1, .w1c, 0⟩, ⟨4, 1, .w1c, 0⟩, ⟨5, 1, .w1c, 0⟩, ⟨6, 1, .w1c, 0⟩, ⟨7, 1, .w1c, 0⟩, ⟨8, 1, .w1c, 0⟩, ⟨9, 1, .w1c, 0⟩, ⟨10, 1, .w1c, 0⟩, ⟨11, 1, .w1c, 0⟩, ⟨12, 1, .w1c, 0⟩, ⟨13, 1, .w1c, 0⟩, ⟨14, 1, .w1c, 0⟩, ⟨15, 1, .w1c, 0⟩, ⟨16, 1, .w1c, 0⟩]⟩,
   ⟨0xC00C, 1, 4, 0x0, .both, -- COC_CAP
    [⟨0, 32, .ro, 0⟩]⟩,
   ⟨0xC010, 1, 4, 0x0, .both, -- COC_FREE
    [⟨0, 32, .ro, 0⟩]⟩,
   ⟨0xC014, 1, 4, 0x0, .both, -- COC_AREA
    [⟨0, 7, .rwl, 16⟩, ⟨7, 3, .rwl, 5⟩]⟩,
   ⟨0xC018, 1, 4, 0x0, .both, -- COC_CFG
    [⟨0, 10, .rwl, 50⟩, ⟨10, 6, .rwl, 10⟩, ⟨16, 16, .rwl, 4096⟩]⟩,
   ⟨0xC01C, 1, 4, 0x0, .both, -- COC_PF
    [⟨0, 12, .rwl, 8⟩]⟩,
   ⟨0xC020, 1, 4, 0x0, .both, -- COC_PF_TIME
    [⟨0, 32, .ro, 0⟩]⟩,
   ⟨0xC024, 1, 4, 0x0, .both, -- COC_WEAR
    [⟨0, 16, .rwl, 512⟩, ⟨16, 16, .rwl, 3000⟩]⟩,
   ⟨0xC028, 1, 4, 0x0, .both, -- COC_SCRUB
    [⟨0, 8, .rwl, 168⟩, ⟨8, 8, .rwl, 40⟩, ⟨16, 8, .rwl, 90⟩]⟩,
   ⟨0xC02C, 1, 4, 0x0, .both, -- COC_RETRY
    [⟨0, 4, .rwl, 8⟩, ⟨4, 1, .rwl, 1⟩]⟩]

/-- Registers of region 0xC_000, part 2. -/
def regTable0C_1 : List RegSpec :=
  [⟨0xC030, 1, 4, 0x0, .both, -- COC_ECC
    [⟨0, 16, .rc, 0⟩, ⟨16, 8, .rc, 0⟩, ⟨24, 8, .rc, 0⟩]⟩,
   ⟨0xC034, 1, 4, 0x0, .both, -- COC_HEALTH
    [⟨0, 16, .ro, 0⟩, ⟨16, 16, .ro, 0⟩]⟩,
   ⟨0xC040, 1, 4, 0x0, .both, -- COC_REL_LO
    [⟨0, 32, .ro, 0⟩]⟩,
   ⟨0xC044, 1, 4, 0x0, .both, -- COC_REL_HI
    [⟨0, 32, .ro, 0⟩]⟩,
   ⟨0xC048, 1, 4, 0x0, .both, -- COC_NEW_LO
    [⟨0, 32, .ro, 0⟩]⟩,
   ⟨0xC04C, 1, 4, 0x0, .both, -- COC_NEW_HI
    [⟨0, 32, .ro, 0⟩]⟩,
   ⟨0xC060, 1, 4, 0x0, .both, -- COC_OP
    [⟨0, 1, .wo, 0⟩, ⟨1, 1, .wo, 0⟩, ⟨2, 1, .wo, 0⟩]⟩,
   ⟨0xC100, 1, 4, 0x0, .both, -- COC_CUR_SEL
    [⟨0, 2, .rw, 0⟩]⟩,
   ⟨0xC104, 1, 4, 0xC100, .both, -- COC_CUR_POS_LO
    [⟨0, 32, .rw, 0⟩]⟩,
   ⟨0xC108, 1, 4, 0xC100, .both, -- COC_CUR_POS_HI
    [⟨0, 32, .rw, 0⟩]⟩,
   ⟨0xC10C, 1, 4, 0xC100, .both, -- COC_CUR_CTRL
    [⟨0, 3, .wo, 0⟩, ⟨3, 1, .rw, 0⟩, ⟨4, 4, .rw, 0⟩, ⟨8, 3, .ro, 0⟩]⟩,
   ⟨0xC110, 1, 4, 0xC100, .both, -- COC_CUR_FILT
    [⟨0, 16, .rw, 0⟩, ⟨16, 1, .rw, 0⟩, ⟨17, 1, .rw, 0⟩]⟩]

/-- Registers of region 0xC_000, part 3. -/
def regTable0C_2 : List RegSpec :=
  [⟨0xC114, 1, 4, 0xC100, .both, -- COC_CUR_INFO
    [⟨0, 3, .ro, 0⟩]⟩,
   ⟨0xC200, 1, 4, 0x0, .both, -- COC_MCTR_SEL
    [⟨0, 12, .rw, 0⟩]⟩,
   ⟨0xC204, 1, 4, 0x0, .both, -- COC_MCTR_LO
    [⟨0, 32, .rw, 0⟩]⟩,
   ⟨0xC208, 1, 4, 0x0, .both, -- COC_MCTR_HI
    [⟨0, 32, .rw, 0⟩]⟩,
   ⟨0xC20C, 1, 4, 0x0, .both, -- COC_MCTR_CMD
    [⟨0, 1, .wo, 0⟩, ⟨1, 1, .ro, 1⟩]⟩]

/-- Registers of region 0xC_000. -/
def regTable0C : List RegSpec := regTable0C_0 ++ regTable0C_1 ++ regTable0C_2

/-- Registers of region 0xD_000, part 1. -/
def regTable0D_0 : List RegSpec :=
  [⟨0xD000, 1, 4, 0x0, .both, -- FIM_STATUS
    [⟨0, 3, .ro, 0⟩, ⟨3, 1, .ro, 0⟩, ⟨4, 1, .ro, 0⟩, ⟨5, 1, .ro, 0⟩, ⟨6, 1, .ro, 0⟩, ⟨7, 1, .ro, 0⟩, ⟨8, 1, .ro, 0⟩, ⟨9, 2, .ro, 0⟩]⟩,
   ⟨0xD004, 1, 4, 0x0, .both, -- FIM_EVENTS
    [⟨0, 1, .w1c, 0⟩, ⟨1, 1, .w1c, 0⟩, ⟨2, 1, .w1c, 0⟩, ⟨3, 1, .w1c, 0⟩, ⟨4, 1, .w1c, 0⟩, ⟨5, 1, .w1c, 0⟩, ⟨6, 1, .w1c, 0⟩, ⟨7, 1, .w1c, 0⟩, ⟨8, 1, .w1c, 0⟩]⟩,
   ⟨0xD008, 1, 4, 0x0, .both, -- FIM_CMD
    [⟨0, 2, .rw, 0⟩, ⟨2, 1, .wo, 0⟩, ⟨3, 1, .wo, 0⟩, ⟨4, 1, .wo, 0⟩, ⟨5, 1, .wo, 0⟩, ⟨6, 1, .wo, 0⟩, ⟨7, 1, .rw, 0⟩, ⟨8, 8, .rw, 0⟩]⟩,
   ⟨0xD00C, 1, 4, 0x0, .both, -- FIM_DATA
    [⟨0, 32, .wo, 0⟩]⟩,
   ⟨0xD010, 1, 4, 0x0, .agg, -- FIM_ADDR_LO
    [⟨0, 32, .rw, 0⟩]⟩,
   ⟨0xD014, 1, 4, 0x0, .agg, -- FIM_ADDR_HI
    [⟨0, 4, .rw, 0⟩]⟩,
   ⟨0xD018, 1, 4, 0x0, .both, -- FIM_SIZE
    [⟨0, 26, .rw, 0⟩]⟩,
   ⟨0xD01C, 1, 4, 0x0, .both, -- FIM_ERR
    [⟨0, 8, .ro, 0⟩, ⟨8, 8, .ro, 0⟩, ⟨16, 5, .ro, 31⟩]⟩,
   ⟨0xD020, 1, 4, 0x0, .both, -- FIM_ACT_BUILD
    [⟨0, 32, .ro, 0⟩]⟩,
   ⟨0xD024, 1, 4, 0x0, .both, -- FIM_PREV_BUILD
    [⟨0, 32, .ro, 0⟩]⟩,
   ⟨0xD028, 1, 4, 0x0, .both, -- FIM_STG_BUILD
    [⟨0, 32, .ro, 0⟩]⟩,
   ⟨0xD02C, 1, 4, 0x0, .both, -- FIM_TOPO
    [⟨0, 32, .ro, 0⟩]⟩]

/-- Registers of region 0xD_000, part 2. -/
def regTable0D_1 : List RegSpec :=
  [⟨0xD030, 1, 4, 0x0, .both, -- FIM_PROB
    [⟨0, 8, .rw, 16⟩]⟩]

/-- Registers of region 0xD_000. -/
def regTable0D : List RegSpec := regTable0D_0 ++ regTable0D_1

/-- Registers of region 0xE_000, part 1. -/
def regTable0E_0 : List RegSpec :=
  [⟨0xE000, 1, 4, 0x0, .both, -- INT_CTRL
    [⟨0, 1, .rwl, 0⟩, ⟨1, 1, .rwl, 0⟩, ⟨2, 1, .rwl, 0⟩]⟩,
   ⟨0xE004, 1, 4, 0x0, .both, -- INT_STATUS
    [⟨0, 4, .ro, 15⟩, ⟨4, 13, .ro, 0⟩, ⟨17, 1, .ro, 0⟩, ⟨18, 4, .ro, 0⟩]⟩,
   ⟨0xE008, 1, 4, 0x0, .both, -- INT_EVENTS
    [⟨0, 1, .w1c, 0⟩, ⟨1, 1, .w1c, 0⟩, ⟨2, 1, .w1c, 0⟩, ⟨3, 1, .w1c, 0⟩, ⟨4, 1, .w1c, 0⟩, ⟨5, 1, .w1c, 0⟩, ⟨6, 1, .w1c, 0⟩, ⟨7, 1, .w1c, 0⟩, ⟨8, 1, .w1c, 0⟩, ⟨9, 1, .w1c, 0⟩, ⟨10, 1, .w1c, 0⟩, ⟨11, 1, .w1c, 0⟩]⟩,
   ⟨0xE00C, 1, 4, 0x0, .both, -- INT_SENSE
    [⟨0, 16, .ro, 0⟩, ⟨16, 16, .ro, 0⟩]⟩,
   ⟨0xE010, 1, 4, 0x0, .both, -- INT_ST_CFG
    [⟨0, 8, .rwl, 10⟩, ⟨8, 16, .rwl, 1000⟩, ⟨24, 4, .rwl, 3⟩]⟩,
   ⟨0xE014, 1, 4, 0x0, .both, -- INT_CLASS
    [⟨0, 8, .rwl, 3⟩, ⟨8, 16, .rwl, 24⟩]⟩,
   ⟨0xE020, 1, 4, 0x0, .both, -- INT_PART_SEL
    [⟨0, 4, .rw, 0⟩, ⟨4, 13, .rw, 0⟩]⟩,
   ⟨0xE024, 1, 4, 0x0, .both, -- INT_PART_STAT
    [⟨0, 1, .ro, 0⟩, ⟨1, 1, .ro, 0⟩, ⟨2, 1, .ro, 0⟩, ⟨3, 3, .ro, 0⟩, ⟨6, 8, .ro, 0⟩, ⟨14, 1, .wo, 0⟩]⟩,
   ⟨0xE030, 1, 4, 0x0, .d, -- INT_SCL_FENCE
    [⟨0, 32, .rw, 0⟩]⟩,
   ⟨0xE034, 1, 4, 0x0, .both, -- INT_DEST
    [⟨0, 16, .rwl, 0⟩, ⟨16, 16, .rwl, 0⟩]⟩,
   ⟨0xE040, 1, 4, 0x0, .d, -- INT_SHD_CFG
    [⟨0, 4, .rwl, 10⟩, ⟨4, 8, .rwl, 16⟩, ⟨12, 8, .rwl, 4⟩, ⟨20, 12, .rwl, 1000⟩]⟩,
   ⟨0xE044, 1, 4, 0x0, .d, -- INT_SHD_STAT
    [⟨0, 13, .ro, 0⟩, ⟨13, 1, .ro, 0⟩, ⟨14, 5, .ro, 0⟩]⟩]

/-- Registers of region 0xE_000, part 2. -/
def regTable0E_1 : List RegSpec :=
  [⟨0xE048, 1, 4, 0x0, .d, -- INT_SHD_COUNT
    [⟨0, 16, .rc, 0⟩, ⟨16, 8, .rc, 0⟩, ⟨24, 8, .rc, 0⟩]⟩,
   ⟨0xE050, 1, 4, 0x0, .both, -- INT_LAST
    [⟨0, 32, .ro, 0⟩]⟩,
   ⟨0xE054, 1, 4, 0x0, .both, -- INT_LAST_INFO
    [⟨0, 4, .ro, 0⟩, ⟨4, 3, .ro, 0⟩, ⟨8, 8, .ro, 0⟩, ⟨16, 16, .ro, 0⟩]⟩,
   ⟨0xE060, 1, 4, 0x0, .both, -- INT_ECC
    [⟨0, 16, .rc, 0⟩, ⟨16, 8, .rc, 0⟩, ⟨24, 8, .rc, 0⟩]⟩]

/-- Registers of region 0xE_000. -/
def regTable0E : List RegSpec := regTable0E_0 ++ regTable0E_1

/-- Registers of region 0xF_000, part 1. -/
def regTable0F_0 : List RegSpec :=
  [⟨0xF000, 1, 4, 0x0, .both, -- STW_CTRL
    [⟨0, 1, .rwl, 1⟩, ⟨1, 1, .rwl, 0⟩]⟩,
   ⟨0xF004, 1, 4, 0x0, .both, -- STW_STATUS
    [⟨0, 16, .ro, 0⟩, ⟨16, 2, .ro, 0⟩, ⟨18, 7, .ro, 0⟩]⟩,
   ⟨0xF008, 1, 4, 0x0, .both, -- STW_EVENTS
    [⟨0, 1, .w1c, 0⟩, ⟨1, 1, .w1c, 0⟩, ⟨2, 1, .w1c, 0⟩, ⟨3, 1, .w1c, 0⟩, ⟨4, 1, .w1c, 0⟩, ⟨5, 1, .w1c, 0⟩, ⟨6, 1, .w1c, 0⟩, ⟨7, 1, .w1c, 0⟩, ⟨8, 1, .w1c, 0⟩, ⟨9, 1, .w1c, 0⟩, ⟨10, 1, .w1c, 0⟩, ⟨11, 1, .w1c, 0⟩, ⟨12, 1, .w1c, 0⟩, ⟨13, 1, .w1c, 0⟩]⟩,
   ⟨0xF00C, 1, 4, 0x0, .both, -- STW_SHED
    [⟨0, 7, .rwl, 90⟩, ⟨7, 7, .rwl, 60⟩, ⟨14, 8, .rwl, 10⟩]⟩,
   ⟨0xF010, 1, 4, 0x0, .both, -- STW_WDOG
    [⟨0, 16, .rwl, 500⟩]⟩,
   ⟨0xF014, 1, 4, 0x0, .both, -- STW_HIST_SEL
    [⟨0, 4, .rw, 0⟩]⟩,
   ⟨0xF018, 1, 4, 0xF014, .both, -- STW_HIST
    [⟨0, 32, .rc, 0⟩]⟩,
   ⟨0xF01C, 1, 4, 0x0, .both, -- STW_POSTS
    [⟨0, 16, .rc, 0⟩]⟩,
   ⟨0xF030, 1, 4, 0x0, .both, -- STW_LOG_STAT
    [⟨0, 16, .rc, 0⟩, ⟨16, 16, .rc, 0⟩]⟩,
   ⟨0xF034, 1, 4, 0x0, .both, -- STW_LOG_HEAD
    [⟨0, 32, .ro, 0⟩]⟩,
   ⟨0xF038, 1, 4, 0x0, .both, -- STW_LOG_SEL
    [⟨0, 32, .rw, 0⟩]⟩,
   ⟨0xF040, 12, 4, 0x0, .both, -- STW_LOG_DATA
    [⟨0, 32, .ro, 0⟩]⟩]

/-- Registers of region 0xF_000, part 2. -/
def regTable0F_1 : List RegSpec :=
  [⟨0xF080, 1, 4, 0x0, .both, -- STW_VSB_CFG
    [⟨0, 1, .rwl, 1⟩, ⟨1, 3, .rwl, 3⟩, ⟨4, 8, .rwl, 100⟩]⟩,
   ⟨0xF084, 1, 4, 0x0, .both, -- STW_VSB_STATUS
    [⟨0, 6, .ro, 0⟩, ⟨6, 1, .ro, 0⟩, ⟨7, 1, .ro, 0⟩]⟩,
   ⟨0xF088, 1, 4, 0x0, .both, -- STW_VSB_STAT
    [⟨0, 16, .rc, 0⟩, ⟨16, 8, .rc, 0⟩, ⟨24, 8, .rc, 0⟩]⟩,
   ⟨0xF100, 1, 4, 0x0, .both, -- SYN_CMD
    [⟨0, 12, .wo, 0⟩, ⟨12, 3, .wo, 0⟩, ⟨16, 16, .wo, 0⟩]⟩,
   ⟨0xF104, 1, 4, 0x0, .both, -- SYN_RESULT
    [⟨0, 16, .ro, 0⟩, ⟨16, 3, .ro, 0⟩, ⟨19, 1, .ro, 0⟩, ⟨20, 1, .ro, 0⟩]⟩,
   ⟨0xF108, 1, 4, 0x0, .both, -- SYN_FAULT
    [⟨0, 12, .ro, 0⟩, ⟨12, 1, .ro, 0⟩, ⟨31, 1, .rc, 0⟩]⟩,
   ⟨0xF200, 1, 4, 0x0, .both, -- IRQ_SRC_SEL
    [⟨0, 9, .rw, 0⟩]⟩,
   ⟨0xF204, 1, 4, 0xF200, .both, -- IRQ_SRC_CFG
    [⟨0, 1, .rw, 0⟩, ⟨1, 2, .rw, 0⟩, ⟨3, 4, .rw, 0⟩, ⟨7, 1, .rw, 0⟩, ⟨8, 1, .rw, 1⟩, ⟨9, 2, .rw, 0⟩, ⟨11, 1, .ro, 0⟩, ⟨12, 1, .ro, 0⟩, ⟨13, 1, .ro, 0⟩, ⟨14, 2, .ro, 0⟩]⟩,
   ⟨0xF208, 1, 4, 0x0, .both, -- IRQ_EXT
    [⟨0, 1, .w1c, 0⟩, ⟨1, 1, .w1c, 0⟩, ⟨2, 1, .w1c, 0⟩, ⟨3, 1, .w1c, 0⟩, ⟨4, 1, .w1c, 0⟩, ⟨5, 1, .w1c, 0⟩, ⟨6, 1, .w1c, 0⟩, ⟨7, 1, .w1c, 0⟩, ⟨8, 1, .w1c, 0⟩, ⟨9, 1, .w1c, 0⟩, ⟨10, 1, .w1c, 0⟩, ⟨11, 1, .w1c, 0⟩, ⟨12, 1, .w1c, 0⟩, ⟨13, 1, .w1c, 0⟩, ⟨14, 1, .w1c, 0⟩, ⟨15, 1, .w1c, 0⟩, ⟨16, 1, .w1c, 0⟩, ⟨17, 1, .w1c, 0⟩, ⟨18, 1, .w1c, 0⟩, ⟨19, 1, .w1c, 0⟩, ⟨20, 1, .w1c, 0⟩, ⟨21, 1, .w1c, 0⟩, ⟨22, 1, .w1c, 0⟩, ⟨23, 1, .w1c, 0⟩, ⟨24, 1, .w1c, 0⟩, ⟨25, 1, .w1c, 0⟩, ⟨26, 1, .w1c, 0⟩, ⟨27, 1, .w1c, 0⟩, ⟨28, 1, .w1c, 0⟩, ⟨29, 1, .w1c, 0⟩, ⟨30, 1, .w1c, 0⟩, ⟨31, 1, .w1c, 0⟩]⟩,
   ⟨0xF210, 4, 16, 0x0, .both, -- IRQ_CLAIM
    [⟨0, 9, .ro, 0⟩, ⟨16, 4, .ro, 0⟩, ⟨31, 1, .ro, 0⟩]⟩,
   ⟨0xF214, 4, 16, 0x0, .both, -- IRQ_EOI
    [⟨0, 9, .wo, 0⟩]⟩,
   ⟨0xF218, 4, 16, 0x0, .both, -- IRQ_STATE
    [⟨0, 4, .ro, 0⟩, ⟨4, 4, .ro, 0⟩, ⟨8, 1, .ro, 0⟩, ⟨9, 1, .ro, 0⟩]⟩]

/-- Registers of region 0xF_000, part 3. -/
def regTable0F_2 : List RegSpec :=
  [⟨0xF21C, 4, 16, 0x0, .both, -- IRQ_MOD
    [⟨0, 10, .rw, 0⟩, ⟨10, 7, .rw, 8⟩]⟩,
   ⟨0xF250, 1, 4, 0x0, .both, -- IRQ_STORM
    [⟨0, 10, .rwl, 100⟩, ⟨10, 8, .rwl, 32⟩, ⟨18, 8, .rwl, 10⟩, ⟨26, 2, .rwl, 3⟩]⟩,
   ⟨0xF254, 1, 4, 0x0, .both, -- IRQ_STORM_LAST
    [⟨0, 9, .ro, 0⟩, ⟨31, 1, .rc, 0⟩]⟩]

/-- Registers of region 0xF_000. -/
def regTable0F : List RegSpec := regTable0F_0 ++ regTable0F_1 ++ regTable0F_2

/-- Registers of region 0x10_000, part 1. -/
def regTable10_0 : List RegSpec :=
  [⟨0x10000, 1, 4, 0x0, .both, -- PWR_STATUS
    [⟨0, 2, .ro, 2⟩, ⟨2, 2, .ro, 0⟩, ⟨4, 2, .ro, 0⟩, ⟨6, 2, .ro, 0⟩, ⟨8, 2, .ro, 0⟩, ⟨10, 2, .ro, 0⟩, ⟨12, 2, .ro, 0⟩, ⟨14, 2, .ro, 0⟩, ⟨16, 2, .ro, 0⟩, ⟨18, 2, .ro, 0⟩, ⟨20, 2, .ro, 0⟩, ⟨22, 2, .ro, 0⟩, ⟨24, 1, .ro, 0⟩, ⟨25, 1, .ro, 0⟩, ⟨26, 1, .ro, 0⟩, ⟨27, 1, .ro, 0⟩]⟩,
   ⟨0x10004, 1, 4, 0x0, .both, -- PWR_EVENTS
    [⟨0, 1, .w1c, 0⟩, ⟨1, 1, .w1c, 0⟩, ⟨2, 1, .w1c, 0⟩, ⟨3, 1, .w1c, 0⟩, ⟨4, 1, .w1c, 0⟩, ⟨5, 1, .w1c, 0⟩, ⟨6, 1, .w1c, 0⟩, ⟨7, 1, .w1c, 0⟩]⟩,
   ⟨0x10008, 1, 4, 0x0, .both, -- PWR_DOM_TGT
    [⟨0, 24, .rw, 11184810⟩]⟩,
   ⟨0x1000C, 1, 4, 0x0, .both, -- PWR_SLEEP
    [⟨0, 1, .wo, 0⟩, ⟨1, 1, .wo, 0⟩, ⟨8, 8, .rw, 16⟩]⟩,
   ⟨0x10010, 1, 4, 0x0, .both, -- PWR_SLEEP_STAT
    [⟨0, 4, .ro, 0⟩, ⟨4, 4, .ro, 0⟩, ⟨8, 12, .ro, 0⟩, ⟨20, 1, .ro, 0⟩, ⟨31, 1, .rc, 0⟩]⟩,
   ⟨0x10100, 1, 4, 0x0, .both, -- RST_CAUSE
    [⟨0, 1, .w1c, 1⟩, ⟨1, 1, .w1c, 0⟩, ⟨2, 1, .w1c, 0⟩, ⟨3, 1, .w1c, 0⟩, ⟨4, 1, .w1c, 0⟩, ⟨8, 3, .ro, 1⟩]⟩,
   ⟨0x10104, 1, 4, 0x0, .both, -- RST_CMD
    [⟨0, 1, .wo, 0⟩, ⟨16, 16, .wo, 0⟩]⟩,
   ⟨0x10108, 1, 4, 0x0, .both, -- RST_UNIT
    [⟨1, 11, .wo, 0⟩, ⟨16, 16, .wo, 0⟩]⟩,
   ⟨0x1010C, 1, 4, 0x0, .both, -- RST_START
    [⟨0, 8, .rw, 60⟩, ⟨8, 8, .rw, 30⟩]⟩,
   ⟨0x10110, 1, 4, 0x0, .both, -- RST_STAT
    [⟨0, 2, .ro, 0⟩, ⟨2, 1, .ro, 0⟩, ⟨3, 1, .ro, 0⟩, ⟨4, 2, .ro, 0⟩, ⟨6, 1, .rc, 0⟩, ⟨8, 4, .ro, 0⟩, ⟨16, 16, .ro, 0⟩]⟩,
   ⟨0x10114, 1, 4, 0x0, .both, -- RST_GAP
    [⟨0, 8, .rw, 16⟩]⟩,
   ⟨0x10200, 16, 4, 0x0, .both, -- PWR_BKP
    [⟨0, 32, .rw, 0⟩]⟩]

/-- Registers of region 0x10_000, part 2. -/
def regTable10_1 : List RegSpec :=
  [⟨0x10300, 1, 4, 0x0, .both, -- PWR_RET_ADDR
    [⟨2, 14, .rw, 0⟩]⟩,
   ⟨0x10304, 1, 4, 0x0, .both, -- PWR_RET_DATA
    [⟨0, 32, .rw, 0⟩]⟩,
   ⟨0x10800, 32, 4, 0x0, .both, -- PWR_WAKE_SRC
    [⟨0, 10, .rw, 0⟩, ⟨10, 1, .rw, 0⟩]⟩,
   ⟨0x10880, 1, 4, 0x0, .both, -- PWR_WAKE_LATCH
    [⟨0, 1, .w1c, 0⟩, ⟨1, 1, .w1c, 0⟩, ⟨2, 1, .w1c, 0⟩, ⟨3, 1, .w1c, 0⟩, ⟨4, 1, .w1c, 0⟩, ⟨5, 1, .w1c, 0⟩, ⟨6, 1, .w1c, 0⟩, ⟨7, 1, .w1c, 0⟩, ⟨8, 1, .w1c, 0⟩, ⟨9, 1, .w1c, 0⟩, ⟨10, 1, .w1c, 0⟩, ⟨11, 1, .w1c, 0⟩, ⟨12, 1, .w1c, 0⟩, ⟨13, 1, .w1c, 0⟩, ⟨14, 1, .w1c, 0⟩, ⟨15, 1, .w1c, 0⟩, ⟨16, 1, .w1c, 0⟩, ⟨17, 1, .w1c, 0⟩, ⟨18, 1, .w1c, 0⟩, ⟨19, 1, .w1c, 0⟩, ⟨20, 1, .w1c, 0⟩, ⟨21, 1, .w1c, 0⟩, ⟨22, 1, .w1c, 0⟩, ⟨23, 1, .w1c, 0⟩, ⟨24, 1, .w1c, 0⟩, ⟨25, 1, .w1c, 0⟩, ⟨26, 1, .w1c, 0⟩, ⟨27, 1, .w1c, 0⟩, ⟨28, 1, .w1c, 0⟩, ⟨29, 1, .w1c, 0⟩, ⟨30, 1, .w1c, 0⟩, ⟨31, 1, .w1c, 0⟩]⟩,
   ⟨0x10884, 1, 4, 0x0, .both, -- PWR_WAKE_TIMER
    [⟨0, 32, .rw, 0⟩]⟩]

/-- Registers of region 0x10_000. -/
def regTable10 : List RegSpec := regTable10_0 ++ regTable10_1

/-- Registers of region 0x11_000. -/
def regTable11 : List RegSpec :=
  [⟨0x11000, 1, 4, 0x0, .both, -- SEC_STATUS
    [⟨0, 1, .ro, 0⟩, ⟨1, 3, .ro, 0⟩, ⟨4, 4, .ro, 0⟩, ⟨8, 1, .ro, 0⟩, ⟨9, 3, .ro, 0⟩]⟩,
   ⟨0x11004, 1, 4, 0x0, .both, -- SEC_GRANT
    [⟨0, 4, .ro, 0⟩, ⟨8, 8, .ro, 0⟩]⟩,
   ⟨0x11008, 1, 4, 0x0, .both, -- SEC_EVENTS
    [⟨0, 1, .w1c, 0⟩, ⟨1, 1, .w1c, 0⟩, ⟨2, 1, .w1c, 0⟩, ⟨3, 1, .w1c, 0⟩, ⟨4, 1, .w1c, 0⟩, ⟨5, 1, .w1c, 0⟩, ⟨6, 1, .w1c, 0⟩, ⟨7, 1, .w1c, 0⟩]⟩,
   ⟨0x11010, 8, 4, 0x0, .both, -- SEC_CHAL
    [⟨0, 32, .ro, 0⟩]⟩,
   ⟨0x11030, 8, 4, 0x0, .both, -- SEC_RESP
    [⟨0, 32, .wo, 0⟩]⟩,
   ⟨0x11050, 1, 4, 0x0, .both, -- SEC_UNLOCK
    [⟨0, 1, .wo, 0⟩, ⟨1, 1, .wo, 0⟩, ⟨2, 1, .wo, 0⟩, ⟨3, 1, .wo, 0⟩, ⟨4, 4, .wo, 0⟩, ⟨8, 8, .wo, 0⟩]⟩,
   ⟨0x11060, 2, 4, 0x0, .both, -- SEC_BASE
    [⟨0, 4, .rwl, 0⟩, ⟨8, 8, .rwl, 255⟩]⟩,
   ⟨0x11068, 1, 4, 0x0, .both, -- SEC_BANK_PART
    [⟨0, 24, .rwl, 16434824⟩]⟩,
   ⟨0x11070, 1, 4, 0x0, .both, -- SEC_KEY_SEL
    [⟨0, 3, .rw, 0⟩]⟩,
   ⟨0x11074, 1, 4, 0x11070, .both, -- SEC_KEY_INFO
    [⟨0, 32, .ro, 0⟩]⟩,
   ⟨0x11078, 1, 4, 0x11070, .both, -- SEC_KEY_STAT
    [⟨0, 1, .ro, 0⟩, ⟨1, 1, .ro, 0⟩, ⟨2, 1, .ro, 0⟩, ⟨3, 1, .wo, 0⟩]⟩]

/-- The registers of a 4 KiB region (R13). -/
def regTable (region : Nat) : List RegSpec :=
  match region with
  | 0 => regTable00
  | 1 => regTable01
  | 2 => regTable02
  | 3 => regTable03
  | 4 => regTable04
  | 5 => regTable05
  | 6 => regTable06
  | 7 => regTable07
  | 8 => regTable08
  | 9 => regTable09
  | 10 => regTable0A
  | 11 => regTable0B
  | 12 => regTable0C
  | 13 => regTable0D
  | 14 => regTable0E
  | 15 => regTable0F
  | 16 => regTable10
  | 17 => regTable11
  | _ => []

/-- Which values of a selector register name a copy: the selector's offset gives the mask of each build
(each chapter's SEL register). -/
def selMask (agg : Bool) (sel : Nat) : Nat :=
  match sel with
  | 0x1200 => 0x1F -- ANT_LAUNCH_SEL
  | 0x2020 => 0x3FFF -- PRB_CNT_SEL
  | 0x2040 => 0x7FF -- PRB_LANE_SEL
  | 0x2050 => 0x3FF -- PRB_MON_SEL
  | 0x4010 => 0x3F -- TRC_LANE_SEL
  | 0x5200 => 0xFFF -- SWM_COLL_SEL
  | 0x5300 => 0xFFF -- SWM_PROG_SEL
  | 0x6020 => 0x3 -- HWK_ENS_SEL
  | 0x6040 => 0xFFF -- HWK_FMAP_SEL
  | 0x608C => 0x3FF -- HWK_LFEAT_SEL
  | 0x7040 => 0xF -- VRD_RULE_SEL
  | 0x7100 => 0x3F -- VRD_DRIFT_SEL
  | 0x7210 => 0xF -- TARIFF_SEL
  | 0x8000 => 0xFF -- KL_PORT_SEL
  | 0x9010 => 0x7 -- MON_CLASS_SEL
  | 0x9030 => if agg then 0xFFFF else 0xFFF -- MON_Q_SEL
  | 0xA010 => if agg then 0xFFFF else 0xFFF -- QUE_SEL
  | 0xA080 => 0x7 -- QUE_INJ_SEL
  | 0xB020 => if agg then 0x3F else 0xF -- SLK_RULE_SEL
  | 0xC100 => if agg then 0x3 else 0x0 -- COC_CUR_SEL
  | 0xC200 => if agg then 0xFFF else 0x3F -- COC_MCTR_SEL
  | 0xE020 => 0x1FFFF -- INT_PART_SEL
  | 0xF200 => 0x1FF -- IRQ_SRC_SEL
  | 0x11070 => 0x7 -- SEC_KEY_SEL
  | 0xF014 => 0xF -- STW_HIST_SEL
  | _ => 0

end Sys2Proof.Machine
end

