-- ==== Sys2Proof/Machine/Sources.lean ====
section
/-! DEFINITION. Names of the interrupt sources (spec/15_steward_interrupts_sideband.md, R333, Table 15-3): source 32 g + b
is bit b of the event register of group g; power events start at 464 (R365) and security events at 472 (R376). -/

namespace Sys2Proof.Machine

/-- Event bit `ANT_BEACON_LOST`. -/
def Ev.ANT_BEACON_LOST : Nat := 7
/-- Event bit `ANT_BEACON_STALE`. -/
def Ev.ANT_BEACON_STALE : Nat := 8
/-- Event bit `ANT_DEFERRED`. -/
def Ev.ANT_DEFERRED : Nat := 5
/-- Event bit `ANT_JUMP_REFUSED`. -/
def Ev.ANT_JUMP_REFUSED : Nat := 9
/-- Event bit `ANT_LAUNCH_EMPTY`. -/
def Ev.ANT_LAUNCH_EMPTY : Nat := 11
/-- Event bit `ANT_LAUNCH_LATE`. -/
def Ev.ANT_LAUNCH_LATE : Nat := 10
/-- Event bit `ANT_OVERRUN`. -/
def Ev.ANT_OVERRUN : Nat := 0
/-- Event bit `ANT_SET_COLLIDE`. -/
def Ev.ANT_SET_COLLIDE : Nat := 3
/-- Event bit `ANT_SET_REFUSED`. -/
def Ev.ANT_SET_REFUSED : Nat := 2
/-- Event bit `ANT_STEP_TIMEOUT`. -/
def Ev.ANT_STEP_TIMEOUT : Nat := 1
/-- Event bit `ANT_STEP_WRAP`. -/
def Ev.ANT_STEP_WRAP : Nat := 6
/-- Event bit `ANT_STORM`. -/
def Ev.ANT_STORM : Nat := 4
/-- Event bit `COC_BLOCK_RETIRED`. -/
def Ev.COC_BLOCK_RETIRED : Nat := 358
/-- Event bit `COC_FULL`. -/
def Ev.COC_FULL : Nat := 352
/-- Event bit `COC_GROUP_LOST`. -/
def Ev.COC_GROUP_LOST : Nat := 357
/-- Event bit `COC_LOW`. -/
def Ev.COC_LOW : Nat := 353
/-- Event bit `COC_NOR_BAD`. -/
def Ev.COC_NOR_BAD : Nat := 368
/-- Event bit `COC_NOR_SKIP`. -/
def Ev.COC_NOR_SKIP : Nat := 367
/-- Event bit `COC_OP_DONE`. -/
def Ev.COC_OP_DONE : Nat := 365
/-- Event bit `COC_OP_REFUSED`. -/
def Ev.COC_OP_REFUSED : Nat := 366
/-- Event bit `COC_PF_CUT`. -/
def Ev.COC_PF_CUT : Nat := 363
/-- Event bit `COC_PF_DONE`. -/
def Ev.COC_PF_DONE : Nat := 362
/-- Event bit `COC_PF_START`. -/
def Ev.COC_PF_START : Nat := 361
/-- Event bit `COC_REBUILD`. -/
def Ev.COC_REBUILD : Nat := 355
/-- Event bit `COC_RECOVERED`. -/
def Ev.COC_RECOVERED : Nat := 364
/-- Event bit `COC_RETRY`. -/
def Ev.COC_RETRY : Nat := 354
/-- Event bit `COC_SPARE_LOW`. -/
def Ev.COC_SPARE_LOW : Nat := 360
/-- Event bit `COC_TARGET_FAIL`. -/
def Ev.COC_TARGET_FAIL : Nat := 359
/-- Event bit `COC_UNCORR`. -/
def Ev.COC_UNCORR : Nat := 356
/-- Event bit `FIM_ABANDONED`. -/
def Ev.FIM_ABANDONED : Nat := 391
/-- Event bit `FIM_COMMITTED`. -/
def Ev.FIM_COMMITTED : Nat := 386
/-- Event bit `FIM_COMMIT_REFUSED`. -/
def Ev.FIM_COMMIT_REFUSED : Nat := 387
/-- Event bit `FIM_CONFIRMED`. -/
def Ev.FIM_CONFIRMED : Nat := 390
/-- Event bit `FIM_LOAD_FAIL`. -/
def Ev.FIM_LOAD_FAIL : Nat := 385
/-- Event bit `FIM_NEED`. -/
def Ev.FIM_NEED : Nat := 392
/-- Event bit `FIM_NOBOUNDARY`. -/
def Ev.FIM_NOBOUNDARY : Nat := 388
/-- Event bit `FIM_ROLLBACK`. -/
def Ev.FIM_ROLLBACK : Nat := 389
/-- Event bit `FIM_VERIFIED`. -/
def Ev.FIM_VERIFIED : Nat := 384
/-- Event bit `HWK_CHECK`. -/
def Ev.HWK_CHECK : Nat := 163
/-- Event bit `HWK_EXPAND_DONE`. -/
def Ev.HWK_EXPAND_DONE : Nat := 160
/-- Event bit `HWK_EXPAND_ERR`. -/
def Ev.HWK_EXPAND_ERR : Nat := 161
/-- Event bit `HWK_FEAT_DROP`. -/
def Ev.HWK_FEAT_DROP : Nat := 165
/-- Event bit `HWK_LOCAL_HIT`. -/
def Ev.HWK_LOCAL_HIT : Nat := 167
/-- Event bit `HWK_PASS_SKIP`. -/
def Ev.HWK_PASS_SKIP : Nat := 162
/-- Event bit `HWK_SCORE_ERR`. -/
def Ev.HWK_SCORE_ERR : Nat := 164
/-- Event bit `HWK_SWAP`. -/
def Ev.HWK_SWAP : Nat := 168
/-- Event bit `HWK_TILE_FENCED`. -/
def Ev.HWK_TILE_FENCED : Nat := 166
/-- Event bit `INT_CHECKER`. -/
def Ev.INT_CHECKER : Nat := 425
/-- Event bit `INT_CONF_FULL`. -/
def Ev.INT_CONF_FULL : Nat := 426
/-- Event bit `INT_PERMANENT`. -/
def Ev.INT_PERMANENT : Nat := 417
/-- Event bit `INT_RANGE`. -/
def Ev.INT_RANGE : Nat := 423
/-- Event bit `INT_REPLAY`. -/
def Ev.INT_REPLAY : Nat := 422
/-- Event bit `INT_REPORT`. -/
def Ev.INT_REPORT : Nat := 416
/-- Event bit `INT_SHD_LOST`. -/
def Ev.INT_SHD_LOST : Nat := 427
/-- Event bit `INT_SHD_MISMATCH`. -/
def Ev.INT_SHD_MISMATCH : Nat := 421
/-- Event bit `INT_ST_FAIL`. -/
def Ev.INT_ST_FAIL : Nat := 419
/-- Event bit `INT_ST_SKIP`. -/
def Ev.INT_ST_SKIP : Nat := 420
/-- Event bit `INT_TRANSIENT`. -/
def Ev.INT_TRANSIENT : Nat := 418
/-- Event bit `INT_UNCORR`. -/
def Ev.INT_UNCORR : Nat := 424
/-- Event bit `KL_DEGRADED`. -/
def Ev.KL_DEGRADED : Nat := 225
/-- Event bit `KL_DOWN`. -/
def Ev.KL_DOWN : Nat := 226
/-- Event bit `KL_NEG_FAIL`. -/
def Ev.KL_NEG_FAIL : Nat := 229
/-- Event bit `KL_PAUSE_RX`. -/
def Ev.KL_PAUSE_RX : Nat := 232
/-- Event bit `KL_PROTO`. -/
def Ev.KL_PROTO : Nat := 230
/-- Event bit `KL_REPLAY_LIMIT`. -/
def Ev.KL_REPLAY_LIMIT : Nat := 231
/-- Event bit `KL_RETRAIN`. -/
def Ev.KL_RETRAIN : Nat := 224
/-- Event bit `KL_UP`. -/
def Ev.KL_UP : Nat := 227
/-- Event bit `KL_VER_LOW`. -/
def Ev.KL_VER_LOW : Nat := 228
/-- Event bit `MON_GATE_STARVE`. -/
def Ev.MON_GATE_STARVE : Nat := 257
/-- Event bit `MON_SHAPE_APPLIED`. -/
def Ev.MON_SHAPE_APPLIED : Nat := 256
/-- Event bit `PRB_FAST`. -/
def Ev.PRB_FAST : Nat := 36
/-- Event bit `PRB_FENCED`. -/
def Ev.PRB_FENCED : Nat := 38
/-- Event bit `PRB_MSG_BAD`. -/
def Ev.PRB_MSG_BAD : Nat := 34
/-- Event bit `PRB_MSNAP_LOST`. -/
def Ev.PRB_MSNAP_LOST : Nat := 33
/-- Event bit `PRB_QUIET`. -/
def Ev.PRB_QUIET : Nat := 37
/-- Event bit `PRB_SNAP_LOST`. -/
def Ev.PRB_SNAP_LOST : Nat := 32
/-- Event bit `PRB_STUCK`. -/
def Ev.PRB_STUCK : Nat := 35
/-- Event bit `PWR_PF_CLEAR`. -/
def Ev.PWR_PF_CLEAR : Nat := 465
/-- Event bit `PWR_PF_WARN`. -/
def Ev.PWR_PF_WARN : Nat := 464
/-- Event bit `PWR_RET_ERR`. -/
def Ev.PWR_RET_ERR : Nat := 471
/-- Event bit `PWR_SLEEP_DONE`. -/
def Ev.PWR_SLEEP_DONE : Nat := 466
/-- Event bit `PWR_SLEEP_REFUSED`. -/
def Ev.PWR_SLEEP_REFUSED : Nat := 467
/-- Event bit `PWR_START_FAIL`. -/
def Ev.PWR_START_FAIL : Nat := 469
/-- Event bit `PWR_SWITCH_FAULT`. -/
def Ev.PWR_SWITCH_FAULT : Nat := 470
/-- Event bit `PWR_WAKE`. -/
def Ev.PWR_WAKE : Nat := 468
/-- Event bit `QUE_DROP`. -/
def Ev.QUE_DROP : Nat := 288
/-- Event bit `QUE_DUAL_FAULT`. -/
def Ev.QUE_DUAL_FAULT : Nat := 294
/-- Event bit `QUE_GAP`. -/
def Ev.QUE_GAP : Nat := 291
/-- Event bit `QUE_HDR_BAD`. -/
def Ev.QUE_HDR_BAD : Nat := 290
/-- Event bit `QUE_HOLD_FULL`. -/
def Ev.QUE_HOLD_FULL : Nat := 292
/-- Event bit `QUE_INJECTED`. -/
def Ev.QUE_INJECTED : Nat := 298
/-- Event bit `QUE_INJ_REFUSED`. -/
def Ev.QUE_INJ_REFUSED : Nat := 297
/-- Event bit `QUE_PUSH_BAD`. -/
def Ev.QUE_PUSH_BAD : Nat := 289
/-- Event bit `QUE_QUARANTINE`. -/
def Ev.QUE_QUARANTINE : Nat := 293
/-- Event bit `QUE_REC_DONE`. -/
def Ev.QUE_REC_DONE : Nat := 296
/-- Event bit `QUE_REC_TAKEOVER`. -/
def Ev.QUE_REC_TAKEOVER : Nat := 295
/-- Event bit `SCL_GLITCH`. -/
def Ev.SCL_GLITCH : Nat := 68
/-- Event bit `SCL_TEST_ABORT`. -/
def Ev.SCL_TEST_ABORT : Nat := 67
/-- Event bit `SCL_TRANSIENT`. -/
def Ev.SCL_TRANSIENT : Nat := 66
/-- Event bit `SCL_WIRE_CLEAR`. -/
def Ev.SCL_WIRE_CLEAR : Nat := 65
/-- Event bit `SCL_WIRE_FAULT`. -/
def Ev.SCL_WIRE_FAULT : Nat := 64
/-- Event bit `SEC_DENIED`. -/
def Ev.SEC_DENIED : Nat := 476
/-- Event bit `SEC_JTAG_DENIED`. -/
def Ev.SEC_JTAG_DENIED : Nat := 477
/-- Event bit `SEC_KEY_REVOKED`. -/
def Ev.SEC_KEY_REVOKED : Nat := 478
/-- Event bit `SEC_LOCKOUT`. -/
def Ev.SEC_LOCKOUT : Nat := 474
/-- Event bit `SEC_OTP_ERR`. -/
def Ev.SEC_OTP_ERR : Nat := 479
/-- Event bit `SEC_RELOCK`. -/
def Ev.SEC_RELOCK : Nat := 475
/-- Event bit `SEC_UNLOCK`. -/
def Ev.SEC_UNLOCK : Nat := 472
/-- Event bit `SEC_UNLOCK_FAIL`. -/
def Ev.SEC_UNLOCK_FAIL : Nat := 473
/-- Event bit `SLK_CHECK`. -/
def Ev.SLK_CHECK : Nat := 322
/-- Event bit `SLK_FENCED`. -/
def Ev.SLK_FENCED : Nat := 324
/-- Event bit `SLK_JOB_FAIL`. -/
def Ev.SLK_JOB_FAIL : Nat := 321
/-- Event bit `SLK_NOT_SMALLER`. -/
def Ev.SLK_NOT_SMALLER : Nat := 320
/-- Event bit `SLK_STOP`. -/
def Ev.SLK_STOP : Nat := 323
/-- Event bit `STW_EOI_BAD`. -/
def Ev.STW_EOI_BAD : Nat := 454
/-- Event bit `STW_OVERLOAD`. -/
def Ev.STW_OVERLOAD : Nat := 449
/-- Event bit `STW_POST_LOST`. -/
def Ev.STW_POST_LOST : Nat := 451
/-- Event bit `STW_SHED`. -/
def Ev.STW_SHED : Nat := 448
/-- Event bit `STW_STORM`. -/
def Ev.STW_STORM : Nat := 452
/-- Event bit `STW_STORM_OFF`. -/
def Ev.STW_STORM_OFF : Nat := 453
/-- Event bit `STW_SYN_OVERFLOW`. -/
def Ev.STW_SYN_OVERFLOW : Nat := 455
/-- Event bit `STW_SYN_UNDERFLOW`. -/
def Ev.STW_SYN_UNDERFLOW : Nat := 456
/-- Event bit `STW_VSB_ADDR_CLASH`. -/
def Ev.STW_VSB_ADDR_CLASH : Nat := 461
/-- Event bit `STW_VSB_CRC`. -/
def Ev.STW_VSB_CRC : Nat := 460
/-- Event bit `STW_VSB_LONE`. -/
def Ev.STW_VSB_LONE : Nat := 457
/-- Event bit `STW_VSB_REJOIN`. -/
def Ev.STW_VSB_REJOIN : Nat := 458
/-- Event bit `STW_VSB_STUCK`. -/
def Ev.STW_VSB_STUCK : Nat := 459
/-- Event bit `STW_WDOG_WARN`. -/
def Ev.STW_WDOG_WARN : Nat := 450
/-- Event bit `SWM_FENCED`. -/
def Ev.SWM_FENCED : Nat := 140
/-- Event bit `SWM_LATE`. -/
def Ev.SWM_LATE : Nat := 136
/-- Event bit `SWM_ORPHAN`. -/
def Ev.SWM_ORPHAN : Nat := 139
/-- Event bit `SWM_RESEND`. -/
def Ev.SWM_RESEND : Nat := 138
/-- Event bit `SWM_STRAY`. -/
def Ev.SWM_STRAY : Nat := 137
/-- Event bit `SWM_TIMEOUT`. -/
def Ev.SWM_TIMEOUT : Nat := 128
/-- Event bit `TRC_DROP0`. -/
def Ev.TRC_DROP0 : Nat := 96
/-- Event bit `TRC_FROZEN`. -/
def Ev.TRC_FROZEN : Nat := 101
/-- Event bit `TRC_LANE_CONFLICT`. -/
def Ev.TRC_LANE_CONFLICT : Nat := 100
/-- Event bit `TRC_TRIG0`. -/
def Ev.TRC_TRIG0 : Nat := 102
/-- Event bit `VRD_AFTER_PLAN`. -/
def Ev.VRD_AFTER_PLAN : Nat := 193
/-- Event bit `VRD_CORRUPT`. -/
def Ev.VRD_CORRUPT : Nat := 196
/-- Event bit `VRD_CUT`. -/
def Ev.VRD_CUT : Nat := 201
/-- Event bit `VRD_DEMAND_OVER`. -/
def Ev.VRD_DEMAND_OVER : Nat := 204
/-- Event bit `VRD_DRIFT`. -/
def Ev.VRD_DRIFT : Nat := 195
/-- Event bit `VRD_DRIFT_CHECK`. -/
def Ev.VRD_DRIFT_CHECK : Nat := 198
/-- Event bit `VRD_DRIFT_RANGE`. -/
def Ev.VRD_DRIFT_RANGE : Nat := 199
/-- Event bit `VRD_DROPPED`. -/
def Ev.VRD_DROPPED : Nat := 197
/-- Event bit `VRD_EN_LOST`. -/
def Ev.VRD_EN_LOST : Nat := 205
/-- Event bit `VRD_INTERVAL`. -/
def Ev.VRD_INTERVAL : Nat := 200
/-- Event bit `VRD_RECOVERED`. -/
def Ev.VRD_RECOVERED : Nat := 202
/-- Event bit `VRD_ROUND`. -/
def Ev.VRD_ROUND : Nat := 192
/-- Event bit `VRD_STRAGGLER`. -/
def Ev.VRD_STRAGGLER : Nat := 194
/-- Event bit `VRD_TARIFF_LATE`. -/
def Ev.VRD_TARIFF_LATE : Nat := 203

end Sys2Proof.Machine
end

