-- ==== Sys2Proof/Machine/Ops.lean ====
section
/-! DEFINITION. The named operations over the block's state: register fields, domains, counters of time, free values,
running a meaning on the block, and a port's access with its response code (R381). -/

namespace Sys2Proof.Machine

/-! Register fields -/

/-- The key of a field in the field table. -/
def Fld.key (x : Fld) : Nat := x.off * 32 + x.lo

/-- The same field of copy n of a register, stride bytes apart. -/
def Fld.at (x : Fld) (n : Nat) (stride : Nat := 4) : Fld := { x with off := x.off + n * stride }

/-- The same field of the hidden copy that a selector names. -/
def Fld.ix (x : Fld) (i : Nat) : Fld := { x with off := x.off + i * 2 ^ 18 }

/-- The value of a field: what was last put there, or its reset value. -/
def Block.f (b : Block) (x : Fld) : Nat := b.flds.getD x.key x.rst

/-- Put a value in a field, cut to its width. -/
def Block.setf (b : Block) (x : Fld) (v : Nat) : Block :=
  { b with flds := b.flds.putD x.rst x.key (v % 2 ^ x.w) }

/-- Whether a one-bit field reads 1. -/
def Block.is (b : Block) (x : Fld) : Bool := b.f x == 1

/-- Put 1 or 0 in a one-bit field. -/
def Block.setb (b : Block) (x : Fld) (v : Bool) : Block := b.setf x (if v then 1 else 0)

/-- Add to a count, saturating at the field's width. -/
def Block.count (b : Block) (x : Fld) (n : Nat := 1) : Block := b.setf x (sat x.w (b.f x + n))

/-! Builds, domains, time -/

/-- The number of CLK_CORE cycles in n µs. -/
def Block.us (b : Block) (n : Nat) : Nat := n * b.syn.coreMHz

/-- The number of CLK_AON cycles in n µs (25 MHz, R377). -/
def aonUs (n : Nat) : Nat := n * 25

/-- The field of PWR_STATUS for domain d (R346): 0 OFF, 1 RET, 2 ON, 3 FAULT. -/
def domFld (d : Nat) : Fld := ⟨0x10000, 2 * d, 2, if d = 0 then 2 else 0⟩

/-- The state of a domain. -/
def Block.dom (b : Block) (d : Nat) : Nat := b.f (domFld d)

/-- Whether a domain is isolated: it has answered READY to a sleep and its switch is requested (R351 step 4). -/
def Block.isolated (b : Block) (d : Nat) : Bool :=
  match b.pwr.seq with
  | some q => q.kind == .entry && q.wait == .ack && q.dom == d
  | none => false

/-- Whether a domain is ON, not held in reset and not isolated (R347, R351, R381). -/
def Block.on (b : Block) (d : Nat) : Bool := b.dom d == 2 && !(b.pwr.held.contains d) && !b.isolated d

/-- The domains of Table 16-1. -/
def dSTEWARD : Nat := 1
/-- ANTENNA. -/
def dANTENNA : Nat := 2
/-- LINKS. -/
def dLINKS : Nat := 3
/-- QUEUE. -/
def dQUEUE : Nat := 4
/-- STORE. -/
def dSTORE : Nat := 5
/-- PROBE. -/
def dPROBE : Nat := 6
/-- SCALES. -/
def dSCALES : Nat := 7
/-- TRACE. -/
def dTRACE : Nat := 8
/-- SWARM. -/
def dSWARM : Nat := 9
/-- HAWK. -/
def dHAWK : Nat := 10
/-- CODEC. -/
def dCODEC : Nat := 11

/-- The release order of R350. -/
def releaseOrder : List Nat := [1, 5, 4, 3, 2, 6, 7, 8, 9, 10, 11]

/-- Domains absent from a build (R346): the capture domains from the aggregator build (R69, R91); none of the others, since each
holds a unit that both builds have at least in part (R132, R157, R183). -/
def domAbsent (agg : Bool) (d : Nat) : Bool := agg && (d == 6 || d == 7 || d == 8)

/-- The domain of a register region (R391, Table 18-10); 0 is AON. -/
def regionDom (region : Nat) : Nat :=
  match region with
  | 1 => 2 | 2 => 6 | 3 => 7 | 4 => 8 | 5 => 9 | 6 => 10 | 7 => 9 | 8 => 3 | 9 => 3
  | 10 => 4 | 11 => 11 | 12 => 5 | 13 => 1 | 14 => 1 | 15 => 1
  | _ => 0

/-- Internal time in units of 2^-40 s, 88 bits (R15). -/
def Block.wall88 (b : Block) : Nat := b.ant.fine / (b.syn.coreMHz * 10 ^ 9) % 2 ^ 88

/-- WALL: the low 64 bits of internal time (R15). -/
def Block.wall (b : Block) : Nat := b.wall88 % 2 ^ 64

/-- The phase as 64 bits, 0 in the aggregator build (R15, R42). -/
def Block.phase (b : Block) : Nat := if b.syn.agg then 0 else b.ant.step * 2 ^ 24 + b.ant.frac

/-- The next free value (log entry 4), and the block with the counter moved on. -/
def Block.fresh (b : Block) : Nat × Block := (Config.free b.freeN, { b with freeN := b.freeN + 1 })

/-! Running a meaning -/

/-- A meaning that acts on the block: a next state in which the queue and the retained memory are as before. -/
def State.lift (s : State) (f : Block → Block) : Host.Outcome State Fault Refusal :=
  .next { s with b := f s.b }

/-- A meaning that acts on the block and on the retained memory. -/
def State.liftM (s : State) (f : Memory → Block → Memory × Block) : Host.Outcome State Fault Refusal :=
  let r := f s.mem s.b
  .next { s with mem := r.1, b := r.2 }

/-! Fences -/

/-- The key of a part (Table 14-6). -/
def partKey (kind index : Nat) : Nat := kind * 2 ^ 13 + index

/-- The fence sources of a part that the integrity unit owns (R317). -/
def Block.part (b : Block) (kind index : Nat) : PartSt := b.int.parts.getD (partKey kind index) {}

/-- Change a part's record. -/
def Block.setPart (b : Block) (kind index : Nat) (f : PartSt → PartSt) : Block :=
  { b with int := { b.int with parts := b.int.parts.upd (partKey kind index) {} f } }

/-- Whether a lane of the Swarm is fenced: SW of the lane, or TEST or FAULT of its micro-core (R155, R317). -/
def Block.laneFenced (b : Block) (lane : Nat) : Bool :=
  bit (b.f (F.SWM_LANE_FENCE_FENCE.at (lane / 32))) (lane % 32) == 1 || (b.part 0 (lane / 4)).test || (b.part 0 (lane / 4)).fault

/-- Whether a Hawkmoth tile is fenced (R178, R317). -/
def Block.tileFenced (b : Block) (t : Nat) : Bool :=
  bit (b.f F.HWK_TILE_FENCE_FENCE) t == 1 || (b.part 1 t).test || (b.part 1 t).fault

/-- The unfenced tiles. -/
def Block.freeTiles (b : Block) : List Nat := (List.range (if b.syn.agg then 16 else 1)).filter (fun t => ! b.tileFenced t)

/-- Tiles have been fenced: with none left, a pass that runs is lost (R178). -/
def Block.tilesGone (b : Block) : Block :=
  if b.freeTiles = [] ∧ (b.hwk.pass.isSome ∨ b.hwk.lpass.isSome) then { b with hwk := { b.hwk with lost := true } } else b

/-- Whether a Silkworm engine is fenced (R259, R317). -/
def Block.engineFenced (b : Block) (e : Nat) : Bool :=
  bit (b.f F.SLK_ENG_FENCE_FENCE) e == 1 || (b.part 2 e).test || (b.part 2 e).fault

/-- Whether a Scales group is fenced (R317, R318). -/
def Block.groupFenced (b : Block) (g : Nat) : Bool :=
  bit (b.f F.INT_SCL_FENCE_FENCE) g == 1 || (b.part 3 g).test || (b.part 3 g).fault

/-- Whether a host core is fenced (R325). -/
def Block.coreFenced (b : Block) (c : Nat) : Bool := (b.part 4 c).test || (b.part 4 c).fault

/-! Steward posts -/

/-- Post a descriptor to a duty (R329): a full queue of 64 drops it, counts it and says so. -/
def Block.postOk (b : Block) (duty : Nat) : Bool := (b.stw.posts[duty]?).getD 0 < 64

end Sys2Proof.Machine
end

