-- ==== Sys2Proof/Machine/Registers.lean ====
section
/-! DEFINITION. Reading and writing register words by the register map (spec/00_scope.md, R9 to R12; spec/13_fabric_image.md, R303):
which register stands at an offset, the copy a selector names, the fields as stored, and what a plain write changes. -/

namespace Sys2Proof.Machine

/-- Whether a build has a register. -/
def InBuild.has (i : InBuild) (agg : Bool) : Bool :=
  match i with
  | .both => true
  | .d => !agg
  | .agg => agg

/-- The register at an offset, and which of its copies: none where the offset is unassigned in the build (R12, R391). -/
def regAt (agg : Bool) (off : Nat) : Option (RegSpec × Nat) :=
  match (regTable (off / 4096)).find? (fun r => r.inb.has agg && decide (r.off ≤ off) && decide (off < r.off + r.count * r.stride)
      && (off - r.off) % r.stride == 0) with
  | some r => some (r, (off - r.off) / r.stride)
  | none => none

/-- A field of copy k of a register, in the hidden copy i. The reset value of SCL_SCAN[n] is n. -/
def RField.at (f : RField) (r : RegSpec) (k i : Nat) : Fld :=
  { off := r.off + k * r.stride + i * 2 ^ 18, lo := f.lo, w := f.w, rst := if r.off = 0x3400 then k else f.rst }

/-- The value of a selector register: its fields as stored, cut to the copies that the build has. -/
def Block.selector (b : Block) (sel : Nat) : Nat :=
  if sel = 0 then 0
  else match regAt b.syn.agg sel with
    | some (r, k) => r.fields.foldl (fun a f => a + b.f (f.at r k 0) * 2 ^ f.lo) 0 % (selMask b.syn.agg sel + 1)
    | none => 0

/-- A register word as its fields are stored: WO fields read 0 (R10), unassigned offsets and reserved bits read 0 (R12). -/
def Block.stored (b : Block) (off : Nat) : Nat :=
  match regAt b.syn.agg off with
  | some (r, k) => r.fields.foldl (fun a f => if f.acc = .wo then a else a + b.f (f.at r k (b.selector r.sel)) * 2 ^ f.lo) 0
  | none => 0

/-- Whether RWL fields are locked: an image is applied (R10, R303). -/
def Block.locked (b : Block) : Bool := b.f F.ROLE_STATUS_ROLE != 3

/-- What a plain write does to one field (R10). -/
def Block.writeField (b : Block) (x : Fld) (acc : Acc) (lock : Bool) (word : Nat) : Block :=
  let v := bits word x.lo x.w
  match acc with
  | .rw => b.setf x v
  | .rwl => if lock then b else b.setf x v
  | .w1c => if v = 0 then b else b.setf x 0
  | _ => b

/-- What a plain write does to a register: RW fields take their values, RWL fields too until an image is applied, each 1 clears a
W1C bit (R10). -/
def Block.writeFields (b : Block) (off word : Nat) : Block :=
  match regAt b.syn.agg off with
  | some (r, k) =>
    let i := b.selector r.sel
    r.fields.foldl (fun b' f => b'.writeField (f.at r k i) f.acc b.locked word) b
  | none => b

/-- The numbers of the hidden copies of a field that hold a value which is not its reset value. -/
def Block.copies (b : Block) (x : Fld) (v : Nat) : List Nat :=
  (b.flds.filter (fun p => p.1 % 2 ^ 23 == x.key && p.2 == v)).map (fun p => p.1 / 2 ^ 23)

end Sys2Proof.Machine
end

