-- ==== Sys2Proof/Machine/Flags.lean ====
section
/-! DEFINITION. Event bits: raising one (R338), what it starts in the interrupt controller's storm guard (R337) and in the
event log (R338, R339). -/

namespace Sys2Proof.Machine

/-- The offset of the event register of group g (Table 15-3). -/
def groupOff (g : Nat) : Nat :=
  match g with
  | 0 => 0x1008 | 1 => 0x2008 | 2 => 0x3008 | 3 => 0x4008 | 4 => 0x5008 | 5 => 0x6008 | 6 => 0x7008
  | 7 => 0x8024 | 8 => 0x9008 | 9 => 0xA008 | 10 => 0xB008 | 11 => 0xC008 | 12 => 0xD004 | 13 => 0xE008
  | 14 => 0xF008 | _ => 0xF208

/-- The event bit of an interrupt source, as a field (R333): sources 464 to 471 are PWR_EVENTS (R365) and 472 to 479
SEC_EVENTS (R376). -/
def srcFld (s : Nat) : Fld :=
  if 464 ≤ s ∧ s < 472 then ⟨0x10004, s - 464, 1, 0⟩
  else if 472 ≤ s ∧ s < 480 then ⟨0x11008, s - 472, 1, 0⟩
  else ⟨groupOff (s / 32), s % 32, 1, 0⟩

/-- Whether a source pends: its bit is 1 (R333). -/
def Block.pends (b : Block) (s : Nat) : Bool := b.is (srcFld s)

/-- The configuration fields of a source (IRQ_SRC_CFG). -/
def srcCfg (x : Fld) (s : Nat) : Fld := x.ix s

/-- Bytes 0 to 43 of an event-log entry and its check (Table 15-8). -/
def LogEntry.bytes (e : LogEntry) : List Byte :=
  let h := leBytes 4 e.seqno
    ++ leBytes 2 (e.source + (if e.injected then 512 else 0) + (if e.deferred then 1024 else 0) + (if e.missed then 2048 else 0))
    ++ leBytes 2 e.rep ++ leBytes 8 e.phase ++ leBytes 8 e.wall ++ leBytes 16 e.arg ++ leBytes 4 0
  h ++ leBytes 4 (crc32c h)

/-- Write a new entry (R338): it replaces the oldest of 2,048. The second component is 1 where that counts in OVERWRITTEN: the entry had not been
carried in a record, or none is formed (`all`). -/
def EvLog.write (l : EvLog) (r : Raise) (phase wall now : Nat) (all : Bool) : EvLog × Nat :=
  let e : LogEntry := { seqno := l.next, source := r.source, injected := r.injected, deferred := r.late, missed := l.missed,
                        rep := r.rep, phase := phase, wall := wall, arg := r.arg, time := now }
  let lost := match (l.ring.drop 2047).head? with
    | some o => if all ∨ l.carried < o.seqno then 1 else 0
    | none => 0
  ({ l with ring := e :: l.ring.take 2047, next := (l.next + 1) % 2 ^ 32, missed := false,
            cyc := now, wrote := if l.cyc = now then l.wrote + 1 else 1 }, lost)

/-- Whether this cycle has room for one more of its four entries (R338, log entry 152). -/
def EvLog.mayWrite (l : EvLog) (now : Nat) : Bool := l.cyc != now || decide (l.wrote < 4)

/-- The entry into which a raise merges (R338): the source's last, within 1 µs, not yet carried in a record. -/
def EvLog.mergeTo (l : EvLog) (r : Raise) (us : Nat) : Option LogEntry :=
  (l.ring.find? (fun e => e.source == r.source)).filter (fun e => decide (r.time - e.time ≤ us) && decide (l.carried < e.seqno))

/-- A raise merges into an entry's REPEAT (R338). -/
def EvLog.merge (l : EvLog) (e : LogEntry) : EvLog :=
  { l with ring := l.ring.map (fun x => if x.seqno = e.seqno then { x with rep := sat 16 (x.rep + 1) } else x) }

/-- Put a raise in the capture queue (R338): merged into a waiting raise of its source within 1 µs; a full queue of 64 misses
it. -/
def EvLog.wait (l : EvLog) (r : Raise) (us : Nat) : EvLog × Nat :=
  if l.waiting.any (fun w => w.source == r.source && decide (r.time - w.time ≤ us)) then
    ({ l with waiting := l.waiting.map (fun w =>
        if w.source = r.source ∧ r.time - w.time ≤ us then { w with rep := sat 16 (w.rep + 1) } else w) }, 0)
  else if l.waiting.length < 64 then ({ l with waiting := l.waiting ++ [r] }, 0)
  else ({ l with missed := true }, 1)

/-- Whether the LOG duty forms no records, so that every entry replaced is lost. -/
def Block.logAll (b : Block) : Bool := !b.is F.STW_CTRL_LOG_EMIT

/-- Log a raise (R338): while STEWARD is ON it merges, or is one of the cycle's four entries; else it waits in the capture queue. -/
def Block.logRaise (b : Block) (src arg : Nat) : Block :=
  let r : Raise := { source := src, injected := b.que.inj.isSome, arg := arg, time := b.clk.core, late := !b.on dSTEWARD,
                     phase := b.phase, wall := b.wall }
  let merged : Option LogEntry :=
    if r.late ∨ b.evl.waiting.any (fun w => w.source == src) then none else b.evl.mergeTo r (b.us 1)
  match merged with
  | some e => { b with evl := b.evl.merge e }
  | none =>
    if ¬ r.late ∧ b.evl.waiting = [] ∧ b.evl.mayWrite b.clk.core then
      let p := b.evl.write r r.phase r.wall b.clk.core b.logAll
      ({ b with evl := p.1 }).count F.STW_LOG_STAT_OVERWRITTEN p.2
    else
      let p := b.evl.wait r (b.us 1)
      ({ b with evl := p.1 }).count F.STW_LOG_STAT_MISSED p.2

/-- Enter the waiting raises, at most four in a cycle and in their order (R338); those of a time when STEWARD was not ON with DEFERRED and the
phase and time of their entry. -/
def Block.drainLog (b : Block) : Block :=
  let l := b.evl.waiting.foldl (fun (a : EvLog × Nat) r =>
    if a.1.waiting = [] ∧ a.1.mayWrite b.clk.core then
      let p := a.1.write r (if r.late then b.phase else r.phase) (if r.late then b.wall else r.wall) b.clk.core b.logAll
      (p.1, a.2 + p.2)
    else ({ a.1 with waiting := a.1.waiting ++ [r] }, a.2)) ({ b.evl with waiting := [] }, 0)
  ({ b with evl := l.1 }).count F.STW_LOG_STAT_OVERWRITTEN l.2

/-- The capture queue in a new cycle (R338). -/
def Block.logCycle (b : Block) : Block := if b.on dSTEWARD ∧ b.evl.waiting ≠ [] then b.drainLog else b

/-- The storm guard's window in CLK_CORE cycles. -/
def Block.stormWin (b : Block) : Nat := b.us (atLeast1 (b.f F.IRQ_STORM_WIN))

/-- Guards before EN is cleared: GMAX, where 0 acts as 4 (R337). -/
def Block.gmax (b : Block) : Nat := if b.f F.IRQ_STORM_GMAX = 0 then 4 else b.f F.IRQ_STORM_GMAX

/-- Set an event bit and log it, with nothing of the storm guard. -/
def Block.raiseRaw (b : Block) (src : Nat) (args : List (Nat × Nat)) : Block :=
  (b.setf (srcFld src) 1).logRaise src (packItems args)

/-- A source begins to pend (R337): the window's beginnings are counted, and a count above LIMIT guards the source, raises
STORM, and at GMAX guards in a row clears EN and raises STORM_OFF. Sources 452 and 453 are never guarded; the controller counts while
STEWARD is ON (R327). -/
def Block.begins (b : Block) (src : Nat) : Block :=
  if b.on dSTEWARD ∧ b.is (F.IRQ_SRC_CFG_GUARD.ix src) ∧ src ≠ 452 ∧ src ≠ 453 then
    let g := b.irq.guards.getD src {}
    if g.holdEnd.isSome then b
    else
      let bs := b.clk.core :: g.begins.filter (fun t => b.clk.core - t < b.stormWin)
      if atLeast1 (b.f F.IRQ_STORM_LIMIT) < bs.length then
        let before := match g.lastEnd with
          | none => 0
          | some t => if b.clk.core - t ≤ b.stormWin then g.count else 0
        let n := min 4 (before + 1)
        let g' : Guard := { begins := [], count := n, lastEnd := none,
                            holdEnd := some (b.clk.core + b.us (1000 * atLeast1 (b.f F.IRQ_STORM_HOLD))) }
        let b := { b with irq := { b.irq with guards := b.irq.guards.put src g' } }
        let b := (b.setf F.IRQ_STORM_LAST_SRC src).setf F.IRQ_STORM_LAST_VALID 1
        let b := b.raiseRaw Ev.STW_STORM [(src, 16)]
        if b.gmax ≤ n then (b.setf (F.IRQ_SRC_CFG_EN.ix src) 0).raiseRaw Ev.STW_STORM_OFF [(src, 16)] else b
      else { b with irq := { b.irq with guards := b.irq.guards.put src { g with begins := bs } } }
  else b

/-- Raise an event bit (R338): the bit is set, the raise is logged with its items, and a bit that was 0 begins to pend. -/
def Block.raise (b : Block) (src : Nat) (args : List (Nat × Nat) := []) : Block :=
  if b.pends src then b.raiseRaw src args
  else (b.raiseRaw src args).begins src

/-- Raise where a condition holds. -/
def Block.raiseIf (b : Block) (c : Bool) (src : Nat) (args : List (Nat × Nat) := []) : Block :=
  if c then b.raise src args else b

/-- Post a descriptor to a duty of the Steward (R329). -/
def Block.post (b : Block) (duty : Nat) : Block :=
  if b.postOk duty then
    { b with stw := { b.stw with posts := setAt b.stw.posts duty ((b.stw.posts[duty]?).getD 0 + 1) } }
  else (b.count F.STW_POSTS_LOST).raise Ev.STW_POST_LOST

/-! The self-test in progress -/

/-- Show the part under test (INT_STATUS). -/
def Block.showTest (b : Block) : Block :=
  match b.int.running with
  | some t => (b.setf F.INT_STATUS_TKIND t.kind).setf F.INT_STATUS_TINDEX t.index
  | none => (b.setf F.INT_STATUS_TKIND 15).setf F.INT_STATUS_TINDEX 0

/-- Set the test that runs. -/
def Block.setRun (b : Block) (t : Option TestRun) : Block := ({ b with int := { b.int with running := t } }).showTest

/-- The test of a part is abandoned because the part is needed (R319): no result, ST_SKIP. -/
def Block.abandonTest (b : Block) (kind i : Nat) : Block :=
  match b.int.running with
  | some t =>
    if t.kind = kind ∧ t.index = i ∧ t.confirm.isNone ∧ ¬ t.unfence then
      ((b.setPart kind i (fun x => { x with test := false })).setRun none).raise Ev.INT_ST_SKIP [(kind, 8), (i, 16)]
    else b
  | none => b

/-! Masters and the answer of a port -/

/-- The record of a master in the Security unit. -/
def Sec.of (s : Sec) (m : Master) : MasterSec :=
  match m with
  | .mgmt => s.mgmt
  | .vsb => s.vsb
  | .test => s.test

/-- Change the record of a master. -/
def Sec.set (s : Sec) (m : Master) (x : MasterSec) : Sec :=
  match m with
  | .mgmt => { s with mgmt := x }
  | .vsb => { s with vsb := x }
  | .test => { s with test := x }

/-- The number of a master (Table 17-3, Table 15-9). -/
def Master.num (m : Master) : Nat :=
  match m with
  | .mgmt => 0
  | .vsb => 1
  | .test => 2

/-- The baseline rights of a master (R369): DEBUG and KEYADMIN are not honoured in a baseline. -/
def Block.baseRights (b : Block) (m : Master) : Nat :=
  match m with
  | .mgmt => b.f F.SEC_BASE_RIGHTS &&& 6
  | .vsb => b.f (F.SEC_BASE_RIGHTS.at 1) &&& 6
  | .test => 0

/-- The baseline partitions of a master (R369). -/
def Block.basePart (b : Block) (m : Master) : Nat :=
  match m with
  | .mgmt => b.f F.SEC_BASE_PART
  | .vsb => b.f (F.SEC_BASE_PART.at 1)
  | .test => 0

/-- The rights of a master now (R369). -/
def Block.rights (b : Block) (m : Master) : Nat := b.baseRights m ||| (b.sec.of m).addR

/-- The partitions of a master now (R369). -/
def Block.partMask (b : Block) (m : Master) : Nat := b.basePart m ||| (b.sec.of m).addP

/-- Whether a mask covers all the partitions of another. -/
def covers (have_ need : Nat) : Bool := have_ &&& need == need

/-- The partition of the bank of probe counter i (R374). -/
def Block.bankPart (b : Block) (i : Nat) : Nat := bits (b.f F.SEC_BANK_PART_P) (3 * (i / 2048)) 3

/-- What a trace buffer's readers must hold: its PARTMASK, or all partitions where that is 0 (R374). -/
def Block.bufNeed (b : Block) (n : Nat) : Nat :=
  let p := b.f (F.TRC_BUF_CFG_PARTMASK.at n 64)
  if p = 0 then 0xFF else p

/-- The partition mask an access needs (R374); 0 where R374 asks none. A window read of a trace buffer names it in
TRC_WIN_SEL; a chained pair's low cell needs both cells' banks. -/
def Block.needPart (b : Block) (off : Nat) (wr : Bool) : Nat :=
  if 0x4100 ≤ off ∧ off < 0x4200 then (if wr then 0 else b.bufNeed ((off - 0x4100) / 64))
  else if 0x2024 ≤ off ∧ off ≤ 0x2034 then
    let i := b.f F.PRB_CNT_SEL_INDEX
    let own := 2 ^ b.bankPart i
    if b.f (F.PRB_MAP_SRC.ix (i + 1)) = 2 ∧ i % 2 = 0 then own ||| 2 ^ b.bankPart (i + 1) else own
  else if 0x20000 ≤ off ∧ off < 0x30000 then (if wr then 0 else 0xFF)
  else if 0x30000 ≤ off ∧ off < 0x38000 then (if wr then 0 else b.bufNeed (b.f F.TRC_WIN_SEL_BUF))
  else if 0x38000 ≤ off then (if wr then 0 else 0xFF)
  else 0

/-- Whether a region or window reads 0 in the build (R391, R392). -/
def absentRegion (agg : Bool) (off : Nat) : Bool :=
  if agg then (0x2000 ≤ off && off < 0x5000) || 0x30000 ≤ off
  else 0x7000 ≤ off && off < 0x8000

/-- The domain of an offset, windows included (R391). -/
def offDom (off : Nat) : Nat :=
  if off < 0x12000 then regionDom (off / 4096)
  else if off < 0x30000 then dSTORE
  else dTRACE

/-- The right a write needs (Table 17-2): COCOON for COC_OP.CLEAR and FORMAT, INJECT for QUE_INJ_CFG, KEYADMIN for
SEC_KEY_STAT.REVOKE. -/
def rightNeed (off : Nat) (wr : Bool) (data : Nat) : Nat :=
  if ¬ wr then 0
  else if off = 0xC060 ∧ data % 4 ≠ 0 then 2
  else if off = 0xA084 then 4
  else if off = 0x11078 ∧ bit data 3 = 1 then 8
  else 0

/-- Whether the master's grant covers an access (R370, R374, R375): its partitions, its rights, and for the test port an
instruction that makes accesses, SEC_ACCESS being confined to the security region. -/
def Block.granted (b : Block) (m : Master) (off : Nat) (wr : Bool) (data : Nat) : Bool :=
  covers (b.partMask m) (if absentRegion b.syn.agg off ∧ off < 0x20000 then 0 else b.needPart off wr)
    && covers (b.rights m) (rightNeed off wr data)
    && (match m with
        | .test => b.sec.jtag == 0x20 || (b.sec.jtag == 0x10 && 0x11000 ≤ off && off < 0x12000)
        | _ => true)

/-- The response code of an access (R381, Table 18-4), tested in table order. A VSB offset that is no multiple of 4 gives
BADADDR. -/
def Block.respCode (b : Block) (m : Master) (off strb : Nat) (wr : Bool) (data : Nat) : Nat :=
  if b.busy.isSome then 1
  else if (0x12000 ≤ off ∧ off < 0x20000) ∨ 0x40000 ≤ off ∨ (m = .vsb ∧ off % 4 ≠ 0) then 3
  else if strb ≠ 0xF ∨ off % 4 ≠ 0 then 5
  else if ¬ b.granted m off wr data then 2
  else if absentRegion b.syn.agg off then 0
  else if offDom off = 0 ∨ b.on (offDom off) then 0
  else 4

/-- Show an answer to a master; data are 32 bits wide (R9). -/
def Block.answer (b : Block) (m : Master) (code data : Nat) : Block :=
  match m with
  | .mgmt => { b with rspMgmt := ⟨code, data % 2 ^ 32⟩ }
  | .vsb => { b with rspVsb := ⟨code, data % 2 ^ 32⟩ }
  | .test => { b with rspTest := ⟨code, data % 2 ^ 32⟩ }

/-- A write access of a master: judged by R381; an access that is not OK has no effect but the DENIED event of R370; an access
that is OK acts. -/
def Block.write (b : Block) (m : Master) (off : Nat) (data : Nat) (act : Block → Block) (strb : Nat := 0xF) : Block :=
  let c := b.respCode m off strb true data
  if c = 0 then (act b).answer m 0 0
  else if c = 2 then (b.answer m 2 0).raise Ev.SEC_DENIED [(m.num, 8), (off, 24)]
  else b.answer m c 0

/-- A read access of a master: like a write, and the data of an OK read is shown. -/
def Block.read (b : Block) (m : Master) (off : Nat) (act : Block → Nat × Block) (strb : Nat := 0xF) : Block :=
  let c := b.respCode m off strb false 0
  if c = 0 then (act b).2.answer m 0 (act b).1
  else if c = 2 then (b.answer m 2 0).raise Ev.SEC_DENIED [(m.num, 8), (off, 24)]
  else b.answer m c 0

end Sys2Proof.Machine
end

