-- ==== Sys2Proof/Machine/Operands.lean ====
section
/-! DEFINITION. Number formats and exact arithmetic (spec/05_number_formats.md, R112 to R131): decoding, encoding with ASTAT, order,
the exact accumulator and its residue, canonical-order F64, sketches. -/

namespace Sys2Proof.Machine

/-! Formats -/

/-- Bytes of an element of a format (Table 5-1). -/
def fmtBytes (fmt : Nat) : Nat :=
  match fmt with
  | 0 => 2 | 1 => 4 | 2 => 6 | 3 => 8 | 4 => 4 | 5 => 8 | 6 => 4 | 7 => 1 | 8 => 1 | 9 => 2 | 10 => 2 | 11 => 4 | 12 => 8 | 13 => 2
  | 14 => 8208 | _ => 8

/-- Exponent bits and mantissa bits of a floating format (Table 5-1); E4M3 is 0x7. -/
def floatShape (fmt : Nat) : Nat × Nat :=
  match fmt with
  | 7 => (4, 3) | 8 => (5, 2) | 9 => (5, 10) | 10 => (8, 7) | 11 => (8, 23) | _ => (11, 52)

/-- Whether a format is floating (E4M3 included). -/
def isFloat (fmt : Nat) : Bool := decide (7 ≤ fmt) && decide (fmt ≤ 12)

/-- The bias of a floating format (Table 5-1). -/
def fbias (fmt : Nat) : Nat := 2 ^ ((floatShape fmt).1 - 1) - 1

/-- n * 2^e as a value. -/
def scaled (n : Int) (e : Int) : Val :=
  if 0 ≤ e then .fin (n * ((2 ^ e.toNat : Nat) : Int)) 1 false else .fin n (2 ^ (-e).toNat) false

/-- Decode a floating element other than E4M3 by its IEEE 754 pattern (R114). -/
def decodeIeee (fmt x : Nat) : Val :=
  let eb := (floatShape fmt).1
  let mb := (floatShape fmt).2
  let s := bit x (eb + mb)
  let e := bits x mb eb
  let m := x % 2 ^ mb
  let sg : Int := if s = 1 then -1 else 1
  if e = 2 ^ eb - 1 then (if m ≠ 0 then .nan else if s = 1 then .ninf else .pinf)
  else if e = 0 ∧ m = 0 then .fin 0 1 (s == 1)
  else
    let sig : Nat := if e = 0 then m else 2 ^ mb + m
    let ex : Int := (max e 1 : Nat) - (fbias fmt : Int) - mb
    scaled (sg * sig) ex

/-- Decode E4M3 (R114): 0x80 is the only NaN, every other pattern is finite. -/
def decodeE4m3 (x : Nat) : Val :=
  if x % 256 = 0x80 then .nan
  else
    let e := bits x 3 4
    let m := x % 8
    let sg : Int := if bit x 7 = 1 then -1 else 1
    if e = 0 then scaled (sg * m) (-9) else scaled (sg * (8 + m : Nat)) ((e : Int) - 10)

/-- The 1,024th power of a number. -/
def pow1024 (x : Nat) : Nat := (List.range 10).foldl (fun y _ => y * y) x

/-- T[f] of R115: the integer nearest to 2^23 × 2^(f / 1024), found bit by bit. -/
def l16T (f : Nat) : Nat :=
  (List.range 24).foldl (fun t i =>
    let u := t + 2 ^ (23 - i)
    if pow1024 (2 * u - 1) ≤ pow1024 (2 ^ 24) * 2 ^ f then u else t) 0

/-- D(x) of R115 as a value; 0xFFFF is zero. -/
def l16D (x : Nat) : Val :=
  if x % 65536 = 0xFFFF then .fin 0 1 false else scaled (l16T (x % 1024) : Int) ((x % 65536 / 1024 : Nat) - (23 : Int))

/-- Decode an element (R113): formats 0x0 to 0xD; P64 reads as its unsigned value. -/
def decodeElem (fmt x : Nat) : Val :=
  match fmt with
  | 4 => .fin (signed 32 x) 1 false
  | 5 => .fin (signed 64 x) 1 false
  | 6 => .fin (signed 32 x) 65536 false
  | 7 => decodeE4m3 x
  | 8 | 9 | 10 | 11 | 12 => decodeIeee fmt x
  | 13 => l16D x
  | _ => .fin ((x % 2 ^ (8 * fmtBytes fmt) : Nat) : Int) 1 false

/-! Encoding (R116, R117) -/

/-- A quotient of integers rounded to the nearest integer, ties to even. -/
def roundInt (n : Int) (d : Nat) : Int := if n < 0 then -(roundHalfEven n.natAbs d : Int) else (roundHalfEven n.natAbs d : Int)

/-- floor(log2 (n / d)) of a positive quotient. -/
def log2Q (n d : Nat) : Int :=
  let e : Int := (Nat.log2 n : Int) - (Nat.log2 d : Int)
  let le (x : Int) : Bool := if 0 ≤ x then decide (2 ^ x.toNat * d ≤ n) else decide (d ≤ n * 2 ^ (-x).toNat)
  if le e then e else e - 1

/-- A positive quotient rounded to p bits with least exponent q0, ties to even: mantissa and exponent. -/
def roundFloat (p : Nat) (q0 : Int) (n d : Nat) : Nat × Int :=
  let q := max (log2Q n d - ((p : Int) - 1)) q0
  let m := if 0 ≤ q then roundHalfEven n (d * 2 ^ q.toNat) else roundHalfEven (n * 2 ^ (-q).toNat) d
  if m = 2 ^ p then (2 ^ (p - 1), q + 1) else (m, q)

/-- Whether two quotients are equal. -/
def eqQ (n : Int) (d : Nat) (n' : Int) (d' : Nat) : Bool := n * d' == n' * d

/-- Whether a quotient is at most another. -/
def leQ (n : Int) (d : Nat) (n' : Int) (d' : Nat) : Bool := decide (n * d' ≤ n' * d)

/-- ASTAT (R116): INEXACT, RANGE, INVALID. -/
def astat (inexact range invalid : Bool) : Nat := (if inexact then 1 else 0) + (if range then 2 else 0) + (if invalid then 4 else 0)

/-- Encode a value in an integer or fixed-point format of w bits (Table 5-2): scale is 1, or 2^16 for Q16. -/
def encodeInt (w : Nat) (sgn : Bool) (scale : Nat) (v : Val) : Nat × Nat :=
  let lo : Int := if sgn then -((2 ^ (w - 1) : Nat) : Int) else 0
  let hi : Int := if sgn then ((2 ^ (w - 1) : Nat) : Int) - 1 else ((2 ^ w : Nat) : Int) - 1
  let pat (x : Int) : Nat := (x % ((2 ^ w : Nat) : Int)).toNat
  match v with
  | .nan => (0, astat false false true)
  | .pinf => (pat hi, astat false true false)
  | .ninf => (pat lo, astat false true false)
  | .fin n d _ =>
    let r := roundInt (n * scale) d
    let c := max lo (min hi r)
    (pat c, astat (! eqQ c scale n d) (r != c) false)

/-- Encode a value in a floating format (Table 5-2). Of these only E4M3 marks a NaN with INVALID. -/
def encodeFloat (fmt : Nat) (v : Val) : Nat × Nat :=
  let eb := (floatShape fmt).1
  let mb := (floatShape fmt).2
  let q0 : Int := 1 - (fbias fmt : Int) - mb
  let sbit (neg : Bool) : Nat := if neg then 2 ^ (eb + mb) else 0
  let e4 := fmt == 7
  let inf (neg : Bool) : Nat := if e4 then sbit neg + 0x7F else sbit neg + (2 ^ eb - 1) * 2 ^ mb
  match v with
  | .nan => (if e4 then 0x80 else (2 ^ eb - 1) * 2 ^ mb + 2 ^ (mb - 1), astat false false e4)
  | .pinf => (inf false, astat false e4 false)
  | .ninf => (inf true, astat false e4 false)
  | .fin n d neg0 =>
    if n = 0 then (if neg0 ∧ ¬ e4 then sbit true else 0, 0)
    else
      let neg := decide (n < 0)
      let r := roundFloat (mb + 1) q0 n.natAbs d
      let sig := r.1
      let e : Int := if sig < 2 ^ mb then 0 else r.2 - q0 + 1
      let big := decide (e > ((2 ^ eb - (if e4 then 1 else 2) : Nat) : Int))
      if big then (inf neg, astat true true false)
      else
        let same := if 0 ≤ r.2 then eqQ ((sig * 2 ^ r.2.toNat : Nat) : Int) 1 n.natAbs d else eqQ (sig : Int) (2 ^ (-r.2).toNat) n.natAbs d
        let mag := e.toNat * 2 ^ mb + sig % 2 ^ mb
        ((if e4 ∧ mag = 0 then 0 else sbit neg + mag), astat (!same) false false)

/-- The numerator and denominator of D(x). -/
def l16Q (x : Nat) : Int × Nat :=
  match l16D x with
  | .fin n d _ => (n, d)
  | _ => (0, 1)

/-- The largest L16 code but the zero's at most a value above 1 whose floor(log2) is k, found bit by bit. -/
def l16Floor (k n d : Nat) : Nat :=
  (List.range 10).foldl (fun x i =>
    let y := x + 2 ^ (9 - i)
    let q := l16Q y
    if y ≤ 0xFFFE ∧ leQ q.1 q.2 n d then y else x) (1024 * k)

/-- Encode a value as L16 (Table 5-2). -/
def encodeL16 (v : Val) : Nat × Nat :=
  match v with
  | .nan => (0xFFFF, astat false false true)
  | .ninf => (0xFFFF, astat false false true)
  | .pinf => (0xFFFE, astat false true false)
  | .fin n d _ =>
    let top := l16Q 0xFFFE
    if n ≤ 0 then (0xFFFF, astat (n != 0) false (decide (n < 0)))
    else if 2 * n < d then (0xFFFF, astat true false false)
    else if n ≤ d then (0, astat (n != d) false false)
    else if ¬ leQ n d top.1 top.2 then (0xFFFE, astat true true false)
    else
      let x := l16Floor (log2Q n.toNat d).toNat n.toNat d
      let a := l16Q x
      let c := l16Q (x + 1)
      -- twice the value against the sum of its neighbours
      let sum := a.1 * c.2 + c.1 * a.2
      let up := x + 1 ≤ 0xFFFE ∧ (sum * d < 2 * n * (a.2 * c.2 : Nat) ∨ (sum * d = 2 * n * (a.2 * c.2 : Nat) ∧ x % 2 = 1))
      let y := if up then x + 1 else x
      let q := l16Q y
      (y, astat (! eqQ q.1 q.2 n d) false false)

/-- Encode a value in a target format, with its ASTAT (R116, R117). -/
def encodeElem (fmt : Nat) (v : Val) : Nat × Nat :=
  match fmt with
  | 0 => encodeInt 16 false 1 v
  | 1 => encodeInt 32 false 1 v
  | 2 => encodeInt 48 false 1 v
  | 3 => encodeInt 64 false 1 v
  | 4 => encodeInt 32 true 1 v
  | 5 => encodeInt 64 true 1 v
  | 6 => encodeInt 32 true 65536 v
  | 13 => encodeL16 v
  | 7 | 8 | 9 | 10 | 11 | 12 => encodeFloat fmt v
  | _ => (match v with
          | .fin n _ _ => (n.toNat % 2 ^ 64, 0)
          | _ => (0, 0))

/-- A conversion from one format to another (R116). None to or from P64 exists (Table 5-2): what such a one leaves is a free value (log entry
142). -/
def convertElem (src dst x : Nat) : Nat × Nat :=
  if src ≠ dst ∧ (src = 15 ∨ dst = 15) then (Config.noConversion src dst x % 2 ^ (8 * fmtBytes dst), 0) else encodeElem dst (decodeElem src x)

/-- The check of encode() (R124): what the encoded value leaves of the exact one is no more than at either neighbouring code, or the encoding
saturated. -/
def remainderOk (fmt : Nat) (v : Val) : Bool :=
  let e := encodeElem fmt v
  let far (x : Nat) (n : Int) (d : Nat) : Option (Nat × Nat) :=
    match decodeElem fmt x with
    | .fin n' d' _ => some ((n * d' - n' * d).natAbs, d * d')
    | _ => none
  match v with
  | .fin n d _ =>
    2 ≤ e.2 || (match far e.1 n d with
      | some r => [e.1 + 1, e.1 - 1].all (fun c => match far c n d with
          | some q => decide (r.1 * q.2 ≤ q.1 * r.2)
          | none => true)
      | none => true)
  | _ => true

/-! Order (R119) -/

/-- Whether one value comes before another: NaN is the caller's affair; -0 lies below +0. -/
def Val.lt (x y : Val) : Bool :=
  match x, y with
  | .ninf, .ninf => false
  | .ninf, _ => true
  | _, .ninf => false
  | .pinf, _ => false
  | .fin _ _ _, .pinf => true
  | .fin n d z, .fin n' d' z' => decide (n * d' < n' * d) || (n * d' == n' * d && z && !z')
  | _, _ => false

/-- Whether a value is NaN. -/
def Val.isNan (x : Val) : Bool := match x with | .nan => true | _ => false

/-- Whether a primitive is allowed for a format (Table 5-3): 0 SUM; 1 to 4 MIN, MAX, MINLOC, MAXLOC; 5 MERGE. -/
def primAllowed (fmt op : Nat) : Bool :=
  match op with
  | 0 => decide (fmt ≤ 13)
  | 5 => fmt == 14
  | _ => fmt != 14

/-! Residues (R124) and the exact accumulator (R121 to R123) -/

/-- The unsigned pattern of a 320-bit word. -/
def pat320 (a : Int) : Nat := (a % ((2 ^ 320 : Nat) : Int)).toNat

/-- The residue modulo 65,535 of a 320-bit word, formed from the word itself: the end-around-carry sum of its chunks. -/
def res320 (a : Int) : Nat := pat320 a % 65535

/-- The carry out of bit 319 of an addition. -/
def carry320 (x y : Int) : Nat := (pat320 x + pat320 y) / 2 ^ 320

/-- The expected residue of a checked addition (R124): res(a) + res(b) - cout. -/
def addRes (ra rb cout : Nat) : Nat := (ra + rb + 65535 - cout) % 65535

/-- The residue of a word placed as 2^320 - |v| (R124): 1 - res(|v|). -/
def negRes (r : Nat) : Nat := (1 + 65535 - r % 65535) % 65535

/-- The residue of an expanded value (R124), from its significand and its shift s: res(M) * 2^(s mod 16); d is the power of two that divides it. -/
def expandRes (n : Int) (d : Nat) : Nat :=
  let r := n.natAbs % 65535 * 2 ^ ((149 - Nat.log2 d) % 16) % 65535
  if n < 0 then negRes r else r

/-- Whether two residues are equal (R124): congruent modulo 65,535. -/
def resEq (x y : Nat) : Bool := x % 65535 == y % 65535

/-- The order of two 320-bit words as a checked subtraction gives it (R124): its sign, and the residue that is expected of it. -/
def subChecked (x y : Int) : Bool × Nat := (decide (x - y < 0), addRes (res320 x) (res320 (-y)) (carry320 x (-y)))

/-- A value as a multiple of 2^-149. -/
def expand149 (n : Int) (d : Nat) : Int := n * ((2 ^ 149 : Nat) : Int) / d

/-- Wrap an integer to 320-bit two's complement. -/
def wrap320 (a : Int) : Int :=
  let m := a % ((2 ^ 320 : Nat) : Int)
  if m < ((2 ^ 319 : Nat) : Int) then m else m - ((2 ^ 320 : Nat) : Int)

/-- add(acc, x) of R123; the residue comes from the operands' residues, on a path of its own (R124). -/
def ExAcc.add (acc : ExAcc) (x : Val) : ExAcc :=
  let acc := { acc with n := acc.n + 1 }
  match x with
  | .nan => { acc with nan := true }
  | .pinf => { acc with pinf := true, nz := true }
  | .ninf => { acc with ninf := true, nz := true }
  | .fin n d z =>
    let v := expand149 n d
    { acc with nz := acc.nz || !z, a := wrap320 (acc.a + v), res := addRes acc.res (expandRes n d) (carry320 acc.a v) }

/-- merge(acc, other) of R123. -/
def ExAcc.merge (x y : ExAcc) : ExAcc :=
  { a := wrap320 (x.a + y.a), res := addRes x.res y.res (carry320 x.a y.a), pinf := x.pinf || y.pinf, ninf := x.ninf || y.ninf, nan := x.nan || y.nan, nz := x.nz || y.nz, n := x.n + y.n }

/-- Whether an accumulator passes its check (R124): the residue of its word is the one expected. -/
def ExAcc.checked (x : ExAcc) : Bool := resEq (res320 x.a) x.res

/-- The value an accumulator stands for (result of R123, before encoding). -/
def ExAcc.value (x : ExAcc) : Val :=
  if x.nan || (x.pinf && x.ninf) then .nan
  else if x.pinf then .pinf
  else if x.ninf then .ninf
  else if x.a = 0 ∧ 0 < x.n ∧ ¬ x.nz then .fin 0 1 true
  else .fin x.a (2 ^ 149) false

/-- result(acc, target) of R123. -/
def ExAcc.result (x : ExAcc) (fmt : Nat) : Nat × Nat := encodeElem fmt x.value

/-! Canonical-order F64 (R126) -/

/-- Whether a binary64 pattern is a signalling NaN. -/
def isSignalling (x : Nat) : Bool := (decodeElem 12 x).isNan && bit x 51 == 0

/-- An IEEE 754 binary64 addition with its flags; one of a signalling NaN is an invalid operation. -/
def add64 (x y : Nat) : Nat × Nat :=
  let inv := if isSignalling x || isSignalling y then 4 else 0
  match decodeElem 12 x, decodeElem 12 y with
  | .nan, _ => (0x7FF8000000000000, inv)
  | _, .nan => (0x7FF8000000000000, inv)
  | .pinf, .ninf => (0x7FF8000000000000, 4)
  | .ninf, .pinf => (0x7FF8000000000000, 4)
  | .pinf, _ => (0x7FF0000000000000, 0)
  | _, .pinf => (0x7FF0000000000000, 0)
  | .ninf, _ => (0xFFF0000000000000, 0)
  | _, .ninf => (0xFFF0000000000000, 0)
  | .fin n d z, .fin n' d' z' => encodeElem 12 (.fin (n * d' + n' * d) (d * d') (z && z'))

/-- node(k, j) of R126 over the contributions of its block, (LDI, pattern, flags); none is EMPTY. -/
def node64 (k : Nat) (l : List (Nat × Nat × Nat)) : Option (Nat × Nat) :=
  match k with
  | 0 => l.head?.map (fun x => x.2)
  | k + 1 =>
    if l = [] then none
    else
      match node64 k (l.filter (fun x => bit x.1 k == 0)), node64 k (l.filter (fun x => bit x.1 k == 1)) with
      | none, c => c
      | a, none => a
      | some a, some c => let r := add64 a.1 c.1; some (r.1, r.2 ||| a.2 ||| c.2)

/-- The F64 SUM of a collective: +0 for no members. -/
def sum64 (l : List (Nat × Nat × Nat)) : Nat × Nat := (node64 20 l).getD (0, 0)

/-! Sketches (R128 to R131) -/

/-- bound(k) of R129: the binary64 pattern nearest to (51/50)^k. -/
def bound (k : Int) : Nat :=
  let p := k.natAbs
  (encodeElem 12 (if 0 ≤ k then .fin ((51 ^ p : Nat) : Int) (50 ^ p) false else .fin ((50 ^ p : Nat) : Int) (51 ^ p) false)).1

/-- bound(k) as a value. -/
def boundV (k : Int) : Val := decodeElem 12 (bound k)

/-- Whether a value is at most bound(k). -/
def leBound (v : Val) (k : Int) : Bool := ! (boundV k).lt v

/-- A sketch's count, increased by n, saturating (R129, R130): the count and whether it saturated. -/
def satCount (x n : Nat) : Nat × Bool := (sat 32 (x + n), decide (2 ^ 32 ≤ x + n))

/-- Insert a value (R129): NaN is not inserted and gives INVALID. -/
def Sketch.insert (s : Sketch) (v0 : Val) : Sketch × Nat :=
  let v := decodeElem 12 (encodeElem 12 v0).1
  if v.isNan then (s, 4)
  else if leBound v (s.keyBase - 1) then
    let r := satCount s.below 1
    ({ s with below := r.1, sat := s.sat || r.2 }, 0)
  else
    match (List.range 2048).find? (fun (b : Nat) => leBound v (s.keyBase + (b : Int))) with
    | some b =>
      let r := satCount (s.buckets.getD b 0) 1
      ({ s with buckets := s.buckets.put b r.1, sat := s.sat || r.2 }, 0)
    | none =>
      let r := satCount s.above 1
      ({ s with above := r.1, sat := s.sat || r.2 }, 0)

/-- merge(s, t) of R130: none where the key bases differ. -/
def Sketch.merge (s t : Sketch) : Option Sketch :=
  if s.keyBase ≠ t.keyBase then none
  else
    let u := satCount s.below t.below
    let o := satCount s.above t.above
    let bs := t.buckets.foldl (fun (a : SMap Nat × Bool) p =>
      let r := satCount (a.1.getD p.1 0) p.2
      (a.1.put p.1 r.1, a.2 || r.2)) (s.buckets, false)
    some { s with below := u.1, above := o.1, buckets := bs.1, sat := s.sat || t.sat || u.2 || o.2 || bs.2 }

/-- The bytes of a sketch (Table 5-5). -/
def Sketch.bytes (s : Sketch) : List Byte :=
  leBytes 4 s.below ++ leBytes 4 s.above ++ leBytes 2 (s.keyBase % 65536).toNat ++ leBytes 1 (if s.sat then 1 else 0) ++ leBytes 5 0
    ++ (List.range 2048).flatMap (fun b => leBytes 4 (s.buckets.getD b 0))

/-- The sketch that bytes hold (Table 5-5). -/
def Sketch.ofBytes (l : List Byte) : Sketch :=
  { below := leAt l 0 4, above := leAt l 4 4, keyBase := signed 16 (leAt l 8 2), sat := leAt l 10 1 % 2 == 1,
    buckets := (List.range 2048).foldl (fun (m : SMap Nat) b => m.putD 0 b (leAt l (16 + 4 * b) 4)) [] }

/-- The bucket at which a running count reaches a rank. -/
def reachBucket (s : Sketch) (rank : Nat) (cnt : Nat) (l : SMap Nat) : Option Nat :=
  match l with
  | [] => none
  | p :: t => if rank ≤ cnt + p.2 then some p.1 else reachBucket s rank (cnt + p.2) t

/-- The quantile at P parts per million (R131): 1 BELOW, 2 ABOVE, or 0 and rep of a bucket's key, as a binary64 pattern; with
INVALID where SAT = 1. -/
def Sketch.quantile (s : Sketch) (p : Nat) : Nat × Nat × Nat :=
  let t := s.below + s.above + (s.buckets.map (fun x => x.2)).foldl (· + ·) 0
  let rank := max 1 ((p * t + 999999) / 1000000)
  let fl := if s.sat then 4 else 0
  if rank ≤ s.below then (1, 0, fl)
  else
    match reachBucket s rank s.below s.buckets with
    | some b =>
      let rep := match boundV (s.keyBase + b) with
        | .fin n d _ => (encodeElem 12 (.fin (n * 100) (d * 101) false)).1
        | _ => 0
      (0, rep, fl)
    | none => (2, 0, fl)

end Sys2Proof.Machine
end

