-- ==== Sys2Proof/Machine/Features.lean ====
section
/-! DEFINITION. The feature table of Hawkmoth (spec/07_hawkmoth.md, R161, R170, R174): feature keys, rows, the
feature cache. -/

namespace Sys2Proof.Machine

/-- The key of a binary64 pattern (Table 7-3): none for a NaN. -/
def key64 (x : Nat) : Option Nat :=
  if (decodeElem 12 x).isNan then none
  else if x % 2 ^ 63 = 0 then some (2 ^ 63)
  else if bit x 63 = 0 then some (x + 2 ^ 63)
  else some (2 ^ 64 - 1 - x % 2 ^ 64)

/-- A signed pattern of w bits as a key. -/
def keySigned (w x : Nat) : Nat := (signed w x + ((2 ^ 63 : Nat) : Int)).toNat

/-- The key of an element (R161): none where the feature is missing. -/
def featKey (fmt x : Nat) : Option Nat :=
  match fmt with
  | 0 => some (x % 2 ^ 16)
  | 1 => some (x % 2 ^ 32)
  | 2 => some (x % 2 ^ 48)
  | 3 => some (x % 2 ^ 64)
  | 4 => some (keySigned 32 x)
  | 5 => some (keySigned 64 x)
  | 6 => some (keySigned 32 x)
  | 7 | 8 | 9 | 10 | 11 => key64 (convertElem fmt 12 x).1
  | 12 => key64 x
  | 13 => some ((x + 1) % 2 ^ 16)
  | 15 => some (x % 2 ^ 64)
  | _ => none

/-- A row of the table. -/
def Block.row (b : Block) (e : Nat) : Row := b.hwk.rows.getD e {}

/-- Put a row. -/
def Block.putRow (b : Block) (e : Nat) (r : Row) : Block := { b with hwk := { b.hwk with rows := b.hwk.rows.putD {} e r } }

/-- Whether an entity's row is pinned (R174): an ensemble with PIN covers it. -/
def Block.pinned (b : Block) (e : Nat) : Bool :=
  (List.range 4).any (fun k => b.is (F.HWK_ENS_CFG_PIN.ix k)
    && decide (b.f (F.HWK_ENS_ENT_FIRST.ix k) ≤ e) && decide (e ≤ b.f (F.HWK_ENS_ENT_FIRST.ix k) + b.f (F.HWK_ENS_ENT_COUNT.ix k)))

/-- The feature cache takes a row (R174): a hit moves to the front; a miss is counted, and with 512 rows held the least recently used
row that is not pinned is evicted. -/
def Block.touch (b : Block) (e : Nat) : Block :=
  if b.hwk.cached.contains e then { b with hwk := { b.hwk with cached := e :: b.hwk.cached.filter (· != e) } }
  else
    let b := b.count F.HWK_CACHE_MISSES
    if b.hwk.cached.length < 512 then { b with hwk := { b.hwk with cached := e :: b.hwk.cached } }
    else match b.hwk.cached.reverse.find? (fun x => ! b.pinned x) with
      | some v => ({ b with hwk := { b.hwk with cached := e :: b.hwk.cached.filter (· != v) } }).count F.HWK_CACHE_EVICTS
      | none => b

/-- A row is read ahead of its pass (R174), where the cache does not hold it. -/
def Block.prefetch (b : Block) (e : Nat) : Block := if b.hwk.cached.contains e then b else b.touch e

/-- A feature update is dropped (R171). -/
def Block.featDrop (b : Block) : Block := (b.count F.HWK_DROPS_FEAT).raise Ev.HWK_FEAT_DROP

/-- Write a feature: a missing key clears its valid bit. -/
def Row.write (r : Row) (f : Nat) (k : Option Nat) (perWb : Bool) : Row :=
  match k with
  | some v => { r with feats := r.feats.put f { key := v, valid := true, perWb := perWb } }
  | none => { r with feats := r.feats.upd f {} (fun x => { x with valid := false }) }

end Sys2Proof.Machine
end

