-- ==== Sys2Proof/Machine/Drift.lean ====
section
/-! DEFINITION. The drift correlator (spec/08_verdicts_energy.md, R192 to R195). -/

namespace Sys2Proof.Machine

/-- The value whose key a feature holds (R192), under its FEATFMT. -/
def keyVal (fmt k : Nat) : Val :=
  match fmt with
  | 4 | 5 => .fin ((k : Int) - ((2 ^ 63 : Nat) : Int)) 1 false
  | 6 => .fin ((k : Int) - ((2 ^ 63 : Nat) : Int)) 65536 false
  | 7 | 8 | 9 | 10 | 11 | 12 => decodeElem 12 (if 2 ^ 63 ≤ k then k - 2 ^ 63 else 2 ^ 64 - 1 - k)
  | 13 => l16D ((k + 65535) % 65536)
  | _ => .fin (k : Int) 1 false

/-- The difference of two values. -/
def Val.sub (x y : Val) : Val :=
  match x, y with
  | .nan, _ => .nan
  | _, .nan => .nan
  | .pinf, .pinf => .nan
  | .ninf, .ninf => .nan
  | .pinf, _ => .pinf
  | .ninf, _ => .ninf
  | _, .pinf => .ninf
  | _, .ninf => .pinf
  | .fin n d z, .fin n' d' z' => .fin (n * d' - n' * d) (d * d') (z && !z')

/-- FEATFMT of a feature in the active model. -/
def Block.featfmt (b : Block) (f : Nat) : Nat := (b.hwk.active.bind (fun m => m.featfmt[f]?)).getD 0

/-- The window N of a channel (VRD_DRIFT_CFG). -/
def Block.driftN (b : Block) (ch : Nat) : Nat :=
  min (if b.is (F.VRD_DRIFT_CFG_HOT.ix ch) then 2097152 else 8388608) (atLeast1 (b.f (F.VRD_DRIFT_CFG_N.ix ch)))

/-- The value of an F32 pattern as a multiple of 2^-149. -/
def f32Int (x : Nat) : Int :=
  match decodeElem 11 x with
  | .fin n d _ => expand149 n d
  | _ => 0

/-- The oldest sample leaves a window (R193): the remaining indices fall by one. -/
def Drift.dropOldest (c : Drift) : Drift :=
  let o := f32Int (c.win.head?.getD 0)
  { c with win := c.win.tail, st := c.st - c.s1 + o, s1 := c.s1 - o }

/-- sample(ch, r) of R193: a window that is full, or longer than a commit now lets it be, loses its oldest first. -/
def Drift.sample (c : Drift) (n r : Nat) : Drift :=
  let c := (List.range (c.win.length + 1 - n)).foldl (fun c _ => c.dropOldest) c
  { c with win := c.win ++ [r], st := c.st + (c.win.length : Int) * f32Int r, s1 := c.s1 + f32Int r }

/-- The mean m = S1 / N of a full window (R194), as an F64 pattern. -/
def Drift.mean (c : Drift) (n : Nat) : Nat := (encodeElem 12 (.fin c.s1 (n * 2 ^ 149) false)).1

/-- The change D of a full window (R194), as an F64 pattern. -/
def Drift.change (c : Drift) (n : Nat) : Nat :=
  if n ≤ 1 then 0
  else
    let t1 := n * (n - 1) / 2
    let t2 := (n - 1) * n * (2 * n - 1) / 6
    let num : Int := ((n - 1 : Nat) : Int) * ((n : Int) * c.st - (t1 : Int) * c.s1)
    (encodeElem 12 (.fin num ((n * t2 - t1 * t1) * 2 ^ 149) false)).1

/-- Whether the magnitude of an F64 figure reaches an F32 threshold, 0 disabling it (R194). -/
def reaches (x th : Nat) : Bool :=
  match decodeElem 12 (x % 2 ^ 63), decodeElem 11 th with
  | .fin n d _, .fin n' d' _ => n' != 0 && decide (n' * d ≤ n * d')
  | .pinf, .fin n' _ _ => n' != 0
  | .pinf, .pinf => true
  | _, .ninf => true
  | _, _ => false

/-- Who an entity is (Table 8-2), by the first enabled feature map entry that feeds it: ENTKIND and ENTITY (log entry 24). -/
def Block.entityId (b : Block) (e : Nat) (feature : Option Nat) : Nat × Nat :=
  let hit (n : Nat) : Bool :=
    let base := b.f (F.HWK_FMAP_ENT_ENT.ix n)
    (feature.isNone || feature == some (b.f (F.HWK_FMAP_TGT_FEATURE.ix n)))
      && (!(b.is (F.HWK_FMAP_SRC_ENTSRC.ix n)) || base % 65536 == e)
  match (sortBy id (b.copies F.HWK_FMAP_TGT_EN 1)).find? hit with
  | some n =>
    if b.is (F.HWK_FMAP_SRC_ENTSRC.ix n) then (2, 0)
    else (b.f (F.HWK_FMAP_MATCH_AGG.ix n), (b.f (F.HWK_FMAP_ENT_ENT.ix n) + e) % 2 ^ 20)
  | none => (2, 0)

/-- A finding that belongs to no wingbeat waits for the next round (R184). -/
def Block.finding (b : Block) (e : VEntry) : Block :=
  if b.is F.VRD_CTRL_EN then { b with vrd := { b.vrd with waiting := b.vrd.waiting ++ [e] } } else b

/-- A full window is judged (R194). -/
def Block.driftJudge (b : Block) (ch : Nat) (c : Drift) : Block :=
  let n := b.driftN ch
  let m := c.mean n
  let d := c.change n
  let now := reaches m (b.f (F.VRD_DRIFT_MEAN_TH_TH.ix ch)) || reaches d (b.f (F.VRD_DRIFT_SLOPE_TH_TH.ix ch))
  let was := b.is (F.VRD_DRIFT_STAT_DRIFTING.ix ch)
  let id := b.entityId (b.f (F.VRD_DRIFT_X_ENTITY.ix ch)) (some (b.f (F.VRD_DRIFT_X_FEATURE.ix ch)))
  let b := b.setb (F.VRD_DRIFT_STAT_DRIFTING.ix ch) now
  if now = was then b
  else (b.finding { kind := 5, clear := was, sev := b.f (F.VRD_DRIFT_CFG_SEV.ix ch), entity := id.2, entkind := id.1, metric := m, ref := d }).raiseIf
    now Ev.VRD_DRIFT [(ch, 8)]

/-- The least spacing between samples of a channel in CLK_CORE cycles (R192). -/
def Block.driftGap (b : Block) (ch : Nat) : Nat :=
  if b.is (F.VRD_DRIFT_CFG_HOT.ix ch) then (b.syn.coreMHz + 99) / 100 else b.us 1

/-- A residual that may enter (R192): a number below 2^64 in magnitude. -/
def residualOk (r : Nat) : Bool :=
  match decodeElem 11 r with
  | .fin n d _ => decide (n.natAbs < 2 ^ 64 * d)
  | _ => false

/-- Put a channel and show its fill. -/
def Block.putDrift (b : Block) (ch : Nat) (c : Drift) : Block :=
  ({ b with vrd := { b.vrd with drift := b.vrd.drift.put ch c } }).setf (F.VRD_DRIFT_STAT_FILL.ix ch) (sat 24 c.win.length)

/-- A channel's adder fails its check, or its window is lost (R193, Table 14-3): it is cleared and refills. -/
def Block.driftClear (b : Block) (ch : Nat) : Block := (b.putDrift ch {}).raise Ev.VRD_DRIFT_CHECK [(ch, 8)]

/-- A sample of a channel (R192 to R194); where an adder of its update fails its check (`Vrd.driftBad`), the channel is cleared and nothing is
judged. -/
def Block.driftSample (b : Block) (ch : Nat) : Block :=
  let c := b.vrd.drift.getD ch {}
  let fx := b.f (F.VRD_DRIFT_X_FEATURE.ix ch)
  let fy := b.f (F.VRD_DRIFT_Y_FEATURE.ix ch)
  let x : Feat := (b.row (b.f (F.VRD_DRIFT_X_ENTITY.ix ch))).feats.getD fx {}
  let y : Feat := (b.row (b.f (F.VRD_DRIFT_Y_ENTITY.ix ch))).feats.getD fy {}
  let yen := b.is (F.VRD_DRIFT_CFG_YEN.ix ch)
  if yen ∧ ¬ y.valid then b
  else if c.last.any (fun t => decide (b.clk.core - t < b.driftGap ch)) then b.count (F.VRD_DRIFT_STAT_DROPS.ix ch)
  else
    let yv := if yen then keyVal (b.featfmt fy) y.key else .fin 0 1 false
    let r := (encodeElem 11 ((keyVal (b.featfmt fx) x.key).sub yv)).1
    if ¬ residualOk r then b.raise Ev.VRD_DRIFT_RANGE [(ch, 8)]
    else if b.vrd.driftBad.contains ch then
      ({ b with vrd := { b.vrd with driftBad := b.vrd.driftBad.filter (fun x => x != ch), driftFailed := b.vrd.driftFailed ++ [ch] } }).driftClear ch
    else
      let n := b.driftN ch
      let c := c.sample n r
      let full := decide (n ≤ c.win.length)
      let due := full && (match c.since with
        | none => true
        | some k => decide (atLeast1 (b.f (F.VRD_DRIFT_EVAL_EVAL.ix ch)) ≤ k + 1))
      let c := { c with last := some b.clk.core, since := if due then some 0 else c.since.map (· + 1) }
      let b := b.putDrift ch c
      if due then b.driftJudge ch c else b

/-- The channels that follow a feature take a sample (R192). -/
def Block.driftFeed (b : Block) (e f : Nat) : Block :=
  if b.on dSWARM ∧ b.is F.VRD_CTRL_DRIFT then
    ((sortBy id (b.copies F.VRD_DRIFT_CFG_EN 1)).filter (fun ch =>
      b.f (F.VRD_DRIFT_X_ENTITY.ix ch) == e && b.f (F.VRD_DRIFT_X_FEATURE.ix ch) == f)).foldl (fun b ch => b.driftSample ch) b
  else b

end Sys2Proof.Machine
end

