-- ==== Sys2Proof/Machine/FeatureMap.lean ====
section
/-! DEFINITION. The feature map (spec/07_hawkmoth.md, R171 to R173): how a record that this aggregator forms or receives feeds the
rows, and the drift channels that follow them. -/

namespace Sys2Proof.Machine

/-- Write a feature of a row; a valid write is a sample for the channels that follow it (R171, R192). -/
def Block.featWrite (b : Block) (e f : Nat) (k : Option Nat) (perWb : Bool) : Block :=
  let b := b.putRow e ((b.row e).write f k perWb)
  if k.isSome then b.driftFeed e f else b

/-- One key of a HWK_FEATROW (R171 step 3). -/
def Block.featRowKey (b : Block) (e f0 : Nat) (perWb : Bool) (payload : List Byte) (k : Nat) : Block :=
  let v := bit (leAt payload (8 + k / 8) 1) (k % 8) == 1
  if 1023 < f0 + k then (if v then b.featDrop else b)
  else b.featWrite e (f0 + k) (if v then some (leAt payload (136 + 8 * k) 8) else none) perWb

/-- One feature map entry applies to a record (R171 steps 1 to 5). -/
def Block.featEntry (b : Block) (n : Nat) (r : Rec) : Block :=
  let base := b.f (F.HWK_FMAP_ENT_ENT.ix n)
  let fixed := b.is (F.HWK_FMAP_SRC_ENTSRC.ix n)
  if ¬ fixed ∧ (r.ldi < base ∨ 65535 < r.ldi - base) then b.featDrop
  else
    let e := if fixed then base % 65536 else r.ldi - base
    let b := b.touch e
    if r.phase < (b.row e).stamp then b.featDrop
    else
      let f := b.f (F.HWK_FMAP_TGT_FEATURE.ix n)
      let perWb := b.is (F.HWK_FMAP_SRC_MODE.ix n)
      if r.typ = 0x22 then
        let nf := bits (leAt r.bytes 0 8) 8 10 + 1
        let b := (List.range nf).foldl (fun b k => b.featRowKey e f perWb r.bytes k) b
        b.putRow e { b.row e with stamp := r.phase }
      else
        let fmt := b.f (F.HWK_FMAP_SRC_FMT.ix n)
        let o := b.f (F.HWK_FMAP_SRC_OFFSET.ix n)
        let w := fmtBytes fmt
        if r.bytes.length < o + w then b.featDrop
        else
          let b := b.featWrite e f (featKey fmt (leAt r.bytes o w)) perWb
          b.putRow e { b.row e with stamp := r.phase }

/-- A record feeds the entries of its class, TYPE and STREAM, in entry order (R171, R172). -/
def Block.featRecord (b : Block) (r : Rec) (agg : Nat) : Block :=
  ((sortBy id (b.copies F.HWK_FMAP_TGT_EN 1)).filter (fun n =>
    b.f (F.HWK_FMAP_MATCH_AGG.ix n) == agg && b.f (F.HWK_FMAP_MATCH_TYPE.ix n) == r.typ && b.f (F.HWK_FMAP_MATCH_STREAM.ix n) == r.stream)).foldl
    (fun b n => b.featEntry n r) b

/-- A record that this aggregator forms (R171). -/
def Block.featOwn (b : Block) (r : Rec) : Block := if b.syn.agg ∧ b.on dHAWK then b.featRecord r 1 else b

/-- A record that arrived on a port (R171): a die's, after the test of R28, or an aggregator's from below that port. -/
def Block.featArrived (b : Block) (port : Nat) (r : Rec) : Block :=
  if b.syn.agg ∧ b.on dHAWK then
    if r.epoch ≠ 0 then b.featRecord r 0
    else if b.fab.topo.below.contains (port, r.ldi % 65536) then b.featRecord r 1
    else b.featDrop
  else b

end Sys2Proof.Machine
end

