-- ==== Sys2Proof/Machine/Records.lean ====
section
/-! DEFINITION. Records and hardware queues (spec/10_queues_delivery.md, R227 to R236, R243): the header, what a queue takes,
drops and QUE_LOSS, and the one way in which every producer's record enters its queue. -/

namespace Sys2Proof.Machine

/-- Header bytes 0 to 43 of a record with its SEQ (R227, Table 10-1). -/
def Rec.head (r : Rec) (seq : Nat) : List Byte :=
  leBytes 1 r.typ ++ leBytes 1 (r.fmt % 16 + r.flags % 16 * 16) ++ leBytes 2 (r.bytes.length / 8)
    ++ leBytes 2 r.stream ++ leBytes 2 r.epoch
    ++ leBytes 4 (r.ldi % 2 ^ 20 + r.sev % 8 * 2 ^ 20 + r.cls % 8 * 2 ^ 23)
    ++ leBytes 6 seq ++ leBytes 6 0 ++ leBytes 8 r.phase ++ leBytes 8 r.wall ++ leBytes 4 0

/-- A whole record: header, header check, payload (R227, R230). -/
def Rec.whole (r : Rec) (seq : Nat) : List Byte :=
  let h := r.head seq
  r.raw.getD (h ++ leBytes 4 (crc32c h) ++ r.bytes)

/-- The bytes a record takes: 48 and its payload (R230); a quarantined unit takes its own (R246). -/
def Rec.size (r : Rec) : Nat :=
  match r.raw with
  | some l => l.length
  | none => 48 + r.bytes.length

/-- The number a queue register means: the D build uses [11:0]. -/
def Block.qnum (b : Block) (q : Nat) : Nat := if b.syn.agg then q % 65536 else q % 4096

/-- A queue's state. -/
def Block.queue (b : Block) (q : Nat) : QueSt := b.que.queues.getD q {}

/-- Change a queue's state. -/
def Block.setQueue (b : Block) (q : Nat) (x : QueSt) : Block :=
  { b with que := { b.que with queues := b.que.queues.putD {} q x } }

/-- Bytes of a list of items. -/
def itemBytes (l : List Item) : Nat := l.foldl (fun a i => a + i.body.size) 0

/-- Bytes reserved in a queue for a push (R236), one that waits in Silkworm included. -/
def Block.pushBytes (b : Block) (q : Nat) : Nat :=
  (match b.que.push with
    | some p => if p.queue = q ∧ ¬ p.waiting then 4 * (12 + 2 * p.len) else 0
    | none => 0)
  + b.slk.jobs.foldl (fun a j => if j.queue = q then a + j.resv else a) 0

/-- A queue's occupancy: items waiting, items taken and still held, room reserved for a push (R230). -/
def Block.occupancy (b : Block) (q : Nat) : Nat := itemBytes (b.queue q).items + b.pushBytes q

/-- Bytes of the Hold Buffer in use (R243). -/
def Block.holdUsed (b : Block) : Nat :=
  b.que.queues.foldl (fun a p => a + itemBytes p.2.items) 0
    + (match b.que.push with
       | some p => if p.waiting then 0 else 4 * (12 + 2 * p.len)
       | none => 0)
    + b.slk.jobs.foldl (fun a j => a + j.resv) 0

/-- Bytes of the Hold Buffer: 2 MiB (R3). -/
def holdSize : Nat := 2 * 1024 * 1024

/-- Whether the Hold Buffer has room for an item, its reserve kept back from items below RSEV (R243). -/
def Block.holdRoom (b : Block) (used size sev : Nat) : Bool :=
  b.syn.agg ||
    (decide (used + size ≤ holdSize) &&
      (decide (b.f F.QUE_HOLD_CFG_RSEV ≤ sev) || decide (b.f F.QUE_HOLD_CFG_RESV * 16384 ≤ holdSize - (used + size))))

/-- Bytes of an aggregator's queue and metadata SRAM: 16 MiB (R3). -/
def sramSize : Nat := 16 * 1024 * 1024

/-- Whether a queue goes on in attached DRAM (QUE_CFG.SPILL, R230). -/
def Block.spills (b : Block) (q : Nat) : Bool := b.is (F.QUE_CFG_SPILL.ix q)

/-- Bytes that the queue SRAM of an aggregator could still take (R3, R230): the queues without SPILL share it. How much of it metadata and the
heads of queues with SPILL use, no rule says: none (DESIGN CHOICE, log entry 134). -/
def Block.sramFree (b : Block) : Nat :=
  sramSize - b.que.queues.foldl (fun a p => if b.spills p.1 then a else a + b.occupancy p.1) 0

/-- Whether the aggregator's SRAM has room for an item of a queue. -/
def Block.sramRoom (b : Block) (q size : Nat) : Bool := !b.syn.agg || b.spills q || decide (size ≤ b.sramFree)

/-- Capacity of a queue in bytes. -/
def Block.capacity (b : Block) (q : Nat) : Nat := b.f (F.QUE_SIZE_KIB.ix q) * 1024

/-- Whether a queue takes items at all (R231). -/
def Block.takes (b : Block) (q : Nat) : Bool :=
  b.is F.QUE_CTRL_EN && b.is (F.QUE_CFG_EN.ix q) && b.f (F.QUE_SIZE_KIB.ix q) != 0 && b.on dQUEUE

/-- Whether a queue has room for bytes of an item of a severity, by its size and by the memory that holds it: the Hold Buffer, or the
aggregator's SRAM. -/
def Block.room (b : Block) (q size sev : Nat) : Bool :=
  decide (b.occupancy q + size ≤ b.capacity q) && b.holdRoom b.holdUsed size sev && b.sramRoom q size

/-- Note a dropped item of a size, PHASE and SEV: the drops to report, QUE_DROPS and DROP (R234). -/
def Block.dropBytes (b : Block) (q size phase sev : Nat) : Block :=
  let x := b.queue q
  let l : Loss := match x.loss with
    | some l => { items := l.items + 1, bytes := l.bytes + size, first := l.first, last := phase, sev := max l.sev sev }
    | none => { items := 1, bytes := size, first := phase, last := phase, sev := sev }
  ((b.setQueue q { x with loss := some l }).count (F.QUE_DROPS_ITEMS.ix q)).raise Ev.QUE_DROP [(q, 16)]

/-- Note a dropped record. -/
def Block.dropItem (b : Block) (q : Nat) (r : Rec) : Block := b.dropBytes q r.size r.phase r.sev

/-- The payload of a QUE_LOSS record (R234): queue, items, bytes, PHASE of the first and last item dropped. -/
def Loss.payload (l : Loss) (q : Nat) : List Byte :=
  leBytes 8 q ++ leBytes 8 l.items ++ leBytes 8 l.bytes ++ leBytes 8 l.first ++ leBytes 8 l.last

/-- The epoch and index a record of this source carries (R16, R228). -/
def Block.selfEpoch (b : Block) : Nat := if b.syn.agg then 0 else b.f F.SELF_EPOCH_EPOCH

/-- LDI of a D-role; the LAI in [15:0] of an aggregator (R228). -/
def Block.selfLdi (b : Block) : Nat := if b.syn.agg then b.f F.SELF_LDI_INDEX % 65536 else b.f F.SELF_LDI_INDEX

/-- The QUE_LOSS record of a queue (R234), with the STREAM and CLASS of the item it stands before. -/
def Block.lossRec (b : Block) (q : Nat) (l : Loss) (stream cls : Nat) : Rec :=
  { typ := 0x40, fmt := 3, stream := stream, epoch := b.selfEpoch, ldi := b.selfLdi, sev := l.sev, cls := cls,
    phase := b.phase, wall := b.wall, bytes := l.payload q }

/-- Put a record at the end of a queue. -/
def Block.append (b : Block) (q : Nat) (r : Rec) (loss : Bool := false) : Block :=
  let x := b.queue q
  let b := b.setQueue q { x with items := x.items ++ [{ body := r, loss := loss, num := b.que.itemNum }] }
  { b with que := { b.que with itemNum := b.que.itemNum + 1 } }

/-- Give a waiting QUE_LOSS record that stands at the end of a queue the STREAM and CLASS of the item now behind it (R234). -/
def patchLoss (items : List Item) (stream cls : Nat) : List Item :=
  items.map (fun i => if i.loss then { i with loss := false, body := { i.body with stream := stream, cls := cls } } else i)

/-- Bytes of the QUE_LOSS record that an item entering now must have ahead of it: 0 when none is due. -/
def Block.lossBytes (b : Block) (q : Nat) : Nat := if (b.queue q).loss.isSome then 88 else 0

/-- The QUE_LOSS record that waits at the end of a queue takes the STREAM and CLASS of the item behind it, and is then whole: a record that this
aggregator has formed (R171, R234). -/
def Block.settleLoss (b : Block) (q stream cls : Nat) : Block :=
  let x := b.queue q
  let b := b.setQueue q { x with items := patchLoss x.items stream cls }
  (x.items.filter (fun i => i.loss)).foldl (fun b i => b.featOwn { i.body with stream := stream, cls := cls }) b

/-- Put an item in a queue that has room for it, the QUE_LOSS record due first (R234). -/
def Block.enter (b : Block) (q : Nat) (r : Rec) : Block :=
  let l := (b.queue q).loss
  let b := b.settleLoss q r.stream r.cls
  let b := b.setQueue q { b.queue q with loss := none }
  let b := match l with
    | some l => let x := b.lossRec q l r.stream r.cls; (b.featOwn x).append q x
    | none => b
  b.append q r

/-- How many of the oldest items without a SEQ must go before `need` bytes fit within `free` bytes. -/
def dropsNeeded (items : List Item) (need free : Nat) : Option Nat :=
  match items with
  | [] => if need ≤ free then some 0 else none
  | i :: t =>
    if need ≤ free then some 0
    else if i.seq.isSome then dropsNeeded t need free
    else (dropsNeeded t need (free + i.body.size)).map (· + 1)

/-- The first n items without a SEQ. -/
def oldest (items : List Item) (n : Nat) : List Item := (items.filter (fun i => i.seq.isNone)).take n

/-- Drop the oldest n items without a SEQ from a queue (R234, DROP_OLD). -/
def Block.dropOld (b : Block) (q n : Nat) : Block :=
  let out := oldest (b.queue q).items n
  let x := b.queue q
  let b := b.setQueue q { x with items := x.items.filter (fun i => ¬ (out.any (fun o => o.num == i.num))) }
  out.foldl (fun b i => b.dropItem q i.body) b

/-- Bytes a queue could still take: by its size and by the memory that holds it, for the severity. -/
def Block.free (b : Block) (q sev : Nat) : Nat :=
  let byQ := b.capacity q - b.occupancy q
  if b.syn.agg then (if b.spills q then byQ else min byQ b.sramFree)
  else
    let keep := if b.f F.QUE_HOLD_CFG_RSEV ≤ sev then 0 else b.f F.QUE_HOLD_CFG_RESV * 16384
    min byQ (holdSize - b.holdUsed - keep)

/-- Make room for `size` bytes in a queue under its FULL policy: the block with room made, or none where the item is dropped
(R234). WAIT is the caller's affair: here it acts as DROP_NEW. -/
def Block.makeRoom (b : Block) (q size sev : Nat) : Option Block :=
  let need := size + b.lossBytes q
  if b.room q need sev then some b
  else if b.f (F.QUE_CFG_FULL.ix q) = 2 then
    match dropsNeeded (b.queue q).items (size + 88) (b.free q sev) with
    | some n => some (b.dropOld q n)
    | none => none
  else none

/-- A producer offers a record to a queue (R230, R231, R234, R243): it enters whole, or it is dropped and counted. -/
def Block.offer (b : Block) (q0 : Nat) (r : Rec) : Block :=
  let q := b.qnum q0
  if ¬ b.takes q then b.dropItem q r
  else if b.capacity q < r.size then b.dropItem q r
  else
    let b := b.raiseIf (! b.holdRoom b.holdUsed (r.size + b.lossBytes q) r.sev) Ev.QUE_HOLD_FULL
    match b.makeRoom q r.size r.sev with
    | some b' => b'.enter q r
    | none => b.dropItem q r

/-- A record of this block, formed now (R16): its class is its queue's. -/
def Block.form (b : Block) (q0 stream typ fmt flags sev : Nat) (payload : List Byte) : Rec :=
  { typ := typ, fmt := fmt, flags := flags, stream := stream, epoch := b.selfEpoch, ldi := b.selfLdi, sev := sev,
    cls := b.f (F.MON_Q_CFG_CLASS.ix (b.qnum q0)), phase := b.phase, wall := b.wall, bytes := payload }

/-! Through Silkworm (spec/11_silkworm.md, R253, R259, R260) -/

/-- Whether emitting into a queue now would be a drop (a producer that keeps its data asks first). -/
def Block.wouldTake (b : Block) (q0 size sev : Nat) : Bool :=
  let q := b.qnum q0
  b.takes q && decide (size ≤ b.capacity q) && b.room q (size + b.lossBytes q) sev

/-- The consumer of a queue (QUE_CFG.CONS): 0 UPLINK, 1 COCOON, 2 HOST; the D build has UPLINK only (R233). -/
def Block.consumer (b : Block) (q : Nat) : Nat :=
  if b.syn.agg then (let c := b.f (F.QUE_CFG_CONS.ix q); if c = 3 then 1 else c) else 0

/-- The engines of the build (R252). -/
def Block.engines (b : Block) : List Nat := List.range (if b.syn.agg then 4 else 1)

/-- The engines that run no job and are not fenced, lowest first (R259). -/
def Block.freeEngines (b : Block) : List Nat :=
  b.engines.filter (fun e => ! b.engineFenced e && ! b.slk.jobs.any (fun j => j.engine == some e))

/-- The rule of Silkworm that names a queue, and so the context of its jobs (R253): the D build has 16 rules, the aggregator 64. -/
def Block.slkRule (b : Block) (q : Nat) : Option Nat :=
  (List.range (if b.syn.agg then 64 else 16)).find? (fun i => b.is (F.SLK_RULE_CFG_EN.ix i) && b.qnum (b.f (F.SLK_RULE_CFG_QUEUE.ix i)) == q)

/-- The context of a record bound for a queue, none where it passes unchanged (R253): jobs run, the payload is long enough, it is
not packed already; trace traffic uses contexts 16 to 19; on the power-fail warning Cocoon traffic is not begun (R264). -/
def Block.jobCtx (b : Block) (q : Nat) (r : Rec) (trace : Option Nat) : Option Nat :=
  if ¬ b.is F.SLK_CTRL_EN ∨ r.bytes.length < b.f F.SLK_CFG_MIN ∨ r.typ = 0x50 then none
  else match trace with
    | some n => some (16 + n)
    | none => if ¬ b.on dCODEC ∨ (b.pwr.pfLow ∧ b.consumer q = 1) then none else b.slkRule q

/-- The output bytes of a trace buffer's job so far (SLK_TRC_CONS, SLK_TRC_PROD). -/
def Block.showTrace (b : Block) (buf consumed produced : Nat) : Block :=
  (b.setf (F.SLK_TRC_CONS_CONSUMED.at buf 8) consumed).setf (F.SLK_TRC_PROD_PRODUCED.at buf 8) produced

/-- A job may begin when no earlier job of its context is still to end (R259). -/
def Block.mayBegin (b : Block) (j : SlkJob) : Bool :=
  j.ctx.isSome && j.engine.isNone && j.out.isNone && !j.stopped
    && !(b.slk.jobs.any (fun k => k.ctx == j.ctx && decide (k.num < j.num) && k.out.isNone))

/-- Replace a job. -/
def Block.putJob (b : Block) (j : SlkJob) : Block :=
  { b with slk := { b.slk with jobs := b.slk.jobs.map (fun k => if k.num = j.num then j else k) } }

/-- Each job that may begin goes to the lowest-numbered free unfenced engine (R259). The one engine of the D build is needed by it,
so a self-test of that engine is abandoned (R319). -/
def Block.assign (b : Block) : Block :=
  if ¬ b.on dCODEC then b
  else b.slk.jobs.foldl (fun b j =>
    if b.mayBegin j then
      let b := if b.syn.agg then b else b.abandonTest 2 0
      match b.freeEngines.head? with
      | some e =>
        let b := b.putJob { j with engine := some e, since := b.clk.core }
        (match j.trace with
         | some n => b.showTrace n 0 0
         | none => b)
      | none => b
    else b) b

/-- A trace buffer's packets leave it when their record has entered its queue (R263): RD moves past them; those that a
RING discarded meanwhile are gone already (R104). -/
def Block.freePkts (b : Block) (buf n : Nat) : Block :=
  let t := b.trc.bufs.getD buf {}
  let m := n - t.passed
  let len := ((t.pkts.take m).map (fun p => p.1)).foldl (· + ·) 0
  let t' : TrcBuf :=
    { t with pkts := t.pkts.drop m, taken := t.taken - m, passed := t.passed - n, rd := (t.rd + len) % 262144,
             total := (t.total + len) % 2 ^ 40 }
  { b with trc := { b.trc with bufs := b.trc.bufs.put buf t' } }

/-- Whether trace traffic must wait for room in a queue (R234): the queue takes items, its policy is WAIT, and there is no room. -/
def Block.traceWaits (b : Block) (q : Nat) (r : Rec) : Bool :=
  b.takes q && decide (r.size ≤ b.capacity q) && b.f (F.QUE_CFG_FULL.ix q) == 0 && !(b.room q (r.size + b.lossBytes q) r.sev)

/-- A record of Silkworm's that may leave now: it has ended or passes unchanged, no earlier record for its queue is left (R260), and
trace traffic has room. -/
def Block.leaves (b : Block) (j : SlkJob) : Option Rec :=
  let r := if j.ctx.isNone then some j.body else j.out
  match r with
  | some r =>
    if b.slk.jobs.any (fun k => k.queue == j.queue && decide (k.num < j.num)) then none
    else if j.dma.isSome ∧ b.traceWaits j.queue r then none
    else some r
  | none => none

/-- One record leaves Silkworm for its queue. -/
def Block.leaveOne (b : Block) : Block :=
  match b.slk.jobs.find? (fun j => (b.leaves j).isSome) with
  | some j =>
    match b.leaves j with
    | some r =>
      let b := { b with slk := { b.slk with jobs := b.slk.jobs.filter (fun k => k.num != j.num) } }
      let b := match j.dma with
        | some n => b.freePkts n j.pkts
        | none => b
      b.offer j.queue r
    | none => b
  | none => b

/-- Everything that may leave Silkworm leaves, and jobs that may begin begin. -/
def Block.slkGo (b : Block) : Block := ((List.range b.slk.jobs.length).foldl (fun b _ => b.leaveOne) b).assign

/-- A job fails whole (R264): counted, JOB_FAIL, and the original record takes its turn uncompressed. -/
def Block.failJob (b : Block) (j : SlkJob) : Block :=
  let b := b.putJob { j with ctx := none, engine := none, stopped := false, out := none }
  (b.count F.SLK_STATS_FAIL).raise Ev.SLK_JOB_FAIL [((j.ctx.getD 0), 8), (j.body.typ, 8)]

/-- Jobs whose engine is fenced stop (R263, R264): trace traffic starts again from 0 elsewhere, any other job fails; with every engine
fenced what has not begun fails too, but a trace job waits. -/
def Block.slkFenced (b : Block) : Block :=
  let all := b.engines.all b.engineFenced
  let b := b.slk.jobs.foldl (fun b j =>
    let hit := match j.engine with
      | some e => b.engineFenced e
      | none => all && j.ctx.isSome && j.out.isNone
    if hit then (if j.trace.isSome then b.putJob { j with engine := none, base := 0, stopped := false } else b.failJob j) else b) b
  b.slkGo

/-- Trace traffic: the buffer of a record of trace DMA, where COMPRESS = 1 (R253). -/
def Block.traffic (b : Block) (dma : Option Nat) : Option Nat := dma.filter (fun n => b.is (F.TRC_BUF_CFG_COMPRESS.at n 64))

/-- Whether a record of trace DMA enters its queue at once: no job, and no earlier record left in Silkworm for the queue (R260). -/
def Block.goesDirect (b : Block) (q : Nat) (r : Rec) (buf : Nat) : Bool :=
  (b.jobCtx q r (b.traffic (some buf))).isNone && !b.slk.jobs.any (fun j => j.queue == q)

/-- A record reaches Silkworm on its way to a queue (R253, R260); one of trace DMA names its buffer and how many packets it holds. -/
def Block.arrive (b : Block) (q0 : Nat) (r : Rec) (dma : Option Nat := none) (pkts resv : Nat := 0) : Block :=
  let q := b.qnum q0
  let b := b.featOwn r
  let c := b.jobCtx q r (b.traffic dma)
  if c.isNone ∧ ¬ b.slk.jobs.any (fun j => j.queue == q) then
    (match dma with
     | some n => b.freePkts n pkts
     | none => b).offer q r
  else
    let b := if b.syn.agg ∨ c.isNone then b else b.abandonTest 2 0
    let j : SlkJob := { num := b.slk.num, queue := q, body := r, ctx := c, trace := b.traffic dma, dma := dma, pkts := pkts, resv := resv }
    let b := { b with slk := { b.slk with jobs := b.slk.jobs ++ [j], num := b.slk.num + 1 } }
    if c.isSome ∧ b.on dCODEC ∧ b.engines.all b.engineFenced then b.slkFenced else b.slkGo

/-- Form a record and send it to a queue. -/
def Block.emit (b : Block) (q stream typ fmt flags sev : Nat) (payload : List Byte) : Block :=
  b.arrive q (b.form q stream typ fmt flags sev payload)

/-- Form a record with the PHASE and WALL of an earlier capture and send it. -/
def Block.emitAt (b : Block) (q stream typ fmt flags sev phase wall : Nat) (payload : List Byte) : Block :=
  b.arrive q { b.form q stream typ fmt flags sev payload with phase := phase, wall := wall }

/-- The destination of row k of Table 10-7 (QUE_RDEST). -/
def Block.rdestQ (b : Block) (k : Nat) : Nat := b.f (F.QUE_RDEST_QUEUE.at k)

/-- The STREAM of row k of Table 10-7. -/
def Block.rdestS (b : Block) (k : Nat) : Nat := b.f (F.QUE_RDEST_STREAM.at k)

/-- Emit a record of row k of Table 10-7 (R231). -/
def Block.emitRow (b : Block) (k typ fmt flags sev : Nat) (payload : List Byte) : Block :=
  b.emit (b.rdestQ k) (b.rdestS k) typ fmt flags sev payload

end Sys2Proof.Machine
end

