-- ==== Sys2Proof/Machine/Links.lean ====
section
/-! DEFINITION. Kweniten Links (spec/09_links_monarch.md, R206 to R220): ports, training, negotiation, go-back-N, credits, pause. -/

namespace Sys2Proof.Machine

/-! Ports and channels -/

/-- A port. -/
def Block.port (b : Block) (n : Nat) : Port := b.kl.ports.getD n {}

/-- Put a port. -/
def Block.setPort (b : Block) (n : Nat) (p : Port) : Block := { b with kl := { b.kl with ports := b.kl.ports.putD {} n p } }

/-- Change a port. -/
def Block.updPort (b : Block) (n : Nat) (f : Port → Port) : Block := b.setPort n (f (b.port n))

/-- A channel of a port: 0 BULK, 1 EXPRESS, 2 CONTROL (Table 9-2). -/
def Port.chan (p : Port) (vc : Nat) : Chan :=
  match vc with
  | 0 => p.bulk
  | 1 => p.express
  | _ => p.control

/-- Put a channel. -/
def Port.setChan (p : Port) (vc : Nat) (c : Chan) : Port :=
  match vc with
  | 0 => { p with bulk := c }
  | 1 => { p with express := c }
  | _ => { p with control := c }

/-- The ports of the build: 2 in the D build, 132 in the aggregator build (KL_PORT_SEL). -/
def portCount (agg : Bool) : Nat := if agg then 132 else 2

/-- The first lane of a port (R388, Table 18-7). -/
def firstLane (agg : Bool) (port : Nat) : Nat :=
  if agg then (if port < 128 then port else 128 + 4 * (port - 128)) else 4 * port

/-- The wired lanes of a port, as a mask of its four lanes (R394). -/
def Block.wired (b : Block) (port : Nat) : Nat :=
  let l := firstLane b.syn.agg port
  let m := bits b.syn.klPresent l 4
  if b.syn.agg ∧ port < 128 then m % 2 ^ (min 4 (128 - port)) else m

/-- Put a link-control flit on a port (R211). -/
def Block.sendLc (b : Block) (port : Nat) (l : Lc) : Block :=
  { b with kl := { b.kl with lc := ((port, l) :: b.kl.lc).take 64 } }

/-- Nanoseconds in CLK_CORE cycles, rounded up. -/
def Block.ns (b : Block) (n : Nat) : Nat := (n * b.syn.coreMHz + 999) / 1000

/-- The flits of a frame (R209). -/
def flits (lenb : Nat) : Nat := (20 + lenb + 61) / 62

/-- The payload bytes of a CONTROL message: an ACCEPT's are given (Table 10-3); the others are taken as 16, one flit (log
entry 11). -/
def Msg.lenb (m : Msg) : Nat :=
  match m with
  | .accept _ _ _ es => 8 + 8 * es.length
  | _ => 16

/-- The payload bytes of an update of the mirror: those of the record it carries; the others are taken as 16 (log entry 11). -/
def Mirror.lenb (u : Mirror) : Nat :=
  match u with
  | .record _ _ _ _ bytes => 16 + bytes.length
  | .relay bytes => bytes.length
  | _ => 16

/-- The payload bytes of what a frame carries. -/
def Content.lenb (c : Content) : Nat :=
  match c with
  | .bytes l => l.length
  | .msg m => m.lenb
  | .swarm u => u.lenb
  | .mirror u _ => u.lenb

/-- The FTYPE of a content (Table 9-3). -/
def Content.ftype (c : Content) : Nat :=
  match c with
  | .bytes _ => 1
  | .swarm _ => 2
  | .msg _ => 3
  | .mirror _ _ => 4

/-- The largest payload of a BULK or EXPRESS frame on a port (R209): 4,096 bytes with WIDE_FRAME, else 1,024. -/
def Port.frameMax (p : Port) : Nat := if bit p.feat 2 = 1 then 4096 else 1024

/-- The frames of a unit of `len` bytes (R210): all but the last of the maximum payload, SOR on the first, EOR on the last (fuel: its
length). A frame of raw bytes holds its own; any other names its whole unit. -/
def cutFrames (fuel max_ cls : Nat) (sor : Bool) (len : Nat) (c : Content) : List Frame :=
  match fuel with
  | 0 => []
  | n + 1 =>
    let head : Content := match c with
      | .bytes l => .bytes (l.take max_)
      | x => x
    let tail : Content := match c with
      | .bytes l => .bytes (l.drop max_)
      | x => x
    { seq := 0, ftype := c.ftype, cls := cls, sor := sor, eor := decide (len ≤ max_), lenb := min len max_, content := head } ::
      (if len ≤ max_ then [] else cutFrames n max_ cls false (len - max_) tail)

/-- The frames of a whole content. -/
def Content.frames (c : Content) (max_ cls : Nat) : List Frame := cutFrames (c.lenb + 1) max_ cls true c.lenb c

/-! The wire of a port -/

/-- CLK_CORE cycles that a frame takes on a port at its width: 16.25 ns a flit over the active lanes (R207). -/
def Port.frameTime (p : Port) (coreMHz len : Nat) : Nat :=
  let w := max 1 p.width
  (flits len * 65 * coreMHz + 4000 * w - 1) / (4000 * w)

/-- Whether a frame of a channel may start now (R208): its own channel and the higher ones have nothing on the wire; without INTERLEAVE no
channel has. -/
def Port.free (p : Port) (vc now : Nat) : Bool :=
  (List.range 3).all (fun v => decide ((p.wire[v]?).getD 0 ≤ now) || (bit p.feat 3 == 1 && decide (v < vc)))

/-- A frame starts (R208): it occupies the wire for its time, and the frame of a lower channel that it interrupts ends that much later. -/
def Port.begun (p : Port) (vc lenb now coreMHz : Nat) : Port :=
  let d := p.frameTime coreMHz lenb
  { p with wire := (List.range 3).map (fun v =>
      let e := (p.wire[v]?).getD 0
      if v = vc then now + d else if v < vc ∧ now < e then e + d else e) }

/-- Whether a channel's credit covers a frame (R218), and its unacknowledged frames leave room for one more (R217). -/
def Chan.covers (c : Chan) (lenb : Nat) : Bool :=
  decide (c.sent + flits lenb ≤ c.freedBy + c.credit) && decide (c.held.length < 32767)

/-- A frame as it leaves: the timestamps of SYNC and of the peer-delay messages are those of its departure (R57, R212). -/
def Frame.stamped (f : Frame) (stamp : Nat) : Frame :=
  match f.content with
  | .msg (.sync q _ r v) => { f with content := .msg (.sync q stamp r v) }
  | .msg (.pdelayReq q _) => { f with content := .msg (.pdelayReq q stamp) }
  | .msg (.pdelayResp q t1 t2 _) => { f with content := .msg (.pdelayResp q t1 t2 stamp) }
  | _ => f

/-- Launch a frame on a channel: stamped, with the next SEQ and the ACK of the reverse direction, kept for replay, credit taken (R217,
R218). -/
def Chan.launch (c : Chan) (f : Frame) (now stamp : Nat) : Chan :=
  { c with held := c.held ++ [{ f.stamped stamp with seq := c.next, ack := c.expect }], next := (c.next + 1) % 65536, sent := c.sent + flits f.lenb,
           baseAt := if c.held = [] then now else c.baseAt, ackDue := none }

/-- Whether nothing on a channel stands before a new frame: no replay, no frame that waits, no stomped frame still owed (R213). -/
def Chan.idle (c : Chan) : Bool := c.again.isEmpty && c.stalled.isEmpty && !c.stomp

/-- One UI (31.25 ps) in units of `fine`. -/
def Block.uiFine (b : Block) : Nat := b.syn.coreMHz * 2 ^ 35

/-- Internal time in UI: the stamp of a message sent now (R57). -/
def Block.stampUi (b : Block) : Nat := b.ant.fine / b.uiFine

/-- The time of an arrival in units of 31.25 ps (R36), by CLK_CORE: a step of internal time does not move it (log
entry 156). -/
def Block.arrivalUi (b : Block) : Nat := b.clk.core * 32000 / b.syn.coreMHz

/-- Send a frame on a port's channel: a port that is ACTIVE launches it where the wire is free, credit covers it and nothing waits before it;
it waits there and in RETRAIN otherwise; a port that is down or in its first training loses it (R215). -/
def Block.sendFrame (b : Block) (port vc : Nat) (f : Frame) : Block :=
  b.updPort port (fun p =>
    let c := p.chan vc
    if p.state = 2 ∧ c.idle ∧ c.covers f.lenb ∧ p.free vc b.clk.core then
      (p.setChan vc (c.launch f b.clk.core b.stampUi)).begun vc f.lenb b.clk.core b.syn.coreMHz
    else if p.state = 2 ∨ p.state = 3 then p.setChan vc { c with stalled := c.stalled ++ [f] }
    else p)

/-- Send a content on a channel of a port, cut into frames (R210). -/
def Block.sendContent (b : Block) (port vc max_ : Nat) (c : Content) : Block :=
  (c.frames max_ 0).foldl (fun b f => b.sendFrame port vc f) b

/-- Whether the block sends frames of its own: with LINKS ON, and not in Chrysalis (R362). -/
def Block.speaks (b : Block) : Bool := b.on dLINKS && !b.is F.PWR_STATUS_CHRYS

/-- Send a CONTROL message (R212), in frames of at most 192 bytes (R209). -/
def Block.sendMsg (b : Block) (port : Nat) (m : Msg) : Block :=
  if b.speaks then b.sendContent port 2 192 (.msg m) else b

/-- The port this role sends records and contributions on: link A or B of a D-role (R22), U0 or U1 of an aggregator (R23). -/
def Block.upPort (b : Block) : Nat :=
  if b.syn.agg then (if b.fab.onU1 then 129 else 128) else (if b.fab.pathB then 1 else 0)

/-- Whether a port carries more than control traffic: the closing link of a ring does only as the failover path (R24). -/
def Block.carries (b : Block) (port : Nat) : Bool := b.fab.topo.closing != some port || port == b.upPort

/-- Send a Swarm unit on EXPRESS (R208). Its units follow one another whole, so its one context is 0 (R210). -/
def Block.sendSwarm (b : Block) (port : Nat) (u : SwarmUnit) : Block :=
  if b.speaks ∧ b.carries port then b.sendContent port 1 (b.port port).frameMax (.swarm u) else b

/-- Start the next frame that waits on a channel of an ACTIVE port, where the wire is free and credit covers it: those of a replay first,
with their SEQ, taking credit again (R217, R218). -/
def Port.startNext (p : Port) (vc now stamp coreMHz : Nat) : Port :=
  let c := p.chan vc
  if p.state ≠ 2 ∨ ¬ p.free vc now then p
  else
    match c.again, c.stalled with
    | f :: rest, _ =>
      if c.sent + flits f.lenb ≤ c.freedBy + c.credit then
        (p.setChan vc { c with again := rest, sent := c.sent + flits f.lenb, ackDue := none }).begun vc f.lenb now coreMHz
      else p
    | [], f :: rest =>
      if c.covers f.lenb ∧ ¬ c.stomp then
        (p.setChan vc (({ c with stalled := rest }).launch f now stamp)).begun vc f.lenb now coreMHz
      else p
    | [], [] => p

/-- Start what may start on a port, in the order of R208: CONTROL, then EXPRESS, then BULK. -/
def Port.drain (p : Port) (now stamp coreMHz : Nat) : Port :=
  ((p.startNext 2 now stamp coreMHz).startNext 1 now stamp coreMHz).startNext 0 now stamp coreMHz

/-- The exchange under way counts from the departure of its PDELAY_REQ, should that have waited (R57). -/
def departed (held : List Frame) (ex : Option (Nat × Nat)) : Option (Nat × Nat) :=
  match ex with
  | some (q, t) => some (q, (held.findSome? (fun f => match f.content with
      | .msg (.pdelayReq q' t1) => if q' = q then some t1 else none
      | _ => none)).getD t)
  | none => none

/-- Start what may start on every port (R208), once in each cycle. -/
def Block.drainAll (b : Block) : Block :=
  let ps : SMap Port := b.kl.ports.map (fun (x : Nat × Port) => (x.1, x.2.drain b.clk.core b.stampUi b.syn.coreMHz))
  { b with kl := { b.kl with ports := ps },
           ant := { b.ant with exOut := departed (ps.flatMap (fun x => x.2.control.held)) b.ant.exOut } }

/-- Whether a mirror link to the buddy is up (R245). -/
def Block.mirrorUp (b : Block) : Bool := b.syn.agg && b.on dLINKS && ((b.port 130).state == 2 || (b.port 131).state == 2)

/-- The mirror link in use: 131 while 130 is down. -/
def Block.mirrorPort (b : Block) : Nat := if (b.port 130).state = 2 then 130 else 131

/-- Put an update of the mirror on BULK of the mirror link (R207): its frames wait behind those that pass through there, in class 0 (log
entry 65). -/
def Block.mirrorFrames (b : Block) (m : MirrorUpd) : Block :=
  b.updPort b.mirrorPort (fun p => { p with fwd := p.fwd ++ (Content.mirror m.upd m.num).frames p.frameMax 0 })

/-- Send an update to the buddy's mirror while a mirror link is up (R245). -/
def Block.toMirror (b : Block) (u : Mirror) : Block :=
  if b.mirrorUp then
    let m : MirrorUpd := { upd := u, num := b.que.mirrorNum }
    ({ b with que := { b.que with mirrorOut := b.que.mirrorOut ++ [m], mirrorNum := b.que.mirrorNum + 1 } }).mirrorFrames m
  else b

/-- P of R40 in CLK_CORE cycles: the longest interval between consecutive boundaries among the last 16, 0 with fewer than 2. -/
def Block.wbPeriod (b : Block) : Nat :=
  ((b.fab.boundaries.zip (b.fab.boundaries.drop 1)).map (fun p => p.1 - p.2)).foldl max 0

/-! Down, retrain, training -/

/-- The items of every queue that were in progress begin again, and the contexts they held are free: their frames in flight are discarded
(R215), or the path has moved (R22). -/
def Block.rewind (b : Block) : Block :=
  let held := b.que.queues.flatMap (fun q => q.2.items.filterMap (fun i => i.ctx))
  let b := b.updPort b.upPort (fun p => { p with ctxUsed := p.ctxUsed.filter (fun c => !held.contains c) })
  { b with que := { b.que with queues := b.que.queues.map (fun q =>
      (q.1, { q.2 with items := q.2.items.map (fun i => { i with off := 0, ctx := none }) })) } }

/-- Send every unaccepted record of a stream again, ascending, with the same SEQ (R241, resend): each item taken and held is
to be sent anew; each counts in RETX. -/
def Block.resend (b : Block) (stream : Nat) : Block :=
  let mine (i : Item) : Bool := i.body.stream == stream && i.seq.isSome && i.sent
  let n := b.que.queues.foldl (fun a q => a + (q.2.items.filter mine).length) 0
  let qs := b.que.queues.map (fun q => (q.1, { q.2 with items := q.2.items.map (fun i =>
      if mine i then { i with sent := false, off := 0, ctx := none } else i) }))
  let st := b.que.streams.getD stream {}
  let b := { b with que := { b.que with queues := qs, streams := b.que.streams.put stream { st with progress := b.clk.core } } }
  b.count F.QUE_HOLD_STAT_RETX n

/-- Every stream is sent again (R22, R241: on path move). -/
def Block.resendAll (b : Block) : Block := b.que.streams.keys.foldl Block.resend b

/-! The time parent -/

/-- Whether this block has no time parent: TPARENT = 0b11 (R56, R62). -/
def Block.noParent (b : Block) : Bool := b.f F.ANT_STATUS_TPARENT == 3

/-- Whether a port is up: ACTIVE, or in RETRAIN on the way back there (R215). One that tries to train after it was declared down is not. -/
def Port.live (p : Port) : Bool := p.state == 2 || p.state == 3

/-- The port to the time parent (R56): uplink A or U0, uplink B or U1, or a mirror link, 131 while 130 is declared down. -/
def Block.parentPort (b : Block) : Option Nat :=
  match b.f F.ANT_STATUS_TPARENT with
  | 0 => some (if b.syn.agg then 128 else 0)
  | 1 => some (if b.syn.agg then 129 else 1)
  | 2 => some (if (b.port 130).declared then 131 else 130)
  | _ => none

/-- The code of TPARENT that the role calls for now (R56). -/
def Block.parentCode (b : Block) : Nat :=
  if b.syn.agg then
    (if b.fab.topo.isRoot then 3 else if b.fab.topo.isStandby then 2 else if b.fab.onU1 then 1 else 0)
  else if b.fab.pathB then 1 else 0

/-- The exchanges kept are void (R58). -/
def Block.dropExchanges (b : Block) : Block := { b with ant := { b.ant with exch := [], exOut := none } }

/-- Take the time parent the role calls for: at a change the exchanges kept are cleared (R56, R58). -/
def Block.setParent (b : Block) : Block :=
  if b.f F.ANT_STATUS_TPARENT = b.parentCode then b
  else (b.setf F.ANT_STATUS_TPARENT b.parentCode).dropExchanges

/-- A path move takes the time parent with it (R56), once there is one. -/
def Block.followPath (b : Block) : Block := if b.noParent then b else b.setParent

/-- The time parent is declared lost (R60). -/
def Block.parentLost (b : Block) : Block :=
  if b.on dANTENNA ∧ ¬ b.noParent then b.setf F.ANT_STATUS_HOLDOVER 1 else b

/-- A D-role moves to its B path at once and resends its unaccepted records (R22). -/
def Block.moveToB (b : Block) : Block :=
  if b.syn.agg ∨ b.fab.pathB then b
  else
    let b := b.rewind
    ({ b with fab := { b.fab with pathB := true } }).resendAll.followPath

/-- A D-role returns to its A path (R22). -/
def Block.moveToA (b : Block) : Block :=
  if b.syn.agg ∨ ¬ b.fab.pathB then b
  else
    let b := b.rewind
    ({ b with fab := { b.fab with pathB := false } }).resendAll.followPath

/-- The move to U1 takes effect (R23): records go there from the next frame on, a record in progress begins again, the time parent
follows. -/
def Block.goU1 (b : Block) : Block :=
  if b.fab.onU1 then b
  else
    let b := b.rewind
    ({ b with fab := { b.fab with onU1 := true, toU1 := false } }).followPath

/-- An aggregator's parent is declared lost, or U0 declared down, the condition R23 acts on (R215): it moves to U1 at the next boundary, at
once while its time is not valid. Whether it watches its new parent on U1, and when it returns to U0, no rule says: it watches port 128
alone and stays on U1 until a block reset (DESIGN CHOICE, log entry 127). -/
def Block.uplinkLost (b : Block) : Block :=
  let b := { b with fab := { b.fab with parentLost := true, toU1 := !b.fab.onU1 } }
  let b := if b.parentPort = some 128 then b.parentLost else b
  if b.is F.ANT_STATUS_TIME_VALID then b else b.goU1

/-- A port enters an attempt to train: TRAINING (1) or RETRAIN (3). -/
def Port.attempt (p : Port) (state now : Nat) : Port :=
  { p with state := state, since := now, negFail := false, offered := false, agreed := false, negSent := none, swDown := false }

/-- An ACTIVE port enters RETRAIN: sequence numbers, replay buffers, credits and contexts are kept (R214, R215). -/
def Block.retrain (b : Block) (port : Nat) : Block :=
  if (b.port port).state = 2 then
    (b.updPort port (fun p => { p.attempt 3 b.clk.core with laneErrs := [] })).raise Ev.KL_RETRAIN [(port, 8)]
  else b

/-- Begin training, where the port is enabled and a lane is wired (R214, R394). -/
def Block.train (b : Block) (port : Nat) : Block :=
  if b.is (F.KL_PORT_CFG_EN.ix port) ∧ b.wired port ≠ 0 ∧ b.on dLINKS then b.updPort port (fun p => p.attempt 1 b.clk.core) else b

/-- Virtual times and tags of a port cleared (R222); its token buckets stand. -/
def MonPort.clear (p : MonPort) : MonPort :=
  { vl := 0, qs := [], cls := p.cls.map (fun c => { c with v := 0, cand := none, tag := none, last := 0 }) }

/-- A mirror link went down: what was not confirmed goes out again on the other link; with none left the mirror is out of sync, what was
sent over it is lost, and no acceptance waits for it any longer (R238, R245). -/
def Block.mirrorDown (b : Block) : Block :=
  if b.mirrorUp then b.que.mirrorOut.foldl Block.mirrorFrames b
  else
    ({ b with que := { b.que with mirrorOut := [], keys := b.que.keys.map (fun (k : OwnKey) => { k with sure := k.acc }) } }).setf F.QUE_STATUS_SYNC 0

/-- A stomped frame that will not be delivered whole gives its SEQ back (R213, R215). -/
def Chan.unstomp (c : Chan) : Chan :=
  if c.stomp then { c with stomp := false, held := c.held.filter (fun f => !f.stomp), next := (c.next + 65535) % 65536 } else c

/-- A port is declared down (R215): frames and partly received units are discarded, Monarch's times on it are cleared (R222),
DOWN is raised, by a command of software also where the port was down. Link A down moves a D-role to its B path, U0 down an aggregator
to U1 (R22, R23); a mirror link down is the mirror's affair, and the standby's time parent may change with it (R56, R58). -/
def Block.declareDown (b : Block) (port : Nat) (bySw : Bool) : Block :=
  if (b.port port).state = 0 then
    let b := b.updPort port (fun p => { p with swDown := p.swDown || bySw })
    b.raiseIf bySw Ev.KL_DOWN [(port, 8)]
  else
    let parent := b.parentPort
    let b := b.updPort port (fun p => { excl := p.excl, since := b.clk.core, swDown := bySw, declared := true })
    let b := { b with mon := { b.mon with ports := b.mon.ports.upd port {} MonPort.clear } }
    let b := if port = b.upPort then b.rewind else b
    let b := b.raise Ev.KL_DOWN [(port, 8)]
    let b := if parent = some port then b.parentLost.dropExchanges else b
    if b.syn.agg then
      if 130 ≤ port then b.mirrorDown
      else if port = 128 ∧ ¬ b.fab.topo.isRoot ∧ ¬ b.fab.onU1 then b.uplinkLost
      else b
    else
      let b := b.updPort (1 - port) (fun p => { p with express := p.express.unstomp, control := p.control.unstomp })
      if port = 0 then ({ b with fab := { b.fab with hbFrom := none, hbLast := none } }).moveToB else b

/-- Lane errors within KL_DEGRADE.WIN. -/
def Block.recentErrs (b : Block) (l : List (Nat × Nat)) : List (Nat × Nat) :=
  l.filter (fun e => decide (b.clk.core - e.2 ≤ b.us (atLeast1 (b.f F.KL_DEGRADE_WIN))))

/-- The error count field of a lane. -/
def laneErrFld (lane : Nat) : Fld := ⟨0x8010, 8 * (lane % 4), 8, 0⟩

/-- A lane error (R206, R214): counted; beyond TH within WIN the lane is excluded, DEGRADED is raised and the port retrains. -/
def Block.laneError (b : Block) (port lane : Nat) : Block :=
  let lane := lane % 4
  let b := b.count ((laneErrFld lane).ix port)
  if (b.port port).state = 2 then
    let errs := (lane, b.clk.core) :: b.recentErrs (b.port port).laneErrs
    let n := (errs.filter (fun e => e.1 == lane)).length
    if atLeast1 (b.f F.KL_DEGRADE_TH) < n then
      let b := b.updPort port (fun p => { p with excl := setBit p.excl lane 1 })
      (b.raise Ev.KL_DEGRADED [(port, 8), (lane, 16)]).retrain port
    else b.updPort port (fun p => { p with laneErrs := errs })
  else b

/-- No valid flit for 1 µs (R214). -/
def Block.noFlit (b : Block) (port : Nat) : Block :=
  if (b.port port).state = 2 ∧ (b.port port).lastFlit + b.us 1 ≤ b.clk.core then b.retrain port else b

/-- The version this end offers: KL_PORT_CFG.MAXVER (R216). -/
def Block.maxVer (b : Block) (port : Nat) : Nat := min 2 (b.f (F.KL_PORT_CFG_MAXVER.ix port))

/-- An offered version as a level 0 to 2: the highest defined code at or below it (R216). -/
def verLevel (code : Nat) : Nat := if 0x20 ≤ code then 2 else if 0x11 ≤ code then 1 else 0

/-- The code of a level. -/
def verCode (level : Nat) : Nat := if level = 2 then 0x20 else if level = 1 then 0x11 else 0x10

/-- The features a version allows (Table 9-7). -/
def featAllowed (level : Nat) : Nat := if level = 2 then 15 else if level = 1 then 3 else 0

/-- The negotiated version and features (R216). -/
def negotiate (mine code feat : Nat) : Nat × Nat :=
  let v := min mine (verLevel code)
  (v, 15 &&& feat &&& featAllowed v)

/-- The receive credits that a block declares, in flits, for BULK, EXPRESS and CONTROL (R218). -/
def ownCredits : List Nat := [512, 128, 16]

/-- The number of ones in a mask of four lanes. -/
def pop4 (m : Nat) : Nat := bit m 0 + bit m 1 + bit m 2 + bit m 3

/-- The width of a port (R214 step 6): the largest of 4, 2 (where WIDTH2) and 1 not above MAXW that the good lanes reach; 0 with
no good lane. -/
def chooseWidth (good maxw : Nat) (width2 : Bool) : Nat :=
  if 4 ≤ good ∧ 2 ≤ maxw then 4 else if 2 ≤ good ∧ 1 ≤ maxw ∧ width2 then 2 else if 1 ≤ good then 1 else 0

/-- NEG goes out every 500 ns until a NEG_ACK agrees (R214 step 5), with the credits of this end (R218) and the lanes offered. -/
def Block.negSend (b : Block) (port : Nat) : Block :=
  let p := b.port port
  let due : Bool := match p.negSent with
    | none => true
    | some t => decide (t + b.ns 500 ≤ b.clk.core)
  if (p.state = 1 ∨ p.state = 3) ∧ ¬ p.agreed ∧ ¬ p.negFail ∧ due then
    (b.updPort port (fun p => { p with negSent := some b.clk.core })).sendLc port
      (.neg (verCode (b.maxVer port)) 15 ownCredits (b.wired port))
  else b

/-- Set the credits a partner declared, on a first training only: a RETRAIN keeps them (R215, R216, R218). -/
def Port.setCredits (p : Port) (credits : List Nat) : Port :=
  if p.state = 1 then
    { p with bulk := { p.bulk with credit := (credits[0]?).getD 0 }, express := { p.express with credit := (credits[1]?).getD 0 },
             control := { p.control with credit := (credits[2]?).getD 0 } }
  else p

/-- The width that a NEG_ACK names (R211): what the lanes that both ends offer can reach. -/
def Block.negWidth (b : Block) (port feat lanes : Nat) : Nat :=
  chooseWidth (pop4 (b.wired port &&& lanes &&& (15 - (b.port port).excl % 16))) (b.f (F.KL_PORT_CFG_MAXW.ix port)) (bit feat 0 == 1)

/-- The partner's NEG (R216): an offer below 0x10 fails the attempt, once; else the version, features and credits are taken
and a NEG_ACK answers with the version, features and width negotiated and this end's credits (R211). -/
def Block.negReceived (b : Block) (port ver feat : Nat) (credits : List Nat) (lanes : Nat) : Block :=
  let p := b.port port
  if (p.state = 1 ∨ p.state = 3) ∧ ¬ p.negFail then
    if ver < 0x10 then (b.updPort port (fun p => { p with negFail := true })).raise Ev.KL_NEG_FAIL [(port, 8)]
    else
      let r := negotiate (b.maxVer port) ver feat
      let b := b.updPort port (fun p => { (p.setCredits credits) with ver := r.1, feat := r.2, offered := true })
      let b := b.sendLc port (.negAck (verCode r.1) r.2 ownCredits (b.negWidth port r.2 lanes))
      b.raiseIf (decide (r.1 < min 2 (b.f (F.KL_PORT_CFG_MINVER.ix port))) && !p.offered) Ev.KL_VER_LOW [(port, 8)]
  else b

/-- A NEG_ACK that agrees with what this end computed completes the negotiation (R214, R216), unless the attempt has failed. -/
def Block.negAck (b : Block) (port ver feat : Nat) : Block :=
  let p := b.port port
  if (p.state = 1 ∨ p.state = 3) ∧ ¬ p.negFail ∧ p.offered ∧ verLevel ver = p.ver ∧ feat = p.feat then
    b.updPort port (fun p => { p with agreed := true })
  else b

/-- The held frames of a channel are to be sent again: same SEQ, RPL = 1 (R217). A stomped frame is not: it is owed whole (R213). -/
def Chan.resend (c : Chan) (now : Nat) : Chan :=
  let l := c.held.map (fun f => { f with rpl := true, ack := c.expect })
  { c with held := l, again := l.filter (fun f => !f.stomp), baseAt := now }

/-- The number of the ANT_ASYM register of a port (R58): links A and B, or U0, U1 and the mirror links. -/
def asymIndex (agg : Bool) (port : Nat) : Nat := if agg then port - 128 else port

/-- Step 4 of training (R58, R214): INTERNAL of a port that has one is measured; where no measurement came during the attempt its value is
free (log entry 155). -/
def Block.measureAsym (b : Block) (port : Nat) : Block :=
  let n := asymIndex b.syn.agg port
  if b.on dANTENNA ∧ (b.syn.agg = true → 128 ≤ port) ∧ (b.ant.asymAt[n]?).getD 0 < (b.port port).since then
    let r := b.fresh
    ({ r.2 with ant := { r.2.ant with asymAt := setAt r.2.ant.asymAt n r.2.clk.core } }).setf (F.ANT_ASYM_INTERNAL.at n) r.1
  else b

/-- The port reaches ACTIVE (R214, R215): lanes that did not lock are excluded, INTERNAL is measured, the width is chosen, held frames are
replayed, then waiting ones launched, UP is raised. With no good lane it does not; nor does an attempt that failed negotiation (R216). Steps 1
to 3 of Table 9-6 exchange ordered sets below any frame (log entry 124): the row says which lanes locked. -/
def Block.trainingDone (b : Block) (port locked : Nat) : Block :=
  let p := b.port port
  if (p.state = 1 ∨ p.state = 3) ∧ p.agreed ∧ ¬ p.negFail then
    let b := b.measureAsym port
    let good := b.wired port &&& locked &&& (15 - p.excl % 16)
    let lost := b.wired port &&& (15 - p.excl % 16) &&& (15 - locked % 16)
    let b := (List.range 4).foldl (fun b l => b.raiseIf (bit lost l == 1) Ev.KL_DEGRADED [(port, 8), (l, 16)]) b
    let w := chooseWidth (pop4 good) (b.f (F.KL_PORT_CFG_MAXW.ix port)) (bit p.feat 0 == 1)
    let b := b.updPort port (fun p => { p with excl := p.excl ||| lost })
    if w = 0 then b
    else
      let b := b.updPort port (fun p =>
        ({ p with state := 2, declared := false, width := w, lastFlit := b.clk.core, wire := [0, 0, 0], bulk := p.bulk.resend b.clk.core,
                  express := p.express.resend b.clk.core, control := p.control.resend b.clk.core }).drain b.clk.core b.stampUi b.syn.coreMHz)
      b.raise Ev.KL_UP [(port, 8)]
  else b

/-- KL_TIMERS.DOWN in CLK_CORE cycles. -/
def Block.downTime (b : Block) : Nat := b.us (100 * atLeast1 (b.f F.KL_TIMERS_DOWN))

/-- A port not ACTIVE within KL_TIMERS.DOWN is declared down (R215). -/
def Block.trainingTimeout (b : Block) (port : Nat) : Block :=
  let p := b.port port
  if (p.state = 1 ∨ p.state = 3) ∧ p.since + b.downTime ≤ b.clk.core then b.declareDown port false else b

/-- A port declared down tries again every KL_TIMERS.DOWN, unless software took it down (R215). -/
def Block.downRetry (b : Block) (port : Nat) : Block :=
  let p := b.port port
  if p.state = 0 ∧ ¬ p.swDown ∧ p.since + b.downTime ≤ b.clk.core then b.train port else b

/-- KL_CMD.RETRAIN: the selected port retrains with every lane (R214). -/
def Block.klRetrain (b : Block) (port : Nat) : Block := (b.updPort port (fun p => { p with excl := 0 })).retrain port

/-- KL_CMD.DOWN: DOWN is sent and the port is down until UP (R215). -/
def Block.klDown (b : Block) (port : Nat) : Block := (b.sendLc port .down).declareDown port true

/-- KL_CMD.UP: training starts now (R215). -/
def Block.klUp (b : Block) (port : Nat) : Block := if (b.port port).state = 0 then b.train port else b

/-- KL_PORT_CFG.EN has changed (R215, R305). -/
def Block.portEn (b : Block) (port : Nat) (was : Bool) : Block :=
  let now := b.is (F.KL_PORT_CFG_EN.ix port)
  if was ∧ ¬ now then (b.sendLc port .down).declareDown port false
  else if ¬ was ∧ now then b.train port
  else b

/-! Go-back-N -/

/-- a before b, modulo 2^16 (R217). -/
def before16 (a c : Nat) : Bool := let d := (c + 65536 - a % 65536) % 65536; decide (1 ≤ d) && decide (d ≤ 32767)

/-- An ACK value on a channel (R217): frames up to it are freed; none where it lies beyond next (a protocol error). -/
def Chan.acked (c : Chan) (a now : Nat) : Option Chan :=
  if ¬ (a = c.next ∨ before16 a c.next) then none
  else if before16 c.base a then
    some { c with held := c.held.filter (fun f => ! before16 f.seq a), again := c.again.filter (fun f => ! before16 f.seq a), base := a,
                  replays := 0, baseAt := now }
  else some c

/-- A cumulative count of flits the partner freed, modulo 2^16 (R218). -/
def Chan.freedTo (c : Chan) (n : Nat) : Chan :=
  let d := (n + 65536 - c.freedBy % 65536) % 65536
  if d < 32768 then { c with freedBy := c.freedBy + d } else c

/-- Apply an ACK value to a port's channel; a value beyond next raises PROTO and retrains the port (R217). -/
def Block.applyAck (b : Block) (port vc a : Nat) : Block :=
  let p := b.port port
  match (p.chan vc).acked a b.clk.core with
  | some c => b.setPort port (p.setChan vc c)
  | none => (b.raise Ev.KL_PROTO [(port, 8)]).retrain port

/-- Replay a channel from base (R217), behind the frame in progress: counted; the eighth in a row raises REPLAY_LIMIT and retrains. -/
def Block.replay (b : Block) (port vc : Nat) : Block :=
  let c := (b.port port).chan vc
  let b := b.updPort port (fun p =>
    (p.setChan vc { (c.resend b.clk.core) with replays := c.replays + 1 }).startNext vc b.clk.core b.stampUi b.syn.coreMHz)
  let b := b.count (F.KL_PORT_ERR_REPLAY.ix port)
  if c.replays + 1 = 8 then
    let b := b.updPort port (fun p => p.setChan vc { p.chan vc with replays := 0 })
    (b.raise Ev.KL_REPLAY_LIMIT [(port, 8)]).retrain port
  else b

/-- Take an LC flit's ACK values and credit counts (R211, R217, R218). -/
def Block.takeAcks (b : Block) (port : Nat) (acks frees : List Nat) : Block :=
  let b := b.updPort port (fun p => { p with lastFlit := b.clk.core })
  let b := (List.range 3).foldl (fun b vc => match acks[vc]? with
    | some a => b.applyAck port vc (a % 65536)
    | none => b) b
  b.updPort port (fun p =>
    let p := (List.range 3).foldl (fun p vc => match frees[vc]? with
      | some n => p.setChan vc ((p.chan vc).freedTo (n % 65536))
      | none => p) p
    p.drain b.clk.core b.stampUi b.syn.coreMHz)

/-- A NAK: its ACK values, then a replay of each channel it names (R211, R217). -/
def Block.takeNak (b : Block) (port mask : Nat) (acks frees : List Nat) : Block :=
  let b := b.takeAcks port acks frees
  (List.range 3).foldl (fun b vc => if bit mask vc = 1 then b.replay port vc else b) b

/-- Frames held with base unchanged for KL_TIMERS.REPLAY (R217). -/
def Block.replayTimeout (b : Block) (port vc : Nat) : Block :=
  let c := (b.port port).chan vc
  if (b.port port).state = 2 ∧ vc < 3 ∧ c.held ≠ [] ∧ c.baseAt + b.us (atLeast1 (b.f F.KL_TIMERS_REPLAY)) ≤ b.clk.core then b.replay port vc
  else b

/-- The ACK values and credit counts this end sends. -/
def Port.ackFields (p : Port) : List Nat × List Nat :=
  ([p.bulk.expect, p.express.expect, p.control.expect], [p.bulk.freed % 65536, p.express.freed % 65536, p.control.freed % 65536])

/-- An LC ACK, ACK_INT after a delivery not yet acknowledged (R217). -/
def Block.ackSend (b : Block) (port : Nat) : Block :=
  let p := b.port port
  let due (c : Chan) : Bool := match c.ackDue with
    | some t => decide (t + b.ns (16 * atLeast1 (b.f F.KL_TIMERS_ACK_INT)) ≤ b.clk.core)
    | none => false
  if p.state = 2 ∧ (due p.bulk || due p.express || due p.control) then
    let b := b.updPort port (fun p => { p with bulk := { p.bulk with ackDue := none }, express := { p.express with ackDue := none },
                                               control := { p.control with ackDue := none } })
    b.sendLc port (.ack p.ackFields.1 p.ackFields.2)
  else b

/-! Receiving -/

/-- Whether a CONTROL code is reserved (Table 9-5). -/
def reservedCode (code : Nat) : Bool := code == 0 || decide (0x12 ≤ code)

/-- Bytes of a class's BULK frames in a port's units still being joined. -/
def Port.joining (p : Port) (cls : Nat) : Nat := p.bulk.rx.foldl (fun a u => if u.2.1 = cls then a + u.2.2.length else a) 0

/-- Bytes of a class in receive staging (R220): units delivered and not taken yet, and units still being joined. -/
def Block.staging (b : Block) (cls : Nat) : Nat :=
  b.kl.delivered.foldl (fun a s => if s.vc = 0 ∧ s.cls = cls then a + s.bytes.length else a) 0
    + b.kl.ports.foldl (fun a p => a + p.2.joining cls) 0

/-- The ports that feed a class's staging. -/
def Block.feeders (b : Block) (cls : Nat) : List Nat :=
  b.kl.ports.keys.filter (fun n => b.kl.delivered.any (fun s => s.vc == 0 && s.cls == cls && s.port == n) || (b.port n).joining cls != 0)

/-- The mask a PAUSE for a class has on the wire. -/
def classMask (cls : Nat) : Nat := 2 ^ (cls % 8)

/-- Units of 16 ns in KL_PAUSE_CFG.TIME (R220): TIME is in units of 1,024 ns. -/
def Block.pauseTime (b : Block) : Nat := 64 * atLeast1 (b.f F.KL_PAUSE_CFG_TIME)

/-- Send PAUSE for a class on a port and note when (R220). -/
def Block.pauseOn (b : Block) (port cls : Nat) : Block :=
  (b.updPort port (fun p => { p with pausing := setAt p.pausing cls (some b.clk.core) })).sendLc port (.pause (classMask cls) b.pauseTime)

/-- Send PAUSE with time 0 for a class on a port (R220). -/
def Block.pauseOff (b : Block) (port cls : Nat) : Block :=
  (b.updPort port (fun p => { p with pausing := setAt p.pausing cls none })).sendLc port (.pause (classMask cls) 0)

/-- Staging of a class above HIGH starts a pause on every port that feeds it; staging at LOW ends those in force (R220). -/
def Block.pauseCheck (b : Block) (cls : Nat) : Block :=
  let st := b.staging cls
  if b.f F.KL_PAUSE_CFG_HIGH * 1024 < st then
    (b.feeders cls).foldl (fun b n => if ((b.port n).pausing[cls]?).getD none = none then b.pauseOn n cls else b) b
  else if st ≤ b.f F.KL_PAUSE_CFG_LOW * 1024 then
    b.kl.ports.keys.foldl (fun b n => if (((b.port n).pausing[cls]?).getD none).isSome then b.pauseOff n cls else b) b
  else b

/-- A unit takes what a port delivered on a channel: the oldest such unit leaves staging (R220). -/
def Block.unstage (b : Block) (port vc : Nat) : Block :=
  match b.kl.delivered.find? (fun s => s.port == port && s.vc == vc) with
  | some x => ({ b with kl := { b.kl with delivered := b.kl.delivered.erase x } }).pauseCheck x.cls
  | none => b

/-- Hand a whole unit to the unit above. -/
def Block.deliver (b : Block) (s : Staged) : Block :=
  ({ b with kl := { b.kl with delivered := b.kl.delivered ++ [s] } }).pauseCheck s.cls

/-- Whether a chain D-role passes a frame on: all but the exchanges of one link, SYNC and peer delay (R213; log entry 13). -/
def passesOn (f : FrameIn) : Bool :=
  if f.vc = 2 then
    let code := (f.payload.head?.map BitVec.toNat).getD 0
    !(code == 2 || code == 3 || code == 4)
  else true

/-- A received frame as it goes out again. -/
def FrameIn.onward (f : FrameIn) : Frame :=
  { seq := 0, ftype := f.ftype, cls := f.cls, sor := f.sor, eor := f.eor, ctx := f.ctx, lenb := f.payload.length, content := .bytes f.payload }

/-- A chain D-role sends a frame again on its other uplink (R213): BULK waits as one more queue of Monarch's; EXPRESS and
CONTROL leave at once, and one that was stomped before leaves whole with the SEQ it had. -/
def Block.forward (b : Block) (port : Nat) (f : FrameIn) : Block :=
  if b.syn.agg ∨ ¬ passesOn f then b
  else
    let out := 1 - port
    if f.vc = 0 then
      (if (b.port out).live then b.updPort out (fun p => { p with fwd := p.fwd ++ [f.onward] }) else b)
    else if ((b.port out).chan f.vc).stomp then
      b.updPort out (fun p =>
        let c := p.chan f.vc
        let g := { f.onward with ack := c.expect }
        (p.setChan f.vc { c with stomp := false, again := c.again ++ (c.held.filter (fun h => h.stomp)).map (fun h => { g with seq := h.seq }),
                                 held := c.held.map (fun h => if h.stomp then { g with seq := h.seq } else h) }).drain
          b.clk.core b.stampUi b.syn.coreMHz)
    else b.sendFrame out f.vc f.onward

/-- An EXPRESS or CONTROL frame that fails its check while a chain D-role passes it on (R213): what has started goes out stomped, and its SEQ
waits for the whole frame. One that had not started on the other uplink leaves no trace there. -/
def Block.stompOn (b : Block) (port : Nat) (f : FrameIn) : Block :=
  let out := 1 - port
  let p := b.port out
  let c := p.chan f.vc
  if b.syn.agg ∨ f.vc = 0 ∨ ¬ passesOn f ∨ f.seq ≠ ((b.port port).chan f.vc).expect then b
  else if p.state = 2 ∧ c.idle ∧ c.covers f.payload.length ∧ p.free f.vc b.clk.core then
    b.setPort out ((p.setChan f.vc { (c.launch { f.onward with stomp := true } b.clk.core b.stampUi) with stomp := true }).begun f.vc f.payload.length
      b.clk.core b.syn.coreMHz)
  else b

/-- Accept the frame with the expected SEQ (R210, R217): joined to its context's unit, which is delivered at EOR. A CONTROL
message with a reserved code is dropped with PROTO (R212). -/
def Block.takeFrame (b : Block) (port : Nat) (f : FrameIn) : Block :=
  let p := b.port port
  let c := p.chan f.vc
  let whole := (if f.sor then [] else (c.rx.getD f.ctx (0, [])).2) ++ f.payload
  let c := { c with expect := (c.expect + 1) % 65536, nakSent := false, freed := c.freed + flits f.payload.length,
                    ackDue := some (c.ackDue.getD b.clk.core),
                    rx := if f.eor then c.rx.del f.ctx else c.rx.put f.ctx (f.cls, whole) }
  let b := b.setPort port (p.setChan f.vc c)
  let b := b.forward port f
  if f.eor then
    if f.vc = 2 ∧ reservedCode ((whole.head?.map BitVec.toNat).getD 0) then b.raise Ev.KL_PROTO [(port, 8)]
    else b.deliver { port := port, vc := f.vc, cls := f.cls, bytes := whole }
  else if f.vc = 0 then b.pauseCheck f.cls
  else b

/-- Ask for a replay, once until the expected frame comes (R217). -/
def Block.sendNak (b : Block) (port vc : Nat) : Block :=
  let p := b.port port
  if (p.chan vc).nakSent then b
  else
    (b.setPort port (p.setChan vc { p.chan vc with nakSent := true })).sendLc port (.nak (2 ^ vc) p.ackFields.1 p.ackFields.2)

/-- A framing error (R207, R217): every channel with a frame in progress loses it, and asks for a replay. -/
def Block.framing (b : Block) (port mask : Nat) : Block :=
  (List.range 3).foldl (fun b vc => if bit mask vc = 1 then (b.count (F.KL_PORT_ERR_CRC.ix port)).sendNak port vc else b) b

/-- Whether a frame's header is one that its channel carries (R209, Table 9-3): the FTYPE of the channel, reserved bits 0. -/
def FrameIn.proper (f : FrameIn) : Bool := !f.rsvd && (f.ftype == f.vc + 1 || (f.vc == 0 && f.ftype == 4))

/-- The flits of a discarded frame are freed and counted (R218). -/
def Block.freeFlits (b : Block) (port : Nat) (f : FrameIn) : Block :=
  b.updPort port (fun p => p.setChan f.vc { p.chan f.vc with freed := (p.chan f.vc).freed + flits f.payload.length })

/-- A received frame (R217). A header that its channel does not carry counts as a failed check (R209); a reserved channel is a framing error
(R207), and which channels had a frame in progress then is a free value (log entry 133). An injected corruption (R250) makes the next BULK frame of its
port fail its check. -/
def Block.frameReceived (b : Block) (port : Nat) (f0 : FrameIn) : Block :=
  if (b.port port).state ≠ 2 then b
  else if 3 ≤ f0.vc then b.fresh.2.framing port (b.fresh.1 % 8)
  else
    let hit := f0.vc == 0 && b.que.corrupt == some port
    let b := if hit then { b with que := { b.que with corrupt := none } } else b
    let f := if f0.check = .good ∧ (hit ∨ ¬ f0.proper) then { f0 with check := .bad } else f0
    let b := b.updPort port (fun p => { p with lastFlit := b.clk.core })
    match f.check with
    | .framing mask => b.framing port mask
    | .stomped => b.freeFlits port f
    | .bad => (((b.stompOn port f).freeFlits port f).count (F.KL_PORT_ERR_CRC.ix port)).sendNak port f.vc
    | .good =>
      let b := b.applyAck port f.vc (f.ack % 65536)
      let c := (b.port port).chan f.vc
      if f.seq = c.expect then b.takeFrame port f
      else
        let b := b.freeFlits port f
        if before16 f.seq c.expect then
          b.updPort port (fun p => p.setChan f.vc { p.chan f.vc with ackDue := some (c.ackDue.getD b.clk.core) })
        else b.sendNak port f.vc

/-! Pause, receiving end -/

/-- A PAUSE flit (R219): each class of its mask takes its time, 0 clearing it; without CLASS_PAUSE it acts on all. -/
def Block.pauseReceived (b : Block) (port mask time : Nat) : Block :=
  let p := b.port port
  if p.state = 2 then
    let m := if bit p.feat 1 = 1 then mask else 0xFF
    let e := if time % 65536 = 0 then 0 else b.clk.core + b.ns (16 * (time % 65536))
    let ps := (List.range 8).map (fun c => if bit m c = 1 then e else (p.pauses[c]?).getD 0)
    (b.updPort port (fun p => { p with pauses := ps, lastFlit := b.clk.core })).raise Ev.KL_PAUSE_RX [(port, 8)]
  else b

/-- Whether a class is paused on a port now (R219). -/
def Block.paused (b : Block) (port cls : Nat) : Bool := decide (b.clk.core < ((b.port port).pauses[cls]?).getD 0)

/-- A class's pause timer lapses (R219). -/
def Block.pauseExpire (b : Block) (port cls : Nat) : Block :=
  if b.paused port cls then b else b.updPort port (fun p => { p with pauses := setAt p.pauses cls 0 })

/-- Every half TIME, PAUSE is repeated while staging stays above LOW; at LOW it ends (R220). -/
def Block.pauseRepeat (b : Block) (port cls : Nat) : Block :=
  match ((b.port port).pausing[cls]?).getD none with
  | some t =>
    if t + b.ns (512 * atLeast1 (b.f F.KL_PAUSE_CFG_TIME)) ≤ b.clk.core then
      if b.f F.KL_PAUSE_CFG_LOW * 1024 < b.staging cls then b.pauseOn port cls else b.pauseOff port cls
    else b
  | none => b

/-! Meanings -/

/-- Act on a port of the build while LINKS is ON. -/
def Block.onPort (b : Block) (port : Nat) (f : Block → Block) : Block :=
  if b.on dLINKS ∧ port < portCount b.syn.agg then f b else b

/-- The port KL_PORT_SEL names. -/
def Block.selPort (b : Block) : Nat := b.f F.KL_PORT_SEL_PORT

/-- LANE_ERROR. -/
def execLaneError (port lane : Nat) (s : State) : Host.Outcome State Fault Refusal :=
  s.lift (fun b => b.onPort port (fun b => b.laneError port lane))
/-- NO_FLIT_TIMEOUT. -/
def execNoFlitTimeout (port : Nat) (s : State) : Host.Outcome State Fault Refusal :=
  s.lift (fun b => b.onPort port (fun b => b.noFlit port))
/-- NEG_SEND. -/
def execNegSend (port : Nat) (s : State) : Host.Outcome State Fault Refusal :=
  s.lift (fun b => b.onPort port (fun b => b.negSend port))
/-- NEG_RECEIVED. -/
def execNegReceived (port ver feat : Nat) (credits : List Nat) (lanes : Nat) (s : State) : Host.Outcome State Fault Refusal :=
  s.lift (fun b => b.onPort port (fun b => b.negReceived port ver feat credits lanes))
/-- NEG_ACK_RECEIVED. -/
def execNegAckReceived (port ver feat : Nat) (_credits : List Nat) (_width : Nat) (s : State) : Host.Outcome State Fault Refusal :=
  s.lift (fun b => b.onPort port (fun b => b.negAck port ver feat))
/-- TRAINING_TIMEOUT. -/
def execTrainingTimeout (port : Nat) (s : State) : Host.Outcome State Fault Refusal :=
  s.lift (fun b => b.onPort port (fun b => b.trainingTimeout port))
/-- DOWN_FLIT. -/
def execDownFlit (port : Nat) (s : State) : Host.Outcome State Fault Refusal :=
  s.lift (fun b => b.onPort port (fun b => b.declareDown port false))
/-- DOWN_RETRY. -/
def execDownRetry (port : Nat) (s : State) : Host.Outcome State Fault Refusal :=
  s.lift (fun b => b.onPort port (fun b => b.downRetry port))
/-- KL_RETRAIN. -/
def execKlRetrain (m : Master) (s : State) : Host.Outcome State Fault Refusal :=
  s.lift (fun b => b.write m 0x8020 1 (fun b => b.onPort b.selPort (fun b => b.klRetrain b.selPort)))
/-- KL_DOWN. -/
def execKlDown (m : Master) (s : State) : Host.Outcome State Fault Refusal :=
  s.lift (fun b => b.write m 0x8020 2 (fun b => b.onPort b.selPort (fun b => b.klDown b.selPort)))
/-- KL_UP. -/
def execKlUp (m : Master) (s : State) : Host.Outcome State Fault Refusal :=
  s.lift (fun b => b.write m 0x8020 4 (fun b => b.onPort b.selPort (fun b => b.klUp b.selPort)))
/-- FRAME_RECEIVED. -/
def execFrameReceived (port : Nat) (f : FrameIn) (s : State) : Host.Outcome State Fault Refusal :=
  s.lift (fun b => b.onPort port (fun b => b.frameReceived port f))
/-- ACK_RECEIVED. -/
def execAckReceived (port : Nat) (acks frees : List Nat) (s : State) : Host.Outcome State Fault Refusal :=
  s.lift (fun b => b.onPort port (fun b => if (b.port port).state = 2 then b.takeAcks port acks frees else b))
/-- NAK_RECEIVED. -/
def execNakReceived (port mask : Nat) (acks frees : List Nat) (s : State) : Host.Outcome State Fault Refusal :=
  s.lift (fun b => b.onPort port (fun b => if (b.port port).state = 2 then b.takeNak port mask acks frees else b))
/-- REPLAY_TIMEOUT. -/
def execReplayTimeout (port vc : Nat) (s : State) : Host.Outcome State Fault Refusal :=
  s.lift (fun b => b.onPort port (fun b => b.replayTimeout port vc))
/-- ACK_SEND. -/
def execAckSend (port : Nat) (s : State) : Host.Outcome State Fault Refusal :=
  s.lift (fun b => b.onPort port (fun b => b.ackSend port))
/-- PAUSE_RECEIVED. -/
def execPauseReceived (port mask time : Nat) (s : State) : Host.Outcome State Fault Refusal :=
  s.lift (fun b => b.onPort port (fun b => b.pauseReceived port mask time))
/-- PAUSE_EXPIRE. -/
def execPauseExpire (port cls : Nat) (s : State) : Host.Outcome State Fault Refusal :=
  s.lift (fun b => b.onPort port (fun b => b.pauseExpire port (cls % 8)))
/-- PAUSE_REPEAT. -/
def execPauseRepeat (port cls : Nat) (s : State) : Host.Outcome State Fault Refusal :=
  s.lift (fun b => b.onPort port (fun b => b.pauseRepeat port (cls % 8)))

end Sys2Proof.Machine
end

