-- ==== Sys2Proof/Machine/Store.lean ====
section
/-! DEFINITION. The storage medium (spec/12_cocoon_store.md, R267 to R279, R286 to R290): targets, blocks and pages of the NAND, the areas, the
journal's groups as they are programmed and committed, the counter logs, and the NOR Cocoon's ring. -/

namespace Sys2Proof.Machine

/-! Targets and capacity -/

/-- A target's number: eight to a channel (R267). -/
def tgtKey (ch tgt : Nat) : Nat := ch * 8 + tgt

/-- A block's number. -/
def blkKey (ch tgt blk : Nat) : Nat := tgtKey ch tgt * 2 ^ 24 + blk

/-- Whether a target's geometry is one the block uses (R268): NV-LPDDR4, a data page of 4, 8 or 16 KiB, at least 96 spare bytes per
KiB. -/
def Geo.good (g : Geo) : Bool := g.lpddr && (g.pageKib == 4 || g.pageKib == 8 || g.pageKib == 16) && decide (96 ≤ g.spare)

/-- The targets in use: those found at start and not excluded since. -/
def Coc.usable (c : Coc) : SMap Geo := c.tgts.filter (fun p => !c.excl.contains p.1)

/-- The channels with a usable target, rising. -/
def Coc.chans (c : Coc) : List Nat := (List.range 16).filter (fun ch => c.usable.any (fun p => p.1 / 8 == ch))

/-- KiB of a page's data: the smallest of the targets in use. -/
def Coc.pageKib (c : Coc) : Nat := c.usable.foldl (fun a p => if a = 0 then p.2.pageKib else min a p.2.pageKib) 0

/-- The usable capacity in KiB (COC_CAP). -/
def Coc.capKib (c : Coc) : Nat := c.usable.foldl (fun a p => a + p.2.pageKib * p.2.pages * p.2.blocks) 0

/-- Bytes of records that a data page takes: its data area less the header of Table 12-3. -/
def Coc.area (c : Coc) : Nat := c.pageKib * 1024 - 512

/-- Blocks of a target in the META area: 0.5 % of capacity (R277). -/
def Geo.meta (g : Geo) : Nat := (g.blocks + 199) / 200

/-- Blocks of each target in the FIRST area: its size spread evenly over the targets in use (R277). -/
def Coc.firstBlks (c : Coc) : Nat :=
  let row := c.usable.foldl (fun a p => a + p.2.pageKib * p.2.pages) 0
  if row = 0 then 0 else (c.firstSize / 1024 + row - 1) / row

/-- The area a block of a target lies in: 0 META, 1 FIRST, 2 LAST with the flush reserve. -/
def Coc.areaOf (c : Coc) (g : Geo) (blk : Nat) : Nat := if blk < g.meta then 0 else if blk < g.meta + c.firstBlks then 1 else 2

/-- A block of the NAND. -/
def Coc.blk (c : Coc) (k : Nat) : Blk := c.blks.getD k {}

/-- Pages of LAST that are written and not being erased. -/
def Coc.lastUsed (c : Coc) : Nat :=
  c.blks.foldl (fun a p =>
    match c.usable.find (p.1 / 2 ^ 24) with
    | some g =>
      if c.areaOf g (p.1 % 2 ^ 24) = 2 then
        a + (if p.2.phase = 1 then p.2.next else if p.2.phase = 2 ∨ p.2.phase = 4 then g.pages else 0)
      else a
    | none => a) 0

/-- Pages of LAST with its flush reserve. -/
def Coc.lastPages (c : Coc) : Nat :=
  c.usable.foldl (fun a p => a + p.2.pages * (p.2.blocks - p.2.meta - c.firstBlks)) 0

/-- Pages of LAST that are free, the reserve among them. -/
def Coc.lastFree (c : Coc) : Nat := c.lastPages - c.lastUsed

/-- Pages of the flush reserve: LIMIT and 64 pages (R283). -/
def Block.reserve (b : Block) : Nat :=
  let pk := b.coc.pageKib
  if pk = 0 then 0 else b.f F.COC_PF_LIMIT * 1024 / pk + 64

/-- Free LAST space in pages, the flush reserve kept back. -/
def Block.freePages (b : Block) : Nat := b.coc.lastFree - b.reserve

/-- COC_PF_TIME (R283), in µs. -/
def Block.pfTime (b : Block) : Nat :=
  let n := b.coc.chans.length - 2
  if n = 0 then 0
  else
    let g := (b.reserve + n - 1) / n + 2
    100 + g * (2 * b.coc.usable.foldl (fun a p => max a p.2.progUs) 0 + 20)

/-! Blocks and pages -/

/-- The free block of least erases of an area of a channel (R270): (target, block), ties to the lowest. -/
def Coc.freeBlk (c : Coc) (ch area : Nat) : Option (Nat × Nat) :=
  let fresh (p : Nat × Geo) : Option (Nat × Nat × Nat) :=
    ((List.range p.2.blocks).find? (fun k => c.areaOf p.2 k == area && (c.blks.find (blkKey ch (p.1 % 8) k)).isNone)).map
      (fun k => (0, p.1 % 8, k))
  let here := c.usable.filter (fun p => p.1 / 8 == ch)
  let worn := (c.blks.filter (fun p => p.2.phase == 0)).filterMap (fun p =>
    match SMap.find here (p.1 / 2 ^ 24) with
    | some g => if c.areaOf g (p.1 % 2 ^ 24) = area then some (p.2.erases, p.1 / 2 ^ 24 % 8, p.1 % 2 ^ 24) else none
    | none => none)
  match sortBy (fun (x : Nat × Nat × Nat) => x.1) (here.filterMap fresh ++ worn) with
  | [] => none
  | x :: _ => some x.2

/-- The next page of an area on a channel: of the open block, or the first of a free one. -/
def Coc.allocPage (c : Coc) (ch area now : Nat) : Option (GPage × Coc) :=
  let take (tgt blk : Nat) : Option (GPage × Coc) :=
    match c.usable.find (tgtKey ch tgt) with
    | some g =>
      let k := blkKey ch tgt blk
      let x := c.blk k
      let x' : Blk :=
        { x with phase := if g.pages ≤ x.next + 1 then 2 else 1, next := x.next + 1, at_ := if x.next = 0 then now else x.at_ }
      some ({ ch := ch, tgt := tgt, blk := blk, page := x.next, first := area == 1 }, { c with blks := c.blks.put k x' })
    | none => none
  match c.blks.find? (fun p => p.2.phase == 1 && p.1 / 2 ^ 27 == ch
      && (match c.usable.find (p.1 / 2 ^ 24) with
          | some g => c.areaOf g (p.1 % 2 ^ 24) == area
          | none => false)) with
  | some p => take (p.1 / 2 ^ 24 % 8) (p.1 % 2 ^ 24)
  | none =>
    match c.freeBlk ch area with
    | some (t, k) => take t k
    | none => none

/-- Pages for a list of (channel, area): none where one cannot be had. -/
def Coc.allocAll (c : Coc) (l : List (Nat × Nat)) (now : Nat) : Option (List GPage × Coc) :=
  match l with
  | [] => some ([], c)
  | (ch, area) :: t =>
    match c.allocPage ch area now with
    | some (p, c) =>
      (match c.allocAll t now with
       | some (ps, c) => some (p :: ps, c)
       | none => none)
    | none => none

/-- The pages of a group. -/
def Group.pages (g : Group) : List GPage := g.data ++ g.a.toList ++ g.b.toList

/-- Whether a page lies in a block. -/
def GPage.inBlk (p : GPage) (k : Nat) : Bool := blkKey p.ch p.tgt p.blk == k

/-- Whether a group has a page in a block. -/
def Group.touches (g : Group) (k : Nat) : Bool := g.pages.any (fun p => p.inBlk k)

/-- The records of a group. -/
def Group.recs (g : Group) : List JRec :=
  g.entries.filterMap (fun e => match e with
    | .record r => some r
    | .mark _ _ => none
    | .close _ => none)

/-- Whether a group holds a record above the release point, a FIRST page, or a mark or close written since the last checkpoint. -/
def Coc.needed (c : Coc) (g : Group) : Bool :=
  g.recs.any (fun r => decide (c.rel ≤ r.jpos)) || g.data.any (fun p => p.first)
    || (decide (g.recs.length < g.entries.length ∨ g.recs = []) && decide (c.ckpt ≤ g.gseq))

/-- Blocks of LAST whose every record lies below the release point go to erase (R278). -/
def Coc.reclaim (c : Coc) : Coc :=
  let live := (c.groups.filter c.needed) ++ c.progs
  let out := c.blks.filter (fun p => p.2.phase == 2 && !(live.any (fun g => g.touches p.1))
    && (match c.usable.find (p.1 / 2 ^ 24) with
        | some g => c.areaOf g (p.1 % 2 ^ 24) == 2
        | none => false))
  { c with blks := out.foldl (fun m p => m.put p.1 { p.2 with phase := 3 }) c.blks,
           groups := c.groups.filter (fun g => c.needed g || !(out.any (fun p => g.touches p.1))) }

/-! The journal's groups -/

/-- The bytes an entry takes in the data area: an 8-byte tag and the record padded to 8 (R273), twice where a FIRST copy is written; a
mark or close is counted as 64 (its layout is not given). -/
def JEntry.size (e : JEntry) : Nat :=
  match e with
  | .record r => (8 + (r.bytes.length + 7) / 8 * 8) * (if r.first then 2 else 1)
  | .mark _ _ => 64
  | .close _ => 64

/-- Bytes of FIRST that copies not yet committed will take. -/
def Coc.firstComing (c : Coc) : Nat :=
  let of (a : Nat) (e : JEntry) : Nat := match e with
    | .record r => if r.first then a + 8 + r.bytes.length else a
    | _ => a
  ((c.progs.filter (fun g => g.reloc == 0)).flatMap (fun g => g.entries) ++ (c.parked ++ c.buf).map (fun x => x.1)).foldl of 0

/-- Whether a record goes to FIRST too (R277): SEV at or above FSEV, and FIRST is not full; and whether FIRST is full from now on: a record of
that SEV found no room (log entry 157). -/
def Block.toFirst (b : Block) (sev len : Nat) : Bool × Bool :=
  let want := decide (b.f F.COC_AREA_FSEV ≤ sev)
  let fits := decide (b.coc.firstUsed + b.coc.firstComing + len + 8 ≤ b.coc.firstSize)
  (want && !b.coc.firstFull && fits, b.coc.firstFull || (want && !fits))

/-- Give the writer an entry; the first byte of a group starts its time (R274). -/
def Block.journal (b : Block) (e : JEntry) : Block :=
  if b.syn.agg then
    let f : JEntry × Bool := match e with
      | .record r => let t := b.toFirst r.sev r.bytes.length; (.record { r with first := t.1 }, t.2)
      | e => (e, b.coc.firstFull)
    let e := f.1
    { b with coc := { b.coc with firstFull := f.2, buf := b.coc.buf ++ [(e, e.size)], bufSince := some (b.coc.bufSince.getD b.clk.core) } }
  else b

/-- Cut n bytes off the entries that wait: those that end within them, and the rest. -/
def cutBuf (n : Nat) (l : List (JEntry × Nat)) : List JEntry × List (JEntry × Nat) :=
  match l with
  | [] => ([], [])
  | (e, k) :: t =>
    if k ≤ n then let r := cutBuf (n - k) t; (e :: r.1, r.2)
    else ([], (e, k - n) :: t)

/-- Bytes that wait for a group. -/
def Coc.waiting (c : Coc) : Nat := c.buf.foldl (fun a x => a + x.2) 0

/-- Whether Cocoon writes: STORE ON, EN, STATE READY. -/
def Block.cocReady (b : Block) : Bool := b.on dSTORE && b.is F.COC_CTRL_EN && b.f F.COC_STATUS_STATE == 2

/-- Entries that wait hold a record that goes to FIRST. -/
def Coc.anyFirst (c : Coc) : Bool :=
  c.buf.any (fun x => match x.1 with
    | .record r => r.first
    | _ => false)

/-- Bytes of a full group: CH − 2 data pages (R272), one of them for FIRST copies where there are any. -/
def Coc.groupSize (c : Coc) : Nat := (c.chans.length - 2 - (if c.anyFirst then 1 else 0)) * c.area

/-- Where the data pages of a group go: channels rotate with GSEQ (R272), the last page in the FIRST area where a copy is written. -/
def Coc.places (c : Coc) (gseq n : Nat) (first : Bool) : List (Nat × Nat) :=
  let chs := c.chans
  (List.range n).map (fun i => ((chs[(gseq + i) % chs.length]?).getD 0, if first ∧ i + 1 = n then 1 else 2))

/-- The channels of commit pages A and B behind n data pages. -/
def Coc.commitPlaces (c : Coc) (gseq n : Nat) : List (Nat × Nat) :=
  let chs := c.chans
  [((chs[(gseq + n) % chs.length]?).getD 0, 2), ((chs[(gseq + n + 1) % chs.length]?).getD 0, 2)]

/-- COC_STATUS.FULL, with its event when it sets (R279). -/
def Block.cocFull (b : Block) (full : Bool) : Block :=
  (b.raiseIf (full && !(b.is F.COC_STATUS_FULL)) Ev.COC_FULL).setb F.COC_STATUS_FULL full

/-- LOW is raised when free LAST space falls below LOWPCT percent (R279). -/
def Block.cocLow (b : Block) (before : Nat) : Block :=
  let lim := b.f F.COC_CFG_LOWPCT * b.coc.lastPages
  b.raiseIf (decide (b.freePages * 100 < lim) && decide (lim ≤ before * 100)) Ev.COC_LOW

/-- Close a group (R274): what fits of the entries that wait goes to pages whose programs begin; a group that would need the flush
reserve stops the writer (R279), but for the groups of the flush itself. -/
def Block.closeGroup (b : Block) (flushed : Bool := false) : Block :=
  let c := b.coc
  if c.chans.length < 3 then b
  else
    let cap := c.groupSize
    let r := cutBuf cap c.buf
    let bytes := min cap c.waiting
    let first := c.anyFirst
    let n := max 1 ((bytes + c.area - 1) / c.area) + (if first then 1 else 0)
    let n := min n (c.chans.length - 2)
    if b.freePages < n + 2 ∧ ¬ c.flush then b.cocFull true
    else
      match c.allocAll (c.places c.nextG n first) b.clk.aon with
      | some (ps, c) =>
        let before := b.freePages
        let g : Group := { gseq := c.nextG, entries := r.1, flushed := flushed, data := ps, at_ := b.clk.aon }
        let b := { b with coc := { c with nextG := c.nextG + 1, progs := c.progs ++ [g], buf := r.2,
                                          bufSince := if r.2 = [] then none else some b.clk.core } }
        b.cocLow before
      | none => b.cocFull true

/-- The NAND operation of a target passed or failed; the first failure in a row is timed (R272). -/
def Coc.opResult (c : Coc) (ch tgt : Nat) (pass : Bool) (now : Nat) : Coc :=
  let k := tgtKey ch tgt
  if pass then { c with failing := c.failing.del k }
  else { c with failing := c.failing.put k (c.failing.getD k now) }

/-- The arguments of an entry that names a place on the medium (R292). -/
def placeArgs (ch tgt blk : Nat) : List (Nat × Nat) := [(ch, 8), (tgt, 8), (blk, 32)]

/-- Blocks of a channel, those retired, and those that hold nothing. -/
def Coc.spares (c : Coc) (ch : Nat) : Nat × Nat :=
  let total := (c.usable.filter (fun p => p.1 / 8 == ch)).foldl (fun a p => a + p.2.blocks) 0
  let busy := (c.blks.filter (fun p => p.1 / 2 ^ 27 == ch && c.usable.keys.contains (p.1 / 2 ^ 24) && p.2.phase != 0)).length
  (total, total - busy)

/-- Retire a block (R270, R272): counted, and never written again; good spares below 1 % of the channel's blocks raise SPARE_LOW. -/
def Block.retireBlk (b : Block) (ch tgt blk : Nat) : Block :=
  let k := blkKey ch tgt blk
  let b := { b with coc := { b.coc with blks := b.coc.blks.put k { b.coc.blk k with phase := 4 } } }
  let b := b.count F.COC_HEALTH_RETIRED
  let s := b.coc.spares ch
  b.raiseIf (decide (s.2 * 100 < s.1)) Ev.COC_SPARE_LOW

/-- Change every page of the groups being programmed. -/
def Coc.mapPages (c : Coc) (f : GPage → GPage) : Coc :=
  { c with progs := c.progs.map (fun g => { g with data := g.data.map f, a := g.a.map f, b := g.b.map f }) }

/-- Whether a page stands at an address. -/
def GPage.isAt (p : GPage) (ch tgt blk page : Nat) : Bool := p.ch == ch && p.tgt == tgt && p.blk == blk && p.page == page

/-- A page program ends (R272, R274): a pass marks the page; a fail retires its block and programs the page on a new block of the same
channel. -/
def Block.programDone (b : Block) (ch tgt blk page : Nat) (pass : Bool) : Block :=
  let b := { b with coc := b.coc.opResult ch tgt pass b.clk.aon }
  if pass then { b with coc := b.coc.mapPages (fun p => if p.isAt ch tgt blk page then { p with ok := true } else p) }
  else
    match (b.coc.progs.flatMap Group.pages).find? (fun p => p.isAt ch tgt blk page && !p.ok) with
    | some x =>
      let b := (b.retireBlk ch tgt blk).raise Ev.COC_BLOCK_RETIRED (placeArgs ch tgt blk)
      match b.coc.allocPage ch (if x.first then 1 else 2) b.clk.aon with
      | some (n, c) => { b with coc := c.mapPages (fun p => if p.isAt ch tgt blk page ∧ ¬ p.ok then n else p) }
      | none => b
    | none => b

/-- Write a checkpoint (R275): recovery starts behind the last group committed; blocks that nothing needs any more go to erase. -/
def Block.journalCheckpoint (b : Block) (keys : List OwnKey) : Block :=
  let next := b.coc.groups.foldl (fun a g => max a (g.gseq + 1)) b.coc.ckpt
  { b with coc := ({ b.coc with ckpt := next, ckptKeys := keys, ckptProcs := b.que.procs, ckptShut := b.vrd.shut } : Coc).reclaim }

/-- Number the records of a group in the order of commit (R276). -/
def numberEntries (n : Nat) (l : List JEntry) : List JEntry × Nat :=
  match l with
  | [] => ([], n)
  | .record r :: t => let x := numberEntries (n + 1) t; (.record { r with jpos := n } :: x.1, x.2)
  | e :: t => let x := numberEntries n t; (e :: x.1, x.2)

/-- A relocation commits (R273): the new copy takes the old one's place, and a block under refresh that holds no group's page goes to erase. -/
def Coc.relocated (c : Coc) (g : Group) : Coc :=
  let c := { c with groups := c.groups.map (fun (x : Group) => if x.gseq = g.gseq then g else x) }
  let gone := c.refresh.filter (fun k => !((c.groups ++ c.progs.filter (fun (p : Group) => p.gseq != g.gseq)).any (fun (x : Group) => x.touches k)))
  { c with refresh := c.refresh.filter (fun k => !gone.contains k),
           blks := gone.foldl (fun m k => if (c.blk k).phase = 4 then m else m.put k { c.blk k with phase := 3 }) c.blks }

/-- A group commits (R274, R276, R277): its records get their JPOS, copies for FIRST stand there. -/
def Block.commitGroup (b : Block) (g : Group) : List JEntry × Block :=
  if g.reloc = 0 then
    let r := numberEntries b.coc.nextJ g.entries
    let g := { g with entries := r.1 }
    let firsts := g.recs.filter (fun r => r.first)
    (r.1, { b with coc := { b.coc with nextJ := r.2, groups := b.coc.groups ++ [g], firsts := b.coc.firsts ++ firsts,
                                       firstUsed := firsts.foldl (fun a r => a + 8 + r.bytes.length) b.coc.firstUsed } })
  else ([], { b with coc := b.coc.relocated g })

/-- Move the groups being programmed on, oldest first (R274): data pages passed, then A and B, then committed; no group passes its
predecessor. Fuel: the groups in programming. Answers the entries committed. -/
def Block.advanceGroups (fuel : Nat) (b : Block) : List JEntry × Block :=
  match fuel with
  | 0 => ([], b)
  | k + 1 =>
    match b.coc.progs with
    | [] => ([], b)
    | g :: rest =>
      if ¬ g.data.all (fun p => p.ok) then ([], b)
      else
        match g.a, g.b with
        | some x, some y =>
          if x.ok ∧ y.ok then
            let b := { b with coc := { b.coc with progs := rest } }
            let r := b.commitGroup g
            let s := Block.advanceGroups k r.2
            (r.1 ++ s.1, s.2)
          else ([], b)
        | _, _ =>
          match b.coc.allocAll (b.coc.commitPlaces g.gseq g.data.length) b.clk.aon with
          | some ([x, y], c) => ([], { b with coc := { c with progs := { g with a := some x, b := some y } :: rest } })
          | _ => ([], b)

/-! Wear and refresh -/

/-- Refresh a block (R271, R273): each group with a page in it is written again with RELOC one higher; the block is erased once they have
committed. A block that holds nothing goes to erase at once. -/
def Block.refreshBlk (b : Block) (k : Nat) : Block :=
  if b.coc.refresh.contains k then b
  else
    let b := { b with coc := { b.coc with refresh := b.coc.refresh ++ [k] } }
    let gs : List Group := b.coc.groups.filter (fun (g : Group) => g.touches k && !g.lost)
    if gs.isEmpty then
      (if (b.coc.blk k).phase = 2 then
         { b with coc := { b.coc with refresh := b.coc.refresh.erase k, blks := b.coc.blks.put k { b.coc.blk k with phase := 3, marked := false } } }
       else { b with coc := { b.coc with refresh := b.coc.refresh.erase k } })
    else
      let b := { b with coc := { b.coc with blks := b.coc.blks.put k { b.coc.blk k with phase := if (b.coc.blk k).phase = 4 then 4 else 2 } } }
      gs.foldl (fun b g =>
        match b.coc.allocAll (b.coc.places (g.gseq + g.reloc + 1) g.data.length (g.data.any (fun p => p.first))) b.clk.aon with
        | some (ps, c) =>
          { b with coc := { c with progs := c.progs ++ [{ g with reloc := g.reloc + 1, data := ps, a := none, b := none }] } }
        | none => b) b

/-- Erase counts of a channel's blocks: the most and the least worn, the latter with its block (R270). -/
def Coc.wear (c : Coc) (ch : Nat) : Nat × Nat × Option Nat :=
  let mine := c.blks.filter (fun p => p.1 / 2 ^ 27 == ch && p.2.phase != 4)
  let hi := mine.foldl (fun a p => max a p.2.erases) 0
  match sortBy (fun (p : Nat × Blk) => p.2.erases) (mine.filter (fun p => p.2.phase == 2)) with
  | [] => (hi, hi, none)
  | p :: _ => (hi, p.2.erases, some p.1)

/-- A spread of erase counts beyond DELTA refreshes the least-worn block (R270). -/
def Block.wearCheck (b : Block) (ch : Nat) : Block :=
  match b.coc.wear ch with
  | (hi, lo, some k) => if b.f F.COC_WEAR_DELTA < hi - lo then b.refreshBlk k else b
  | _ => b

/-- An erase ends (R270, R272): a pass frees the block, one erase older, and retires it at LIMIT; a fail retires it. -/
def Block.eraseDone (b : Block) (ch tgt blk : Nat) (pass : Bool) : Block :=
  let k := blkKey ch tgt blk
  if (b.coc.blk k).phase ≠ 3 then b
  else
    let b := { b with coc := b.coc.opResult ch tgt pass b.clk.aon }
    if pass then
      let x := b.coc.blk k
      let b := { b with coc := { b.coc with blks := b.coc.blks.put k { erases := x.erases + 1 } } }
      let b := b.setf F.COC_HEALTH_MAXERASE (max (b.f F.COC_HEALTH_MAXERASE) (sat 16 ((x.erases + 1) / 10)))
      let b := if b.f F.COC_WEAR_LIMIT * 10 ≤ x.erases + 1 then b.retireBlk ch tgt blk else b
      b.wearCheck ch
    else (b.retireBlk ch tgt blk).raise Ev.COC_BLOCK_RETIRED (placeArgs ch tgt blk)

/-- Mark a block for refresh, and refresh it (R269, R271). -/
def Block.markBlk (b : Block) (k : Nat) : Block :=
  ({ b with coc := { b.coc with blks := b.coc.blks.put k { b.coc.blk k with marked := true } } }).refreshBlk k

/-- A page read went down the ladder (R269, R271): steps 2 to 5 are counted and raised, a page that needed step 2 or later or more than TH
corrected bits marks its block; at step 5 the page is lost, and with it every group that has it as a data page. -/
def Block.ladder (b : Block) (ch tgt blk page : Nat) (r : Ladder) : Block :=
  let args := placeArgs ch tgt blk
  let b := if 2 ≤ r.step then (b.count F.COC_ECC_RETRIES).raise Ev.COC_RETRY args else b
  let b := if r.step = 4 then (b.count F.COC_ECC_REBUILDS).raise Ev.COC_REBUILD args else b
  if 5 ≤ r.step then
    let b := (b.count F.COC_ECC_UNCORR).raise Ev.COC_UNCORR args
    let hit : List Group := b.coc.groups.filter (fun g => g.data.any (fun p => p.isAt ch tgt blk page) && !g.lost)
    let b := { b with coc := { b.coc with groups := b.coc.groups.map (fun g => if hit.any (fun h => h.gseq == g.gseq) then { g with lost := true } else g) } }
    (hit.foldl (fun (b : Block) (g : Group) => b.raise Ev.COC_GROUP_LOST [(g.gseq, 64)]) b).markBlk (blkKey ch tgt blk)
  else if 2 ≤ r.step ∨ b.f F.COC_SCRUB_TH < r.fixed then b.markBlk (blkKey ch tgt blk)
  else b

/-- A page that cannot be programmed where it stands goes to another block of its channel, or of another channel where that has none. -/
def Block.replacePage (b : Block) (p : GPage) : Block :=
  match (p.ch :: b.coc.chans).findSome? (fun ch => b.coc.allocPage ch (if p.first then 1 else 2) b.clk.aon) with
  | some (n, c) => { b with coc := c.mapPages (fun x => if x.isAt p.ch p.tgt p.blk p.page ∧ ¬ x.ok then n else x) }
  | none => b

/-- A target is excluded (R268, R272): TARGET_FAIL, groups use one channel fewer where it was the channel's last, its data pages are rebuilt
(R269 step 4), and every group that had a page on it is relocated. -/
def Block.excludeTgt (b : Block) (ch tgt : Nat) : Block :=
  let k := tgtKey ch tgt
  if b.coc.excl.contains k then b
  else
    let b := { b with coc := { b.coc with excl := b.coc.excl ++ [k], failing := b.coc.failing.del k } }
    let b := b.raise Ev.COC_TARGET_FAIL (placeArgs ch tgt 0)
    let gone := ((b.coc.groups.flatMap Group.pages).filter (fun p => tgtKey p.ch p.tgt == k)).map (fun p => blkKey p.ch p.tgt p.blk)
    let b := ((b.coc.progs.flatMap Group.pages).filter (fun p => !p.ok && tgtKey p.ch p.tgt == k)).foldl Block.replacePage b
    let b := (((b.coc.groups.filter (fun g => !g.lost)).flatMap (fun g => g.data)).filter (fun p => tgtKey p.ch p.tgt == k)).foldl
      (fun b p => (b.count F.COC_ECC_REBUILDS).raise Ev.COC_REBUILD (placeArgs p.ch p.tgt p.blk)) b
    gone.eraseDups.foldl (fun b k => b.refreshBlk k) b

/-! Counters -/

/-- A counter slot's value: the greatest of its entries in either copy (R286). -/
def Coc.ctr (c : Coc) (slot : Nat) : Nat := max (c.logA.getD slot 0) (c.logB.getD slot 0)

/-- RAISE(slot, v) (R287): a value not above the present one has no effect; else the entry goes to copy A, then to copy B. -/
def Block.raiseCtr (b : Block) (slot v : Nat) : Block :=
  let top := b.coc.raises.foldl (fun a r => if r.1 = slot then max a r.2.1 else a) (b.coc.ctr slot)
  if v ≤ top then b else { b with coc := { b.coc with raises := b.coc.raises ++ [(slot, v % 2 ^ 64, false)] } }

/-- The append to a copy of the oldest raise ended (R287): a pass of A lets the append to B begin. -/
def Coc.ctrStatus (c : Coc) (copyB pass : Bool) : Coc :=
  match c.raises with
  | (s, v, a) :: t =>
    if ¬ pass then c
    else if ¬ copyB ∧ ¬ a then { c with logA := c.logA.put s (max v (c.logA.getD s 0)), raises := (s, v, true) :: t }
    else if copyB ∧ a then { c with logB := c.logB.put s (max v (c.logB.getD s 0)) }
    else c
  | [] => c

/-! The NOR Cocoon -/

/-- KiB of the NOR's image store: the last 16 MiB of a device of at least 32 MiB (R299). -/
def Synth.norStore (s : Synth) : Nat := if 32 ≤ s.norMiB then 16384 else 0

/-- Bytes that a NOR record takes: frame, record, commit word (R290). -/
def NorRec.size (r : NorRec) : Nat := 24 + r.r.bytes.length

/-- Bytes of the counter sectors at the head of the device: two copies, each with a sector to compact into (R286, R287). -/
def norCounters : Nat := 16384

/-- Bytes of the NOR's FIRST area and of its ring (R290). -/
def Synth.norAreas (s : Synth) : Nat × Nat :=
  let n := (s.norMiB * 1024 - s.norStore) * 1024
  (n / 8, n - n / 8 - norCounters)

/-- Drop the oldest records of the ring until n bytes fit (R290). -/
def norRoom (size n : Nat) (l : List NorRec) : List NorRec :=
  match l with
  | [] => []
  | r :: t =>
    if (l.filter (fun x => !x.first)).foldl (fun a x => a + x.size) 0 + n ≤ size then l
    else if r.first then r :: norRoom size n t else norRoom size n t

/-- Copy a record of this D-role to its NOR (R290): SEV at or above FSEV, or a HANG_SNAP; up to 64 KiB; not while 64 KiB of writes are
pending, which is said under NOR_SKIP. It goes to the ring; one of SEV at or above FSEV goes to FIRST too, until that is full (R277). -/
def Block.norCopy (b : Block) (r : JRec) (typ : Nat) : Block :=
  if b.syn.agg ∨ ¬ b.cocReady ∨ b.is F.COC_STATUS_FULL then b
  else if ¬ (b.f F.COC_AREA_FSEV ≤ r.sev ∨ typ = 0x14) ∨ 65536 < r.bytes.length then b
  else
    let busy := (b.coc.nor.filter (fun x => !x.done)).foldl (fun a x => a + x.size) 0
    if 65536 ≤ busy then b.raise Ev.COC_NOR_SKIP
    else
      let areas := b.syn.norAreas
      let n : NorRec := { r := { r with jpos := b.coc.nextJ }, first := false }
      let used := (b.coc.nor.filter (fun x => x.first)).foldl (fun a x => a + x.size) 0
      let want := decide (b.f F.COC_AREA_FSEV ≤ r.sev)
      let fits := decide (used + n.size ≤ areas.1)
      let copy : List NorRec := if want ∧ ¬ b.coc.firstFull ∧ fits then [{ n with first := true }] else []
      { b with coc := { b.coc with nor := norRoom areas.2 n.size b.coc.nor ++ [n] ++ copy, nextJ := b.coc.nextJ + 1,
                                   firstFull := b.coc.firstFull || (want && !fits) } }

end Sys2Proof.Machine
end

