-- ==== Sys2Proof/Machine/Reports.lean ====
section
/-! DEFINITION. Integrity reports and confirmations (spec/14_integrity.md, R315, R317, R320): what any unit's failed check does. -/

namespace Sys2Proof.Machine

/-- The payload of an INT_REPORT record (Table 14-4). -/
def Report.payload (r : Report) : List Byte :=
  leBytes 4 r.rnum ++ leBytes 1 r.unit ++ leBytes 1 r.op ++ leBytes 1 r.fmt ++ leBytes 1 (r.cls % 8 + r.flags * 8)
    ++ leBytes 4 r.part ++ leBytes 2 r.temp ++ leBytes 2 r.vdd ++ leBytes 8 r.exp ++ leBytes 8 r.obs ++ leBytes 8 r.ctx
    ++ leBytes 8 r.phase ++ leBytes 8 r.wall ++ leBytes 8 r.ref

/-- SEV of a report by its class (R315). -/
def reportSev (cls : Nat) : Nat := if cls = 2 then 7 else if cls = 1 then 6 else if cls = 3 then 5 else 4

/-- Emit a report and show it in INT_LAST; the caller has numbered it. -/
def Block.sendReport (b : Block) (r : Report) : Block :=
  let b := { b with int := { b.int with last := some r, reports := (r :: b.int.reports).take 64 } }
  let b := b.emitAt (b.f F.INT_DEST_QUEUE) (b.f F.INT_DEST_STREAM) 0x60 0 0 (reportSev r.cls) r.phase r.wall r.payload
  b.raise Ev.INT_REPORT [(r.rnum, 32), (r.unit, 8), (r.part, 24)]

/-- The moment of a detection (R315). -/
def Block.seen (b : Block) : Seen :=
  { phase := b.phase, wall := b.wall, temp := b.f F.INT_SENSE_TEMP, vdd := b.f F.INT_SENSE_VDD, out := b.is F.INT_STATUS_RANGE }

/-- A detection forms a report (R315): numbered from 1, stamped with the sensor's sample, OUTSIDE where RANGE is 1. Nothing
is formed while INT_CTRL.EN = 0. -/
def Block.report (b : Block) (unit op fmt cls part exp obs ctx : Nat) (selftest recovered : Bool := false) (ref : Nat := 0)
    (at_ : Option Seen := none) : Block :=
  if b.is F.INT_CTRL_EN then
    let n := (b.int.rnum + 1) % 2 ^ 32
    let x := at_.getD b.seen
    let fl := (if selftest then 1 else 0) + (if recovered then 2 else 0) + (if x.out then 4 else 0)
    let r : Report :=
      { rnum := n, unit := unit, op := op, fmt := fmt, cls := cls, flags := fl, part := part,
        temp := x.temp, vdd := x.vdd, exp := exp, obs := obs, ctx := ctx,
        phase := x.phase, wall := x.wall, ref := ref }
    let b := { b with int := { b.int with rnum := n } }
    b.sendReport r
  else b

/-- A second record refines report n (R315): same RNUM, UPDATE = 1, the new class. Report 0 is that of a failure found with EN = 0. -/
def Block.updateReport (b : Block) (n cls : Nat) : Block :=
  match (if b.is F.INT_CTRL_EN then b.int.reports else []).find? (fun r => r.rnum == n) with
  | some r => if r.cls = cls then b else b.sendReport { r with cls := cls, flags := r.flags % 8 + 8 }
  | none => b

/-- The event that a part raises in its unit once the integrity unit has fenced it, for a test or after a fault (R178, R263, R320 step 4), and
what its unit stops. -/
def Block.fenceEvent (b : Block) (kind index : Nat) : Block :=
  match kind with
  | 0 => b.raise Ev.SWM_FENCED [(4 * index, 16)]
  | 1 => (b.raise Ev.HWK_TILE_FENCED [(index, 8)]).tilesGone
  | 2 => (b.raise Ev.SLK_FENCED [(index, 8)]).slkFenced
  | _ => b

/-- What an entry of INT_EVENTS carries: the latest RNUM, UNIT and PART (R326). -/
def Block.intArgs (b : Block) : List (Nat × Nat) :=
  match b.int.last with
  | some r => [(r.rnum, 32), (r.unit, 8), (r.part, 24)]
  | none => [(0, 32), (0, 8), (0, 24)]

/-- The same of report n, where it is known (R326). -/
def Block.argsOf (b : Block) (n : Option Nat) : List (Nat × Nat) :=
  match b.int.reports.find? (fun r => n == some r.rnum) with
  | some r => [(r.rnum, 32), (r.unit, 8), (r.part, 24)]
  | none => b.intArgs

/-- A part takes FAULT with a class (R320), judged upon report n. -/
def Block.faultPart (b : Block) (kind index cls : Nat) (n : Option Nat := none) : Block :=
  let b := b.setPart kind index (fun p => { p with fault := true, test := false, cls := cls })
  (b.raise Ev.INT_PERMANENT (b.argsOf n)).fenceEvent kind index

/-- A check failure attributed to a part starts its confirmation (R320): a part that holds FAULT starts none; a full queue
sets FAULT with class UNCLASSED. -/
def Block.confirm (b : Block) (kind index cls : Nat) : Block :=
  if (b.part kind index).fault then b
  else if b.int.confQ.length < 8 then
    let t : TestRun := { kind := kind, index := index, left := atLeast1 (b.f F.INT_ST_CFG_REPEAT), confirm := some (if b.is F.INT_CTRL_EN then b.int.rnum else 0),
                         firstCls := cls }
    let b := b.setPart kind index (fun p => { p with cls := cls })
    { b with int := { b.int with confQ := b.int.confQ ++ [t] } }
  else
    let b := b.setPart kind index (fun p => { p with fault := true, test := false, cls := 5 })
    let b := b.updateReport b.int.rnum 5
    (b.raise Ev.INT_CONF_FULL b.intArgs).fenceEvent kind index

/-- A check of a part fails (R315, R320): a report of class TRANSIENT where a rerun delivered the result, else PENDING, and
the part's confirmation. -/
def Block.checkFail (b : Block) (kind index unit op fmt part exp obs ctx : Nat) (recovered : Bool) (selftest : Bool := false)
    (at_ : Option Seen := none) : Block :=
  let cls := if recovered then 1 else 0
  (b.report unit op fmt cls part exp obs ctx selftest recovered 0 at_).confirm kind index cls

/-- An uncorrectable memory word or line (R314): counted by the caller, reported, and UNCORR raised. -/
def Block.memFail (b : Block) (unit op addr : Nat) (exp obs : Nat := 0) : Block :=
  let b := b.report unit op 0 5 0 exp obs addr
  b.raise Ev.INT_UNCORR b.intArgs

/-- A drift adder's failed check is reported (R193, R313, Table 14-5): UNIT 5, the channel as PART; the two residues are open. -/
def Block.driftReport (b : Block) (ch : Nat) : Block :=
  let e := b.fresh
  let o := e.2.fresh
  o.2.report 5 0 0 5 ch (e.1 % 65536) (o.1 % 65536) 0

/-- The reports of the channels whose check has failed. -/
def Block.driftReports (b : Block) : Block :=
  match b.vrd.driftFailed with
  | [] => b
  | l => l.foldl Block.driftReport { b with vrd := { b.vrd with driftFailed := [] } }

end Sys2Proof.Machine
end

