-- ==== Sys2Proof/Machine/Integrity.lean ====
section
/-! DEFINITION. The integrity unit (spec/14_integrity.md, R312 to R326): sensors, memory patrol, self-test, confirmation, shadow
recomputation. -/

namespace Sys2Proof.Machine

/-! Sensors -/

/-- Whether a sample lies outside the range of R312: 0.65 to 0.95 V, -10 to 105 °C (TEMP signed, in 0.125 °C). -/
def outOfRange (temp vdd : Nat) : Bool :=
  let t : Int := if temp % 65536 < 32768 then (temp % 65536 : Nat) else (temp % 65536 : Nat) - 65536
  decide (t < -80) || decide (840 < t) || decide (vdd < 650) || decide (950 < vdd)

/-- R316: a sample of the sensors; RANGE follows it, and its change to 1 raises RANGE. -/
def Block.sensor (b : Block) (temp vdd : Nat) : Block :=
  if b.on dSTEWARD then
    let was := b.is F.INT_STATUS_RANGE
    let now := outOfRange temp (vdd % 65536)
    let b := ((b.setf F.INT_SENSE_TEMP temp).setf F.INT_SENSE_VDD vdd).setb F.INT_STATUS_RANGE now
    b.raiseIf (now && !was) Ev.INT_RANGE b.intArgs
  else b

/-! Self-test -/

/-- The parts in rotation order (Table 14-6): host cores are not among them. -/
def rotation (agg : Bool) : List (Nat × Nat) :=
  if agg then (List.range 64).map (fun i => (0, i)) ++ (List.range 16).map (fun i => (1, i)) ++ (List.range 4).map (fun i => (2, i))
  else [(1, 0), (2, 0)] ++ (List.range 32).map (fun i => (3, i))

/-- The part due in the rotation. -/
def Block.duePart (b : Block) : Nat × Nat :=
  let l := rotation b.syn.agg
  (l[b.int.due % l.length]?).getD (1, 0)

/-- How many parts of a kind the build has (Table 14-6). -/
def partCount (agg : Bool) (units kind : Nat) : Nat :=
  match kind with
  | 0 => if agg then 64 else 0
  | 1 => if agg then 16 else 1
  | 2 => if agg then 4 else 1
  | 3 => if agg then 0 else 32
  | 4 => if agg then 0 else units
  | _ => 0

/-- Whether a part is fenced by any source (R317): a micro-core when all four of its lanes are. -/
def Block.fenced (b : Block) (kind i : Nat) : Bool :=
  match kind with
  | 0 => b.laneFenced (4 * i) && b.laneFenced (4 * i + 1) && b.laneFenced (4 * i + 2) && b.laneFenced (4 * i + 3)
  | 1 => b.tileFenced i
  | 2 => b.engineFenced i
  | 3 => b.groupFenced i
  | _ => b.coreFenced i

/-- Whether a part is the last unfenced one of a kind that has several (R319). -/
def Block.lastOfKind (b : Block) (kind i : Nat) : Bool :=
  let n := partCount b.syn.agg b.syn.hostUnits kind
  n != 1 && !b.fenced kind i && (List.range n).all (fun j => j == i || b.fenced kind j)

/-- Whether a part is idle (Table 14-7). -/
def Block.partIdle (b : Block) (kind i : Nat) : Bool :=
  match kind with
  | 0 => !(b.swm.txns.any (fun t => t.state == 1))
  | 1 => b.hwk.pass.isNone && b.hwk.lpass.isNone
  | 2 => !(b.slk.jobs.any (fun j => j.engine == some i))
  | 3 => !(b.scl.wire.any (fun w => w.group == i))
  | _ => true

/-- The part due leaves the rotation's front (R319). -/
def Block.nextDue (b : Block) : Block := { b with int := { b.int with due := b.int.due + 1, waitSince := none } }

/-- R319: with ST_EN = 1 a part becomes due every PERIOD ms. -/
def Block.selftestDue (b : Block) : Block :=
  if b.on dSTEWARD ∧ b.is F.INT_CTRL_ST_EN ∧ b.int.waitSince.isNone
      ∧ b.int.dueAt + b.us (1000 * atLeast1 (b.f F.INT_ST_CFG_PERIOD)) ≤ b.clk.core then
    { b with int := { b.int with waitSince := some b.clk.core, dueAt := b.clk.core } }
  else b

/-- R319: the due part's test begins when it is idle, one test at a time, confirmations first, never on the last unfenced part
of a kind with several. -/
def Block.selftestStart (b : Block) : Block :=
  let p := b.duePart
  if b.on dSTEWARD ∧ b.int.waitSince.isSome ∧ b.int.running.isNone ∧ b.int.confQ = [] ∧ b.partIdle p.1 p.2
      ∧ ¬ b.lastOfKind p.1 p.2 then
    (((b.setPart p.1 p.2 (fun x => { x with test := true })).nextDue).setRun (some { kind := p.1, index := p.2, left := 1 })).fenceEvent p.1 p.2
  else b

/-- A part not idle within WAIT µs is skipped for this round with ST_SKIP (R319). -/
def Block.selftestWait (b : Block) : Block :=
  match b.int.waitSince with
  | some t =>
    if b.on dSTEWARD ∧ t + b.us (atLeast1 (b.f F.INT_ST_CFG_WAIT)) ≤ b.clk.core then
      let p := b.duePart
      b.nextDue.raise Ev.INT_ST_SKIP [(p.1, 8), (p.2, 16)]
    else b
  | none => b

/-- The unit and operation a failed self-test reports (Table 14-5). -/
def testUnit (kind : Nat) : Nat := kind

/-- The PART a report of a part carries: the first lane of a micro-core, else the index. -/
def reportPart (kind i : Nat) : Nat := if kind = 0 then 4 * i else i

/-- Transients of a part within the last TWIN hours (R320). -/
def Block.recentTrans (b : Block) (p : PartSt) : List Nat :=
  p.trans.filter (fun t => decide (b.clk.aon - t ≤ atLeast1 (b.f F.INT_CLASS_TWIN) * 3600 * 25000000))

/-- A part's runs all passed (R320 step 5): a transient is counted; the class is PERMANENT when the count reaches TLIMIT within TWIN. -/
def Block.countTransient (b : Block) (kind i : Nat) : Nat × Block :=
  let ts := b.clk.aon :: b.recentTrans (b.part kind i)
  let b := b.setPart kind i (fun x => { x with trans := ts })
  (if atLeast1 (b.f F.INT_CLASS_TLIMIT) ≤ ts.length then 2 else 1, b)

/-- A part takes the class that its runs gave it (R320 steps 4 and 5), judged upon report n. -/
def Block.classPart (b : Block) (kind i cls : Nat) (n : Option Nat) : Block :=
  if cls = 2 then b.faultPart kind i 2 n
  else (b.setPart kind i (fun x => { x with test := false, cls := 1 })).raise Ev.INT_TRANSIENT (b.argsOf n)

/-- A confirmation ends with a class (R320): an UPDATE report follows when it differs from the first. -/
def Block.endConfirm (b : Block) (t : TestRun) (pass : Bool) : Block :=
  let b := b.setRun none
  let r : Nat × Block := if pass then b.countTransient t.kind t.index else (2, b)
  let b := r.2.classPart t.kind t.index r.1 t.confirm
  match t.confirm with
  | some n => if r.1 = t.firstCls then b else b.updateReport n r.1
  | none => b

/-- An UNFENCE ends (R321): FAULT clears only when every run passed. -/
def Block.endUnfence (b : Block) (t : TestRun) (pass : Bool) : Block :=
  let b := (b.setRun none).setPart t.kind t.index (fun x => { x with test := false, fault := x.fault && !pass })
  b.raiseIf (!pass) Ev.INT_ST_FAIL b.intArgs

/-- A self-test ends with pass or fail (R319 to R321). -/
def Block.selftestDone (b : Block) (pass : Bool) : Block :=
  match b.int.running with
  | none => b
  | some t =>
    if pass ∧ 1 < t.left then b.setRun (some { t with left := t.left - 1 })
    else if t.unfence then b.endUnfence t pass
    else if t.confirm.isSome then b.endConfirm t pass
    else
      let b := (b.setRun none).setPart t.kind t.index (fun x => { x with test := false })
      if pass then b
      else
        let b := b.checkFail t.kind t.index (testUnit t.kind) 0 0 (reportPart t.kind t.index) 0 0 0 false true
        b.raise Ev.INT_ST_FAIL b.intArgs

/-- The next confirmation, or UNFENCE, begins: TEST is set at once without waiting for idle (R320 step 2, R321). -/
def Block.confirmStart (b : Block) : Block :=
  if b.int.running.isSome ∨ ¬ b.on dSTEWARD then b
  else match b.int.confQ, b.int.unfQ with
    | t :: rest, _ =>
      ((({ b with int := { b.int with confQ := rest } }).setPart t.kind t.index (fun x => { x with test := true })).setRun (some t)).fenceEvent t.kind t.index
    | [], t :: rest =>
      ((({ b with int := { b.int with unfQ := rest } }).setPart t.kind t.index (fun x => { x with test := true })).setRun (some t)).fenceEvent t.kind t.index
    | [], [] => b

/-- Drive SHD_FENCE for a host core (R325). -/
def Block.driveFence (b : Block) (core : Nat) (on : Bool) : Block := { b with pins := { b.pins with shdFence := some (core, on) } }

/-- A write of INT_PART_STAT.UNFENCE (R321): a host core is released at once; another part that holds FAULT runs its self-test
REPEAT times first. -/
def Block.unfence (b : Block) : Block :=
  let k := b.f F.INT_PART_SEL_KIND
  let i := b.f F.INT_PART_SEL_INDEX
  if (b.part k i).fault then
    if k = 4 then (b.setPart k i (fun x => { x with fault := false })).driveFence i false
    else { b with int := { b.int with unfQ := b.int.unfQ ++
            [{ kind := k, index := i, left := atLeast1 (b.f F.INT_ST_CFG_REPEAT), unfence := true }] } }
  else b

/-! Shadow recomputation -/

/-- The next unfenced host core after c, in ascending order with wrap (R324). -/
def Block.nextCore (b : Block) (c : Nat) : Nat :=
  let n := b.syn.hostUnits
  (((List.range n).map (fun i => (c + 1 + i) % n)).find? (fun x => ! b.coreFenced x)).getD c

/-- Whether the Shadow port scrutinises (SHD_TARGET_EN). -/
def Block.shadowOn (b : Block) : Bool := !b.syn.agg && b.on dSTEWARD && b.is F.INT_CTRL_SHD_EN

/-- The lowest tag that no sample uses, of 16 (R323). -/
def freeTag (l : List Sample) : Option Nat := (List.range 16).find? (fun t => ! l.any (fun s => s.tag == t))

/-- Replace a sample. -/
def Block.putSample (b : Block) (x : Sample) : Block :=
  { b with int := { b.int with samples := b.int.samples.map (fun s => if s.tag = x.tag then x else s) } }

/-- End a sample. -/
def Block.dropSample (b : Block) (tag : Nat) : Block :=
  { b with int := { b.int with samples := b.int.samples.filter (fun s => s.tag != tag) } }

/-- R323: every operation presented is taken, one in 2^SHIFT by count is kept for recomputation on the next unfenced core; with
all 16 tags in use the sample is skipped. -/
def Block.shadowOp (b : Block) (cls id digest : Nat) : Block :=
  if ¬ b.shadowOn then b
  else if b.int.opCount + 1 < 2 ^ b.f F.INT_SHD_CFG_SHIFT then { b with int := { b.int with opCount := b.int.opCount + 1 } }
  else
    let b := { b with int := { b.int with opCount := 0 } }
    match freeTag b.int.samples with
    | none => b.count F.INT_SHD_COUNT_LOST
    | some t =>
      let c := b.f F.INT_SHD_STAT_TARGET
      let s : Sample := { core := c, cls := cls % 256, id := id % 2 ^ 48, d0 := digest % 2 ^ 64, step := b.ant.step, tag := t,
                          on := b.nextCore c }
      ({ b with int := { b.int with samples := b.int.samples ++ [s] } }).count F.INT_SHD_COUNT_SAMPLED

/-- The host takes the request shown: that of the oldest sample that waits (Table 14-8). -/
def Block.shadowTaken (b : Block) : Block :=
  match b.int.samples.find? (fun s => s.waiting) with
  | some s => b.putSample { s with waiting := false, asked := some b.clk.core }
  | none => b

/-- R325: a replay of a step is ordered, at most once per step number; whether one was ordered. -/
def Block.orderReplay (b : Block) (step : Nat) : Bool × Block :=
  if b.int.replayed.contains step then (true, b)
  else if b.ant.step - step ≤ b.f F.INT_SHD_CFG_MAXAGE then
    (true, ({ b with int := { b.int with replayed := (step :: b.int.replayed).take 256 },
                     pins := { b.pins with shdReplay := some step } }).raise Ev.INT_REPLAY b.intArgs)
  else (false, b)

/-- The report of a judged host core (R324, Table 14-4). -/
def Block.hostReport (b : Block) (s : Sample) (core cls exp obs : Nat) (replay : Bool) : Block :=
  b.report 4 s.cls 0 cls core exp obs s.id false false (s.step + if replay then 2 ^ 63 else 0)

/-- The reruns of a core end (R324): no bad run classes it TRANSIENT and releases it, else it keeps its fence as FAULT. A
checker's report carries CHECKER. -/
def Block.endJudge (b : Block) (s : Sample) (core right : Nat) (checker : Bool) : Block :=
  let b := b.dropSample s.tag
  let r : Nat × Block := if s.bad = 0 then b.countTransient 4 core else (2, b)
  let b := r.2
  let b := if checker then b.hostReport s core 3 right s.d1 false
    else b.hostReport s core r.1 right s.d0 (b.int.replayed.contains s.step)
  let b := b.raiseIf checker Ev.INT_CHECKER b.intArgs
  (b.classPart 4 core r.1 none).driveFence core (r.1 == 2)

/-- A recomputation result is judged (R324). Stages: 0 the checker's result, 1 the third core's, 2 reruns on the core of the
sample, 3 reruns on the checker. -/
def Block.shadowResult (b : Block) (tag digest : Nat) : Block :=
  match b.int.samples.find? (fun s => s.tag == tag && !s.waiting) with
  | none => b
  | some s =>
    let n := atLeast1 (b.f F.INT_ST_CFG_REPEAT)
    match s.stage with
    | 0 =>
      if digest = s.d0 then b.dropSample tag
      else
        let b := (b.count F.INT_SHD_COUNT_MISMATCH).raise Ev.INT_SHD_MISMATCH b.intArgs
        b.putSample { s with d1 := digest, stage := 1, chk := s.on, on := b.nextCore s.on, waiting := true, asked := none }
    | 1 =>
      let s := { s with d2 := digest }
      if digest = s.d1 then
        let b := (b.orderReplay s.step).2
        let b := (b.setPart 4 s.core (fun x => { x with test := true })).driveFence s.core true
        b.putSample { s with stage := 2, on := s.core, waiting := true, asked := none }
      else if digest = s.d0 then
        let c := s.chk
        let b := (b.setPart 4 c (fun x => { x with test := true })).driveFence c true
        b.putSample { s with stage := 3, on := c, waiting := true, asked := none }
      else (b.dropSample tag).hostReport s s.core 4 s.d1 s.d0 false
    | k =>
      let right := if k = 2 then s.d1 else s.d0
      let s := { s with runs := s.runs + 1, bad := s.bad + if digest = right then 0 else 1 }
      if s.runs < n then b.putSample { s with waiting := true, asked := none }
      else b.endJudge s s.on right (k == 3)

/-- R323: a result not returned within TMO µs counts in LOST, raises SHD_LOST and ends the sample without a finding; a test
fence of its judgement is released. -/
def Block.shadowTimeout (b : Block) (tag : Nat) : Block :=
  match b.int.samples.find? (fun s => s.tag == tag) with
  | some s =>
    match s.asked with
    | some t =>
      if t + b.us (atLeast1 (b.f F.INT_SHD_CFG_TMO)) ≤ b.clk.core then
        let b := (b.dropSample tag).count F.INT_SHD_COUNT_LOST
        let b := if 2 ≤ s.stage then (b.setPart 4 s.on (fun x => { x with test := false })).driveFence s.on false else b
        b.raise Ev.INT_SHD_LOST b.intArgs
      else b
    | none => b
  | none => b

/-- R324: after DWELL steps the target moves to the next unfenced core, never while a sample of the present core is judged. -/
def Block.targetMove (b : Block) : Block :=
  let c := b.f F.INT_SHD_STAT_TARGET
  if b.shadowOn ∧ b.int.dwellStep + atLeast1 (b.f F.INT_SHD_CFG_DWELL) ≤ b.ant.step ∧ ¬ b.int.samples.any (fun s => s.core == c) then
    ({ b with int := { b.int with dwellStep := b.ant.step } }).setf F.INT_SHD_STAT_TARGET (b.nextCore c)
  else b

/-- A read of INT_LAST latches INT_LAST_INFO from the latest report (R326). -/
def Block.intLast (b : Block) : Nat × Block :=
  match b.int.last with
  | none => (b.int.rnum, b)
  | some r =>
    let b := (b.setf F.INT_LAST_INFO_UNIT r.unit).setf F.INT_LAST_INFO_CLASS r.cls
    (r.rnum, (b.setf F.INT_LAST_INFO_OP r.op).setf F.INT_LAST_INFO_PART r.part)

/-- SENSOR_SAMPLE. -/
def execSensorSample (temp vdd : Nat) (s : State) : Host.Outcome State Fault Refusal := s.lift (fun b => b.sensor temp vdd)
/-- SELFTEST_DUE. -/
def execSelftestDue (s : State) : Host.Outcome State Fault Refusal := s.lift Block.selftestDue
/-- SELFTEST_START. -/
def execSelftestStart (s : State) : Host.Outcome State Fault Refusal := s.lift Block.selftestStart
/-- SELFTEST_WAIT_EXPIRE. -/
def execSelftestWaitExpire (s : State) : Host.Outcome State Fault Refusal := s.lift Block.selftestWait
/-- SELFTEST_DONE. -/
def execSelftestDone (pass : Bool) (s : State) : Host.Outcome State Fault Refusal := s.lift (fun b => (b.selftestDone pass).slkGo)
/-- CONFIRMATION_START. -/
def execConfirmationStart (s : State) : Host.Outcome State Fault Refusal := s.lift Block.confirmStart
/-- PART_UNFENCE. -/
def execPartUnfence (m : Master) (s : State) : Host.Outcome State Fault Refusal :=
  s.lift (fun b => b.write m 0xE024 0x4000 Block.unfence)
/-- SCL_FENCE_WRITE: the software fence of each Scales group (R317). -/
def execSclFenceWrite (m : Master) (word : Nat) (s : State) : Host.Outcome State Fault Refusal :=
  s.lift (fun b => b.write m 0xE030 word (fun b => if b.syn.agg then b else b.setf F.INT_SCL_FENCE_FENCE word))
/-- SHADOW_OP. -/
def execShadowOp (cls id digest : Nat) (s : State) : Host.Outcome State Fault Refusal := s.lift (fun b => b.shadowOp cls id digest)
/-- SHADOW_REQUEST_TAKEN. -/
def execShadowRequestTaken (s : State) : Host.Outcome State Fault Refusal := s.lift Block.shadowTaken
/-- SHADOW_RESULT. -/
def execShadowResult (tag digest : Nat) (s : State) : Host.Outcome State Fault Refusal := s.lift (fun b => b.shadowResult tag digest)
/-- SHADOW_TIMEOUT. -/
def execShadowTimeout (tag : Nat) (s : State) : Host.Outcome State Fault Refusal := s.lift (fun b => b.shadowTimeout tag)
/-- SHADOW_TARGET_MOVE. -/
def execShadowTargetMove (s : State) : Host.Outcome State Fault Refusal := s.lift Block.targetMove
/-- INT_LAST_READ. -/
def execIntLastRead (m : Master) (s : State) : Host.Outcome State Fault Refusal := s.lift (fun b => b.read m 0xE050 Block.intLast)

end Sys2Proof.Machine
end

