-- ==== Sys2Proof/Machine/Capture.lean ====
section
/-! DEFINITION. The capture units of a D-role (spec/03_capture_probes_scales.md, R69 to R90): Probe Bus, counters, snapshots,
monitors, lane guards, Scales, wire test. -/

namespace Sys2Proof.Machine

/-! Counters -/

/-- Whether the counter is the high cell of a chained pair (R71, PRB_MAP.SRC). -/
def Block.highCell (b : Block) (i : Nat) : Bool := i % 2 == 1 && b.f (F.PRB_MAP_SRC.ix i) == 2

/-- Whether the counter is the low cell of a chained pair. -/
def Block.lowCell (b : Block) (i : Nat) : Bool := i % 2 == 0 && b.highCell (i + 1)

/-- A counter. -/
def Block.cnt (b : Block) (i : Nat) : Nat := b.prb.cnt.getD i 0

/-- Put a counter, modulo 2^48. -/
def Block.setCnt (b : Block) (i v : Nat) : Block := { b with prb := { b.prb with cnt := b.prb.cnt.putD 0 i (v % 2 ^ 48) } }

/-- Add to a counter (R71): a low cell's carry goes into its high cell in the same cycle. -/
def Block.addCnt (b : Block) (i a : Nat) : Block :=
  let t := b.cnt i + a
  let c := b.setCnt i t
  if b.lowCell i then c.setCnt (i + 1) (b.cnt (i + 1) + t / 2 ^ 48) else c

/-! Lanes -/

/-- The increment a lane presents by its mode (R71). -/
def laneInc (mode v : Nat) (before : Bool) : Nat :=
  match mode with
  | 0 => v
  | 1 => v % 2
  | 2 => if v % 2 = 1 ∧ ¬ before then 1 else 0
  | _ => 0

/-- A field of PRB_LANE_CFG of a lane. -/
def Block.lane (b : Block) (x : Fld) (n : Nat) : Nat := b.f (x.ix n)

/-- One lane's increment in a cycle: its run, its edges, its activity (R82), and the counters that take it (R71). -/
def Block.laneCycle (b : Block) (n v : Nat) (before : Bool) : Block :=
  let mode := b.lane F.PRB_LANE_CFG_MODE n
  let inc := laneInc mode v before
  let r := b.prb.runs.getD n {}
  let run : LaneRun := if inc = 0 then {} else if r.inc = inc then { r with run := r.run + 1 } else { inc := inc, run := 1 }
  let b := { b with prb := { b.prb with
    runs := b.prb.runs.putD {} n run,
    edges := if mode = 2 ∧ inc = 1 then b.prb.edges.upd n 0 (· + 1) else b.prb.edges,
    active := if inc ≠ 0 ∧ n ∉ b.prb.active then n :: b.prb.active else b.prb.active } }
  if b.lane F.PRB_LANE_CFG_FENCE n = 1 ∨ inc = 0 then b
  else ((b.copies F.PRB_MAP_SRC 1).filter (fun i => b.f (F.PRB_MAP_LANE.ix i) == n)).foldl (fun b i => b.addCnt i inc) b

/-- AUTOFENCE (R82): the lane is fenced, FENCED raised when FENCE goes from 0 to 1. -/
def Block.autofence (b : Block) (n : Nat) : Block :=
  if b.is F.PRB_CTRL_AUTOFENCE ∧ b.lane F.PRB_LANE_CFG_FENCE n = 0 then
    (b.setf (F.PRB_LANE_CFG_FENCE.ix n) 1).raise Ev.PRB_FENCED [(n, 16)]
  else b

/-- Set a guard's flag; its event is raised when the flag goes from 0 to 1 (R82). -/
def Block.laneFlag (b : Block) (x : Fld) (ev n : Nat) : Block :=
  if b.lane x n = 1 then b else (b.setf (x.ix n) 1).raise ev [(n, 16)]

/-- FAST (Table 3-5), once an aligned window of 64 cycles of the Probe Bus has ended. -/
def Block.fastWindow (b : Block) : Block :=
  if b.on dPROBE ∧ b.prb.window < b.prb.cyc / 64 then
    let k := b.f F.PRB_GUARD_FAST
    let es := b.prb.edges
    let b := { b with prb := { b.prb with edges := [], window := b.prb.cyc / 64 } }
    es.foldl (fun b p =>
      if k ≠ 0 ∧ k < p.2 ∧ b.lane F.PRB_LANE_CFG_MODE p.1 = 2 then
        (b.laneFlag F.PRB_LANE_CFG_FAST Ev.PRB_FAST p.1).autofence p.1
      else b) b
  else b

/-- The present cycle of the Probe Bus takes lanes: a second set of them is the next cycle's. -/
def Block.laneTurn (b : Block) : Block :=
  { b with prb := { b.prb with cyc := if b.prb.fed then b.prb.cyc + 1 else b.prb.cyc, fed := true } }

/-- One cycle of the Probe Bus (R71): the lanes given present their values, every other lane presents 0. What a window that has ended found is
judged first (R82). -/
def Block.laneCycles (b : Block) (incs : List (Nat × Nat)) : Block :=
  if b.on dPROBE ∧ b.is F.PRB_CTRL_EN then
    let b := b.laneTurn.fastWindow
    let ls := (incs.map (fun p => (p.1 % 2048, p.2 % 16))).foldl (fun (m : SMap Nat) p => m.put p.1 p.2) []
    let was := b.prb.high
    let b := { b with prb := { b.prb with high := (ls.filter (fun p => p.2 % 2 == 1)).map (fun p => p.1),
                                          runs := b.prb.runs.filter (fun p => ls.any (fun q => q.1 == p.1)) } }
    ls.foldl (fun b p => b.laneCycle p.1 p.2 (was.contains p.1)) b
  else b

/-- STUCK (Table 3-5): a run of PRB_GUARD.STUCK × 1,024 cycles; the run starts afresh. -/
def Block.laneStuck (b : Block) (n0 : Nat) : Block :=
  let n := n0 % 2048
  let k := b.f F.PRB_GUARD_STUCK
  if b.on dPROBE ∧ b.lane F.PRB_LANE_CFG_WATCH_STUCK n = 1 ∧ b.lane F.PRB_LANE_CFG_MODE n < 2 ∧ k ≠ 0
      ∧ k * 1024 ≤ (b.prb.runs.getD n {}).run then
    let b := { b with prb := { b.prb with runs := b.prb.runs.del n } }
    (b.laneFlag F.PRB_LANE_CFG_STUCK Ev.PRB_STUCK n).autofence n
  else b

/-! Monitors -/

/-- The histogram bin of a sample (R83). -/
def monBin (v base : Int) (shift : Nat) (log : Bool) : Nat :=
  if v < base then 0
  else
    let d := (v - base).toNat / 2 ^ shift
    if log then min (1 + Nat.log2 (d + 1)) 63 else min (1 + d) 63

/-- A 40-bit sample as the monitor reads it (SIGNED). -/
def sample40 (sgn : Bool) (v : Nat) : Int :=
  let x : Nat := v % 2 ^ 40
  if sgn && decide (2 ^ 39 ≤ x) then (x : Int) - (2 ^ 40 : Nat) else (x : Int)

/-- A monitor takes a sample (R83). -/
def Monitor.sample (m : Monitor) (v base : Int) (shift : Nat) (log : Bool) : Monitor :=
  let k := monBin v base shift log
  { min := if m.count = 0 then v else Min.min m.min v, max := if m.count = 0 then v else Max.max m.max v,
    count := sat 32 (m.count + 1), bins := m.bins.put k (sat 32 (m.bins.getD k 0 + 1)) }

/-- Apply a sample to a monitor that is enabled (R83). -/
def Block.monSample (b : Block) (n v : Nat) : Block :=
  if b.is (F.PRB_MON_CFG_EN.ix n) ∧ b.on dPROBE then
    let sgn := b.is (F.PRB_MON_CFG_SIGNED.ix n)
    let base := sample40 sgn (b.f (F.PRB_MON_BASE_LO_BASE_LO.ix n) + b.f (F.PRB_MON_BASE_HI_BASE_HI.ix n) * 2 ^ 32)
    let m := (b.prb.mons.getD n {}).sample (sample40 sgn v) base (min 39 (b.f (F.PRB_MON_CFG_SHIFT.ix n))) (b.is (F.PRB_MON_CFG_LOG.ix n))
    { b with prb := { b.prb with mons := b.prb.mons.put n m } }
  else b

/-- The source of a monitor: 0 messages, 1 Scales, 2 counter. -/
def Block.monSrc (b : Block) (n : Nat) : Nat :=
  let s := b.f (F.PRB_MON_CFG_SRC.ix n)
  if s = 3 then 0 else s

/-! Probe Messages -/

/-- PRB_MSG_READY (R74). -/
def Block.msgReady (b : Block) : Bool := b.on dPROBE && b.is F.PRB_CTRL_EN && decide (b.prb.msgs.length < 256)

/-- A cycle with PRB_MSG_VALID (R72, R74): the message is taken, or the stalled cycle is counted. A message taken by an empty
queue may be applied from 3 cycles later. -/
def Block.probeMessage (b : Block) (data : Nat) : Block :=
  if b.msgReady then
    let due := if b.prb.msgs = [] then b.clk.core + 3 else b.clk.core
    { b with prb := { b.prb with msgs := b.prb.msgs ++ [(data % 2 ^ 64, due)] } }
  else if b.on dPROBE then
    let n := b.prb.stall + 1
    ({ b with prb := { b.prb with stall := n % 1024 } }).count F.PRB_MSG_STATS_STALL (n / 1024)
  else b

/-- Whether the drain rate allows an application in this cycle (R74): one a cycle, two in five cycles. -/
def drainOk (applied : List Nat) (now : Nat) : Bool :=
  match applied with
  | a :: c :: _ => decide (a < now) && decide (c + 5 ≤ now)
  | [a] => decide (a < now)
  | [] => true

/-- The effect of a message (Table 3-2, R73). -/
def Block.message (b : Block) (data : Nat) : Block :=
  match data / 2 ^ 60 with
  | 0 => b
  | 1 => b.addCnt (bits data 46 14) (data % 2 ^ 40)
  | 2 =>
    if bits data 56 4 ≠ 0 then (b.count F.PRB_MSG_STATS_BAD).raise Ev.PRB_MSG_BAD
    else
      let n := bits data 46 10
      if b.monSrc n = 0 then b.monSample n (data % 2 ^ 40) else b
  | _ => (b.count F.PRB_MSG_STATS_BAD).raise Ev.PRB_MSG_BAD

/-- The head of the message queue is applied (R74). -/
def Block.messageApply (b : Block) : Block :=
  match b.prb.msgs with
  | (d, due) :: rest =>
    if b.on dPROBE ∧ due ≤ b.clk.core ∧ drainOk b.prb.applied b.clk.core then
      ({ b with prb := { b.prb with msgs := rest, applied := (b.clk.core :: b.prb.applied).take 2 } }).message d
    else b
  | [] => b

/-! Snapshots -/

/-- The 8-byte descriptor of a capture record (Table 3-3). -/
def captureDesc (idx cause unit count interval : Nat) : List Byte :=
  leBytes 8 (packItems [(idx, 8), (cause, 3), (unit, 4), (count, 9), (interval, 40)])

/-- Cycles since the last capture of a kind, saturating; 0 for the first (Table 3-3). -/
def interval (last : Option Nat) (now : Nat) : Nat :=
  match last with
  | some t => sat 40 (now - t)
  | none => 0

/-- A counter's share of a delta (R78): a chained pair's difference is formed on its 96 bits. -/
def deltaOf (low high : Nat → Bool) (now prev : Nat → Nat) (i : Nat) : Nat :=
  let pair (f : Nat → Nat) (j : Nat) : Nat := f j + 2 ^ 48 * f (j + 1)
  let d96 (j : Nat) : Nat := (pair now j + 2 ^ 96 - pair prev j) % 2 ^ 96
  if low i then d96 i % 2 ^ 48
  else if high i then d96 (i - 1) / 2 ^ 48
  else (now i + 2 ^ 48 - prev i) % 2 ^ 48

/-- The delta of a counter since the last snapshot taken. -/
def Block.cntDelta (b : Block) (i : Nat) : Nat :=
  deltaOf b.lowCell b.highCell b.cnt (fun j => b.prb.prev.getD j 0) i

/-- Whether a bank is sent RAW (R78). -/
def Block.bankRaw (b : Block) (k : Nat) : Bool := bit (b.f F.PRB_SNAP_CFG_DELTA) k == 0 || b.prb.fresh || bit b.prb.written k == 1

/-- Whether a lane that feeds a counter of the bank was fenced in the interval (Table 3-4). -/
def Block.bankFenced (b : Block) (k : Nat) : Bool :=
  (b.copies F.PRB_MAP_SRC 1).any (fun i =>
    let n := b.f (F.PRB_MAP_LANE.ix i)
    i / 2048 == k && (b.prb.fenced.contains n || b.lane F.PRB_LANE_CFG_FENCE n == 1))

/-- The CNT_SNAP record of a bank (R77, R78). -/
def Block.cntSnap (b : Block) (k idx cause phase wall : Nat) : Rec :=
  let raw := b.bankRaw k
  let vals := (List.range 2048).map (fun i => if raw then b.cnt (2048 * k + i) else b.cntDelta (2048 * k + i))
  let flags := (if raw then 2 else 0) + (if b.bankFenced k then 4 else 0) + (if b.prb.fresh then 8 else 0)
  { b.form (b.rdestQ 0) (b.rdestS 0) 0x10 2 flags 0
      (captureDesc idx cause k 0 (interval b.prb.snapAt b.clk.core) ++ vals.flatMap (leBytes 6)) with phase := phase, wall := wall }

/-- The LOST record of a capture that was not taken (R76, R77). -/
def Block.lostSnap (b : Block) (row typ fmt idx cause phase wall iv : Nat) : Block :=
  b.emitAt (b.rdestQ row) (b.rdestS row) typ fmt 1 0 phase wall (captureDesc idx cause 0 0 iv)

/-- The buffer a capture takes (R76): A when it is free, else B. -/
def freeBuf (l : List Drain) : Nat := if l.any (fun d => d.buf == 0) then 1 else 0

/-- Show the buffers in use (PRB_STATUS). -/
def bufMask (l : List Drain) : Nat := l.foldl (fun a d => a ||| 2 ^ d.buf) 0

/-- The cycles a drain takes. -/
def Drain.length (d : Drain) : Nat := d.per * d.recs.length

/-- Put a drain behind those that wait: it starts when the one before it has ended (R76). -/
def addDrain (l : List Drain) (now per : Nat) (recs : List Rec) : List Drain :=
  l ++ [{ buf := freeBuf l, start := (match l.getLast? with
                                      | some d => max now (d.start + d.length)
                                      | none => now), per := per, recs := recs }]

/-- QUIET (R82), judged at each snapshot taken: a watched lane that presented 0 since the last one. -/
def Block.judgeQuiet (b : Block) : Block :=
  if b.prb.snapAt.isSome then
    ((b.copies F.PRB_LANE_CFG_WATCH_QUIET 1).filter (fun n => ! b.prb.active.contains n)).foldl
      (fun b n => b.laneFlag F.PRB_LANE_CFG_QUIET Ev.PRB_QUIET n) b
  else b

/-- Feed the monitors whose source is a counter of a bank in the snapshot (R83). -/
def Block.feedCounters (b : Block) : Block :=
  ((b.copies F.PRB_MON_CFG_SRC 2).filter (fun n => bit (b.f F.PRB_SNAP_CFG_BANKS) (b.f (F.PRB_MON_CFG_SOURCE.ix n) / 2048) == 1)).foldl
    (fun b n => b.monSample n (min (2 ^ 40 - 1) (b.cntDelta (b.f (F.PRB_MON_CFG_SOURCE.ix n))))) b

/-- A fire with FREEZE = 1 (R75 to R78, R81). -/
def Block.freeze (b : Block) (idx cause phase wall : Nat) : Block :=
  if ¬ b.on dPROBE then b.lostSnap 0 0x10 2 idx cause phase wall 0
  else if 2 ≤ b.prb.drains.length then
    (b.lostSnap 0 0x10 2 idx cause phase wall (interval b.prb.snapAt b.clk.core)).raise Ev.PRB_SNAP_LOST
  else
    let banks := (List.range 8).filter (fun k => bit (b.f F.PRB_SNAP_CFG_BANKS) k == 1)
    let recs := banks.map (fun k => b.cntSnap k idx cause phase wall)
    let b := b.judgeQuiet.feedCounters
    { b with prb := { b.prb with drains := addDrain b.prb.drains b.clk.core 192 recs, prev := b.prb.cnt, snapAt := some b.clk.core,
                                 fresh := false, written := 0, wrote := [], fenced := [], active := [] } }

/-- The 280 bytes of a monitor in a MON_SNAP record (R84). -/
def Block.monEntry (b : Block) (n : Nat) : List Byte :=
  let m := b.prb.mons.getD n {}
  if ¬ b.is (F.PRB_MON_CFG_EN.ix n) ∨ m.count = 0 then List.replicate 276 0 ++ leBytes 4 1
  else
    let ext (x : Int) : Nat := (x % (2 ^ 64 : Nat)).toNat
    let fl := 2 * b.f (F.PRB_MON_CFG_SIGNED.ix n) + 4 * b.f (F.PRB_MON_CFG_LOG.ix n)
    (List.range 64).flatMap (fun i => leBytes 4 (m.bins.getD i 0)) ++ leBytes 8 (ext m.min) ++ leBytes 8 (ext m.max)
      ++ leBytes 4 m.count ++ leBytes 4 fl

/-- The MON_SNAP record of a group (R84). -/
def Block.monSnap (b : Block) (k idx cause phase wall : Nat) : Rec :=
  { b.form (b.rdestQ 1) (b.rdestS 1) 0x11 1 0 0
      (captureDesc idx cause k 0 (interval b.prb.monAt b.clk.core) ++ (List.range 64).flatMap (fun i => b.monEntry (64 * k + i)))
    with phase := phase, wall := wall }

/-- A fire with MON = 1 (R76, R81, R84): monitors with CUMUL = 0 are cleared. -/
def Block.captureMons (b : Block) (idx cause phase wall : Nat) : Block :=
  if ¬ b.on dPROBE then b
  else if 2 ≤ b.prb.mdrains.length then
    (b.lostSnap 1 0x11 1 idx cause phase wall (interval b.prb.monAt b.clk.core)).raise Ev.PRB_MSNAP_LOST
  else
    let gs := (List.range 16).filter (fun k => bit (b.f F.PRB_SNAP_CFG_MGROUPS) k == 1)
    let recs := gs.map (fun k => b.monSnap k idx cause phase wall)
    { b with prb := { b.prb with mdrains := addDrain b.prb.mdrains b.clk.core 280 recs, monAt := some b.clk.core,
                                 mons := b.prb.mons.filter (fun p => b.is (F.PRB_MON_CFG_CUMUL.ix p.1)) } }

/-- The drains of the counters or the monitors. -/
def Block.drains (b : Block) (monitors : Bool) : List Drain := if monitors then b.prb.mdrains else b.prb.drains

/-- Put them. -/
def Block.setDrains (b : Block) (monitors : Bool) (l : List Drain) : Block :=
  if monitors then { b with prb := { b.prb with mdrains := l } } else { b with prb := { b.prb with drains := l } }

/-- The row of Table 10-7 of their records. -/
def drainRow (monitors : Bool) : Nat := if monitors then 1 else 0

/-- The records of a drain that are formed by now (R76). -/
def Drain.formed (d : Drain) (now : Nat) : Nat := min d.recs.length ((now - d.start) / atLeast1 d.per)

/-- The records of a drain up to number n go to their queue; one that a flush found being written is discarded instead, counted, and the flush is
over (R235). -/
def Block.giveTo (b : Block) (q : Nat) (d : Drain) (n : Nat) : Block :=
  ((List.range n).drop d.given).foldl (fun b k =>
    match d.recs[k]? with
    | some r =>
      if d.doomed = some k then
        let q := b.qnum q
        (b.count (F.QUE_DROPS_FLUSHED.ix q)).setQueue q { b.queue q with flushing := false }
      else b.arrive q r
    | none => b) b

/-- The records formed by now go to their queue, while PROBE runs. -/
def Block.giveFormed (b : Block) (monitors : Bool) : Block :=
  if b.on dPROBE then
    let l := b.drains monitors
    let now := b.clk.core
    let b := b.setDrains monitors (l.map (fun d => { d with given := max d.given (d.formed now) }))
    l.foldl (fun b d => b.giveTo (b.rdestQ (drainRow monitors)) d (d.formed now)) b
  else b

/-- A drain ends (R76): its records are in their queue, its buffer frees. -/
def Block.drainDone (b : Block) (monitors : Bool) : Block :=
  match b.drains monitors with
  | d :: rest =>
    if b.on dPROBE ∧ d.start + d.length ≤ b.clk.core then
      (b.setDrains monitors rest).giveTo (b.rdestQ (drainRow monitors)) d d.recs.length
    else b
  | [] => b

/-- A drain is cut off by a reset or switch-off of PROBE (R81): the records formed by then are in their queues, no more are formed. -/
def Block.cutDrains (b : Block) : Block := (b.giveFormed false).giveFormed true

/-- A flush of a queue finds the record that a drain is writing to it (R235): it is doomed. -/
def Block.doomDrain (b : Block) (q : Nat) (monitors : Bool) : Block :=
  if b.qnum (b.rdestQ (drainRow monitors)) = q ∧ b.on dPROBE then
    let now := b.clk.core
    let d1 (d : Drain) : Drain := if d.start < now ∧ d.formed now < d.recs.length then { d with doomed := some (d.formed now) } else d
    b.setDrains monitors ((b.drains monitors).map d1)
  else b

/-- Whether a drain writes a doomed record to a queue. -/
def Block.drainDoomed (b : Block) (q : Nat) (monitors : Bool) : Bool :=
  b.qnum (b.rdestQ (drainRow monitors)) == q && (b.drains monitors).any (fun d => d.doomed.elim false (fun k => decide (d.given ≤ k)))

/-! Live reads and writes -/

/-- The counter PRB_CNT_SEL names. -/
def Block.selCnt (b : Block) : Nat := b.f F.PRB_CNT_SEL_INDEX

/-- A read of PRB_CNT_LO (R79). -/
def Block.cntRead (b : Block) : Nat × Block :=
  let i := b.selCnt
  let h := if b.lowCell i then b.cnt (i + 1) else 0
  (b.cnt i % 2 ^ 32, ((b.setf F.PRB_CNT_HI_CNT_HI (b.cnt i / 2 ^ 32)).setf F.PRB_CNT_X0_HIGH_LO h).setf F.PRB_CNT_X1_HIGH_HI (h / 2 ^ 32))

/-- A write of PRB_CNT_HI applies what was staged (R80). -/
def Block.cntApply (b : Block) (word : Nat) : Block :=
  let i := b.selCnt
  let c := b.setCnt i (b.prb.stLo + word % 2 ^ 16 * 2 ^ 32)
  let c := if b.lowCell i then c.setCnt (i + 1) (b.prb.stX0 + b.prb.stX1 * 2 ^ 32) else c
  { c with prb := { c.prb with written := setBit c.prb.written (i / 2048) 1,
                                wrote := (if b.lowCell i then [i, i + 1] else [i]) ++ c.prb.wrote } }

/-! Scales -/

/-- Whether a channel takes part in a wire test that runs (R87). -/
def Block.testing (b : Block) (ch : Nat) : Bool :=
  b.scl.wire.any (fun w => w.group == ch / 8) && b.is (F.SCL_CH_CFG_WIRE.at ch)

/-- The channels of a group that take part in wire tests. -/
def Block.wireChans (b : Block) (g : Nat) : List Nat :=
  ((List.range 8).map (fun i => 8 * g + i)).filter (fun c => b.is (F.SCL_CH_CFG_WIRE.at c))

/-- The age of a channel's code in µs, saturating (R85). -/
def Block.sclAge (b : Block) (c : SclCh) : Nat :=
  match c.at_ with
  | some t => sat 8 ((b.clk.aon - t) / 25)
  | none => 255

/-- The flags of a channel (Table 3-6, R318). -/
def Block.sclFlags (b : Block) (ch : Nat) : Nat :=
  let c := b.scl.ch.getD ch {}
  let g := ch / 8
  let opn := bit (b.f (F.SCL_FAULT_OPEN.at g)) (ch % 8) == 1 || b.is (F.SCL_FAULT_RETURN.at g)
  let tst := b.testing ch || (b.part 3 g).test
  (if c.glitch then 1 else 0) + (if opn then 2 else 0) + 4 * bit (b.f (F.SCL_FAULT_SHORT.at g)) (ch % 8) + (if tst then 8 else 0)
    + (if b.sclAge c = 255 then 16 else 0) + (if c.at_.isNone then 32 else 0)

/-- SCL_CH_DATA[n] (R85): code, age, flags. -/
def Block.sclWord (b : Block) (ch : Nat) : Nat :=
  let c := b.scl.ch.getD ch {}
  c.code + b.sclAge c * 2 ^ 16 + b.sclFlags ch * 2 ^ 24

/-- A fire with SCL = 1 (R86). While SCALES is off every entry is flagged NONE. Whether the record of such a fire counts as taken no rule says: its
INTERVAL is measured from the last one before, and it does not start the measure anew (DESIGN CHOICE, log entry 137). -/
def Block.sclRead (b : Block) (idx cause phase wall : Nat) : Block :=
  let off := b.dom dSCALES == 0 || b.dom dSCALES == 3 || b.pwr.held.contains dSCALES
  let chs := (List.range 256).filter (fun c => b.is (F.SCL_CH_CFG_REPORT.at c))
  let es := chs.flatMap (fun c => leBytes 4 (if off then 0x30FF0000 else b.sclWord c))
  let pad : List Byte := if chs.length % 2 = 1 then leBytes 4 0 else []
  let b := b.emitAt (b.rdestQ 2) (b.rdestS 2) 0x12 0 0 0 phase wall
    (captureDesc idx cause 0 chs.length (interval b.scl.readAt b.clk.core) ++ es ++ pad)
  if off then b else { b with scl := { b.scl with readAt := some b.clk.core } }

/-- Whether a conversion that starts now is flagged GLITCH (R89). -/
def Block.glitchy (b : Block) (ch code : Nat) : Bool :=
  let hold := match b.scl.fellAt with
    | some t => decide (b.clk.aon ≤ t + aonUs (b.f F.SCL_GLITCH_HOLD))
    | none => false
  let slew := match (b.scl.ch.getD ch {}).lastCode with
    | some c => b.is (F.SCL_CH_CFG_SLEW.at ch) && decide (b.f F.SCL_GLITCH_SLEW < (max c code - min c code))
    | none => false
  b.scl.transient || hold || slew

/-- A conversion of a channel (R85, R89): kept and fed to monitors, or, for a wire test, only compared with the one before. -/
def Block.convert (b : Block) (ch code : Nat) (test : Bool) : Block :=
  let g := b.glitchy ch code
  let c := b.scl.ch.getD ch {}
  let c : SclCh := if test then { c with lastCode := some code } else { code := code, at_ := some b.clk.aon, glitch := g, lastCode := some code }
  let b := { b with scl := { b.scl with ch := b.scl.ch.put ch c } }
  let b := b.raiseIf g Ev.SCL_GLITCH
  if test ∨ b.sclFlags ch % 16 ≠ 0 then b
  else ((b.copies F.PRB_MON_CFG_SRC 1).filter (fun n => bits (b.f (F.PRB_MON_CFG_SOURCE.ix n)) 0 8 == ch)).foldl
    (fun b n => b.monSample n code) b

/-- The length of the scan list: values above 256 act as 256. -/
def Block.scanLen (b : Block) : Nat := min 256 (b.f F.SCL_CTRL_LEN)

/-- The channel of scan slot n; a slot's reset value is its own number. -/
def scanFld (n : Nat) : Fld := ⟨0x3400 + 4 * n, 0, 8, n⟩

/-- The converter converts the next slot, one per µs (R85); a slot of a channel under test, or of a fenced group, converts
nothing (R87, R318). -/
def Block.conversion (b : Block) (code : Nat) : Block :=
  let due := match b.scl.last with
    | some t => decide (t + 25 ≤ b.clk.aon)
    | none => true
  if b.on dSCALES ∧ b.scanLen ≠ 0 ∧ due = true then
    let n := b.scl.slot % b.scanLen
    let ch := b.f (scanFld n)
    let b := { b with scl := { b.scl with slot := (n + 1) % b.scanLen, last := some b.clk.aon } }
    if b.testing ch ∨ b.groupFenced (ch / 8) then b else b.convert ch (code % 65536) false
  else b

/-! Wire test -/

/-- Show the wire test (SCL_STATUS). -/
def Block.showWire (b : Block) : Block :=
  ((b.setf F.SCL_STATUS_GROUP b.scl.group).setb F.SCL_STATUS_TESTING b.scl.wire.isSome).setb F.SCL_STATUS_CANDIDATE b.scl.cand.isSome

/-- Convert the channels of a wire test (R87); a GLITCH in them will discard it (R88). -/
def Block.wireCodes (b : Block) (chs codes : List Nat) : Bool × Block :=
  (chs.zip (codes ++ List.replicate 8 0)).foldl (fun (r : Bool × Block) p =>
    (r.1 || r.2.glitchy p.1 (p.2 % 65536), r.2.convert p.1 (p.2 % 65536) true)) (false, b)

/-- A wire test falls due (R87): the group's self-test is abandoned (R319), a fenced group is skipped (R318), else the
channels are converted with the bias off and the bias is switched on. -/
def Block.wireStart (b : Block) (codes : List Nat) : Block :=
  if b.on dSCALES ∧ b.is F.SCL_CTRL_WIRE_EN ∧ b.scl.wire = none
      ∧ b.scl.wireAt + aonUs (1000 * atLeast1 (b.f F.SCL_WIRE_PERIOD)) ≤ b.clk.aon then
    let g := b.scl.group
    let b := ({ b with scl := { b.scl with wireAt := b.clk.aon } }).abandonTest 3 g
    if b.groupFenced g then ({ b with scl := { b.scl with group := (g + 1) % 32, cand := none } }).showWire
    else
      let r := b.wireCodes (b.wireChans g) codes
      let b := r.2
      let w : Wire := { group := g, since := b.clk.aon, off := codes.map (· % 65536), abort := r.1 || b.scl.transient }
      ({ b with scl := { b.scl with wire := some w } }).showWire
  else b

/-- SCL_WIRE.SETTLE in CLK_AON cycles. -/
def Block.settle (b : Block) : Nat := aonUs (b.f F.SCL_WIRE_SETTLE)

/-- SETTLE µs later the channels are converted with the bias on, which is then switched off (R87). -/
def Block.wireSettled (b : Block) (codes : List Nat) : Block :=
  match b.scl.wire with
  | some w =>
    if b.on dSCALES ∧ w.step = 1 ∧ w.since + b.settle ≤ b.clk.aon then
      let r := b.wireCodes (b.wireChans w.group) codes
      let b := r.2
      { b with scl := { b.scl with wire := some { w with step := 2, since := b.clk.aon, on := codes.map (· % 65536), abort := w.abort || r.1 } } }
    else b
  | none => b

/-- The result of a group from the differences of its testing channels (R87, Table 3-7). -/
def wireResult (ds : List (Nat × Int)) (hi lo : Int) : WireResult :=
  let isOpen (d : Int) : Bool := decide (hi < d)
  let isShort (d : Int) : Bool := !isOpen d && decide (d < lo)
  let mask (p : Int → Bool) : Nat := ds.foldl (fun a d => if p d.2 then a + 2 ^ (d.1 % 8) else a) 0
  let all := ds.all (fun d => isOpen d.2)
  if all ∧ 2 ≤ ds.length then { ret := true }
  else { opens := mask isOpen, shorts := mask isShort, ambig := all && ds.length == 1 }

/-- SCL_FAULT[g] as a result. -/
def Block.standing (b : Block) (g : Nat) : WireResult :=
  { opens := b.f (F.SCL_FAULT_OPEN.at g), shorts := b.f (F.SCL_FAULT_SHORT.at g), ret := b.is (F.SCL_FAULT_RETURN.at g),
    ambig := b.is (F.SCL_FAULT_AMBIG.at g) }

/-- The word of SCL_FAULT[g]. -/
def WireResult.word (r : WireResult) : Nat :=
  r.opens + r.shorts * 256 + (if r.ret then 65536 else 0) + (if r.ambig then 131072 else 0)

/-- Store a confirmed result (R88). -/
def Block.storeWire (b : Block) (g : Nat) (r : WireResult) : Block :=
  let b := (((b.setf (F.SCL_FAULT_OPEN.at g) r.opens).setf (F.SCL_FAULT_SHORT.at g) r.shorts).setb (F.SCL_FAULT_RETURN.at g) r.ret).setb
    (F.SCL_FAULT_AMBIG.at g) r.ambig
  b.raise (if r = {} then Ev.SCL_WIRE_CLEAR else Ev.SCL_WIRE_FAULT) [(g, 8), (r.word, 32)]

/-- The end of a wire test (R87, R88): discarded, or its result stands, becomes a candidate, or is confirmed. -/
def Block.wireDone (b : Block) : Block :=
  match b.scl.wire with
  | some w =>
    if b.on dSCALES ∧ w.step = 2 ∧ w.since + b.settle ≤ b.clk.aon then
      let chs := b.wireChans w.group
      let ds := chs.zip ((w.on ++ List.replicate 8 0).zipWith (fun (x y : Nat) => (x : Int) - (y : Int)) (w.off ++ List.replicate 8 0))
      let r := wireResult ds (signed 16 (b.f F.SCL_WIRE_LIM_HI)) (signed 16 (b.f F.SCL_WIRE_LIM_LO))
      let b := { b with scl := { b.scl with wire := none } }
      if w.abort ∨ b.scl.transient then (b.raise Ev.SCL_TEST_ABORT).showWire
      else if r = b.standing w.group then
        ({ b with scl := { b.scl with cand := none, group := (w.group + 1) % 32 } }).showWire
      else if b.scl.cand = some r then
        (({ b with scl := { b.scl with cand := none, group := (w.group + 1) % 32 } }).storeWire w.group r).showWire
      else ({ b with scl := { b.scl with cand := some r } }).showWire
    else b
  | none => b

/-- SCL_TRANSIENT changes (R89): a rise raises TRANSIENT and discards a wire test in progress (R88); a fall starts HOLD. -/
def Block.transient (b : Block) (level : Bool) : Block :=
  if level = b.scl.transient then b
  else if level then
    let w := b.scl.wire.map (fun w => { w with abort := true })
    ({ b with scl := { b.scl with transient := true, wire := w } }).raiseIf (b.on dSCALES) Ev.SCL_TRANSIENT
  else { b with scl := { b.scl with transient := false, fellAt := some b.clk.aon } }

/-! Meanings (the capture units exist only in the D build, R69) -/

/-- Act in the D build only. -/
def Block.dOnly (b : Block) (f : Block → Block) : Block := if b.syn.agg then b else f b

/-- LANE_INCREMENT. -/
def execLaneIncrement (incs : List (Nat × Nat)) (s : State) : Host.Outcome State Fault Refusal :=
  s.lift (fun b => b.dOnly (fun b => b.laneCycles incs))
/-- PROBE_MESSAGE. -/
def execProbeMessage (data : Nat) (s : State) : Host.Outcome State Fault Refusal := s.lift (fun b => b.dOnly (fun b => b.probeMessage data))
/-- MESSAGE_APPLY. -/
def execMessageApply (s : State) : Host.Outcome State Fault Refusal := s.lift (fun b => b.dOnly Block.messageApply)
/-- SNAPSHOT_DRAIN_DONE. -/
def execSnapshotDrainDone (monitors : Bool) (s : State) : Host.Outcome State Fault Refusal :=
  s.lift (fun b => b.dOnly (fun b => b.drainDone monitors))
/-- COUNTER_READ: a read of PRB_CNT_LO. -/
def execCounterRead (m : Master) (s : State) : Host.Outcome State Fault Refusal :=
  s.lift (fun b => b.read m 0x2024 (fun b => if b.syn.agg then (0, b) else b.cntRead))
/-- COUNTER_APPLY: a write of PRB_CNT_HI. -/
def execCounterApply (m : Master) (word : Nat) (s : State) : Host.Outcome State Fault Refusal :=
  s.lift (fun b => b.write m 0x2028 word (fun b => b.dOnly (fun b => b.cntApply word)))
/-- LANE_STUCK. -/
def execLaneStuck (lane : Nat) (s : State) : Host.Outcome State Fault Refusal := s.lift (fun b => b.dOnly (fun b => b.laneStuck lane))
/-- FAST_WINDOW_END. -/
def execFastWindowEnd (s : State) : Host.Outcome State Fault Refusal := s.lift (fun b => b.dOnly Block.fastWindow)
/-- SCALES_CONVERSION. -/
def execScalesConversion (code : Nat) (s : State) : Host.Outcome State Fault Refusal := s.lift (fun b => b.dOnly (fun b => b.conversion code))
/-- WIRE_TEST_START. -/
def execWireTestStart (codes : List Nat) (s : State) : Host.Outcome State Fault Refusal :=
  s.lift (fun b => b.dOnly (fun b => b.wireStart codes))
/-- WIRE_BIAS_SETTLED. -/
def execWireBiasSettled (codes : List Nat) (s : State) : Host.Outcome State Fault Refusal :=
  s.lift (fun b => b.dOnly (fun b => b.wireSettled codes))
/-- WIRE_TEST_DONE. -/
def execWireTestDone (s : State) : Host.Outcome State Fault Refusal := s.lift (fun b => b.dOnly Block.wireDone)
/-- SCALES_TRANSIENT. -/
def execScalesTransient (level : Bool) (s : State) : Host.Outcome State Fault Refusal := s.lift (fun b => b.dOnly (fun b => b.transient level))

end Sys2Proof.Machine
end

