-- ==== Sys2Proof/Machine/Time.lean ====
section
/-! DEFINITION. Wall time (spec/02_antenna_phase_time.md, R55 to R62, R67): the time parent, SYNC and peer delay, offset, slew, step,
load, holdover, epoch markers. -/

namespace Sys2Proof.Machine

/-! Units of time -/

/-- 1/16 UI (1.953125 ps) in units of `fine`. -/
def Block.sixteenth (b : Block) : Nat := b.syn.coreMHz * 2 ^ 31

/-- The modulus of `fine`: 88 bits of 2^-40 s (R15). -/
def Block.fineMod (b : Block) : Nat := 2 ^ 88 * (b.syn.coreMHz * 10 ^ 9)

/-- Internal time in whole seconds (R62). -/
def Block.seconds (b : Block) : Nat := b.wall88 / 2 ^ 40

/-- Internal time in whole µs, counted from zero seconds (R55). -/
def Block.nowUs (b : Block) : Nat := b.wall88 * 10 ^ 6 / 2 ^ 40

/-- Add a signed amount to internal time, modulo 2^48 s. -/
def Block.addFine (b : Block) (d : Int) : Block :=
  { b with ant := { b.ant with fine := (((b.ant.fine : Int) + d) % (b.fineMod : Int)).toNat } }

/-- TIME_VALID. -/
def Block.timeValid (b : Block) : Bool := b.is F.ANT_STATUS_TIME_VALID

/-! Epoch markers (R62, R67) -/

/-- Emit an EPOCH_MARK with a cause and, for cause 1, the offset applied. -/
def Block.epochMark (b : Block) (cause : Nat) (offset : Int) : Block :=
  b.emitRow 4 0x01 3 0 0 (leBytes 6 (b.seconds % 2 ^ 48) ++ leBytes 1 cause ++ leBytes 1 0 ++ leBytes 8 (satSigned 64 offset))

/-- The period of 2^20 s that internal time stands in. -/
def Block.markPeriod (b : Block) : Nat := b.seconds / 2 ^ 20

/-- R62: whenever the low 20 bits of seconds become 0, a periodic marker, whether or not time is valid. -/
def Block.epochPeriodic (b : Block) : Block :=
  if b.on dANTENNA ∧ b.ant.epochMark ≠ b.markPeriod then
    ({ b with ant := { b.ant with epochMark := b.markPeriod } }).epochMark 3 0
  else b

/-! Steps and loads -/

/-- Whether WALL has reached AT (R65). -/
def wallReached (wall at_ : Nat) : Bool := decide ((wall + 2 ^ 64 - at_ % 2 ^ 64) % 2 ^ 64 < 2 ^ 63)

/-- Armed time slots that a forward step passes fire late (R65). -/
def lateByStep (before after : Nat) (l : Launch) : Launch :=
  if l.kind = 2 ∧ ¬ wallReached before l.trig ∧ wallReached after l.trig then { l with late := true } else l

/-- The same over all armed slots. -/
def lateSlots (before after : Nat) (m : SMap Launch) : SMap Launch := List.map (fun p => (p.1, lateByStep before after p.2)) m

/-- Time has been stepped or loaded from the time it had before: a slew is abandoned (R59), due instants that were jumped over
fire nothing (R55), and one on which time lands exactly fires nothing either, as when TWB_EN or PERIOD is written on one: the rule names only
those jumped over (DESIGN CHOICE, log entry 136); time slots that were passed are late (R65), HOLDOVER is cleared, and one marker is emitted (R62). -/
def Block.jumped (b : Block) (before cause : Nat) (offset : Int) (validate : Bool) : Block :=
  let first := validate && !b.timeValid
  let b := { b with ant := { b.ant with slew := 0, slewEnd := false, twbFrom := b.nowUs, epochMark := b.markPeriod,
                                        launches := lateSlots before b.wall b.ant.launches } }
  let b := b.setf F.ANT_STATUS_HOLDOVER 0
  if first then (b.setf F.ANT_STATUS_TIME_VALID 1).epochMark 0 0 else b.epochMark cause offset

/-- ANT_OFFSET as a signed number of 1/16 UI. -/
def Block.offset (b : Block) : Int := signed 32 (b.f F.ANT_OFFSET_OFFSET)

/-- ANT_TIME_STEP.STEP (R62): ANT_OFFSET is added to time; at the root the first step sets TIME_VALID. -/
def Block.timeStep (b : Block) : Block :=
  (b.addFine (b.offset * (b.sixteenth : Int))).jumped b.wall 1 b.offset b.noParent

/-- The time in ANT_TIME_SET_LO, _MID and _HI, in units of 2^-40 s. -/
def Block.timeSet (b : Block) : Nat :=
  b.f F.ANT_TIME_SET_LO_FRAC_LO + b.f F.ANT_TIME_SET_MID_FRAC_HI * 2 ^ 32 + b.f F.ANT_TIME_SET_MID_SEC_LO * 2 ^ 40
    + b.f F.ANT_TIME_SET_HI_SEC_HI * 2 ^ 64

/-- ANT_TIME_STEP.LOAD (R62): where there is no time parent, the whole internal time is replaced; ignored elsewhere. -/
def Block.timeLoad (b : Block) : Block :=
  if b.noParent then
    ({ b with ant := { b.ant with fine := b.timeSet * (b.syn.coreMHz * 10 ^ 9) } }).jumped b.wall 2 0 true
  else b

/-! The time parent -/

/-- The time children's ports (R56, R57): the next D-role on the chain; of an aggregator the ACTIVE ports below, and of the root
the standby's mirror link too. -/
def Block.childPorts (b : Block) : List Nat :=
  if b.syn.agg then
    let down := b.kl.ports.keys.filter (fun n => decide (n < 128))
    let mirror := if b.fab.topo.isRoot then [if (b.port 130).declared then 131 else 130] else []
    (down ++ mirror).filter (fun n => (b.port n).state == 2)
  else [1 - b.upPort].filter (fun n => (b.port n).state == 2)

/-- SYNC every 32 µs to each time child while TIME_VALID = 1 (R57). -/
def Block.syncSend (b : Block) : Block :=
  if b.on dANTENNA ∧ b.timeValid ∧ b.ant.sentAt + b.us 32 ≤ b.clk.core then
    let b := { b with ant := { b.ant with sentAt := b.clk.core } }
    b.childPorts.foldl (fun b n => b.sendMsg n (.sync 0 b.stampUi (b.f F.ANT_RATE_RATE) b.timeValid)) b
  else b

/-- Every 1 ms a child starts a peer-delay exchange with its parent (R57). -/
def Block.pdelayReq (b : Block) : Block :=
  match b.parentPort with
  | some n =>
    if b.on dANTENNA ∧ b.ant.reqAt + b.us 1000 ≤ b.clk.core ∧ (b.port n).state = 2 then
      let q := b.ant.exSeq + 1
      ({ b with ant := { b.ant with reqAt := b.clk.core, exSeq := q, exOut := some (q, b.stampUi) } }).sendMsg n (.pdelayReq q b.stampUi)
    else b
  | none => b

/-- A parent answers whatever its TIME_VALID (R57); a replayed request is not used (R212). -/
def Block.pdelayAnswer (b : Block) (port seq t2 : Nat) (rpl : Bool) : Block :=
  let b := b.unstage port 2
  if b.on dANTENNA ∧ ¬ rpl then b.sendMsg port (.pdelayResp seq 0 t2 b.stampUi) else b

/-- The child takes the delay of an exchange that nothing disturbed, keeping the last 8 (R57, R58). -/
def Block.pdelayTake (b : Block) (port seq t2 t3 t4 : Nat) (disturbed : Bool) : Block :=
  let b := b.unstage port 2
  match b.ant.exOut with
  | some (q, t1) =>
    if b.on dANTENNA ∧ b.parentPort = some port ∧ q = seq then
      let d2 : Int := ((t4 : Int) - t1) - ((t3 : Int) - t2)
      { b with ant := { b.ant with exOut := none, exch := if disturbed then b.ant.exch else (d2 :: b.ant.exch).take 8 } }
    else b
  | none => b

/-- A of the receiving port: BOARD + INTERNAL, in 1/16 UI (R58). -/
def Block.asym (b : Block) (port : Nat) : Int :=
  let n := asymIndex b.syn.agg port
  signed 16 (b.f (F.ANT_ASYM_BOARD.at n)) + signed 16 (b.f (F.ANT_ASYM_INTERNAL.at n))

/-- θ in 1/16 UI (R58): Ts + mean delay + A/2 − Tr. What does not come out as a whole number of 1/16 UI is taken down or up
freely: the spec states no rounding (log entry 21). -/
def theta (ts tr : Nat) (exch : List Int) (a : Int) (up : Nat) : Int :=
  let n : Int := exch.length
  let num := 32 * n * ((ts : Int) - tr) + 16 * exch.foldl (· + ·) 0 + a * n
  let q := num / (2 * n)
  if num % (2 * n) = 0 then q else q + (up % 2 : Nat)

/-- ANT_JUMP.THRESH in 1/16 UI: units of 31.25 ns, 0 as 1. -/
def Block.jumpLimit (b : Block) : Int := ((atLeast1 (b.f F.ANT_JUMP_THRESH) * 16000 : Nat) : Int)

/-- A θ is applied (R59, R60): the first as a step, one within ANT_JUMP.THRESH as the slew, one above it is refused. -/
def Block.applyTheta (b : Block) (th : Int) : Block :=
  if ¬ b.timeValid then (b.addFine (th * (b.sixteenth : Int))).jumped b.wall 0 0 true
  else if th.natAbs ≤ b.jumpLimit.toNat then
    ({ b with ant := { b.ant with slew := th * (b.sixteenth : Int), slewEnd := false } }).setf F.ANT_STATUS_HOLDOVER 0
  else (b.setf F.ANT_STATUS_HOLDOVER 1).raise Ev.ANT_JUMP_REFUSED

/-- A SYNC of the time parent (R58 to R60): that it arrived counts for R60 (log entry 30); it is discarded where it is a replay and while no
exchange is kept; else θ is formed, shown and applied. -/
def Block.syncTake (b : Block) (port ts tr : Nat) (rpl : Bool) : Block :=
  let b := b.unstage port 2
  if ¬ b.on dANTENNA ∨ b.parentPort ≠ some port then b
  else if rpl ∨ b.ant.exch = [] then { b with ant := { b.ant with syncAt := b.clk.core } }
  else
    let th := theta ts tr b.ant.exch (b.asym port) b.fresh.1
    let b := b.fresh.2
    (({ b with ant := { b.ant with syncAt := b.clk.core } }).setf F.ANT_OFFSET_OFFSET (satSigned 32 th)).applyTheta th

/-- No SYNC for 128 µs (R60). -/
def Block.syncTimeout (b : Block) : Block :=
  if b.on dANTENNA ∧ ¬ b.noParent ∧ b.ant.syncAt + b.us 128 ≤ b.clk.core then b.setf F.ANT_STATUS_HOLDOVER 1 else b

/-- Whether the port of an ANT_ASYM register is in training. -/
def Block.asymTrains (b : Block) (n : Nat) : Bool :=
  let p := b.port (if b.syn.agg then 128 + n else n)
  p.state == 1 || p.state == 3

/-- INTERNAL of a port is measured every 1 ms, and at each training (R58). -/
def Block.asymMeasure (b : Block) (n value : Nat) : Block :=
  if b.on dANTENNA ∧ n < (if b.syn.agg then 4 else 2) ∧ ((b.ant.asymAt[n]?).getD 0 + b.us 1000 ≤ b.clk.core ∨ b.asymTrains n) then
    ({ b with ant := { b.ant with asymAt := setAt b.ant.asymAt n b.clk.core } }).setf (F.ANT_ASYM_INTERNAL.at n) value
  else b

/-- The slew comes to the last of its θ, what one cycle can take: the next cycle absorbs it, and time runs at the rate of ANT_RATE alone from
there (R59); a slew with more than that left goes on. -/
def Block.slewAbsorbed (b : Block) : Block :=
  if b.on dANTENNA ∧ b.ant.slew.natAbs ≤ 2 ^ 40 then { b with ant := { b.ant with slewEnd := true } } else b

/-- Internal time runs on for one CLK_CORE cycle (R61), and a slew takes off some of what remains of θ, at most 1,000 ppm of the
cycle (R59): how much of that is a free value (log entry 22), but the last of it is taken whole. -/
def Block.runTime (b : Block) : Block :=
  if b.on dANTENNA then
    let rate : Int := signed 32 (b.f F.ANT_RATE_RATE)
    let b := b.addFine (1000 * (((2 ^ 40 : Nat) : Int) + rate))
    if b.ant.slew = 0 then b
    else if b.ant.slewEnd ∧ b.ant.slew.natAbs ≤ 2 ^ 40 then ({ b with ant := { b.ant with slew := 0, slewEnd := false } }).addFine b.ant.slew
    else
      let r := b.fresh
      let most := min b.ant.slew.natAbs (2 ^ 40)
      let part : Int := ((r.1 % (most + 1) : Nat) : Int) * (if b.ant.slew < 0 then -1 else 1)
      ({ r.2 with ant := { r.2.ant with slew := r.2.ant.slew - part } }).addFine part
  else b

/-! Meanings -/

/-- SYNC_SEND. -/
def execSyncSend (s : State) : Host.Outcome State Fault Refusal := s.lift Block.syncSend
/-- SYNC_RECEIVED. -/
def execSyncReceived (port ts tr : Nat) (rpl : Bool) (s : State) : Host.Outcome State Fault Refusal :=
  s.lift (fun b => b.syncTake port ts tr rpl)
/-- PDELAY_REQ_SEND. -/
def execPdelayReqSend (s : State) : Host.Outcome State Fault Refusal := s.lift Block.pdelayReq
/-- PDELAY_REQ_RECEIVED. -/
def execPdelayReqReceived (port seq t2 : Nat) (rpl : Bool) (s : State) : Host.Outcome State Fault Refusal :=
  s.lift (fun b => b.pdelayAnswer port seq t2 rpl)
/-- PDELAY_RESP_RECEIVED. -/
def execPdelayRespReceived (port seq t2 t3 t4 : Nat) (disturbed : Bool) (s : State) : Host.Outcome State Fault Refusal :=
  s.lift (fun b => b.pdelayTake port seq t2 t3 t4 disturbed)
/-- SYNC_TIMEOUT. -/
def execSyncTimeout (s : State) : Host.Outcome State Fault Refusal := s.lift Block.syncTimeout
/-- ASYM_MEASURE. -/
def execAsymMeasure (n value : Nat) (s : State) : Host.Outcome State Fault Refusal := s.lift (fun b => b.asymMeasure n value)
/-- TIME_STEP: a write of 1 to ANT_TIME_STEP.STEP alone (R62, R396). -/
def execTimeStep (m : Master) (s : State) : Host.Outcome State Fault Refusal := s.lift (fun b => b.write m 0x104C 1 Block.timeStep)
/-- A read of ANT_TIME_LO (R46): the low word is answered; the others are latched in the same cycle. -/
def Block.timeLo (b : Block) : Nat × Block :=
  (b.wall88 % 2 ^ 32, ((b.setf F.ANT_TIME_MID_FRAC_HI (bits b.wall88 32 8)).setf F.ANT_TIME_MID_SEC_LO (bits b.wall88 40 24)).setf
    F.ANT_TIME_HI_SEC_HI (bits b.wall88 64 24))
/-- A read of ANT_PHASE_LO (R46): likewise for the phase. -/
def Block.phaseLo (b : Block) : Nat × Block := (b.phase % 2 ^ 32, b.setf F.ANT_PHASE_HI_PHASE_HI (bits b.phase 32 32))
/-- TIME_LOAD: a write of 1 to ANT_TIME_STEP.LOAD alone (R62, R396). -/
def execTimeLoad (m : Master) (s : State) : Host.Outcome State Fault Refusal := s.lift (fun b => b.write m 0x104C 2 Block.timeLoad)
/-- EPOCH_MARK_PERIODIC. -/
def execEpochMarkPeriodic (s : State) : Host.Outcome State Fault Refusal := s.lift Block.epochPeriodic
/-- SLEW_ABSORBED. -/
def execSlewAbsorbed (s : State) : Host.Outcome State Fault Refusal := s.lift Block.slewAbsorbed
/-- TIME_LO_READ. -/
def execTimeLoRead (m : Master) (s : State) : Host.Outcome State Fault Refusal := s.lift (fun b => b.read m 0x1030 Block.timeLo)
/-- PHASE_LO_READ. -/
def execPhaseLoRead (m : Master) (s : State) : Host.Outcome State Fault Refusal := s.lift (fun b => b.read m 0x1010 Block.phaseLo)

end Sys2Proof.Machine
end

