-- ==== Sys2Proof/Machine/Swarm.lean ====
section
/-! DEFINITION. Swarm (spec/06_swarm.md, R132 to R156): collectives, batches, the contributions of a D-role, the transaction table of
an aggregator, reduction, the root's decision, END. -/

namespace Sys2Proof.Machine

/-! Collectives -/

/-- One instruction added to a program (Table 6-3). -/
def Prog.step (p : Prog) (w : Nat) : Prog :=
  let op := bits w 26 6
  if op = 1 then { p with filter := w % 256 }
  else if op = 2 then { p with lateness := true }
  else if 3 ≤ op ∧ op ≤ 9 then { p with op := op, fmt := bits w 22 4, key := signed 16 (w % 65536) }
  else p

/-- The instructions of a program up to its EMIT. -/
def untilEmit (ws : List Nat) : List Nat := ws.takeWhile (fun w => bits w 26 6 != 10)

/-- The program that begins at a word of the program store (R138). -/
def Block.prog (b : Block) (a : Nat) : Prog :=
  (untilEmit ((List.range 4).map (fun i => b.f (F.SWM_PROG_DATA_WORD.ix ((a + i) % 4096))))).foldl Prog.step {}

/-- Whether a program keeps the order of R138 and names formats that Table 5-3 allows. -/
def Block.progOk (b : Block) (a src : Nat) : Bool :=
  let ws := (List.range 4).map (fun i => b.f (F.SWM_PROG_DATA_WORD.ix ((a + i) % 4096)))
  let ops := ws.map (fun w => bits w 26 6)
  let body := (untilEmit ws).map (fun w => bits w 26 6)
  let rest := body.dropWhile (fun o => o == 1 || o == 2)
  let p := b.prog a
  let prim := if p.op = 3 then 0 else if p.op ≤ 7 then p.op - 3 else 5
  ops.contains 10 && (rest.length == 1) && rest.all (fun o => decide (3 ≤ o) && decide (o ≤ 9))
    && (let h := body.takeWhile (fun o => o == 1 || o == 2); h == [] || h == [1] || h == [2] || h == [1, 2])
    && (!p.lateness || (decide (4 ≤ src) && src != 5)) && (p.op == 8 || primAllowed p.fmt prim)

/-- The elements a SIZE field means: 0 encodes 16,384. -/
def elemCount (x : Nat) : Nat := if x = 0 then 16384 else x

/-- The program of a collective. Table 6-3 gives MERGE no argument: its KEY_BASE is that of the result's stream in the image (R130, R145), where
no field of the image holds it: an open constant (log entry 48). -/
def Block.collProg (b : Block) (n : Nat) : Prog :=
  let p := b.prog (b.f (F.SWM_COLL_PROG_PROG.ix n))
  if p.op = 9 then { p with key := signed 16 (Config.mergeKey (b.fim.run.getD []) (b.f (F.SWM_COLL_DEST_STREAM.ix n)) % 2 ^ 16) } else p

/-- A collective's definition (Table 6-1). -/
def Block.coll (b : Block) (n : Nat) : Coll :=
  { num := n, fin := b.f (F.SWM_COLL_CFG_FMT_IN.ix n), fout := b.f (F.SWM_COLL_CFG_FMT_OUT.ix n), idx := b.f (F.SWM_COLL_CFG_IDX.ix n),
    sw := b.is (F.SWM_COLL_CFG_SW.ix n), run := b.is (F.SWM_COLL_CFG_RUN.ix n), group := b.f (F.SWM_COLL_CFG_GROUP.ix n),
    elems := elemCount (b.f (F.SWM_COLL_SIZE_ELEMS.ix n)), maxmiss := b.f (F.SWM_COLL_SIZE_MAXMISS.ix n),
    deadline := min 10000000 (max 1000 (b.f (F.SWM_COLL_TIME_DEADLINE.ix n))), prog := b.collProg n,
    queue := b.f (F.SWM_COLL_DEST_QUEUE.ix n), stream := b.f (F.SWM_COLL_DEST_STREAM.ix n), src := b.f (F.SWM_COLL_SRC_SRC.ix n),
    base := b.f (F.SWM_COLL_SRC_BASE.ix n), mfield := b.f (F.SWM_COLL_SRC_MFIELD.ix n) }

/-- The enabled collectives, ascending. -/
def Block.colls (b : Block) : List Coll := (sortBy id (b.copies F.SWM_COLL_CFG_EN 1)).map b.coll

/-- Bytes of a contribution, padded (R112, R150). -/
def Coll.size (c : Coll) : Nat := (c.elems * fmtBytes c.fin + 7) / 8 * 8

/-- Whether a collective shares a batch (R150). -/
def Coll.batched (c : Coll) : Bool := !c.sw && !c.run && decide (c.size < 4096)

/-- Whether two collectives fall in one group of R150. -/
def Coll.alike (c d : Coll) : Bool := c.idx == d.idx && c.group == d.group && c.deadline == d.deadline && c.maxmiss == d.maxmiss

/-- One more collective in the batches, which stand in the order of their lowest member: into the last batch of its group while
that batch stays within 4,096 bytes, else into a new one (R150). -/
def addBatch (bs : List (List Coll)) (c : Coll) : List (List Coll) :=
  let mine (x : List Coll) : Bool := x.any (fun d => d.batched && d.alike c)
  let size (x : List Coll) : Nat := (x.map Coll.size).foldl (· + ·) 0
  if ¬ c.batched then bs ++ [[c]]
  else match (bs.filter mine).getLast? with
    | some l => if size l + c.size ≤ 4096 then bs.map (fun x => if x = l then x ++ [c] else x) else bs ++ [[c]]
    | none => bs ++ [[c]]

/-- The batches of the enabled collectives (R150); a collective that shares none stands alone. -/
def Block.batches (b : Block) : List (List Coll) := b.colls.foldl addBatch []

/-- The number that names a batch. -/
def batchNum (l : List Coll) : Nat := (l.head?.map (fun c => c.num)).getD 0

/-- A tag (R134): software launch, collective, step or count, index. -/
def swTag (sw : Bool) (coll step idx : Nat) : Nat := (if sw then 2 ^ 60 else 0) + coll % 4096 * 2 ^ 48 + step % 2 ^ 40 * 2 ^ 8 + idx % 256

/-- The collective number of a tag. -/
def tagColl (tag : Nat) : Nat := bits tag 48 12

/-- Whether a tag is of a software launch. -/
def tagSw (tag : Nat) : Bool := bit tag 60 == 1

/-- The collectives a tag stands for: its batch. -/
def Block.tagBatch (b : Block) (tag : Nat) : Option (List Coll) :=
  b.batches.find? (fun l => batchNum l == tagColl tag && (l.head?.map (fun c => c.sw)).getD false == tagSw tag
    && (tagSw tag || (l.head?.map (fun c => c.idx)).getD 0 == tag % 256))

/-- Whether an LDI is in a member group. -/
def Block.inGroup (b : Block) (g ldi : Nat) : Bool :=
  ((b.fab.topo.groups[g]?).getD []).any (fun r => decide (r.1 ≤ ldi) && decide (ldi ≤ r.2))

/-- How many LDIs of a group lie from lo to hi. -/
def Block.groupCount (b : Block) (g lo hi : Nat) : Nat :=
  ((b.fab.topo.groups[g]?).getD []).foldl (fun a r => a + (min r.2 hi + 1 - max r.1 lo)) 0

/-- Whether Swarm works: SWARM is ON, EN is set and an image is applied (R150). -/
def Block.swarmOn (b : Block) : Bool := b.on dSWARM && b.is F.SWM_CTRL_EN && b.locked

/-! A D-role's contributions (R136) -/

/-- Elements packed under R112. -/
def packElems (fmt : Nat) (xs : List Nat) : List Byte :=
  let l := xs.flatMap (leBytes (fmtBytes fmt))
  l ++ List.replicate ((8 - l.length % 8) % 8) 0

/-- Values converted from a source's native format to FMT_IN; none where a conversion sets INVALID, or none exists (P64; log entry 142). -/
def convertAll (native fmt : Nat) (xs : List Nat) : Option (List Byte) :=
  if native = fmt then some (packElems fmt xs)
  else if native = 15 ∨ fmt = 15 then none
  else
    let r := xs.map (convertElem native fmt)
    if r.any (fun p => 4 ≤ p.2) then none else some (packElems fmt (r.map (fun p => p.1)))

/-- Exact integers converted to FMT_IN; none where a conversion sets INVALID. -/
def convertInts (fmt : Nat) (xs : List Int) : Option (List Byte) :=
  let r := xs.map (fun x => encodeElem fmt (.fin x 1 false))
  if r.any (fun p => 4 ≤ p.2) then none else some (packElems fmt (r.map (fun p => p.1)))

/-- The field of a monitor that SWM_COLL_SRC.MFIELD names. -/
def Monitor.field (m : Monitor) (k : Nat) : Int := if k = 0 then m.min else if k = 1 then m.max else (m.count : Int)

/-- The elements of one contribution (Table 6-2), none where it is ABSENT. The block is the one before the fire's captures; `acts` are
the fire's capture actions (FREEZE in bit 0, MON in bit 1), 0 for a START (R154). -/
def Block.elemsOf (b : Block) (c : Coll) (acts phase : Nat) : Option (List Byte) :=
  let ix := (List.range c.elems).map (c.base + ·)
  match c.src with
  | 0 =>
    if bit acts 0 = 0 ∨ ¬ b.on dPROBE ∨ 2 ≤ b.prb.drains.length ∨ b.prb.fresh ∨ ix.any b.prb.wrote.contains then none
    else convertAll 2 c.fin (ix.map b.cntDelta)
  | 1 =>
    if bit acts 1 = 0 ∨ ¬ b.on dPROBE ∨ 2 ≤ b.prb.mdrains.length then none
    else convertInts c.fin (ix.map (fun (i : Nat) => Monitor.field (SMap.getD b.prb.mons i {}) c.mfield))
  | 2 =>
    if ¬ b.on dSCALES ∨ ix.any (fun i => b.sclFlags i != 0) then none
    else convertAll 0 c.fin (ix.map (fun (i : Nat) => SclCh.code (b.scl.ch.getD i {})))
  | 3 => convertAll 15 c.fin [phase]
  | 5 =>
    let n := c.elems * fmtBytes c.fin
    let l := ((List.range ((n + 3) / 4)).flatMap (fun i => leBytes 4 (b.f (F.SWM_DVAL_VALUE.at (c.base + i))))).take n
    some (l ++ List.replicate ((8 - l.length % 8) % 8) 0)
  | _ => some []

/-- A contribution, sent on the path in force and open until END (R136, R137, R146); `w` is the transaction's W. -/
def Block.contribute (b : Block) (c : Contrib) (w deadline : Nat) : Block :=
  let b := { b with swm := { b.swm with mine := b.swm.mine ++ [({ tag := c.tag, w := w, deadline := deadline } : OpenTag)] } }
  b.sendSwarm b.upPort (.contrib c)

/-- The contributions of a fire (R134, R136): `pre` is the block before the fire's captures; a SKIPPED fire's are ABSENT. -/
def Block.fireContribs (b pre : Block) (idx step cause acts phase wall : Nat) : Block :=
  if b.swarmOn ∧ ¬ b.syn.agg ∧ bit acts 3 = 1 ∧ b.is F.SELF_LDI_BOUND then
    (b.batches.filter (fun l => l.any (fun c => c.idx == idx && !c.sw))).foldl (fun b l =>
      b.contribute { tag := swTag false (batchNum l) step idx, ldi := b.selfLdi, epoch := b.selfEpoch, cause := cause, wall := wall,
                     parts := l.map (fun c => if cause = 3 then none else pre.elemsOf c acts phase) }
        wall ((l.head?.map (fun c => c.deadline)).getD 1000)) b
  else b

/-! Time -/

/-- now - then on WALL, signed (R15). -/
def wallDiff (now then_ : Nat) : Int := signed 64 (now % 2 ^ 64 + 2 ^ 64 - then_ % 2 ^ 64)

/-- Whether WALL has reached W + d, d in units of 10 ns. -/
def wallPast (now w : Nat) (d : Int) : Bool := decide (d * ((2 ^ 40 : Nat) : Int) ≤ wallDiff now w * 100000000)

/-- Whether WALL is beyond W + d. -/
def wallBeyond (now w : Nat) (d : Int) : Bool := decide (d * ((2 ^ 40 : Nat) : Int) < wallDiff now w * 100000000)

/-- DEADLINE of an entry. -/
def Txn.deadline (t : Txn) : Nat := (t.colls.head?.map (fun c => c.deadline)).getD 1000

/-- DEADLINE − SWM_TIER_OFFSET of an entry (R141). -/
def Block.cutAfter (b : Block) (t : Txn) : Int := (t.deadline : Int) - (b.f F.SWM_TIER_OFFSET_OFFSET : Int)

/-- DEADLINE and SWM_END_GRACE, in units of 10 ns (R146). -/
def Block.graceAfter (b : Block) (deadline : Nat) : Int := ((deadline + 100 * atLeast1 (b.f F.SWM_END_GRACE_GRACE) : Nat) : Int)

/-! Entries -/

/-- Whether this aggregator is the acting root (R40, SWM_STATUS.ROOT). -/
def Block.isRoot (b : Block) : Bool := b.syn.agg && b.fab.actingRoot

/-- Whether this aggregator is a T-role. -/
def Block.isT (b : Block) : Bool := b.syn.agg && b.f F.ROLE_STATUS_ROLE == 1

/-- The entry of a tag. -/
def Block.txn (b : Block) (tag : Nat) : Option Txn := b.swm.txns.find? (fun t => t.tag == tag)

/-- Replace an entry. -/
def Block.putTxn (b : Block) (t : Txn) : Block :=
  { b with swm := { b.swm with txns := b.swm.txns.map (fun x => if x.tag = t.tag then t else x) } }

/-- The lowest non-zero of two errors (R151). -/
def lowErr (a c : Nat) : Nat := if a = 0 then c else if c = 0 then a else min a c

/-- The lowest 16 of two lists (R142). -/
def lowest16 (a c : List Nat) : List Nat := ((sortBy id (a ++ c)).eraseDups).take 16

/-- LDIs routed to this T-role, bound and alive: learned on one of its ports, or homed here, or homed at the buddy whose place
this block has taken, but for one that the buddy has learned since (R28, R32, R40, R135). -/
def Block.routedHere (b : Block) : List Nat :=
  (b.fab.binds.filter (fun (p : Nat × Bind) => p.2.alive && p.2.epoch != 0
    && !p.2.away && (p.2.port.isSome || b.fab.topo.homeLdis.contains p.1 || (b.fab.takeOver && b.fab.topo.buddyLdis.contains p.1)))).map (fun p => p.1)

/-- Whether a child aggregator has members of a group (R140): LDIs below it by the image, moved by the routes announced (R33). -/
def Block.childHas (b : Block) (g lai : Nat) : Bool :=
  let mine := b.fab.topo.childLdis.filter (fun r => r.1 == lai)
  let inMine (l : Nat) : Bool := mine.any (fun r => decide (r.2.1 ≤ l) && decide (l ≤ r.2.2))
  let n := mine.foldl (fun a r => a + b.groupCount g r.2.1 r.2.2) 0
  let moved := b.fab.routes.filter (fun p => b.inGroup g p.1)
  let out := (moved.filter (fun p => inMine p.1 && p.2 != lai)).length
  decide (out < n) || moved.any (fun p => p.2 == lai)

/-- The expected set of a batch (R135, R140). -/
def Block.expected (b : Block) (l : List Coll) : List Nat :=
  let g := (l.head?.map (fun c => c.group)).getD 0
  if b.isT then b.routedHere.filter (b.inGroup g) else b.fab.topo.children.filter (b.childHas g)

/-- Bytes of an input retained in staging. -/
def Txn.staged (t : Txn) : Nat :=
  (t.contribs.map (fun c => (SwarmUnit.contrib c).lenb)).foldl (· + ·) 0 + (t.partials.map (fun p => (SwarmUnit.partial_ p).lenb)).foldl (· + ·) 0
    + (t.sent.map (fun p => (SwarmUnit.partial_ p).lenb)).getD 0

/-- Bytes of staging in use. -/
def Block.stageUsed (b : Block) : Nat := (b.swm.txns.map Txn.staged).foldl (· + ·) 0

/-- Bytes of staging for Swarm: 32 MiB less the drift pool (Table 0-3, R195). -/
def Block.stageSize (b : Block) : Nat := 32 * 1048576 - min 16 (b.f F.VRD_DRIFT_POOL_MIB) * 1048576

/-- Show staging in use and its peak (SWM_STAGE). -/
def Block.showStage (b : Block) : Block :=
  let u := sat 16 ((b.stageUsed + 1023) / 1024)
  (b.setf F.SWM_STAGE_USED u).setf F.SWM_STAGE_PEAK (max u (b.f F.SWM_STAGE_PEAK))

/-- Whether an entry is free for a tag (R149). -/
def Block.entryFree (b : Block) (sw : Bool) : Bool :=
  let limit := min 0x4000 (b.f F.SWM_TXN_LIMIT_LIMIT)
  let held := b.swm.txns.filter (fun t => !t.ghost)
  let mine := (held.filter (fun t => !tagSw t.tag)).length
  decide (held.length < limit) && (sw || decide (mine < limit - b.f F.SWM_TXN_LIMIT_SWRES))

/-- LAI of this aggregator. -/
def Block.selfLai (b : Block) : Nat := b.f F.SELF_LDI_INDEX % 65536

/-- Downstream ports that are ACTIVE. -/
def Block.downPorts (b : Block) : List Nat := (List.range 128).filter (fun n => (b.port n).state == 2)

/-- The ports towards the members, or the children, of an expected set. -/
def Block.portsOf (b : Block) (expect : List Nat) : List Nat :=
  (if b.isT then expect.filterMap (fun l => Bind.port (b.fab.binds.getD l {})) else expect.filterMap (fun a => b.fab.nbr.find a)).eraseDups

/-- The two upstream ports of an aggregator, which both carry control traffic (R23). -/
def upstream : List Nat := [128, 129]

/-- Send a CONTROL message on several ports. -/
def Block.sendAll (b : Block) (ports : List Nat) (m : Msg) : Block := ports.foldl (fun b n => b.sendMsg n m) b

/-- The event of an END code (Table 6-8). -/
def endEvent (code : Nat) : Nat := Ev.SWM_TIMEOUT + (code - 1)

/-- A transaction ends here with a code (R146, R151): recorded in SWM_LAST_END, its event raised with the tag. -/
def Block.noteEnd (b : Block) (tag code : Nat) : Block :=
  let b := ({ b with swm := { b.swm with lastEnd := (tag, code), freed := (tag :: b.swm.freed).take 16384 } }).setf F.SWM_LAST_END_HI_VALID 1
  b.raiseIf (decide (1 ≤ code) && decide (code ≤ 8)) (endEvent code) [(tag, 64)]

/-- The report of a residue mismatch, with what was seen at its detection (R125, R320). -/
def Block.laneReport (b : Block) (t : Txn) (m : Mismatch) (recovered : Bool) : Block :=
  b.checkFail 0 (m.lane / 4) 0 m.op m.fmt m.lane m.exp m.obs t.tag recovered false (some m.seen)

/-- Free an entry; a mismatch whose rerun never ended is reported as it stands (R125). -/
def Block.freeTxn (b : Block) (tag : Nat) : Block :=
  let b := match b.txn tag with
    | some t => (match t.first with
      | some m => b.laneReport t m false
      | none => b)
    | none => b
  ({ b with swm := { b.swm with txns := b.swm.txns.filter (fun t => t.tag != tag) } }).showStage

/-! Opening (R140, R149) -/

/-- Send the error partial of a tag for which no entry is free (R149). -/
def Block.refuseTag (b : Block) (tag w : Nat) : Block :=
  let b := { b with swm := { b.swm with refused := (tag :: b.swm.refused).take 16384 } }
  b.sendSwarm b.upPort (.partial_ { tag := tag, child := b.selfLai, w := w, err := 5 })

/-- Open an entry (R140). At the root, which has no parent to tell, what is left of a tag without an entry is its END with NOENTRY, which goes
to every child; no input for it is taken (R149). -/
def Block.openTxn (b : Block) (tag w : Nat) (l : List Coll) : Block :=
  let t : Txn := { tag := tag, w := w, colls := l, expect := b.expected l }
  if b.entryFree (tagSw tag) then { b with swm := { b.swm with txns := b.swm.txns ++ [t] } }
  else if b.isRoot then { b with swm := { b.swm with txns := b.swm.txns ++ [{ t with state := 1, err := 5, full := true, ghost := true }] } }
  else b.refuseTag tag w

/-- Whether a tag may open an entry: not open, not freed, not refused. -/
def Block.newTag (b : Block) (tag : Nat) : Bool :=
  (b.txn tag).isNone && !(b.swm.freed.contains tag) && !(b.swm.refused.contains tag)

/-- Open the entries of a wingbeat at its WB_MARK (R134, R140), for the batches with members here. -/
def Block.openWingbeat (b : Block) (step idx w : Nat) : Block :=
  let acts := b.is (F.ANT_WB_ENTRY_SWM.at idx) || (b.f F.ANT_TWB_ACT_IDX == idx && b.is F.ANT_TWB_ACT_SWM)
  if b.swarmOn ∧ b.syn.agg ∧ acts then
    (b.batches.filter (fun l => l.any (fun c => c.idx == idx && !c.sw))).foldl (fun b l =>
      let tag := swTag false (batchNum l) step idx
      if b.newTag tag ∧ (b.isRoot ∨ b.expected l ≠ []) then b.openTxn tag w l else b) b
  else b

/-! Inputs (R142) -/

/-- An input that is not combined any more (R147). -/
def Block.lateInput (b : Block) (tag : Nat) : Block := b.raise Ev.SWM_LATE [(tag, 64)]

/-- An input from outside the expected set, or a second one (R137). -/
def Block.strayInput (b : Block) (tag : Nat) : Block := b.raise Ev.SWM_STRAY [(tag, 64)]

/-- Close an entry's input (R142): missing members are counted, a silent child gives TIMEOUT, the reduction begins. -/
def Block.closeTxn (b : Block) (t : Txn) : Block :=
  let silent := t.expect.filter (fun m => !(t.heard.contains m))
  if b.isT then b.putTxn { t with state := 1, missing := t.missing + silent.length, list := lowest16 t.list silent }
  else b.putTxn { t with state := 1, err := if silent = [] then t.err else lowErr t.err 1 }

/-- An entry hears of an input (R142): who sent it, and a partial's error, missing members and their list. -/
def Txn.hear (t : Txn) (u : SwarmUnit) : Txn :=
  match u with
  | .contrib c => { t with heard := t.heard ++ [c.ldi] }
  | .partial_ p => { t with heard := t.heard ++ [p.child], err := lowErr t.err p.err, missing := t.missing + p.missing,
                            list := lowest16 t.list p.list }

/-- An entry keeps an input to combine it. -/
def Txn.keep (t : Txn) (u : SwarmUnit) : Txn :=
  match u with
  | .contrib c => { t with contribs := t.contribs ++ [c] }
  | .partial_ p => { t with partials := t.partials ++ [p] }

/-- Take an input; when staging cannot hold it, the entry takes NOSPACE and combines nothing further (R149). The entry closes with
its last expected input. -/
def Block.retain (b : Block) (t : Txn) (u : SwarmUnit) : Block :=
  let t := t.hear u
  let t := if t.full then t
    else if b.stageSize < b.stageUsed + u.lenb then { t with full := true, err := lowErr t.err 6 }
    else t.keep u
  let b := (b.putTxn t).showStage
  if t.heard.length = t.expect.length then b.closeTxn t else b

/-- Whether the residues of a partial's exact sums match (R148). -/
def Partial.sound (p : Partial) : Bool :=
  p.cols.all (fun c => c.elems.all (fun e => match e with
    | .acc x => x.checked
    | _ => true))

/-- Whether an input for a tag is late (R142, R147): its entry is freed, past its cutoff, or no longer open. -/
def Block.lateTag (b : Block) (tag : Nat) : Bool :=
  b.swm.freed.contains tag || (b.txn tag).any (fun t => t.state != 0 || wallBeyond b.wall t.w (b.cutAfter t))

/-- A contribution that passed R28 (R142): true where it is late, which the Verdict unit hears of (R147). -/
def Block.takeContrib (b : Block) (c : Contrib) : Bool × Block :=
  if ¬ b.swarmOn then (false, b)
  else if b.swm.refused.contains c.tag then (false, b)
  else if b.swm.freed.contains c.tag then (true, b.lateInput c.tag)
  else
    let b := match b.txn c.tag, b.tagBatch c.tag with
      | none, some l => if tagSw c.tag then b else b.openTxn c.tag c.wall l
      | _, _ => b
    match b.txn c.tag with
    | none => (false, if b.swm.refused.contains c.tag then b else b.strayInput c.tag)
    | some t =>
      if t.ghost then (false, b)
      else if t.state ≠ 0 ∨ wallBeyond b.wall t.w (b.cutAfter t) then (true, b.lateInput c.tag)
      else if ¬ t.expect.contains c.ldi ∨ t.heard.contains c.ldi then (false, b.strayInput c.tag)
      else (false, b.retain t (.contrib c))

/-- A child's partial (R142, R148). -/
def Block.takePartial (b : Block) (port : Nat) (p : Partial) : Block :=
  if ¬ b.swarmOn ∨ b.swm.refused.contains p.tag then b
  else if b.swm.freed.contains p.tag then b.lateInput p.tag
  else
    let b := match b.txn p.tag, b.tagBatch p.tag with
      | none, some l => if tagSw p.tag then b else b.openTxn p.tag p.w l
      | _, _ => b
    match b.txn p.tag with
    | none => if b.swm.refused.contains p.tag then b else b.strayInput p.tag
    | some t =>
      if t.ghost then b
      else if t.state ≠ 0 ∨ wallBeyond b.wall t.w (b.cutAfter t) then b.lateInput p.tag
      else if ¬ t.expect.contains p.child ∨ t.heard.contains p.child then b.strayInput p.tag
      else if p.sound then b.retain t (.partial_ p)
      else
        let b := b.raise Ev.SWM_RESEND
        if t.resent.contains p.child then b.retain t (.partial_ { tag := p.tag, child := p.child, w := p.w, err := 2 })
        else (b.putTxn { t with resent := p.child :: t.resent }).sendMsg port (.resend p.tag)

/-- The cutoff of an entry (R141). -/
def Block.cutoff (b : Block) (tag : Nat) : Block :=
  match b.txn tag with
  | some t => if b.swarmOn ∧ t.state = 0 ∧ wallPast b.wall t.w (b.cutAfter t) then b.closeTxn t else b
  | none => b

/-! Reduction -/

/-- The value of element i of a contribution; LATENESS replaces element 0 (Table 6-3). -/
def elemAt (c : Coll) (w : Nat) (x : Contrib) (bs : List Byte) (i : Nat) : Option Val :=
  let n := fmtBytes c.fin
  if c.prog.lateness ∧ i = 0 then some (.fin (wallDiff x.wall w * 1000000000) (2 ^ 40) false)
  else if (i + 1) * n ≤ bs.length then some (decodeElem c.fin (leAt bs (i * n) n))
  else none

/-- Element i as a binary64 pattern with its flags. -/
def elem64 (c : Coll) (w : Nat) (x : Contrib) (bs : List Byte) (i : Nat) : Option (Nat × Nat) :=
  if c.fin = 12 ∧ ¬ c.prog.lateness then (if (i + 1) * 8 ≤ bs.length then some (leAt bs (i * 8) 8, 0) else none)
  else (elemAt c w x bs i).map (encodeElem 12)

/-- MIN or MAX of two elements that may have no value (R119). -/
def pickExt (min_ : Bool) (a c : Option Val) : Option Val :=
  match a, c with
  | none, x => x
  | x, none => x
  | some x, some y => if (if min_ then y.lt x else x.lt y) then some y else some x

/-- MINLOC or MAXLOC of two elements: among equals the lowest LDI (R119). -/
def pickLoc (min_ : Bool) (a c : Option Val × Nat) : Option Val × Nat :=
  match a, c with
  | (none, _), x => x
  | x, (none, _) => x
  | (some x, l), (some y, m) =>
    if (if min_ then y.lt x else x.lt y) then (some y, m)
    else if (if min_ then x.lt y else y.lt x) then (some x, l)
    else (some x, min l m)

/-- The element before anything is combined. -/
def PElem.zero (op : Nat) (f64 : Bool) (key : Int) : PElem :=
  if op = 3 then (if f64 then .blocks [] else .acc {})
  else if op ≤ 5 then .ext none false
  else if op ≤ 7 then .loc none 0xFFFFF false
  else .skb (some { keyBase := key })

/-- Merge two sketches that may be absent (R130): true where their KEY_BASE differs, and nothing is merged. -/
def mergeSkb (a c : Option Sketch) : Option Sketch × Bool :=
  match a, c with
  | none, x => (x, false)
  | x, none => (x, false)
  | some x, some y => match x.merge y with
    | some z => (some z, false)
    | none => (some x, true)

/-- The ASTAT that inserting the elements of an entry's contributions leaves (R129): INVALID for a NaN. No form of Table 6-4 carries it on
(log entry 143). -/
def Txn.insAstat (t : Txn) : Nat :=
  if t.colls.zipIdx.any (fun p => p.1.prog.op == 8 && t.contribs.any (fun x => match (x.parts[p.2]?).getD none with
      | some bs => bit p.1.prog.filter x.cause != 1 && (List.range p.1.elems).any (fun i => (elemAt p.1 t.w x bs i).any (fun v => (Sketch.insert {} v).2 != 0))
      | none => false)) then 4 else 0

/-- Combine two partial elements of one opcode (R139): true on FMT_MISMATCH. -/
def PElem.combine (op : Nat) (a c : PElem) : PElem × Bool :=
  match a, c with
  | .acc x, .acc y => (.acc (x.merge y), false)
  | .blocks x, .blocks y => (.blocks (x ++ y), false)
  | .ext x n, .ext y m =>
    let v := pickExt (op == 4) x y
    (.ext v (v.isNone && (n || m)), false)
  | .loc x l n, .loc y k m =>
    let r := pickLoc (op == 6) (x, l) (y, k)
    (.loc r.1 r.2 (r.1.isNone && (n || m)), false)
  | .skb x, .skb y => let r := mergeSkb x y; (.skb r.1, r.2)
  | x, _ => (x, true)

/-- One contribution's element as a partial element. -/
def leafElem (c : Coll) (w : Nat) (x : Contrib) (bs : List Byte) (i : Nat) : PElem :=
  let op := c.prog.op
  let v := elemAt c w x bs i
  let v' := v.filter (fun y => ! y.isNan)
  let allNan := v.isSome && v'.isNone
  if op = 3 then
    (if c.prog.fmt = 12 then .blocks ((elem64 c w x bs i).toList.map (fun p => (0, x.ldi, p.2, p.1)))
     else match v with
       | some y => .acc (ExAcc.add {} y)
       | none => .acc {})
  else if op ≤ 5 then .ext v' allNan
  else if op ≤ 7 then .loc v' (if v'.isSome then x.ldi else 0xFFFFF) allNan
  else if op = 8 then .skb (some (match v with
      | some y => (Sketch.insert { keyBase := c.prog.key } y).1
      | none => { keyBase := c.prog.key }))
  else if (i + 1) * 8208 ≤ bs.length then .skb (some (Sketch.ofBytes (slice bs (i * 8208) 8208)))
  else .skb none

/-- Combine lists of partial elements place by place. -/
def combineElems (op : Nat) (a c : List PElem) : List PElem × Bool :=
  let r := (a.zip c).map (fun p => p.1.combine op p.2)
  (r.map (fun p => p.1), r.any (fun p => p.2))

/-- Join the blocks of one level into blocks of the next (R127): two siblings add; a block whose sibling holds no member rises; any
other stays. `members` counts a range's member LDIs. -/
def joinLevel (members : Nat → Nat → Nat) (k : Nat) (l : List (Nat × Nat × Nat × Nat)) : List (Nat × Nat × Nat × Nat) :=
  l.flatMap (fun x =>
    if x.1 ≠ k then [x]
    else
      let j := x.2.1
      match l.find? (fun y => y.1 == k && y.2.1 == (if j % 2 = 0 then j + 1 else j - 1)) with
      | some y =>
        if j % 2 = 1 then []
        else let r := add64 x.2.2.2 y.2.2.2; [(k + 1, j / 2, x.2.2.1 ||| y.2.2.1 ||| r.2, r.1)]
      | none =>
        let s := if j % 2 = 0 then j + 1 else j - 1
        if members (s * 2 ^ k) (s * 2 ^ k + 2 ^ k - 1) = 0 then [(k + 1, j / 2, x.2.2.1, x.2.2.2)] else [x])

/-- The maximal blocks of R127. -/
def joinBlocks (members : Nat → Nat → Nat) (l : List (Nat × Nat × Nat × Nat)) : List (Nat × Nat × Nat × Nat) :=
  (List.range 20).foldl (fun l k => joinLevel members k l) l

/-- The root value over the blocks that came, missing members being EMPTY (R126): node (k, base). -/
def rootBlocks (k : Nat) (l : List (Nat × Nat × Nat × Nat)) : Option (Nat × Nat) :=
  match l.find? (fun x => x.1 == k) with
  | some x => some (x.2.2.2, x.2.2.1)
  | none =>
    match k with
    | 0 => none
    | k + 1 =>
      if l = [] then none
      else
        let side (s : Nat) : List (Nat × Nat × Nat × Nat) := l.filter (fun x => bit (x.2.1 * 2 ^ x.1) k == s)
        match rootBlocks k (side 0), rootBlocks k (side 1) with
        | none, c => c
        | a, none => a
        | some a, some c => let r := add64 a.1 c.1; some (r.1, r.2 ||| a.2 ||| c.2)

/-- Members of a group in a range: at a T-role the LDIs homed here that are no members do not count (R127, R135). -/
def Block.membersIn (b : Block) (t : Txn) (g lo hi : Nat) : Nat :=
  let gone := if b.isT then b.fab.topo.homeLdis.filter (fun l =>
    decide (lo ≤ l) && decide (l ≤ hi) && b.inGroup g l && !(t.expect.contains l)) else []
  b.groupCount g lo hi - gone.length

/-- A collective's share of an entry's partial: place i of the batch (R142). What has another KEY_BASE is not merged and is counted (R130). -/
def Block.reduceColl (b : Block) (t : Txn) (i : Nat) (c : Coll) : PCol × Nat :=
  let zero := List.replicate c.elems (PElem.zero c.prog.op (c.prog.fmt == 12) c.prog.key)
  let add (a : PCol × Nat) (n m : Nat) (es : List PElem) : PCol × Nat :=
    if es = [] then ({ a.1 with contrib := a.1.contrib + n, absent := a.1.absent + m }, a.2)
    else
      let r := combineElems c.prog.op a.1.elems es
      if r.2 then ({ a.1 with absent := a.1.absent + m }, a.2 + n)
      else ({ contrib := a.1.contrib + n, absent := a.1.absent + m, elems := r.1 }, a.2)
  let r := t.contribs.foldl (fun a x =>
    match (x.parts[i]?).getD none with
    | some bs => if bit c.prog.filter x.cause = 1 then add a 0 1 [] else add a 1 0 ((List.range c.elems).map (leafElem c t.w x bs))
    | none => add a 0 1 []) (({ elems := zero } : PCol), 0)
  let r := t.partials.foldl (fun a p => match p.cols[i]? with
    | some k => add a k.contrib k.absent k.elems
    | none => a) r
  let es := r.1.elems.map (fun e => match e with
    | .blocks l => PElem.blocks (joinBlocks (b.membersIn t c.group) l)
    | e => e)
  ({ r.1 with elems := es }, r.2)

/-- The shares of every collective of an entry, and how many contributions had another KEY_BASE. -/
def Block.reduceTxn (b : Block) (t : Txn) : List PCol × Nat :=
  let r := t.colls.zipIdx.map (fun p => b.reduceColl t p.2 p.1)
  (r.map (fun x => x.1), r.foldl (fun a x => a + x.2) 0)

/-! The root (R144, R145, R153) -/

/-- The pattern of an extreme in FMT_OUT: a phase has no other format (Table 5-2). -/
def encodeExt (fin fout : Nat) (v : Val) : Nat × Nat :=
  if fin = 15 ∧ fout ≠ 15 then
    match v with
    | .fin n _ _ => convertElem 15 fout n.toNat
    | _ => convertElem 15 fout 0
  else if fin ≠ 15 ∧ fout = 15 then convertElem 12 15 (encodeElem 12 v).1
  else encodeElem fout v

/-- A result element's bytes and ASTAT (R145). -/
def PElem.result (e : PElem) (fin fout : Nat) : List Byte × Nat :=
  let enc (v : Option Val) (allNan : Bool) : Nat × Nat :=
    match v with
    | some x => encodeExt fin fout x
    | none => ((encodeElem fout .nan).1, if allNan then 4 else 0)
  match e with
  | .acc x => let r := x.result fout; (leBytes (fmtBytes fout) r.1, r.2)
  | .blocks l =>
    (match rootBlocks 20 l with
     | none => (leBytes (fmtBytes fout) (encodeElem fout (.fin 0 1 false)).1, 0)
     | some v => let r := convertElem 12 fout v.1
                 (leBytes (fmtBytes fout) r.1, r.2 ||| v.2))
  | .ext v n => let r := enc v n; (leBytes (fmtBytes fout) r.1, r.2)
  | .loc v l n => let r := enc v n; (leBytes 8 r.1 ++ leBytes 4 (if v.isSome then l else 0xFFFFF) ++ leBytes 4 0, r.2)
  | .skb s => ((s.getD {}).bytes, 0)

/-- The elements of a result and their ASTAT, padded (R112, R145). -/
def resultBytes (fin fout : Nat) (es : List PElem) : List Byte × Nat :=
  let r := es.map (fun e => e.result fin fout)
  let l := r.flatMap (fun p => p.1)
  (l ++ List.replicate ((8 - l.length % 8) % 8) 0, r.foldl (fun a p => a ||| p.2) 0)

/-- The descriptor of a SWM_RESULT (Table 6-6). -/
def resultDesc (t : Txn) (c : Coll) (code : Nat) (k : PCol) : List Byte :=
  leBytes 8 t.tag ++ leBytes 4 c.num ++ leBytes 1 code ++ leBytes 1 ((if k.contrib = 0 then 1 else 0) + if c.run then 2 else 0)
    ++ leBytes 2 t.list.length ++ leBytes 4 (k.contrib + t.missing + k.absent) ++ leBytes 4 k.contrib ++ leBytes 4 t.missing
    ++ leBytes 4 k.absent ++ (List.range 16).flatMap (fun i => leBytes 4 ((t.list[i]?).getD 0xFFFFFFFF))

/-- Whether adding to running accumulators would pass 2^40 − 1 contributions (R122, R153). -/
def overcount (old new : List PElem) : Bool :=
  (old.zip new).any (fun p => match p with
    | (.acc x, .acc y) => decide (2 ^ 40 ≤ x.n + y.n)
    | _ => false)

/-- The running accumulators of a collective as elements. -/
def Block.running (b : Block) (c : Coll) : List PElem :=
  match b.swm.running.find c.num with
  | some l => l.map PElem.acc
  | none => List.replicate c.elems (PElem.acc {})

/-- The accumulators in a list of elements. -/
def accsOf (l : List PElem) : List ExAcc := l.filterMap (fun e => match e with
  | .acc x => some x
  | _ => none)

/-- A running collective's accumulators take a transaction's (R153), and go to the standby root before END. -/
def Block.runAdd (b : Block) (c : Coll) (k : PCol) : Block :=
  if c.run then
    let l := accsOf (combineElems 3 (b.running c) k.elems).1
    let b := { b with swm := { b.swm with running := b.swm.running.put c.num l } }
    b.toMirror (.running c.num l)
  else b

/-- PHASE of a result: the step number and the POS of the wingbeat's entry; a software launch has neither, and the value is free
(R145; log entry 4). -/
def Block.resultPhase (b : Block) (tag : Nat) : Nat × Block :=
  if tagSw tag then let r := b.fresh; (r.1 % 2 ^ 64, r.2)
  else (bits tag 8 40 * 2 ^ 24 + b.f (F.ANT_WB_ENTRY_POS.at (tag % 256)), b)

/-- One result record (R144 steps 2 to 4). -/
def Block.resultRec (b : Block) (t : Txn) (code phase : Nat) (c : Coll) (k : PCol) : Block :=
  let b := if code = 0 then b.runAdd c k else b
  let es := if c.run ∧ code = 0 then b.running c else k.elems
  let r := if code = 0 then resultBytes c.fin c.fout es else ([], 0)
  b.emitAt c.queue c.stream 0x20 c.fout (r.2 % 8) 0 phase t.w (resultDesc t c code k ++ r.1)

/-- decide(e) of R144: the code and the PHASE of the results, and the block with the records placed, END sent down and the entry freed. -/
def Block.decide_ (b : Block) (t : Txn) (cols : List PCol) : (Nat × Nat) × Block :=
  let mm := (t.colls.head?.map (fun c => c.maxmiss)).getD 0
  let err := if t.err = 0 ∧ mm < t.missing then 1 else t.err
  let overc := (t.colls.zip cols).any (fun p => p.1.run && overcount (b.running p.1) p.2.elems)
  let err := if err = 0 ∧ overc then 4 else err
  let ph := b.resultPhase t.tag
  let b := (t.colls.zip cols).foldl (fun b p => b.resultRec t err ph.1 p.1 p.2) ph.2
  let b := b.sendAll (b.portsOf t.expect) (.end_ t.tag err)
  ((err, ph.1), (b.noteEnd t.tag err).freeTxn t.tag)

/-- A reduction is over: the root decides, any other aggregator sends its partial (R142). At the root, the code, the results' PHASE
and the shares. -/
def Block.finish (b : Block) (t : Txn) : Option (Nat × Nat × List PCol) × Block :=
  let r := b.reduceTxn t
  let t := if r.2 = 0 then t else { t with err := lowErr t.err 3, unmerged := r.2 }
  let b := if t.colls.any (fun c => c.prog.op == 8) then { b with swm := { b.swm with insAstat := t.insAstat } } else b
  if b.isRoot then let d := b.decide_ t r.1; (some (d.1.1, d.1.2, r.1), d.2)
  else
    let p : Partial := { tag := t.tag, child := b.selfLai, w := t.w, err := t.err, missing := t.missing, list := t.list, cols := r.1 }
    let b := (b.putTxn { t with state := 2, sent := some p, contribs := [], partials := [] }).showStage
    (none, b.sendSwarm b.upPort (.partial_ p))

/-- The unfenced lanes. -/
def Block.freeLanes (b : Block) : List Nat := (List.range 256).filter (fun l => ! b.laneFenced l)

/-- The report of a first mismatch, its rerun over (R125): the entry, no longer in a rerun, and the block with the report. -/
def Block.rerunOver (b : Block) (t : Txn) (recovered : Bool) : Txn × Block :=
  match t.first with
  | some m => ({ t with first := none }, (b.laneReport t m recovered).putTxn { t with first := none })
  | none => (t, b)

/-- The program over an entry's retained inputs completes, perhaps with a residue mismatch (R125, R142, R155): a first mismatch
runs it once more on another lane, a second gives RESIDUE (one on the lane of the first is none of the rerun's); no unfenced lane for a rerun
gives NOLANE. Residues that are congruent are equal (R124). What follows the end of a reduction is `fin`. -/
def Block.reductionDone (b : Block) (tag : Nat) (mis : Option (Nat × Nat × Nat × Nat × Nat)) (fin : Block → Txn → Block) : Block :=
  match b.txn tag with
  | none => b
  | some t =>
    if ¬ b.swarmOn ∨ t.state ≠ 1 then b
    else if b.freeLanes = [] then let r := b.rerunOver t false; fin r.2 { r.1 with err := lowErr t.err 7 }
    else match mis.filter (fun m => !resEq m.2.2.2.1 m.2.2.2.2) with
      | some (lane, op, fmt, exp, obs) =>
        let m : Mismatch := { lane := lane, op := op, fmt := fmt, exp := exp, obs := obs, seen := b.seen }
        (match t.first with
         | none =>
           if b.freeLanes.filter (fun l => l != lane) = [] then fin (b.laneReport t m false) { t with err := lowErr t.err 7 }
           else b.putTxn { t with first := some m }
         | some f =>
           if f.lane = lane then b
           else let r := b.rerunOver t false; fin (r.2.laneReport t m false) { r.1 with err := lowErr t.err 2 })
      | none => let r := b.rerunOver t true; fin r.2 r.1

/-! END, grace, RESEND, START, launch -/

/-- END at an aggregator or a D-role (R146): passed to the children, the entry freed; a freed tag's is ignored. Each D-role that it reaches
records it. -/
def Block.endTag (b : Block) (tag code : Nat) : Block :=
  if b.swm.freed.contains tag then b
  else if b.syn.agg then
    match b.txn tag with
    | some t => ((b.sendAll (b.portsOf t.expect) (.end_ tag code)).noteEnd tag code).freeTxn tag
    | none =>
      if b.swm.refused.contains tag then
        let l := ((b.tagBatch tag).map b.expected).getD []
        let b := { b with swm := { b.swm with refused := b.swm.refused.filter (· != tag) } }
        (b.sendAll (b.portsOf l) (.end_ tag code)).noteEnd tag code
      else b
  else ({ b with swm := { b.swm with mine := b.swm.mine.filter (fun o => o.tag != tag) } }).noteEnd tag code

/-- No END by W + DEADLINE + SWM_END_GRACE (R146). -/
def Block.endGrace (b : Block) (tag : Nat) : Block :=
  let due := (match b.txn tag with
    | some t => wallPast b.wall t.w (b.graceAfter t.deadline)
    | none => false)
    || (b.swm.mine.find? (fun o => o.tag == tag)).any (fun o => wallPast b.wall o.w (b.graceAfter o.deadline))
  if b.on dSWARM ∧ due then (b.endTag tag 1).raise Ev.SWM_ORPHAN [(tag, 64)] else b

/-- RESEND from the parent (R148): the retained partial goes again. -/
def Block.resendPartial (b : Block) (port tag : Nat) : Block :=
  match (b.txn tag).bind (fun t => t.sent) with
  | some p => if b.on dSWARM then b.sendSwarm port (.partial_ p) else b
  | none => b

/-- START (R154): a D-role contributes or ignores it; an aggregator opens its entry and passes it on. -/
def Block.startTag (b : Block) (tag w : Nat) : Block :=
  if ¬ b.swarmOn then b
  else match b.tagBatch tag with
    | none => if b.syn.agg then b.sendAll b.downPorts (.start tag w) else b
    | some l =>
      if b.syn.agg then
        let b := if b.newTag tag ∧ (b.isRoot ∨ b.expected l ≠ []) then b.openTxn tag w l else b
        b.sendAll b.downPorts (.start tag w)
      else if tagSw tag ∧ b.is F.SELF_LDI_BOUND ∧ l.all (fun c => b.inGroup c.group b.selfLdi) ∧ b.newTag tag
          ∧ ¬ b.swm.mine.any (fun o => o.tag == tag) then
        b.contribute { tag := tag, ldi := b.selfLdi, epoch := b.selfEpoch, cause := 0, wall := b.wall,
                       parts := l.map (fun c => b.elemsOf c 0 b.phase) } w ((l.head?.map (fun c => c.deadline)).getD 1000)
      else b

/-- SWM_LAUNCH.GO at the root (R154). -/
def Block.launch (b : Block) (coll : Nat) : Block :=
  if b.swarmOn ∧ b.isRoot ∧ b.is (F.SWM_COLL_CFG_EN.ix coll) ∧ b.is (F.SWM_COLL_CFG_SW.ix coll) then
    let n := (b.swm.launches + 1) % 2 ^ 40
    ({ b with swm := { b.swm with launches := n } }).startTag (swTag true coll n 0) b.wall
  else b

/-- SWM_LAUNCH.ABORT at the root (R154): the transactions it holds in OPEN or REDUCING for the collective end with ABORTED. -/
def Block.abort (b : Block) (coll : Nat) (fin : Block → Txn → Block) : Block :=
  if b.swarmOn ∧ b.isRoot then
    (b.swm.txns.filter (fun t => decide (t.state < 2) && t.colls.any (fun c => c.num == coll))).foldl
      (fun b t => fin b { t with err := lowErr t.err 8 }) b
  else b

/-- Whether a lane fence write left no lane (R155): every reduction ends with NOLANE. -/
def Block.lanesGone (b : Block) (fin : Block → Txn → Block) : Block :=
  if b.freeLanes = [] then
    (b.swm.txns.filter (fun t => t.state == 1)).foldl (fun b t => fin b { t with err := lowErr t.err 7 }) b
  else b

/-- A retained input or partial held in a bad SRAM word (Table 14-3): the entry takes RESIDUE. -/
def Block.swarmSram (b : Block) (tag : Nat) : Block :=
  match b.txn tag with
  | some t => b.putTxn { t with err := lowErr t.err 2 }
  | none => b

/-- A read of SWM_LAST_END_LO (R146). -/
def Block.lastEndRead (b : Block) : Nat × Block :=
  (b.swm.lastEnd.1 % 2 ^ 32, (b.setf F.SWM_LAST_END_MID_TAG_HI (b.swm.lastEnd.1 / 2 ^ 32)).setf F.SWM_LAST_END_HI_CODE b.swm.lastEnd.2)

/-- END_RECEIVED. -/
def execEndReceived (port tag code : Nat) (s : State) : Host.Outcome State Fault Refusal :=
  s.lift (fun b => if b.on dSWARM then (b.unstage port 2).endTag tag code else b.unstage port 2)
/-- END_GRACE. -/
def execEndGrace (tag : Nat) (s : State) : Host.Outcome State Fault Refusal := s.lift (fun b => b.endGrace tag)
/-- RESEND_RECEIVED. -/
def execResendReceived (port tag : Nat) (s : State) : Host.Outcome State Fault Refusal :=
  s.lift (fun b => (b.unstage port 2).resendPartial port tag)
/-- START_RECEIVED. -/
def execStartReceived (port tag w : Nat) (s : State) : Host.Outcome State Fault Refusal :=
  s.lift (fun b => (b.unstage port 2).startTag tag w)
/-- TRANSACTION_CUTOFF. -/
def execTransactionCutoff (tag : Nat) (s : State) : Host.Outcome State Fault Refusal := s.lift (fun b => b.cutoff tag)
/-- SWARM_LAUNCH: SWM_LAUNCH.GO; COLL is written with it. -/
def execSwarmLaunch (m : Master) (word : Nat) (s : State) : Host.Outcome State Fault Refusal :=
  s.lift (fun b => b.write m 0x5050 word (fun b => (b.writeFields 0x5050 word).launch (word % 4096)))
/-- RUNNING_CLEAR: SWM_LAUNCH.RUNCLR (R153); the mirror follows (R245). -/
def execRunningClear (m : Master) (word : Nat) (s : State) : Host.Outcome State Fault Refusal :=
  s.lift (fun b => b.write m 0x5050 word (fun b =>
    let b := b.writeFields 0x5050 word
    ({ b with swm := { b.swm with running := b.swm.running.del (word % 4096) } }).toMirror (.running (word % 4096) [])))
/-- LAST_END_READ. -/
def execLastEndRead (m : Master) (s : State) : Host.Outcome State Fault Refusal := s.lift (fun b => b.read m 0x5010 Block.lastEndRead)

end Sys2Proof.Machine
end

