-- ==== Sys2Proof/Machine/Hawkmoth.lean ====
section
/-! DEFINITION. Hawkmoth (spec/07_hawkmoth.md, R157 to R182): the model section, expansion, scoring, passes, the local tile. -/

namespace Sys2Proof.Machine

/-! The model section (R159, R160) -/

/-- A tree as the section holds it: NODES, OUT, whether a reserved bit is not 0, node records (16 bytes as a number), leaf values. -/
structure RawTree where
  nodes : Nat
  out : Nat
  rsv : Bool
  recs : List Nat
  leaves : List Nat
  deriving DecidableEq, Repr

/-- An ensemble as the section holds it. -/
structure RawEns where
  rsv : Bool
  outputs : Nat
  count : Nat
  base : List Nat
  trees : List RawTree
  deriving DecidableEq, Repr

/-- One tree, and what follows it. -/
def rawTree (l : List Byte) : RawTree × List Byte :=
  let h := leAt l 0 8
  let n := h % 256
  let t := l.drop 8
  let recs := (List.range n).map (fun i => leAt t (16 * i) 16)
  let t := t.drop (16 * n)
  let leaves := (List.range (n + 1)).map (fun i => leAt t (4 * i) 4)
  ({ nodes := n, out := bits h 8 3, rsv := h / 2 ^ 11 != 0, recs := recs, leaves := leaves }, t.drop ((4 * (n + 1) + 7) / 8 * 8))

/-- k trees, and what follows them. -/
def rawTrees (k : Nat) (l : List Byte) : List RawTree × List Byte :=
  match k with
  | 0 => ([], l)
  | k + 1 =>
    let r := rawTree l
    let s := rawTrees k r.2
    (r.1 :: s.1, s.2)

/-- The ensembles to the end of the section (fuel: its length). -/
def rawEnses (fuel : Nat) (l : List Byte) : List RawEns :=
  match fuel with
  | 0 => []
  | n + 1 =>
    if l.length < 8 then []
    else
      let h := leAt l 0 8
      let outs := bits h 16 3 + 1
      let t := l.drop 8
      let base := (List.range outs).map (fun i => leAt t (4 * i) 4)
      let r := rawTrees (h % 2 ^ 14) (t.drop (4 * outs))
      { rsv := bits h 14 2 != 0 || h / 2 ^ 19 != 0, outputs := outs, count := h % 2 ^ 14, base := base, trees := r.1 } :: rawEnses n r.2

/-- FEATFMT of a section. -/
def rawFeatfmt (l : List Byte) : List Nat := (List.range 1024).map (fun f => bits (leAt l (f / 2) 1) (4 * (f % 2)) 4)

/-- The category sets of a section as 256-bit numbers. -/
def rawSets (sets : Nat) (l : List Byte) : List Nat := (List.range sets).map (fun i => leAt l (512 + 32 * i) 32)

/-! Expansion (R158, R163 to R165) -/

/-- A child pointer: whether it names a leaf, and its index. -/
def childOf (x : Nat) : Bool × Nat := (bit x 8 == 1, x % 256)

/-- Left and right child of a node record. -/
def nodeKids (r : Nat) : (Bool × Nat) × (Bool × Nat) := (childOf (bits r 80 16), childOf (bits r 96 16))

/-- Formats on which a categorical node is allowed (R162). -/
def catFmt (fmt : Nat) : Bool := decide (fmt ≤ 5)

/-- The first failure of one node record, by Table 7-4; children are judged with the tree. -/
def nodeErr (featfmt : List Nat) (sets r : Nat) : Nat :=
  let fmt := (featfmt[bits r 64 10]?).getD 0
  let kind := bits r 74 2
  if 2 ≤ kind ∨ (kind = 1 ∧ ¬ catFmt fmt) then 3
  else if kind = 1 ∧ sets ≤ r % 2 ^ 12 then 4
  else if bits r 77 3 ≠ 0 ∨ bits r 89 7 ≠ 0 ∨ bits r 105 7 ≠ 0 ∨ bits r 112 16 ≠ 0 ∨ (kind = 1 ∧ bits r 12 52 ≠ 0) then 7
  else 0

/-- Whether the children of node i break the tree (code 0x5), given what earlier nodes named. -/
def kidsBad (nodes : Nat) (seen : List (Bool × Nat)) (k : (Bool × Nat) × (Bool × Nat)) : Bool :=
  let bad (c : Bool × Nat) (s : List (Bool × Nat)) : Bool :=
    (if c.1 then decide (nodes < c.2) else c.2 == 0 || decide (nodes ≤ c.2)) || s.contains c
  bad k.1 seen || bad k.2 (k.1 :: seen)

/-- The first failing node of a tree: (code, node). -/
def nodesErr (featfmt : List Nat) (sets nodes : Nat) (i : Nat) (seen : List (Bool × Nat)) (l : List Nat) : Option (Nat × Nat) :=
  match l with
  | [] => none
  | r :: t =>
    let e := nodeErr featfmt sets r
    let k := nodeKids r
    if e = 3 ∨ e = 4 then some (e, i)
    else if kidsBad nodes seen k then some (5, i)
    else if e ≠ 0 then some (e, i)
    else nodesErr featfmt sets nodes (i + 1) (k.1 :: k.2 :: seen) t

/-- Whether an F32 pattern is finite. -/
def finite32 (x : Nat) : Bool := bits x 23 8 != 255

/-- The first failure of a tree: (code, node). -/
def treeErr (featfmt : List Nat) (sets : Nat) (t : RawTree) : Option (Nat × Nat) :=
  if t.rsv then some (7, 0)
  else match nodesErr featfmt sets t.nodes 0 [] t.recs with
    | some e => some e
    | none => if t.leaves.all finite32 then none else some (6, 0)

/-- The expanded size of trees in bytes (Table 7-1). -/
def treesSize (l : List RawTree) : Nat := (l.map (fun t => 20 + 20 * t.nodes)).foldl (· + ·) 0

/-- The first failure of the trees of an ensemble: (code, tree, node). -/
def treesErr (featfmt : List Nat) (sets : Nat) (i : Nat) (l : List RawTree) : Option (Nat × Nat × Nat) :=
  match l with
  | [] => none
  | t :: r => match treeErr featfmt sets t with
    | some e => some (e.1, i, e.2)
    | none => treesErr featfmt sets (i + 1) r

/-- The first failure of the ensembles: (code, ensemble, tree, node). `used` and `size` count the trees and bytes before. -/
def ensesErr (agg : Bool) (featfmt : List Nat) (sets i used size : Nat) (l : List RawEns) : Option (Nat × Nat × Nat × Nat) :=
  match l with
  | [] => none
  | e :: r =>
    let used := used + e.count
    let size := size + treesSize e.trees
    if (if agg then 4 ≤ i ∨ 8192 < e.count ∨ 16384 < used ∨ 10485760 < size else 1 ≤ i ∨ 256 < e.count ∨ 327680 < size) then some (1, i, 0, 0)
    else if e.rsv then some (7, i, 0, 0)
    else if ¬ e.base.all finite32 then some (6, i, 0, 0)
    else match treesErr featfmt sets 0 e.trees with
      | some x => some (x.1, i, x.2.1, x.2.2)
      | none => ensesErr agg featfmt sets (i + 1) used size r

/-- The in-order walk of R165 from a child pointer (fuel: nodes + 1): the next position, the leaves in order, and (node, LO, HI). -/
def walkTree (fuel : Nat) (recs : List Nat) (c : Bool × Nat) (pos : Nat) : Nat × List Nat × List (Nat × Nat × Nat) :=
  match fuel with
  | 0 => (pos, [], [])
  | n + 1 =>
    if c.1 then (pos + 1, [c.2], [])
    else
      let k := nodeKids ((recs[c.2]?).getD 0)
      let a := walkTree n recs k.1 pos
      let d := walkTree n recs k.2 a.1
      (d.1, a.2.1 ++ d.2.1, (c.2, pos, a.1 - 1) :: (a.2.2 ++ d.2.2))

/-- Expand one tree (R165). -/
def expandTree (sets : List Nat) (t : RawTree) : Tree :=
  let w := walkTree (t.nodes + 1) t.recs (t.nodes == 0, 0) 0
  let nodes := t.recs.zipIdx.map (fun p =>
    let r := p.1
    let cat := bits r 74 2 == 1
    let rg := (w.2.2.find? (fun x => x.1 == p.2)).getD (0, 0, 0)
    ({ thresh := if cat then (sets[r % 2 ^ 12]?).getD 0 else r % 2 ^ 64, feature := bits r 64 10, cat := cat, dflt := bit r 76 == 1,
       lo := rg.2.1, hi := rg.2.2 } : TNode))
  { out := t.out, nodes := nodes, leaves := w.2.1.map (fun i => (t.leaves[i]?).getD 0) }

/-- Expand a section that holds `sets` category sets: the model, or (ERR, ERR_ENS, ERR_TREE, ERR_NODE) (R164). -/
def expandSection (agg : Bool) (sets : Nat) (l : List Byte) : Except (Nat × Nat × Nat × Nat) Model :=
  let ff := rawFeatfmt l
  let es := rawEnses l.length (l.drop (512 + 32 * sets))
  if (if agg then 4096 else 256) < sets ∨ l.length < 512 + 32 * sets then .error (1, 0, 0, 0)
  else if ff.contains 14 then .error (2, 0, 0, 0)
  else match ensesErr agg ff sets 0 0 0 es with
    | some e => .error e
    | none =>
      let cs := rawSets sets l
      .ok { featfmt := ff, ens := es.map (fun e => { base := e.base, trees := e.trees.map (expandTree cs) }) }

/-- Expand a section; how many category sets it holds, the spec's layout does not say (log entry 23). -/
def expandModel (agg : Bool) (l : List Byte) : Except (Nat × Nat × Nat × Nat) Model := expandSection agg (Config.categorySets l) l

/-! Scoring (R162, R167, R168) -/

/-- Whether a node goes right (R162). `fmt` is FEATFMT of its feature. -/
def goesRight (fmt : Nat) (n : TNode) (r : Row) : Bool :=
  let f := r.feats.getD n.feature {}
  if ¬ f.valid then n.dflt
  else if n.cat then
    let c : Int := if fmt = 4 ∨ fmt = 5 then (f.key : Int) - ((2 ^ 63 : Nat) : Int) else f.key
    ! (decide (0 ≤ c) && decide (c ≤ 255) && bit n.thresh c.toNat == 1)
  else ! decide (f.key < n.thresh)

/-- The leaf value of a tree for a row (R167): the lowest leaf that no node going right rules out. -/
def scoreTree (featfmt : List Nat) (t : Tree) (r : Row) : Nat :=
  let out := t.nodes.filter (fun n => goesRight ((featfmt[n.feature]?).getD 0) n r)
  let e := ((List.range (t.nodes.length + 1)).find? (fun p => ! out.any (fun n => decide (n.lo ≤ p) && decide (p ≤ n.hi)))).getD 0
  (t.leaves[e]?).getD 0

/-- The score of an output (R168), with its ASTAT: an exact sum of BASE and the leaf values. -/
def scoreOut (m : Model) (e : Ens) (o : Nat) (r : Row) : Nat × Nat :=
  let a := ExAcc.add {} (decodeElem 11 ((e.base[o]?).getD 0))
  let a := (e.trees.filter (fun t => t.out == o)).foldl (fun a t => a.add (decodeElem 11 (scoreTree m.featfmt t r))) a
  a.result 11

/-- Whether a row has a valid bit. -/
def Row.any (r : Row) : Bool := r.feats.any (fun p => p.2.valid)

/-- The entry of a vector: `lost` are the outputs whose score is not formed (R169). -/
def scoreRow (m : Model) (e : Ens) (entity : Nat) (r : Row) (lost : List Nat) : Score :=
  let n := e.base.length
  if ¬ r.any then { entity := entity, norow := true, outs := List.replicate n (0, 0) }
  else { entity := entity, error := lost != [],
         outs := (List.range n).map (fun o => if lost.contains o then (0, 0) else scoreOut m e o r) }

/-- An entry that was not scored (R178). -/
def Score.err (entity outputs : Nat) : Score := { entity := entity, error := true, outs := List.replicate outputs (0, 0) }

/-- The ensemble of a model, one output and no tree where it has none. -/
def Model.ensemble (m : Model) (k : Nat) : Ens := (m.ens[k]?).getD {}

/-- The ensemble of the active model. -/
def Block.ens (b : Block) (k : Nat) : Ens := ((b.hwk.active.map (fun m => m.ensemble k)).getD {})

/-! Model expansion and swap -/

/-- Show the result of an expansion in HWK_EXPAND. -/
def Block.showExpand (b : Block) (e : Nat × Nat × Nat × Nat) : Block :=
  (((b.setf F.HWK_EXPAND_ERR e.1).setf F.HWK_EXPAND_ERR_ENS e.2.1).setf F.HWK_EXPAND_ERR_TREE e.2.2.1).setf F.HWK_EXPAND_ERR_NODE e.2.2.2

/-- An expansion begins (R163): MGMT_BUSY rises. -/
def Block.expandBegin (b : Block) (l : List Byte) : Block :=
  { b with hwk := { b.hwk with expanding := some l }, busy := some .expand }

/-- An expansion ends (R163, R164): whether it succeeded, and the block; either outcome replaces an earlier staged expansion. -/
def Block.expandEnd (b : Block) : Option Bool × Block :=
  match b.hwk.expanding with
  | none => (none, b)
  | some l =>
    let b := { b with hwk := { b.hwk with expanding := none }, busy := if b.busy = some BusyOp.expand then none else b.busy }
    match expandModel b.syn.agg l with
    | .ok m => (some true, (({ b with hwk := { b.hwk with staged := some m } }).showExpand (0, 0, 0, 0)).raise Ev.HWK_EXPAND_DONE)
    | .error e =>
      let b := ({ b with hwk := { b.hwk with staged := none } }).showExpand e
      (some false, b.raise Ev.HWK_EXPAND_ERR [(b.stored 0x600C, 32)])

/-- A model takes effect (R166): the D build switches at once; the aggregator copies it into the model store, after a pass that runs. -/
def Block.swapModel (b : Block) (m : Model) : Block :=
  if b.syn.agg then { b with hwk := { b.hwk with swap := some m, staged := none, copying := b.hwk.pass.isNone } }
  else ({ b with hwk := { b.hwk with active := some m, staged := none } }).raise Ev.HWK_SWAP

/-- Show the trees and outputs of the active model (HWK_ENS_TREES). -/
def Block.showTrees (b : Block) : Block :=
  (List.range 4).foldl (fun b k =>
    let e := b.ens k
    (b.setf (F.HWK_ENS_TREES_COUNT.ix k) e.trees.length).setf (F.HWK_ENS_TREES_OUTPUTS.ix k) (e.base.length - 1)) b

/-- The copy into the model store ends (R166): SWAP. A tree being copied again is whole again (Table 14-3). -/
def Block.copyDone (b : Block) : Block :=
  if ¬ b.on dHAWK then b
  else
    let b := { b with hwk := { b.hwk with badTrees := [] } }
    match b.hwk.swap with
    | some m =>
      if b.hwk.copying then
        (({ b with hwk := { b.hwk with active := some m, swap := none, copying := false } }).showTrees).raise Ev.HWK_SWAP
      else b
    | none => b

/-! Passes (R175 to R179) -/

/-- A pass request of the boundary of a wingbeat (R175, TRIG = 0): due DELAY µs after it. -/
def Block.passTriggers (b : Block) (idx phase : Nat) : Block :=
  let es := (List.range 4).filter (fun k =>
    b.is (F.HWK_ENS_CFG_EN.ix k) && !(b.is (F.HWK_ENS_CFG_TRIG.ix k)) && b.f (F.HWK_ENS_CFG_IDX.ix k) == idx)
  if b.syn.agg ∧ b.on dHAWK then
    { b with hwk := { b.hwk with triggers := b.hwk.triggers ++ es.map (fun k => (k, b.clk.core + b.us (b.f (F.HWK_ENS_TIME_DELAY.ix k)), phase)) } }
  else b

/-- Queue a pass request (R175): true where a full queue drops it. -/
def Block.requestPass (b : Block) (ens phase : Nat) : Bool × Block :=
  if b.hwk.queue.length < 8 then
    (false, { b with hwk := { b.hwk with queue := b.hwk.queue ++ [{ ens := ens, phase := phase, wall := b.wall }] } })
  else (true, (b.count F.HWK_DROPS_SKIP).raise Ev.HWK_PASS_SKIP)

/-- A delayed trigger of an ensemble that is due (R175): its PHASE, and the block without it. -/
def Block.dueTrigger (b : Block) (ens : Nat) : Option Nat × Block :=
  match b.hwk.triggers.find? (fun t => t.1 == ens && decide (t.2.1 ≤ b.clk.core)) with
  | some t => (some t.2.2, { b with hwk := { b.hwk with triggers := b.hwk.triggers.erase t } })
  | none => (none, b)

/-- Entities of an ensemble. -/
def Block.ensCount (b : Block) (k : Nat) : Nat := b.f (F.HWK_ENS_ENT_COUNT.ix k) + 1

/-- Copy a row into the vector buffer (R173, R176): PER_WB features are valid for this pass only. -/
def Block.copyRow (b : Block) (e : Nat) : (Nat × Row) × Block :=
  let b := b.touch e
  let r := b.row e
  let r' : Row := { r with feats := r.feats.map (fun p => (p.1, if p.2.perWb then { p.2 with valid := false } else p.2)) }
  ((e, r), b.putRow e r')

/-- Copy the next batch of up to 8 rows (R176). -/
def Block.copyBatch (b : Block) (ens next : Nat) : List (Nat × Row) × Block :=
  let n := min 8 (b.ensCount ens - next)
  (List.range n).foldl (fun (a : List (Nat × Row) × Block) i =>
    let r := a.2.copyRow ((b.f (F.HWK_ENS_ENT_FIRST.ix ens) + next + i) % 65536)
    (a.1 ++ [r.1], r.2)) ([], b)

/-- The rows of a pass's range are read up to 64 ahead of the batch in progress, from its place on (R174). -/
def Block.readAhead (b : Block) (ens from_ : Nat) : Block :=
  let n := min 64 (b.ensCount ens - from_)
  (List.range n).foldl (fun b i => b.prefetch ((b.f (F.HWK_ENS_ENT_FIRST.ix ens) + from_ + i) % 65536)) b

/-- Whether a fault can be of a tile (R169, R177): tree i was dealt to the (i mod U)-th tile of the batch, or to any other where that one has been
fenced since; the second scoring was on another tile. -/
def Block.faultHere (b : Block) (p : Pass) (x : TreeFault) : Bool :=
  let t := (p.tiles[x.tree % max 1 p.tiles.length]?).getD 0
  (if b.tileFenced t then b.freeTiles.contains x.tile else x.tile == t)
    && (match x.again with
        | some g => g.1 != x.tile && b.freeTiles.contains g.1
        | none => true)

/-- Set the pass that runs. -/
def Block.setPass (b : Block) (p : Option Pass) : Block := { b with hwk := { b.hwk with pass := p } }

/-- A pass with no unfenced tile left ends, every entry of the batch in progress and of later ones marked ERROR (R178); the event names the first
of them. -/
def Block.passFails (b : Block) (p : Pass) : Block :=
  let n := (b.ens p.req.ens).base.length
  let first := b.f (F.HWK_ENS_ENT_FIRST.ix p.req.ens)
  let rest := (List.range (b.ensCount p.req.ens)).drop p.done.length
  let b := { b with hwk := { b.hwk with lost := false } }
  (b.setPass (some { p with batch := [], ahead := [], next := b.ensCount p.req.ens, failed := true,
                            done := p.done ++ rest.map (fun i => Score.err ((first + i) % 65536) n) })).raise Ev.HWK_SCORE_ERR
    [(p.req.ens, 8), (0, 16), ((first + p.done.length) % 65536, 16), (0, 8)]

/-- The next request begins (R175, R176): none while a pass or a copy runs, or with no model. -/
def Block.passStart (b : Block) : Block :=
  match b.hwk.queue with
  | q :: rest =>
    if b.on dHAWK ∧ b.is F.HWK_CTRL_EN ∧ b.hwk.pass.isNone ∧ b.hwk.swap.isNone ∧ b.hwk.active.isSome then
      let b := { b with hwk := { b.hwk with queue := rest } }
      let r := b.copyBatch q.ens 0
      let s := r.2.copyBatch q.ens r.1.length
      let b := s.2.readAhead q.ens (r.1.length + s.1.length)
      let p : Pass := { req := q, batch := r.1, ahead := s.1, next := r.1.length + s.1.length, tiles := b.freeTiles }
      if b.freeTiles = [] then b.passFails p else b.setPass (some p)
    else b
  | [] => b

/-- Whether a tree that failed on a tile can be scored once more on another (R169). -/
def Block.otherTile (b : Block) (tile : Nat) : Bool := b.freeTiles.any (fun t => t != tile)

/-- A fault's event and report (R169, R182): the second report where the second result failed too. -/
def Block.treeFault (b : Block) (ens : Nat) (entity : Nat) (x : TreeFault) : Block :=
  let arg (tile : Nat) : List (Nat × Nat) := [(ens, 8), (x.tree, 16), (entity, 16), (tile, 8)]
  let ctx := ens % 4 + x.tree % 2 ^ 14 * 4 + entity % 65536 * 65536
  let b := (b.checkFail 1 x.tile 1 x.op 0 x.tile x.exp x.obs ctx (x.again.isNone && b.otherTile x.tile)).raise Ev.HWK_CHECK (arg x.tile)
  match x.again with
  | some g => ((b.checkFail 1 g.1 1 g.2.1 0 g.1 g.2.2.1 g.2.2.2 ctx false).raise Ev.HWK_CHECK (arg g.1)).raise Ev.HWK_SCORE_ERR (arg g.1)
  | none => if b.otherTile x.tile then b else b.raise Ev.HWK_SCORE_ERR (arg x.tile)

/-- The outputs of a vector that are not formed: those of trees that failed twice, of trees being copied again; with no other tile, of trees that
failed once (R169). -/
def Block.lostOuts (b : Block) (e : Ens) (faults : List TreeFault) (vec : Nat) : List Nat :=
  let bad := (faults.filter (fun x => x.vec == vec && (x.again.isSome || !b.otherTile x.tile))).map (fun x => x.tree)
  (e.trees.zipIdx.filter (fun p => bad.contains p.2 || b.hwk.badTrees.contains p.2)).map (fun p => p.1.out)

/-- The batch in progress is scored (R176, R177); the next batch goes on and the rows after it are copied. -/
def Block.batchDone (b : Block) (faults : List TreeFault) : Block :=
  match b.hwk.pass, b.hwk.active with
  | some p, some m =>
    if ¬ b.on dHAWK ∨ p.batch = [] then b
    else if b.freeTiles = [] ∨ b.hwk.lost then b.passFails p
    else
      let e := m.ensemble p.req.ens
      let faults := faults.filter (b.faultHere p)
      let b := faults.foldl (fun b x => match p.batch[x.vec]? with
        | some v => b.treeFault p.req.ens v.1 x
        | none => b) b
      let ss := p.batch.zipIdx.map (fun v => scoreRow m e v.1.1 v.1.2 (b.lostOuts e faults v.2))
      let r := b.copyBatch p.req.ens p.next
      let b := r.2.readAhead p.req.ens (p.next + r.1.length)
      b.setPass (some { p with batch := p.ahead, ahead := r.1, next := p.next + r.1.length, done := p.done ++ ss, tiles := b.freeTiles })
  | _, _ => b

/-- The payload of a HWK_SCORE record (Table 7-8). -/
def scorePayload (ens outputs : Nat) (ss : List Score) : List Byte :=
  let first := (ss.head?.map (fun s => s.entity)).getD 0
  let l := leBytes 8 (packItems [(ens, 2), (outputs - 1, 3), (first, 16), (ss.length, 13)])
    ++ ss.flatMap (fun s => leBytes 4 (s.entity + (if s.error then 2 ^ 16 else 0) + if s.norow then 2 ^ 17 else 0)
        ++ s.outs.flatMap (fun o => leBytes 4 o.1))
  l ++ List.replicate ((8 - l.length % 8) % 8) 0

/-- FLAGS of a HWK_SCORE record (R179). -/
def scoreFlags (ss : List Score) : Nat :=
  (ss.flatMap (fun s => s.outs)).foldl (fun a o => a ||| o.2 % 8) 0 + (if ss.any (fun s => s.error) then 8 else 0)

/-- Cut a list into runs of n. -/
def runsOf {α : Type} (fuel n : Nat) (l : List α) : List (List α) :=
  match fuel with
  | 0 => []
  | k + 1 => if l = [] then [] else l.take n :: runsOf k n (l.drop n)

/-- The pass in progress has scored its last batch (R179): its request and entries, and the block with its records emitted and the
model copy, where one waits, begun. -/
def Block.passDone (b : Block) : Option (PassReq × List Score) × Block :=
  match b.hwk.pass with
  | some p =>
    if b.on dHAWK ∧ p.batch = [] ∧ b.ensCount p.req.ens ≤ p.done.length then
      let k := p.req.ens
      let n := (b.ens k).base.length
      let b := b.setPass none
      let b := { b with hwk := { b.hwk with copying := b.hwk.swap.isSome } }
      let b := if b.is (F.HWK_ENS_CFG_EMIT.ix k) then
          (runsOf p.done.length 4096 p.done).foldl (fun b ss =>
            b.emitAt (b.f (F.HWK_ENS_DEST_QUEUE.ix k)) (b.f (F.HWK_ENS_DEST_STREAM.ix k)) 0x21 11 (scoreFlags ss) 0 p.req.phase p.req.wall
              (scorePayload k n ss)) b
        else b
      (some (p.req, p.done), b)
    else (none, b)
  | none => (none, b)

/-- A write of HWK_TILE_FENCE (R178): a D-role's local pass that lost its one tile ends with ERROR. -/
def Block.tileFenceWrite (b : Block) (word : Nat) : Block :=
  let b := b.setf F.HWK_TILE_FENCE_FENCE word
  match b.hwk.pass with
  | some p => if b.freeTiles = [] ∧ p.batch ≠ [] then b.passFails p else b
  | none => b.tilesGone

/-! The local tile (R180, R181) -/

/-- The source of a local feature as a one-element contribution (R180, Table 6-2). -/
def Block.localColl (b : Block) (f fmt : Nat) : Coll :=
  { num := 0, fin := fmt, fout := fmt, idx := 0, sw := false, run := false, group := 0, elems := 1, maxmiss := 0, deadline := 0,
    prog := {}, queue := 0, stream := 0, src := b.f (F.HWK_LFEAT_CFG_SRC.ix f), base := b.f (F.HWK_LFEAT_CFG_INDEX.ix f),
    mfield := b.f (F.HWK_LFEAT_CFG_MFIELD.ix f) }

/-- The enabled local features, ascending. -/
def Block.localFeats (b : Block) : List Nat := sortBy id (b.copies F.HWK_LFEAT_CFG_EN 1)

/-- The local row of a fire (R180); the block is the one before the fire's captures. -/
def Block.localRow (b : Block) (m : Model) (acts phase : Nat) : Row :=
  b.localFeats.foldl (fun r f =>
    let fmt := (m.featfmt[f]?).getD 0
    let c := b.localColl f fmt
    let v := if c.src = 4 ∨ 6 ≤ c.src then none
             else (b.elemsOf c acts phase).bind (fun l => featKey fmt (leAt l 0 (fmtBytes fmt)))
    match v with
    | some k => r.write f (some k) false
    | none => r) { stamp := phase }

/-- A fire starts a local pass (R180); one that finds a pass running raises PASS_SKIP. -/
def Block.localPass (b pre : Block) (idx cause acts phase wall : Nat) : Block :=
  match b.hwk.active with
  | some m =>
    if ¬ b.syn.agg ∧ b.on dHAWK ∧ b.is F.HWK_CTRL_EN ∧ b.is F.HWK_LOCAL_CFG_EN ∧ b.f F.HWK_LOCAL_CFG_IDX = idx ∧ cause ≠ 3 then
      if b.hwk.lpass.isSome then b.raise Ev.HWK_PASS_SKIP
      else
        let b := b.abandonTest 1 0
        let r := pre.localRow m acts phase
        { b with hwk := { b.hwk with lpass := some (phase, wall, r), lmodel := some m, lost := false, local_ := r } }
    else b
  | none => b

/-- The HWK_FEATROW payload of a row (R181). -/
def featRowPayload (idx nfeat : Nat) (r : Row) : List Byte :=
  leBytes 8 (packItems [(idx, 8), (nfeat - 1, 10)])
    ++ (List.range 128).flatMap (fun i => leBytes 1 ((List.range 8).foldl (fun a j =>
        a + if Feat.valid (r.feats.getD (8 * i + j) {}) then 2 ^ j else 0) 0))
    ++ (List.range nfeat).flatMap (fun f => leBytes 8 (Feat.key (r.feats.getD f {})))

/-- Whether an F32 score is a number at least the threshold, by value (R181). -/
def hits (score th : Nat) : Bool :=
  let s := decodeElem 11 score
  let t := decodeElem 11 th
  match s, t with
  | .nan, _ => false
  | _, .nan => false
  | .fin n d _, .fin n' d' _ => decide (n' * d ≤ n * d')
  | _, _ => ! s.lt t

/-- The entry of a local row (R180): scored whatever is missing. -/
def scoreLocal (m : Model) (e : Ens) (r : Row) (lost : List Nat) : Score :=
  { entity := 0, error := lost != [], outs := (List.range e.base.length).map (fun o => if lost.contains o then (0, 0) else scoreOut m e o r) }

/-- The local pass ends (R181), on the model it began on (R166): hit, hold, records. Where its one tile was fenced the entry carries ERROR. Only
output 0 makes a hit, whatever becomes of the others. -/
def Block.localDone (b : Block) (faults : List TreeFault) : Block :=
  match b.hwk.lpass, b.hwk.lmodel with
  | some (phase, wall, r), some m =>
    if ¬ b.on dHAWK then b
    else
      let e := m.ensemble 0
      let fenced := b.freeTiles = [] ∨ b.hwk.lost
      let faults := faults.filter (fun x => x.tile == 0 && x.again.isNone)
      let b := { b with hwk := { b.hwk with lpass := none, lmodel := none, lost := false } }
      let b := if fenced then b.raise Ev.HWK_SCORE_ERR [(0, 8), (0, 16), (0, 16), (0, 8)] else faults.foldl (fun b x => b.treeFault 0 0 x) b
      let gone := b.lostOuts e (faults.map (fun x => { x with vec := 0 })) 0
      let s := if fenced then Score.err 0 e.base.length else scoreLocal m e r gone
      let hit := !decide fenced && !gone.contains 0 && hits ((s.outs.head?.map (fun o => o.1)).getD 0) (b.f F.HWK_LOCAL_TH_TH)
      let b := b.raiseIf hit Ev.HWK_LOCAL_HIT
      let send := hit || b.hwk.hold != 0
      let b := { b with hwk := { b.hwk with hold := if hit then b.f F.HWK_LOCAL_CFG_HOLD else b.hwk.hold - 1 } }
      let q := b.f F.HWK_LOCAL_DEST_QUEUE
      let st := b.f F.HWK_LOCAL_DEST_STREAM
      let nf := (b.localFeats.getLast?.getD 0) + 1
      let b := if send then b.emitAt q st 0x22 3 0 0 phase wall (featRowPayload (b.f F.HWK_LOCAL_CFG_IDX) nf r) else b
      if b.is F.HWK_LOCAL_CFG_EMIT then b.emitAt q st 0x21 11 (scoreFlags [s]) 0 phase wall (scorePayload 0 e.base.length [s]) else b
  | _, _ => b

/-- A read of HWK_ROW_LO (R182): the D build reads its local row. -/
def Block.rowRead (b : Block) : Nat × Block :=
  let e := b.f F.HWK_ROW_SEL_ENTITY
  let r := if b.syn.agg then b.row e else b.hwk.local_
  let x := r.feats.getD (b.f F.HWK_ROW_SEL_FEATURE) {}
  let b := ((b.setf F.HWK_ROW_HI_KEY_HI (x.key / 2 ^ 32)).setb F.HWK_ROW_STAT_VALID x.valid).setb F.HWK_ROW_STAT_CACHED
    (b.syn.agg && b.hwk.cached.contains e)
  (x.key % 2 ^ 32, b)

/-- PASS_START. -/
def execPassStart (s : State) : Host.Outcome State Fault Refusal := s.lift Block.passStart
/-- BATCH_DONE. -/
def execBatchDone (faults : List TreeFault) (s : State) : Host.Outcome State Fault Refusal := s.lift (fun b => b.batchDone faults)
/-- MODEL_COPY_DONE. -/
def execModelCopyDone (s : State) : Host.Outcome State Fault Refusal := s.lift Block.copyDone
/-- TILE_FENCE_WRITE. -/
def execTileFenceWrite (m : Master) (word : Nat) (s : State) : Host.Outcome State Fault Refusal :=
  s.lift (fun b => b.write m 0x6010 word (fun b => b.tileFenceWrite word))
/-- LOCAL_PASS_DONE. -/
def execLocalPassDone (faults : List TreeFault) (s : State) : Host.Outcome State Fault Refusal := s.lift (fun b => b.localDone faults)
/-- ROW_READ. -/
def execRowRead (m : Master) (s : State) : Host.Outcome State Fault Refusal := s.lift (fun b => b.read m 0x60A4 Block.rowRead)

end Sys2Proof.Machine
end

