-- ==== Sys2Proof/Machine/Verdict.lean ====
section
/-! DEFINITION. The Verdict unit (spec/08_verdicts_energy.md, R183 to R191, R196, R197): rounds and their records, stragglers, score rules,
corruption. -/

namespace Sys2Proof.Machine

/-! Records (R197) -/

/-- Whether an entry stands before another: SEV descending, KIND ascending, ENTITY ascending. -/
def VEntry.before (a c : VEntry) : Bool :=
  decide (c.sev < a.sev) || (a.sev == c.sev && (decide (a.kind < c.kind) || (a.kind == c.kind && decide (a.entity < c.entity))))

/-- Insert an entry in order, after its equals. -/
def putEntry (e : VEntry) (l : List VEntry) : List VEntry :=
  match l with
  | [] => [e]
  | x :: t => if e.before x then e :: x :: t else x :: putEntry e t

/-- Entries in the order of R197. -/
def orderEntries (l : List VEntry) : List VEntry := l.foldl (fun a e => putEntry e a) []

/-- The 24 bytes of an entry (Table 8-2). -/
def VEntry.bytes (e : VEntry) : List Byte :=
  leBytes 2 (packItems [(e.kind, 8), (if e.clear then 1 else 0, 1), (if e.ongoing then 1 else 0, 1), (if e.bound then 1 else 0, 1),
      (if e.late then 1 else 0, 1), (e.count, 4)])
    ++ leBytes 2 (packItems [(e.sev, 3), (e.action, 4), (e.rule, 9)])
    ++ leBytes 4 (packItems [(e.entity, 20), (e.entkind, 2)]) ++ leBytes 8 e.metric ++ leBytes 8 e.ref

/-- The payload of a VRD_VERDICT record (Table 8-1): the first 1,024 entries in order. -/
def verdictPayload (step idx : Nat) (supp nopeer : Bool) (fleet trays : Nat) (es : List VEntry) : List Byte :=
  leBytes 8 (packItems [(step, 40), (idx, 8), (if supp then 1 else 0, 1), (if supp then 1 else 0, 1), (if nopeer then 1 else 0, 1)])
    ++ leBytes 4 (min 1024 es.length) ++ leBytes 4 (es.length - 1024) ++ leBytes 8 fleet ++ leBytes 4 trays ++ leBytes 4 0
    ++ (es.take 1024).flatMap VEntry.bytes

/-- PHASE of a wingbeat: its step and the POS of its entry. -/
def Block.wbPhase (b : Block) (step idx : Nat) : Nat := step % 2 ^ 40 * 2 ^ 24 + b.f (F.ANT_WB_ENTRY_POS.at (idx % 256))

/-- Emit a verdict record (R197). -/
def Block.emitVerdict (b : Block) (step idx : Nat) (supp nopeer : Bool) (fleet trays : Nat) (entries : List VEntry) : Block :=
  let es := orderEntries entries
  let sev := (es.head?.map (fun e => e.sev)).getD 0
  let b := b.emitAt (b.f F.VRD_DEST_QUEUE) (b.f F.VRD_DEST_STREAM) 0x30 3 0 sev (b.wbPhase step idx) b.wall
    (verdictPayload step idx supp nopeer fleet trays es)
  b.raiseIf (decide (1024 < es.length)) Ev.VRD_DROPPED

/-! Confirmation (R188) -/

/-- What judging emits: nothing, an entry, one with ONGOING, one with CLEAR. -/
inductive Judged where
  | nothing
  | asserted
  | ongoing
  | cleared
  deriving DecidableEq, Repr

/-- judge of R188: `rank` is 2 at or above the threshold, 1 at or above half of it, 0 below. -/
def Confirm.judge (x : Confirm) (rank confirm : Nat) : Confirm × Judged :=
  let y : Confirm := if rank = 2 then { x with c := min (x.c + 1) 15 } else if rank = 1 then x else { x with c := 0, asserted := false }
  if confirm ≤ y.c then ({ y with asserted := true }, if y.asserted then .ongoing else .asserted)
  else (y, if rank = 0 ∧ x.asserted then .cleared else .nothing)

/-- The rank of a lag in units of 2^-40 s against a threshold in µs, compared exactly. -/
def lagRank (lag : Int) (th : Nat) : Nat :=
  let t : Int := ((th * 2 ^ 40 : Nat) : Int)
  if t ≤ lag * 1000000 then 2 else if t ≤ 2 * (lag * 1000000) then 1 else 0

/-- A signed value as 64 bits. -/
def pat64 (x : Int) : Nat := (x % ((2 ^ 64 : Nat) : Int)).toNat

/-- An entry as judging leaves it. -/
def markEntry (e : VEntry) (j : Judged) : Option VEntry :=
  match j with
  | .nothing => none
  | .asserted => some e
  | .ongoing => some { e with ongoing := true }
  | .cleared => some { e with clear := true }

/-! Rounds at the acting root (R184, R185) -/

/-- A confirmation count on the mirror (R190). -/
def Confirm.code (x : Confirm) : Nat := x.c + (if x.asserted then 16 else 0) + 32 * x.silent

/-- The confirmation count that a mirrored value stands for. -/
def Confirm.ofCode (n : Nat) : Confirm := { c := n % 16, asserted := n / 16 % 2 == 1, silent := n / 32 }

/-- COUNT of the entry that a judgement emits (R188): CLEAR goes out before c falls to 0. -/
def Confirm.shown (old new : Confirm) (j : Judged) : Nat := if j = .cleared then old.c else new.c

/-- Whether this is the acting root's Verdict unit at work. -/
def Block.verdictRoot (b : Block) : Bool := b.isRoot && b.on dSWARM && b.is F.VRD_CTRL_EN

/-- The straggler collective. -/
def Block.stragColl (b : Block) : Nat := b.f F.VRD_STRAG_CFG_COLL

/-- LAIs whose TRAY_SUM a round expects (R184): by the image's ranges and groups, DEDUCED (log entry 159). -/
def Block.expectedSums (b : Block) : List Nat :=
  let g := b.f (F.SWM_COLL_CFG_GROUP.ix b.stragColl)
  ((b.fab.topo.trays.filter (fun r => decide (0 < b.groupCount g r.2.1 r.2.2))).map (fun r => r.1)).eraseDups

/-- Ensembles whose root pass a round expects (R184). -/
def Block.expectedPasses (b : Block) : List Nat :=
  (List.range 4).filter (fun k =>
    b.is (F.HWK_ENS_CFG_EN.ix k) && b.is (F.HWK_ENS_CFG_TRIG.ix k) && b.f (F.HWK_ENS_CFG_COLL.ix k) == b.stragColl
      && (List.range 16).any (fun r => b.is (F.VRD_RULE_CFG_EN.ix r) && b.is (F.VRD_RULE_CFG_ROUND.ix r) && b.f (F.VRD_RULE_CFG_ENS.ix r) == k))

/-- Whether every expected input of a round is in. -/
def Block.roundFull (b : Block) (r : Round) : Bool :=
  r.decided && b.expectedSums.all (fun l => r.sums.any (fun s => s.1 == l)) && b.expectedPasses.all r.passes.contains

/-- The element of rank ceil(m / 2), ascending (R187, R189), of walls near `w`. -/
def medianOf (w : Nat) (l : List Nat) : Option Nat := (sortBy (fun x => (wallDiff x w + ((2 ^ 63 : Nat) : Int)).toNat) l)[(l.length + 1) / 2 - 1]?

/-- Least contributions for a median. -/
def Block.minPeers (b : Block) : Nat := atLeast1 (b.f F.VRD_STRAG_CFG_MINPEERS)

/-- Rounds to assert a straggler. -/
def Block.confirmN (b : Block) : Nat := atLeast1 (b.f F.VRD_STRAG_CFG_CONFIRM)

/-- One tray's lag is judged (R189): the entry, and the block with the count, copied to the standby root (R190). -/
def Block.judgeTray (b : Block) (lai : Nat) (lag : Int) (fleet : Nat) : Option VEntry × Block :=
  if b.que.inj.isSome ∨ ¬ b.is F.VRD_CTRL_STRAG then (none, b)
  else
  let old := b.vrd.trays.getD lai {}
  let r := Confirm.judge old (lagRank lag (atLeast1 (b.f F.VRD_STRAG_TH_TRAY_TH))) b.confirmN
  let e : VEntry := { kind := 2, count := old.shown r.1 r.2, sev := b.f F.VRD_STRAG_CFG_SEV, action := 1, entity := lai, entkind := 1,
                      metric := pat64 lag, ref := fleet }
  let b := { b with vrd := { b.vrd with trays := b.vrd.trays.putD {} lai r.1 } }
  let b := b.toMirror (.straggler (2 ^ 20 + lai) r.1.code)
  (markEntry e r.2, b.raiseIf (r.2 == .asserted) Ev.VRD_STRAGGLER)

/-- Show whether a round is open (VRD_STATUS.OPEN). -/
def Block.showOpen (b : Block) : Block := b.setb F.VRD_STATUS_OPEN (b.vrd.rounds != [])

/-- Emit the supplement of a round, if it has one to emit (R185). -/
def Block.emitSupp (b : Block) (c : Closed) : Block :=
  if c.any ∧ ¬ c.gone then
    let b := { b with vrd := { b.vrd with closed := b.vrd.closed.map (fun x => if x = c then { x with gone := true } else x) } }
    (b.emitVerdict c.step c.idx true c.nopeer c.fleet c.trays c.entries).raise Ev.VRD_AFTER_PLAN
  else b

/-- A round closes (R184, R185, R189): the fleet median is formed, the trays are judged (rounds count in the order of their close, log entry 151), what waits
joins, supplements that wait go first, the main record is emitted. -/
def Block.closeRound (b : Block) (r : Round) : Block :=
  let b := ({ b with vrd := { b.vrd with rounds := b.vrd.rounds.filter (fun x => x.step != r.step || x.idx != r.idx) } }).showOpen
  let good := r.sums.filter (fun s => s.2.1.isSome && decide (b.minPeers ≤ s.2.2))
  let f := medianOf r.w (good.map (fun s => s.2.1.getD 0))
  let j := match f with
    | some fl => (sortBy (fun (s : Nat × Option Nat × Nat) => s.1) good).foldl (fun (a : List VEntry × Block) (s : Nat × Option Nat × Nat) =>
        let x := a.2.judgeTray s.1 (wallDiff (s.2.1.getD 0) fl) fl
        (a.1 ++ x.1.toList, x.2)) ([], b)
    | none => ([], b)
  let b := j.2
  let nop := r.nopeer || good.length != r.sums.length || f.isNone
  let es := r.entries ++ j.1 ++ b.vrd.waiting
  let b := { b with vrd := { b.vrd with waiting := [] } }
  let b := b.vrd.closed.reverse.foldl Block.emitSupp b
  let b := b.emitVerdict r.step r.idx false nop (f.getD 0) r.sums.length es
  let c : Closed := { step := r.step, idx := r.idx, at_ := b.clk.core, fleet := f.getD 0, formed := f.isSome,
                      lais := r.sums.map (fun s => s.1), nopeer := nop }
  ({ b with vrd := { b.vrd with closed := (c :: b.vrd.closed).take 64 } }).raise Ev.VRD_ROUND

/-- Whether a collective takes wall times (Table 6-2: SRC 4, and the reserved values that act as it). -/
def Coll.walls (c : Coll) : Bool := c.src == 4 || decide (6 ≤ c.src)

/-- The straggler collective in a transaction, with its place in the batch. -/
def Block.strag (b : Block) (t : Txn) : Option (Coll × Nat) :=
  if tagSw t.tag then none else t.colls.zipIdx.find? (fun p => p.1.num == b.stragColl && p.1.walls)

/-- W of a wingbeat's round: that of the straggler transaction where the root holds it (R184); until it does, the WALL of the round's first
input stands for it (DESIGN CHOICE, log entry 141). -/
def Block.roundW (b : Block) (step idx : Nat) : Nat :=
  ((b.swm.txns.find? (fun t => bits t.tag 8 40 == step && t.tag % 256 == idx && (b.strag t).isSome)).map (fun t => t.w)).getD b.wall

/-- Whether a wingbeat may have a round here (R186): a standby root opens none before its first boundary as root, and none for the wingbeats
before that. -/
def Block.roundHere (b : Block) (step idx : Nat) : Bool :=
  b.verdictRoot && !b.vrd.rootWait && b.vrd.rootFrom.all (fun p => decide ((b.wbPhase step idx + 2 ^ 64 - p) % 2 ^ 64 < 2 ^ 63))

/-- Whether a wingbeat's round is open or has its main record out. -/
def Block.hasRound (b : Block) (step idx : Nat) : Bool :=
  b.vrd.rounds.any (fun r => r.step == step && r.idx == idx) || b.vrd.closed.any (fun c => c.step == step && c.idx == idx)

/-- An input for a wingbeat's round (R184, R185): the round is opened, with the entries that wait for it, takes it and closes when full; or its
supplement takes it. -/
def Block.roundInput (b : Block) (step idx : Nat) (f : Round → Round) (g : Closed → Closed) : Block :=
  if ¬ b.roundHere step idx then b
  else if b.vrd.closed.any (fun c => c.step == step && c.idx == idx) then
    { b with vrd := { b.vrd with closed := b.vrd.closed.map (fun c =>
        if c.step = step ∧ c.idx = idx ∧ ¬ c.gone then { g c with any := true } else c) } }
  else
    let old := b.vrd.rounds.find? (fun r => r.step == step && r.idx == idx)
    let mine := b.vrd.early.filter (fun e => e.1 == step && e.2.1 == idx)
    let r := f (old.getD { step := step, idx := idx, w := b.roundW step idx, entries := mine.map (fun e => e.2.2) })
    let rs := if old.isSome then b.vrd.rounds.map (fun x => if x.step = step ∧ x.idx = idx then r else x) else b.vrd.rounds ++ [r]
    let b := ({ b with vrd := { b.vrd with rounds := rs, early := b.vrd.early.filter (fun e => !(e.1 == step && e.2.1 == idx)) } }).showOpen
    if b.roundFull r then b.closeRound r else b

/-- A straggler transaction that has opened at the root opens its wingbeat's round, whose W is the transaction's (R184). -/
def Block.roundOpen (b : Block) (t : Txn) : Block :=
  let step := bits t.tag 8 40
  let idx := t.tag % 256
  if (b.strag t).isNone ∨ b.vrd.closed.any (fun c => c.step == step && c.idx == idx) then b
  else b.roundInput step idx (fun r => { r with w := t.w }) id

/-- The tags of the entries held. -/
def Block.tags (b : Block) : List Nat := b.swm.txns.map (fun t => t.tag)

/-- The straggler transactions opened since the tags `old` were held open their rounds. -/
def Block.openedSince (b : Block) (old : List Nat) : Block :=
  (b.swm.txns.filter (fun t => !old.contains t.tag)).foldl Block.roundOpen b

/-- Whether an entry belongs to no wingbeat and joins the next round (R184). -/
def VEntry.loose (e : VEntry) : Bool := decide (5 ≤ e.kind) && decide (e.kind ≤ 8)

/-- Entries for a wingbeat's round: at the root they join it, or wait until an input of R184 opens it (log entry 146); elsewhere they go to the
root as R189 gives. -/
def Block.sendEntries (b : Block) (step idx : Nat) (es : List VEntry) : Block :=
  if es = [] then b
  else if b.isRoot then
    let b : Block := { b with vrd := { b.vrd with waiting := b.vrd.waiting ++ es.filter VEntry.loose } }
    let tight := es.filter (fun e => ! e.loose)
    if tight = [] ∨ ¬ b.roundHere step idx then b
    else if b.hasRound step idx then
      b.roundInput step idx (fun r => { r with entries := r.entries ++ tight }) (fun c => { c with entries := c.entries ++ tight })
    else { b with vrd := { b.vrd with early := b.vrd.early ++ tight.map (fun e => (step, idx, e)) } }
  else b.sendAll upstream (.traySum { lai := b.selfLai, step := step, idx := idx, extra := true, entries := es })

/-- The root takes a TRAY_SUM, up to 4,096 a round and one of each LAI (R189); one that comes after the main record is judged by its F. -/
def Block.takeSum (b : Block) (t : TraySum) : Block :=
  if t.extra then b.sendEntries t.step t.idx t.entries
  else
    let tight := t.entries.filter (fun e => ! e.loose)
    let b := { b with vrd := { b.vrd with waiting := b.vrd.waiting ++ t.entries.filter VEntry.loose } }
    match b.vrd.closed.find? (fun c => c.step == t.step && c.idx == t.idx) with
    | some c =>
      if c.gone ∨ c.lais.contains t.lai ∨ 4096 ≤ c.lais.length then b
      else
        let j := if t.median.isSome ∧ b.minPeers ≤ t.n ∧ c.formed then b.judgeTray t.lai (wallDiff (t.median.getD 0) c.fleet) c.fleet else (none, b)
        j.2.roundInput t.step t.idx id (fun c => { c with trays := c.trays + 1, lais := c.lais ++ [t.lai], entries := c.entries ++ tight ++ j.1.toList,
                                                          nopeer := c.nopeer || t.median.isNone })
    | none => b.roundInput t.step t.idx
      (fun r =>
        if r.sums.any (fun s => s.1 == t.lai) ∨ 4096 ≤ r.sums.length then r
        else { r with sums := r.sums ++ [(t.lai, t.median, t.n)], entries := r.entries ++ tight, nopeer := r.nopeer || t.median.isNone }) id

/-- A TRAY_SUM (R189): the root takes it, any other aggregator sends it on, on both links (R23). A copy of one of the last 4,096 came by the other
link and is dropped (DESIGN CHOICE, log entry 148). -/
def Block.traySum (b : Block) (t : TraySum) : Block :=
  if ¬ b.syn.agg ∨ b.vrd.taken.contains t then b
  else
    let b := { b with vrd := { b.vrd with taken := (t :: b.vrd.taken).take 4096 } }
    if b.isRoot then b.takeSum t else b.sendAll upstream (.traySum t)

/-! A T-role's stragglers (R187, R188) -/

/-- One member's lag is judged: the entry, and the block with the count, copied to the buddy (R190); nothing is counted while an injection
is in progress (R250). `missed` is a BOUND lag; a member whose late contribution is in already is not silent. -/
def Block.judgeDie (b : Block) (ldi : Nat) (lag : Int) (m : Nat) (missed : Bool) : Option VEntry × Block :=
  if b.que.inj.isSome then (none, b)
  else
  let old := b.vrd.dies.getD ldi {}
  let old := { old with silent := if missed ∧ ¬ b.vrd.lates.any (fun x => x.ldi == ldi) then min 65535 (old.silent + 1) else 0 }
  let r := Confirm.judge old (lagRank lag (atLeast1 (b.f F.VRD_STRAG_TH_DIE_TH))) b.confirmN
  let sev := b.f F.VRD_STRAG_CFG_SEV
  let e : VEntry := { kind := 1, bound := missed, count := old.shown r.1 r.2, sev := sev, action := 1, entity := ldi, metric := pat64 lag, ref := m }
  let silent := missed && decide (b.confirmN ≤ r.1.silent)
  let b := { b with vrd := { b.vrd with dies := b.vrd.dies.putD {} ldi r.1 } }
  let b := b.toMirror (.straggler ldi r.1.code)
  if silent then (some { kind := 3, count := r.1.c, sev := sev, entity := ldi, metric := r.1.silent }, b)
  else (markEntry e r.2, b.raiseIf (r.2 == .asserted) Ev.VRD_STRAGGLER)

/-- The cutoff C of an entry on WALL (R141), in whole units of 2^-40 s: one that is not whole is rounded down or up by a free value (log
entry 58). -/
def Block.cutWall (b : Block) (t : Txn) : Nat × Block :=
  let x : Int := (t.w : Int) * 100000000 + b.cutAfter t * ((2 ^ 40 : Nat) : Int)
  if x % 100000000 = 0 then (pat64 (x / 100000000), b)
  else
    let p := b.fresh
    (pat64 (x / 100000000 + ((p.1 % 2 : Nat) : Int)), p.2)

/-- The contributions of a straggler transaction that are combined (R187). -/
def Txn.walls (t : Txn) (i : Nat) (c : Coll) : List Contrib :=
  t.contribs.filter (fun x => ((x.parts[i]?).getD none).isSome && bit c.prog.filter x.cause != 1)

/-- The tray median of a straggler transaction, none with too few peers (R187). -/
def Block.trayMedian (b : Block) (t : Txn) (i : Nat) (c : Coll) : Option Nat :=
  let ins := t.walls i c
  if ins.length < b.minPeers then none else medianOf t.w (ins.map (fun x => x.wall))

/-- The count of missing rounds of a member, changed (R188). -/
def Block.setSilent (b : Block) (ldi : Nat) (f : Nat → Nat) : Block :=
  { b with vrd := { b.vrd with dies := b.vrd.dies.upd ldi {} (fun x => { x with silent := f x.silent }) } }

/-- Members that contributed are not silent; where no median is formed, the round counts as missing for those that did not (R188, log entry
147). -/
def Block.hearRound (b : Block) (t : Txn) (i : Nat) (c : Coll) (gone : List Nat) (judged : Bool) : Block :=
  let ins := (t.walls i c).map (fun x => x.ldi)
  let b := ((t.contribs.map (fun x => x.ldi)).filter (fun l => !ins.contains l && (b.vrd.dies.find l).isSome)).foldl (fun b l => b.setSilent l (fun _ => 0)) b
  if judged ∨ b.que.inj.isSome then b
  else
    let b := (ins.filter (fun l => (b.vrd.dies.find l).isSome)).foldl (fun b l => b.setSilent l (fun _ => 0)) b
    gone.foldl (fun b l => b.setSilent l (fun n => min 65535 (n + 1))) b

/-- The lags of a straggler transaction are judged (R187, R188): the entries emitted. With STRAG = 0 none is judged. -/
def Block.trayLags (b : Block) (t : Txn) (i : Nat) (c : Coll) : List VEntry × Block :=
  let gone := t.expect.filter (fun m => !(t.contribs.any (fun x => x.ldi == m)))
  let m := b.trayMedian t i c
  if ¬ b.is F.VRD_CTRL_STRAG then ([], b)
  else
    let b := b.hearRound t i c gone m.isSome
    match m with
    | none => ([], b)
    | some m =>
      let cut : Nat × Block := if gone = [] then (0, b) else b.cutWall t
      let b := cut.2
      let lags := (t.walls i c).map (fun x => (x.ldi, wallDiff x.wall m, false)) ++ gone.map (fun l => (l, wallDiff cut.1 m, true))
      let r := (sortBy (fun p => p.1) lags).foldl (fun (a : List VEntry × Block) p =>
        let x := a.2.judgeDie p.1 p.2.1 m p.2.2
        (a.1 ++ x.1.toList, x.2)) ([], b)
      (r.1, { r.2 with vrd := { r.2.vrd with judged := ((t.tag, m, r.1.filter (fun e => e.bound)) :: r.2.vrd.judged).take 64 } })

/-- Whether a straggler transaction of a wingbeat before t's is still to be judged here. -/
def Block.earlier (b : Block) (t : Txn) : Bool :=
  b.swm.txns.any (fun u => u.tag != t.tag && decide (u.state < 2) && (b.strag u).isSome && decide (wallDiff u.w t.w < 0))
    || b.vrd.defer.any (fun u => u.tag != t.tag && decide (wallDiff u.w t.w < 0))

/-- A late contribution gives its member's exact lag for a round judged under BOUND (R187, R188); one whose transaction is not judged yet waits
for that. -/
def Block.lateLag (b : Block) (c : Contrib) : Block :=
  let b := if (b.vrd.dies.find c.ldi).isSome then b.setSilent c.ldi (fun _ => 0) else b
  match b.vrd.judged.find? (fun j => j.1 == c.tag) with
  | some j =>
    (match j.2.2.find? (fun e => e.entity == c.ldi) with
     | some e =>
       let b := { b with vrd := { b.vrd with judged := b.vrd.judged.map (fun x => if x = j then (j.1, j.2.1, j.2.2.erase e) else x) } }
       b.sendEntries (bits c.tag 8 40) (c.tag % 256) [{ e with bound := false, late := true, metric := pat64 (wallDiff c.wall j.2.1) }]
     | none => b)
  | none =>
    if (b.swm.txns ++ b.vrd.defer).any (fun t => t.tag == c.tag && (b.strag t).isSome && (decide (t.state < 2) || b.vrd.defer.contains t)) then
      { b with vrd := { b.vrd with lates := b.vrd.lates ++ [c] } }
    else b

/-- The late contributions that came before a transaction was judged give their lags. -/
def Block.latesOf (b : Block) (tag : Nat) : Block :=
  let l := b.vrd.lates.filter (fun x => x.tag == tag)
  l.foldl Block.lateLag { b with vrd := { b.vrd with lates := b.vrd.lates.filter (fun x => x.tag != tag) } }

/-- Judge the straggler transactions that waited and wait for none any more, oldest first (R188: in round order). Fuel: those that wait. -/
def Block.judgeWaiting (fuel : Nat) (b : Block) : Block :=
  match fuel with
  | 0 => b
  | n + 1 =>
    match b.vrd.defer.find? (fun t => !b.earlier t) with
    | none => b
    | some t =>
      let b := { b with vrd := { b.vrd with defer := b.vrd.defer.filter (fun u => u.tag != t.tag) } }
      match b.strag t with
      | some p =>
        let r := b.trayLags t p.2 p.1
        Block.judgeWaiting n ((r.2.sendEntries (bits t.tag 8 40) (t.tag % 256) r.1).latesOf t.tag)
      | none => Block.judgeWaiting n b

/-- A T-role closes a straggler transaction (R187 to R189): median, lags, TRAY_SUM with the entries and what waits here. One that closes before
that of an earlier wingbeat sends its TRAY_SUM now and is judged in its turn. -/
def Block.trayJudge (b : Block) (t : Txn) (i : Nat) (c : Coll) : Block :=
  let send (b : Block) (es : List VEntry) : Block :=
    let w := b.vrd.waiting
    let b := if b.isRoot then b else { b with vrd := { b.vrd with waiting := [] } }
    b.traySum { lai := b.selfLai, step := bits t.tag 8 40, idx := t.tag % 256, median := b.trayMedian t i c, n := (t.walls i c).length,
                entries := if b.isRoot then es else es ++ w }
  if b.earlier t then send { b with vrd := { b.vrd with defer := b.vrd.defer ++ [t] } } []
  else
    let r := b.trayLags t i c
    let b := (send r.2 r.1).latesOf t.tag
    b.judgeWaiting b.vrd.defer.length

/-- An LDI is rebound (R190): its count and flag are cleared, the buddy's copy too. -/
def Block.clearDie (b : Block) (ldi : Nat) : Block :=
  ({ b with vrd := { b.vrd with dies := b.vrd.dies.del ldi } }).toMirror (.straggler ldi 0)

/-! Score rules (R191) -/

/-- One score under one rule. -/
def Block.ruleScore (b : Block) (r ens : Nat) (s : Score) : Option VEntry × Block :=
  let o := b.f (F.VRD_RULE_CFG_OUT.ix r)
  match s.outs[o]? with
  | none => (none, b)
  | some v =>
    if s.error ∨ s.norow ∨ (decodeElem 11 v.1).isNan then (none, b)
    else
      let key := r * 65536 + s.entity
      let old := b.vrd.rules.getD key {}
      let x := Confirm.judge old (if hits v.1 (b.f (F.VRD_RULE_TH_TH.ix r)) then 2 else 0) (atLeast1 (b.f (F.VRD_RULE_CFG_CONFIRM.ix r)))
      let id := b.entityId s.entity none
      let e : VEntry := { kind := 4, count := old.shown x.1 x.2, sev := b.f (F.VRD_RULE_CFG_SEV.ix r), action := b.f (F.VRD_RULE_CFG_ACTION.ix r),
                          rule := r + b.f (F.VRD_RULE_CFG_CODE.ix r) * 16, entity := id.2, entkind := id.1,
                          metric := (convertElem 11 12 v.1).1, ref := ens + o * 4 }
      let b := if x.1 = old then b else b.toMirror (.straggler (2 ^ 21 + key) x.1.code)
      (markEntry e x.2, { b with vrd := { b.vrd with rules := b.vrd.rules.putD {} key x.1 } })

/-- The wingbeat index of an ensemble's passes. -/
def Block.ensIdx (b : Block) (ens : Nat) : Nat :=
  if b.is (F.HWK_ENS_CFG_TRIG.ix ens) then b.f (F.SWM_COLL_CFG_IDX.ix (b.f (F.HWK_ENS_CFG_COLL.ix ens))) else b.f (F.HWK_ENS_CFG_IDX.ix ens)

/-- The rules judge a pass's scores into the round of its PHASE (R191); a root pass is an input of the round (R184). -/
def Block.judgeScores (b : Block) (q : PassReq) (ss : List Score) : Block :=
  if ¬ b.on dSWARM ∨ ¬ b.is F.VRD_CTRL_EN then b
  else
    let rules := (List.range 16).filter (fun r => b.is (F.VRD_RULE_CFG_EN.ix r) && b.f (F.VRD_RULE_CFG_ENS.ix r) == q.ens)
    let r := rules.foldl (fun (a : List VEntry × Block) k => ss.foldl (fun a s =>
      let x := a.2.ruleScore k q.ens s
      (a.1 ++ x.1.toList, x.2)) a) ([], b)
    let b := r.2
    let step := q.phase / 2 ^ 24
    let idx := b.ensIdx q.ens
    if b.isRoot ∧ rules.any (fun k => b.is (F.VRD_RULE_CFG_ROUND.ix k)) then
      b.roundInput step idx (fun x => { x with entries := x.entries ++ r.1, passes := q.ens :: x.passes })
        (fun x => { x with entries := x.entries ++ r.1 })
    else b.sendEntries step idx r.1

/-- A PASS_SKIP notice (R175, R191). -/
def Block.skipNotice (b : Block) (ens phase : Nat) : Block :=
  if b.on dSWARM ∧ b.is F.VRD_CTRL_EN then
    b.sendEntries (phase / 2 ^ 24) (b.ensIdx ens) [{ kind := 9, sev := 2, entkind := 2, metric := ens, ref := phase }]
  else b

/-- A pass request, with its notice where it is dropped (R175). -/
def Block.askPass (b : Block) (ens phase : Nat) : Block :=
  let r := b.requestPass ens phase
  if r.1 then r.2.skipNotice ens phase else r.2

/-! Corruption (R196) -/

/-- A finding of R196 from a HOST report's payload (Table 14-4): class TRANSIENT or PERMANENT. -/
def Block.corrupt (b : Block) (ldi : Nat) (p : List Byte) : Block :=
  let unit := leAt p 4 1
  let cls := leAt p 7 1 % 8
  let ref := leAt p 56 8
  if b.on dSWARM ∧ b.is F.VRD_CTRL_EN ∧ unit = 4 ∧ (cls = 1 ∨ cls = 2) then
    let step := ref % 2 ^ 40
    let e : VEntry := { kind := if cls = 1 then 6 else 7, sev := if cls = 1 then 6 else 7, action := if cls = 1 then 2 else 3, entity := ldi,
                        metric := leAt p 8 2 + leAt p 5 1 * 65536, ref := step }
    let b := b.raise Ev.VRD_CORRUPT
    let b := if b.isT then b.emitVerdict step 0 false false 0 0 [e] else b
    b.sendEntries step 0 [e]
  else b

/-- ROUND_CLOSE (R184): the root's WALL has reached W + VRD_PLAN.OFFSET. -/
def Block.roundDue (b : Block) (step idx : Nat) : Block :=
  match b.vrd.rounds.find? (fun r => r.step == step && r.idx == idx) with
  | some r => if b.verdictRoot ∧ wallPast b.wall r.w ((100 * min 100000 (b.f F.VRD_PLAN_OFFSET) : Nat) : Int) then b.closeRound r else b
  | none => b

/-- SUPPLEMENT_EMIT (R185): 2 wingbeat periods after the main record. -/
def Block.suppDue (b : Block) : Block :=
  if b.verdictRoot then
    match b.vrd.closed.reverse.find? (fun c => c.any && !c.gone && decide (c.at_ + 2 * b.wbPeriod ≤ b.clk.core)) with
    | some c => b.emitSupp c
    | none => b
  else b

/-- ROUND_CLOSE. -/
def execRoundClose (step idx : Nat) (s : State) : Host.Outcome State Fault Refusal := s.lift (fun b => b.roundDue step idx)
/-- SUPPLEMENT_EMIT. -/
def execSupplementEmit (s : State) : Host.Outcome State Fault Refusal := s.lift Block.suppDue
/-- TRAY_SUM_RECEIVED. -/
def execTraySumReceived (port : Nat) (ts : TraySum) (s : State) : Host.Outcome State Fault Refusal :=
  s.lift (fun b => (b.unstage port 2).traySum ts)
/-- PARTIAL_RECEIVED: what the entry takes, and the round that a straggler transaction opens (R142, R184). -/
def execPartialReceived (port : Nat) (p : Partial) (s : State) : Host.Outcome State Fault Refusal :=
  s.lift (fun b => if b.syn.agg then (((b.unstage port 1).takePartial port p).openedSince b.tags) else b)
/-- PASS_REQUEST: the ensemble's delayed trigger is due (R175). -/
def execPassRequest (ens : Nat) (s : State) : Host.Outcome State Fault Refusal :=
  s.lift (fun b =>
    let r := b.dueTrigger ens
    match r.1 with
    | some ph => if b.on dHAWK then r.2.askPass ens ph else b
    | none => b)
/-- PASS_DONE: records, rules, and the model copy where one waits. -/
def execPassDone (s : State) : Host.Outcome State Fault Refusal :=
  s.lift (fun b =>
    let r := b.passDone
    match r.1 with
    | some q => r.2.judgeScores q.1 q.2
    | none => r.2)

end Sys2Proof.Machine
end

