-- ==== Sys2Proof/Machine/Owner.lean ====
section
/-! DEFINITION. Acceptance (spec/10_queues_delivery.md, R229, R237 to R241, R244 to R246; spec/01_roles_topology.md, R28, R31, R36): the owner's
state of each stream, the two branches of R238, ACCEPT, the mirror, quarantine, and where an LDI was learned. -/

namespace Sys2Proof.Machine

/-! SEQ and headers -/

/-- a before c in the order of SEQ (R232). -/
def before48 (a c : Nat) : Bool :=
  let d := (c + 2 ^ 48 - a % 2 ^ 48) % 2 ^ 48
  decide (1 ≤ d) && decide (d < 2 ^ 47)

/-- The record and the SEQ that bytes spell, none where the header check fails, a reserved bit is not 0, or LEN is not the payload's
(R227, R229). -/
def parseRec (l : List Byte) : Option (Rec × Nat) :=
  if l.length < 48 then none
  else
    let w := leAt l 8 4
    if leAt l 44 4 ≠ crc32c (l.take 44) ∨ bits w 26 6 ≠ 0 ∨ leAt l 18 6 ≠ 0 ∨ leAt l 40 4 ≠ 0 ∨ l.length ≠ 48 + 8 * leAt l 2 2 then none
    else
      some ({ typ := leAt l 0 1, fmt := leAt l 1 1 % 16, flags := leAt l 1 1 / 16, stream := leAt l 4 2, epoch := leAt l 6 2,
              ldi := bits w 0 20, sev := bits w 20 3, cls := bits w 23 3, phase := leAt l 24 8, wall := leAt l 32 8, bytes := l.drop 48 },
            leAt l 12 6)

/-! Who owns a stream -/

/-- Whether an LDI and EPOCH are the current binding (R28). -/
def Block.binding (b : Block) (ldi epoch : Nat) : Bool := epoch != 0 && Bind.epoch (b.fab.binds.getD ldi {}) == epoch

/-- Whether this T-role is the acting home of an LDI (R32): its own until its buddy took them over (R41), its buddy's while it stands in
for it. -/
def Block.actingHome (b : Block) (ldi : Nat) : Bool :=
  b.isT && ((b.fab.topo.homeLdis.contains ldi && !b.fab.displaced) || (b.fab.takeOver && b.fab.topo.buddyLdis.contains ldi))

/-- Whether a mirror of both sides' tables and streams is complete: RESYNC done, every update confirmed (R245). -/
def Block.inSync (b : Block) : Bool := b.mirrorUp && b.is F.QUE_STATUS_SYNC && b.que.mirrorOut.isEmpty

/-! The owner's state -/

/-- The state of a key (R241). -/
def Block.key (b : Block) (ldi epoch stream : Nat) : OwnKey :=
  (b.que.keys.find? (fun k => k.ldi == ldi && k.epoch == epoch && k.stream == stream)).getD { ldi := ldi, epoch := epoch, stream := stream }

/-- Put the state of a key. -/
def Block.setKey (b : Block) (k : OwnKey) : Block :=
  let same (x : OwnKey) : Bool := x.ldi == k.ldi && x.epoch == k.epoch && x.stream == k.stream
  let l := if b.que.keys.any same then b.que.keys.map (fun x => if same x then k else x) else b.que.keys ++ [k]
  { b with que := { b.que with keys := l } }

/-- Accepted bytes that no group holds yet (R283). -/
def Block.unjournalled (b : Block) : Nat :=
  b.que.keys.foldl (fun a k => a + ((k.held.filter (fun h => before48 h.seq k.acc && !h.journalled)).map (fun h => h.bytes.length)).foldl (· + ·) 0) 0

/-- What branch 2 of R238 asks but for confirmed updates: DRAM_OK, a mirror link, RESYNC done, no shared domain (R31), LIMIT not 0 and
not exceeded, no flush (R283). -/
def Block.branch2 (b : Block) : Bool :=
  b.is F.QUE_ACC_CFG_DRAM_OK && b.mirrorUp && b.is F.QUE_STATUS_SYNC && !(b.is F.KL_SETUP_STATUS_SHARED_DOMAIN)
    && b.f F.COC_PF_LIMIT != 0 && decide (b.unjournalled ≤ b.f F.COC_PF_LIMIT * 1048576) && !b.coc.flush

/-- Acceptance of one key goes on, in SEQ order (R238, R241): the record next in line is accepted once its group committed, or once the
buddy confirmed its copy while branch 2 holds. The buddy's mirror learns the new state before any ACCEPT shows it; under branch 2 its
confirmation was that. Records accepted and committed are let go, the buddy's copy released. Fuel: the records held. -/
def Block.acceptKey (fuel : Nat) (b : Block) (ldi epoch stream : Nat) : Block :=
  match fuel with
  | 0 => b
  | n + 1 =>
    let k := b.key ldi epoch stream
    match k.held.find? (fun h => h.seq == k.acc) with
    | none => b
    | some h =>
      let two := !h.journalled && h.mirrored && b.branch2 && b.que.mirrorOut.isEmpty
      if h.journalled ∨ two then
        let acc := (k.acc + 1) % 2 ^ 48
        let k : OwnKey := { k with acc := acc, sure := if two ∨ ¬ b.mirrorUp then acc else k.sure,
                                   dueSince := some (k.dueSince.getD b.clk.core),
                                   held := if h.journalled then k.held.filter (fun x => x.seq != h.seq) else k.held }
        let b := b.setKey k
        let b := if two then b else b.toMirror (.stream ldi epoch stream k.next acc)
        let b := if h.journalled ∧ h.mirrored then b.toMirror (.release ldi epoch stream h.seq) else b
        b.acceptKey n ldi epoch stream
      else b

/-- Acceptance goes on for every key. -/
def Block.acceptAll (b : Block) : Block :=
  b.que.keys.foldl (fun b k => b.acceptKey k.held.length k.ldi k.epoch k.stream) b

/-- A record's group committed (R238 branch 1): it may be accepted; one accepted under branch 2 is let go, and the buddy told. -/
def Block.journalled (b : Block) (r : JRec) : Block :=
  if r.quar then b
  else
    let k := b.key r.ldi r.epoch r.stream
    match k.held.find? (fun h => h.seq == r.seq) with
    | none => b
    | some h =>
      if before48 h.seq k.acc then
        let b := b.setKey { k with held := k.held.filter (fun x => x.seq != h.seq) }
        if h.mirrored then b.toMirror (.release r.ldi r.epoch r.stream r.seq) else b
      else
        let b := b.setKey { k with held := k.held.map (fun x => if x.seq = r.seq then { x with journalled := true } else x) }
        b.acceptKey k.held.length r.ldi r.epoch r.stream

/-- Hold a record and start its journal write; the buddy gets a copy while branch 2 is allowed (R241). -/
def Block.hold (b : Block) (ldi epoch stream seq sev : Nat) (bytes : List Byte) (en : Option Interval := none) : Block :=
  let k := b.key ldi epoch stream
  let b := b.setKey { k with next := (seq + 1) % 2 ^ 48, held := k.held ++ [{ seq := seq, bytes := bytes }] }
  let b := b.journal (.record { ldi := ldi, epoch := epoch, stream := stream, seq := seq, sev := sev, dup := b.is F.QUE_EVENTS_DUAL_FAULT, bytes := bytes, en := en })
  if b.branch2 then b.toMirror (.record ldi epoch stream seq bytes) else b

/-! ACCEPT -/

/-- Send an ACCEPT to a D-role, by the way its last record came (R237, R240). A rejoining aggregator, and one that flushes, sends none
(R41, R283); an injection may drop one (R250). -/
def Block.sendAccept (b : Block) (ldi epoch : Nat) (gap : Bool) (es : List AcceptEntry) : Block :=
  if b.fab.rejoining ∨ b.coc.flush ∨ epoch = 0 then b
  else if b.que.dropAccept = some ldi then { b with que := { b.que with dropAccept := none } }
  else
    match b.fab.via.find ldi with
    | some port => b.sendMsg port (.accept epoch ldi gap es)
    | none => b

/-- The value an ACCEPT gives for a stream: the highest accepted SEQ, 2^48 − 1 where nothing is accepted (R241). -/
def accValue (acc : Nat) : Nat := (acc + 2 ^ 48 - 1) % 2 ^ 48

/-- Keys of an LDI with an acceptance the buddy knows of and no ACCEPT has reported. -/
def Block.toReport (b : Block) (ldi : Nat) : List OwnKey :=
  b.que.keys.filter (fun k => k.ldi == ldi && k.dueSince.isSome && before48 k.reported k.sure)

/-- ACCEPT is due (R240): COALESCE after the first acceptance not reported, or 23 streams of the LDI wait. One goes out for each epoch,
with up to 23 entries. -/
def Block.acceptSend (b : Block) (ldi : Nat) : Block :=
  let ks := b.toReport ldi
  let due := ks.any (fun k => match k.dueSince with
    | some t => decide (t + b.ns (100 * b.f F.QUE_ACC_CFG_COALESCE) ≤ b.clk.core)
    | none => false)
  if due ∨ 23 ≤ ks.length then
    match ks with
    | [] => b
    | k0 :: _ =>
      let now := (ks.filter (fun k => k.epoch == k0.epoch)).take 23
      let b := now.foldl (fun b k => b.setKey { k with reported := k.sure, dueSince := if k.sure = k.acc then none else some b.clk.core }) b
      b.sendAccept ldi k0.epoch false (now.map (fun k => { stream := k.stream, seq := accValue k.sure }))
  else b

/-! Quarantine -/

/-- A record that fails R28 or is quarantined under R36 goes unchanged to the quarantine queue, counted (R246, R251). -/
def Block.quarantine (b : Block) (r : Rec) (bytes : List Byte) : Block :=
  let b := b.count F.QUE_QUAR_COUNT
  let b := b.raise Ev.QUE_QUARANTINE [(r.ldi, 20), (r.epoch, 16), (r.stream, 16)]
  if b.isT then b.offer (b.f F.QUE_QUAR_QUEUE) { r with raw := some bytes } else b

/-- A contribution as the bytes it came in: its elements have a length and no stated order on the link, so the bytes are Config.unitByte,
a constant with no body (log entry 11). -/
def Contrib.unitBytes (c : Contrib) : List Byte := (List.range (SwarmUnit.lenb (.contrib c))).map (Config.unitByte c)

/-- A contribution that fails R28 or is quarantined under R36 (R246): counted, raised with STREAM 0, written unchanged to the quarantine queue
of a T-role. -/
def Block.quarantineUnit (b : Block) (c : Contrib) : Block :=
  let b := (b.count F.QUE_QUAR_COUNT).raise Ev.QUE_QUARANTINE [(c.ldi, 20), (c.epoch, 16), (0, 16)]
  if b.isT then b.offer (b.f F.QUE_QUAR_QUEUE) { typ := 0, epoch := c.epoch, ldi := c.ldi, raw := some c.unitBytes } else b

/-- A DUP_LDI finding (R36, KL_DUPLDI): kept until VALID is read; further ones are counted. No event register has a bit for DUP_LDI and the
event log no source, so nothing is raised and the count stands in `Fab.dups` (DESIGN CHOICE, log entry 128). -/
def Block.dupLdi (b : Block) (port ldi : Nat) : Block :=
  if b.is F.KL_DUPLDI_VALID then { b with fab := { b.fab with dups := b.fab.dups + 1 } }
  else ((b.setf F.KL_DUPLDI_LDI ldi).setf F.KL_DUPLDI_PORT port).setf F.KL_DUPLDI_VALID 1

/-- A valid message of a bound LDI on a port (R36, Table 1-3): the port is learned from the first, the lower of two with equal timestamps;
on a second port it is quarantined (false), or the binding moves there where the first port's path is down (not up again since) and the
arrivals lie further apart than the window. The buddy hears where the LDI stands now (R135, R245). -/
def Block.learn (b : Block) (port ldi : Nat) : Bool × Block :=
  let x := b.fab.binds.getD ldi {}
  let put (b : Block) (y : Bind) : Block :=
    let b := { b with fab := { b.fab with binds := b.fab.binds.put ldi y } }
    if x.away ∨ y.port ≠ x.port then b.toMirror (.binding ldi y.ploc y.epoch port) else b
  let here : Bind := { x with port := some port, learned := b.arrivalUi, heard := b.clk.core, away := false }
  match x.port with
  | none => (true, put b here)
  | some p =>
    if p = port then (true, put b { x with heard := b.clk.core, away := false })
    else if b.arrivalUi = x.learned ∧ port < p then (true, put (b.dupLdi p ldi) here)
    else
      let close := decide (b.arrivalUi - x.learned ≤ atLeast1 (b.f F.KL_LEARN_WINDOW_WINDOW) * 1000)
      if close ∨ (b.port p).live then (false, b.dupLdi port ldi)
      else (true, put b here)

/-! The consumers COCOON and HOST, and an aggregator's own records -/

/-- The next SEQ of a stream of this source (R232). Where nothing of the stream was unaccepted, its progress counts from now (Table
10-6). -/
def Block.takeSeq (b : Block) (stream : Nat) (idle : Bool) : Nat × Block :=
  let st := b.que.streams.getD stream {}
  let st' : StreamSt :=
    { st with next := (st.next + 1) % 2 ^ 48, progress := if idle then b.clk.core else st.progress }
  (st.next, { b with que := { b.que with streams := b.que.streams.put stream st' } })

/-- An aggregator takes an item of its own (R232, R233, R239): it gets its SEQ, and the aggregator owns its stream. A quarantined record is
journalled as it is (R246, R276). `en` is the interval state of an EN_CKPT record. -/
def Block.takeOwn (b : Block) (r : Rec) (en : Option Interval := none) : List Byte × Block :=
  match r.raw with
  | some l =>
    (l, b.journal (.record { ldi := r.ldi, epoch := r.epoch, stream := r.stream, seq := leAt l 12 6, sev := r.sev, quar := true,
                              dup := b.is F.QUE_EVENTS_DUAL_FAULT, bytes := l }))
  | none =>
    let s := b.takeSeq r.stream false
    let l := r.whole s.1
    (l, s.2.hold r.ldi r.epoch r.stream s.1 r.sev l en)

/-- The items of a queue that its consumer COCOON or HOST takes now: all before a QUE_LOSS record that waits for the item behind it (R234). -/
def Block.consumeQueue (b : Block) (q : Nat) : Block :=
  let host := b.consumer q == 2
  ((b.queue q).items.takeWhile (fun i => !i.loss)).foldl (fun b i =>
    let r := b.takeOwn i.body
    let b := r.2
    let x := b.queue q
    let b := b.setQueue q { x with items := x.items.filter (fun j => j.num != i.num) }
    if host then { b with que := { b.que with hostRing := b.que.hostRing ++ [r.1] } } else b) b

/-- The journal writer takes the items of its queues while it may (R233, R279, R283); the ring of the HOST consumer takes its own. -/
def Block.consume (b : Block) : Block :=
  if ¬ b.syn.agg ∨ ¬ b.on dQUEUE ∨ ¬ b.is F.QUE_CTRL_EN then b
  else
    let writer := b.cocReady && !(b.is F.COC_STATUS_FULL) && !b.coc.flush
    b.que.queues.keys.foldl (fun b q =>
      let c := b.consumer q
      if (c = 1 ∧ writer) ∨ c = 2 then b.consumeQueue q else b) b

/-! Groups -/

/-- Groups move on, and what they commit counts (R238, R274): records may be accepted, and a checkpoint is due every CKPT groups
(R275). A mark that commits is the recovery unit's affair: they are answered. -/
def Block.settleGroups (b : Block) : List JEntry × Block :=
  let r := b.advanceGroups b.coc.progs.length
  let b := r.1.foldl (fun b e => match e with
    | .record x => b.journalled x
    | .mark _ _ => b
    | .close _ => b) r.2
  let last := b.coc.groups.foldl (fun a g => max a (g.gseq + 1)) b.coc.ckpt
  (r.1, if b.coc.ckpt + atLeast1 (b.f F.COC_CFG_CKPT) ≤ last then b.journalCheckpoint b.que.keys else b)

/-! The mirror -/

/-- The bindings, streams and records this side keeps for its buddy are brought up to date by one update (R245). A record is kept until
its release. -/
def putMirror (l : List Mirror) (u : Mirror) : List Mirror :=
  match u with
  | .release ldi epoch stream seq =>
    l.filter (fun x => match x with
      | .record a b' c d _ => !(a == ldi && b' == epoch && c == stream && d == seq)
      | _ => true)
  | .stream ldi epoch stream _ _ =>
    l.filter (fun x => match x with
      | .stream a b' c _ _ => !(a == ldi && b' == epoch && c == stream)
      | _ => true) ++ [u]
  | .proc p ldi _ _ _ _ _ =>
    l.filter (fun x => match x with
      | .proc a c _ _ _ _ _ => !(a == p && c == ldi)
      | _ => true) ++ [u]
  | .straggler e _ =>
    l.filter (fun x => match x with
      | .straggler a _ => a != e
      | _ => true) ++ [u]
  | .running c _ =>
    l.filter (fun x => match x with
      | .running a _ => a != c
      | _ => true) ++ [u]
  | _ => l ++ [u]

/-- A stream of this aggregator's own has reached a SEQ before a reset: it goes on from there (R232, R239). -/
def Block.ownStream (b : Block) (stream acc : Nat) : Block :=
  let st := b.que.streams.getD stream {}
  if before48 st.next acc then { b with que := { b.que with streams := b.que.streams.put stream { st with next := acc, acc := acc } } } else b

/-- A record's copy brings its stream's state with it (R238): under branch 2 the confirmation of the copy is what tells the owner that the
accepted state has reached this mirror. -/
def mirrorAccept (l : List Mirror) (ldi epoch stream seq : Nat) : List Mirror :=
  let acc := (l.findSome? (fun x => match x with
    | .stream a b' c _ acc => if a = ldi ∧ b' = epoch ∧ c = stream then some acc else none
    | _ => none)).getD 0
  if acc = seq then putMirror l (.stream ldi epoch stream ((seq + 1) % 2 ^ 48) ((seq + 1) % 2 ^ 48)) else l

/-- The counter slot of an LDI: its place in the home lists of this T-role and its buddy (R288). -/
def Block.epochSlot (b : Block) (ldi : Nat) : Nat :=
  (b.fab.topo.homeLdis ++ b.fab.topo.buddyLdis).findIdx (fun l => l == ldi)

/-- The epoch of a count (R288). -/
def epochOf (c : Nat) : Nat := if c = 0 then 0 else (c - 1) % 65535 + 1

/-- The least count, not below a count, of an epoch that is not behind it (R27: an epoch only moves on, 0xFFFF being followed by 0x0001). -/
def countFor (c epoch : Nat) : Nat :=
  let d := (epoch + 65535 - epochOf c) % 65535
  if epoch = 0 then c else if c = 0 then epoch else if d < 32768 then c + d else c

/-- The count that stands for an LDI's epoch here: its counter's, or what the table, which a buddy's mirror may have moved on, adds (R27). -/
def Block.epochCount (b : Block) (ldi : Nat) : Nat :=
  countFor (b.coc.ctr (b.epochSlot ldi)) (Bind.epoch (b.fab.binds.getD ldi {}))

/-- The port that a binding's update names where the LDI is not learned on the sender's ports. -/
def noPort : Nat := 255

/-- The update's effect here beside being kept: a binding joins the table, unless this block is the LDI's acting home and its own table holds
(R27, R41, R245), and the counter here follows the epoch. An LDI that the buddy has learned is not routed here (R135). -/
def Block.takeMirror (b : Block) (u : Mirror) : Block :=
  let b := { b with que := { b.que with mirror := putMirror b.que.mirror u, confirmed := b.que.confirmed + 1 } }
  match u with
  | .binding ldi ploc epoch port =>
    let away := port != noPort
    if b.actingHome ldi ∧ ¬ b.fab.rejoining then
      (if b.binding ldi epoch then { b with fab := { b.fab with binds := b.fab.binds.upd ldi {} (fun x => { x with away := away }) } } else b)
    else
      let x := b.fab.binds.getD ldi {}
      let b := { b with fab := { b.fab with binds := b.fab.binds.put ldi { x with ploc := ploc, epoch := epoch, alive := true, away := away } } }
      let slot := b.epochSlot ldi
      if b.coc.ctr slot < b.epochCount ldi then b.raiseCtr slot (b.epochCount ldi) else b
  | .record ldi epoch stream seq _ => { b with que := { b.que with mirror := mirrorAccept b.que.mirror ldi epoch stream seq } }
  | .stream ldi epoch stream _ acc => if epoch = 0 ∧ ldi = b.selfLdi then b.ownStream stream acc else b
  | _ => b

/-- The buddy confirms an update (R238, R245): a record's copy stands there, a stream's state has reached it. -/
def Block.mirrorConfirm (b : Block) (num : Nat) : Block :=
  match b.que.mirrorOut.find? (fun m => m.num == num) with
  | none => b
  | some m =>
    let b := { b with que := { b.que with mirrorOut := b.que.mirrorOut.filter (fun x => x.num != num) } }
    let b := match m.upd with
      | .record ldi epoch stream seq _ =>
        let k := b.key ldi epoch stream
        b.setKey { k with held := k.held.map (fun (h : Held) => if h.seq = seq then { h with mirrored := true } else h) }
      | .stream ldi epoch stream _ acc =>
        let k := b.key ldi epoch stream
        b.setKey { k with sure := if before48 k.sure acc then acc else k.sure }
      | _ => b
    b.acceptAll

/-- A record passes through this aggregator on BULK of a port: its frames wait behind those that wait there. -/
def Block.relayFrames (b : Block) (port : Nat) (r : Rec) (bytes : List Byte) : Block :=
  b.updPort port (fun p => if p.live then { p with fwd := p.fwd ++ (Content.bytes bytes).frames p.frameMax r.cls } else p)

/-- The child of this S-role below which an LDI stands: by the routes announced, else by the image (R33). -/
def Block.childOf (b : Block) (ldi : Nat) : Option Nat :=
  match b.fab.routes.find ldi with
  | some a => some a
  | none => (b.fab.topo.childLdis.find? (fun r => decide (r.2.1 ≤ ldi) && decide (ldi ≤ r.2.2))).map (fun r => r.1)

/-- A record of a stream this aggregator does not own goes on to the owner (R237): over the mirror link, or through the parent while that
is down; an S-role sends it down to the child it belongs below, or further up. -/
def Block.relay (b : Block) (r : Rec) (bytes : List Byte) : Block :=
  if b.isT then (if b.mirrorUp then b.toMirror (.relay bytes) else b.relayFrames b.upPort r bytes)
  else
    match (b.childOf r.ldi).bind b.fab.nbr.find with
    | some port => b.relayFrames port r bytes
    | none => b.relayFrames b.upPort r bytes

end Sys2Proof.Machine
end

