-- ==== Sys2Proof/Machine/Energy.lean ====
section
/-! DEFINITION. The energy account (spec/08_verdicts_energy.md, R198 to R205), and what follows the end of a reduction: tray
judgement, pass requests, rounds, energy. -/

namespace Sys2Proof.Machine

/-! Intervals (R198, R199) -/

/-- Whether the account is kept: at the acting root. -/
def Block.energyOn (b : Block) : Bool := b.isRoot && b.on dSWARM && b.is F.VRD_CTRL_ENERGY

/-- LEN in seconds. -/
def Block.enLen (b : Block) : Nat := min 3600 (max 60 (b.f F.VRD_EN_CFG_LEN))

/-- A WALL as 88-bit internal time, near the present. -/
def Block.fullWall (b : Block) (w : Nat) : Nat := (((b.wall88 : Int) - wallDiff b.wall w) % ((2 ^ 88 : Nat) : Int)).toNat

/-- The interval that contains a time in units of 2^-40 s divided by 10^6 (R198): (k LEN, (k + 1) LEN]. -/
def Block.intervalAt (b : Block) (t : Int) : Nat := ((t - 1) / ((b.enLen * 1000000 * 2 ^ 40 : Nat) : Int)).toNat

/-- The interval a transaction belongs to (R199). -/
def Block.intervalOf (b : Block) (full : Nat) : Nat :=
  b.intervalAt (((full * 1000000 : Nat) : Int) - ((b.f F.VRD_EN_CFG_GUARD * 2 ^ 40 : Nat) : Int))

/-- The interval that contains the present. -/
def Block.openK (b : Block) : Nat := b.intervalAt ((b.wall88 * 1000000 : Nat) : Int)

/-- Replace an interval, in order. -/
def putInterval (l : List Interval) (x : Interval) : List Interval := insertBy (fun y => y.k) x (l.filter (fun y => y.k != x.k))

/-- An addition is written as an EN_CKPT record to the root's journal and copied to the standby root (R199, R203). The record's payload, FMT
and STREAM stand nowhere: it takes those of VRD_DEST's records, its payload is Config.ckptBytes (log entry 144). -/
def Block.checkpoint (b : Block) (x : Interval) : Block :=
  let b := { b with vrd := { b.vrd with ivs := putInterval b.vrd.ivs x } }
  ((b.takeOwn (b.form (b.f F.VRD_DEST_QUEUE) (b.f F.VRD_DEST_STREAM) 0x32 3 0 0 (Config.ckptBytes x)) (some x)).2).toMirror (.interval x)

/-- A transaction that ended otherwise than OK (R199): its wingbeat counts in LOST, once, as in the worked example of chapter 8 (DEDUCED, log
entry 145). -/
def Interval.lose (x : Interval) (tag : Nat) : Interval :=
  if x.lostAt.contains (tag % 2 ^ 48) then x else { x with lost := sat 32 (x.lost + 1), lostAt := (tag % 2 ^ 48) :: x.lostAt }

/-- A value rounded to a whole number of 64 bits, and whether it saturates (R200). -/
def whole64 (v : Val) : Nat × Bool :=
  match v with
  | .fin n d _ =>
    let r := roundInt n d
    (if r < 0 then 0 else min (2 ^ 64 - 1) r.toNat, decide (((2 ^ 64 - 1 : Nat) : Int) < r))
  | .pinf => (2 ^ 64 - 1, true)
  | .ninf => (0, false)
  | .nan => (0, true)

/-- The demand limit is first reached (R204). -/
def Block.demandCheck (b : Block) (x : Interval) : Block :=
  let kw := b.f F.VRD_EN_LIMIT_KW
  let e := x.energy.value
  let lim : Val := .fin ((kw * 1000 * b.enLen * 1000000 : Nat) : Int) 1 false
  if kw ≠ 0 ∧ ¬ x.over_ ∧ ¬ e.isNan ∧ ¬ e.lt lim ∧ x.k = b.openK then
    let b := { b with vrd := { b.vrd with ivs := putInterval b.vrd.ivs { x with over_ := true } } }
    (b.finding { kind := 8, sev := 5, action := 4, entkind := 2, metric := (whole64 e).1, ref := x.k }).raise Ev.VRD_DEMAND_OVER
  else b

/-! Tariffs (R201) -/

/-- The content of a tariff entry that may price interval k. -/
def tariffFor (l : List Tariff) (k : Nat) : Option Tariff := l.find? (fun t => decide (t.since ≤ k))

/-- The tariff entry that prices interval k (R201): the valid entry with the greatest AT at or before its START, ties to the higher
index. -/
def Block.tariffOf (b : Block) (k : Nat) : Option (Nat × Nat) :=
  let st := k * b.enLen
  let l := b.vrd.tariffs.filterMap (fun p => match tariffFor p.2 k with
    | some t => if t.valid ∧ t.at_ ≤ st then some (p.1, t) else none
    | none => none)
  (l.foldl (fun (a : Option (Nat × Tariff)) p => match a with
    | some x => if x.2.at_ ≤ p.2.at_ then some p else some x
    | none => some p) none).map (fun p => (p.1, p.2.price))

/-- A tariff entry changes as a whole when TARIFF_AT_HI takes a value (R201, R205); it never prices the interval already open. -/
def Block.tariffSet (b : Block) (word : Nat) : Block :=
  let i := b.f F.TARIFF_SEL_ENTRY
  let k := b.openK
  let t : Tariff := { at_ := b.f (F.TARIFF_AT_LO_AT_LO.ix i) + word % 2 ^ 16 * 2 ^ 32, price := b.f (F.TARIFF_PRICE_PRICE.ix i),
                      valid := bit word 31 == 1, since := if b.energyOn then k + 1 else 0 }
  let old := (b.vrd.tariffs.getD i []).filter (fun x => decide (x.since < t.since))
  let b := { b with vrd := { b.vrd with tariffs := b.vrd.tariffs.put i (t :: old) } }
  b.raiseIf (b.energyOn && decide (t.at_ ≤ k * b.enLen)) Ev.VRD_TARIFF_LATE

/-- TARIFF_AT_HI is written (R205). -/
def Block.tariffWrite (b : Block) (word : Nat) : Block := (b.writeFields 0x7218 word).tariffSet word

/-! Close (R200, R202, R203) -/

/-- SPAN of an interval as a quotient in µs (Table 8-5). -/
def Block.spanOf (b : Block) (x : Interval) (cut : Bool) : Int × Nat :=
  let st : Int := ((x.k * b.enLen * 2 ^ 40 : Nat) : Int)
  let en : Int := (((x.k + 1) * b.enLen * 2 ^ 40 : Nat) : Int)
  let from_ : Int := if x.resumed then ((x.first.map (fun w => ((w : Nat) : Int))).getD st) else st
  let to_ : Int := if cut then ((x.last.map (fun w => ((w : Nat) : Int))).getD from_) else en
  ((to_ - from_) * 1000000, 2 ^ 40)

/-- The quotient of two values as a value, none where the divisor is 0 or a special. -/
def Val.div (x y : Val) : Option Val :=
  match x, y with
  | .fin n d _, .fin n' d' _ => if n' = 0 then none else some (.fin (n * d' * n'.sign) (d * n'.natAbs) false)
  | _, _ => none

/-- The product of a value and a whole number. -/
def Val.scale (x : Val) (k : Nat) : Val :=
  match x with
  | .fin n d z => .fin (n * k) d z
  | y => y

/-- Form and commit the EN_INTERVAL record of an interval (R200, R202, Table 8-5): the close is an entry of the journal of its own, whatever
queue the record goes to, and the standby root hears of it. DEMAND over a SPAN of 0, and COST and the tariff where no entry prices the
interval, are free values. -/
def Block.closeInterval (b : Block) (x : Interval) (cut recovered : Bool) : Block :=
  if b.vrd.shut.contains x.k then b
  else
    let e := x.energy.value
    let n := x.tokens.value
    let sp := b.spanOf x cut
    let span := whole64 (.fin sp.1 sp.2 false)
    let fr := b.fresh
    let free := fr.1 % 2 ^ 64
    let ev := whole64 e
    let nv := whole64 n
    let demand := match e.div (.fin sp.1 sp.2 false) with
      | some v => whole64 v
      | none => (free, false)
    let tp := match (n.scale 3600000000000000).div e with
      | some v => whole64 v
      | none => (2 ^ 64 - 1, true)
    let tf := b.tariffOf x.k
    let cost := match tf with
      | some t => whole64 (((e.scale t.2).div (.fin 3600000000000000 1 false)).getD .nan)
      | none => (free, false)
    let satd := span.2 || ev.2 || nv.2 || demand.2 || tp.2 || cost.2
    let idx := match tf with
      | some t => t.1
      | none => free % 16
    let b := fr.2
    let b := { b with vrd := { b.vrd with shut := x.k :: b.vrd.shut, ivs := b.vrd.ivs.filter (fun y => y.k != x.k),
                                          ckpt := b.vrd.ckpt.filter (fun y => y.k != x.k) } }
    let b := b.emit (b.f F.VRD_DEST_QUEUE) (b.f F.VRD_DEST_STREAM) 0x31 3 0 0
      (leBytes 8 x.k ++ leBytes 8 (x.k * b.enLen % 2 ^ 48) ++ leBytes 8 span.1 ++ leBytes 8 ev.1 ++ leBytes 8 nv.1 ++ leBytes 8 demand.1
        ++ leBytes 8 tp.1 ++ leBytes 8 cost.1
        ++ leBytes 4 (packItems [(idx, 4), (0, 4), (if cut then 1 else 0, 1), (if x.resumed then 1 else 0, 1), (if recovered then 1 else 0, 1),
            (if satd then 1 else 0, 1)]) ++ leBytes 4 x.lost)
    let b := (b.journal (.close x.k)).toMirror (.interval { x with closed := true })
    let b := b.raise Ev.VRD_INTERVAL [(x.k, 64)]
    let b := b.raiseIf (cut && !recovered) Ev.VRD_CUT [(x.k, 64)]
    b.raiseIf recovered Ev.VRD_RECOVERED [(x.k, 64)]

/-- The open state of interval k, empty where nothing was added. -/
def Block.intervalState (b : Block) (k : Nat) : Interval := (b.vrd.ivs.find? (fun y => y.k == k)).getD { k := k }

/-- Whether the end of interval k, and CLOSE ms after it, have passed. -/
def Block.intervalPast (b : Block) (k closeMs : Nat) : Bool := decide (((k + 1) * b.enLen * 1000 + closeMs) * 2 ^ 40 ≤ b.wall88 * 1000)

/-- INTERVAL_CLOSE (R200): the next interval to close is due. -/
def Block.intervalClose (b : Block) : Block :=
  match b.vrd.nextK with
  | some k =>
    if b.energyOn ∧ b.intervalPast k (b.f F.VRD_EN_CFG_CLOSE) then
      let b := b.closeInterval (b.intervalState k) false false
      { b with vrd := { b.vrd with nextK := some (k + 1) } }
    else b
  | none => b

/-- Transactions of the energy and tokens collectives still in flight count in LOST of their interval (R202). -/
def Block.inflightLost (b : Block) : Block :=
  (b.swm.txns.filter (fun t => t.colls.any (fun c => c.num == b.f F.VRD_EN_COLL_ENERGY || c.num == b.f F.VRD_EN_COLL_TOKENS))).foldl (fun b t =>
    let x := b.intervalState (b.intervalOf (b.fullWall t.w))
    { b with vrd := { b.vrd with ivs := putInterval b.vrd.ivs (x.lose t.tag) } }) b

/-- Steps 2 and 3 of R202, after the flush: closes that are pending, the open interval with CUT, and the tariff entries marked applied that take
effect after the START of the first interval closed here, up to the next boundary: in the worked example of chapter 8 that is the boundary
which a pending close lies behind (DEDUCED, log entry 150). -/
def Block.powerFailClose (b : Block) : Block :=
  match b.vrd.nextK with
  | some k =>
    if b.energyOn then
      let b := b.inflightLost
      let cur := b.openK
      let b := (List.range (cur - k)).foldl (fun b i => b.closeInterval (b.intervalState (k + i)) false false) b
      let b := b.closeInterval (b.intervalState cur) true false
      let ap := SMap.keys (b.vrd.tariffs.filter (fun p =>
        (tariffFor p.2 (cur + 1)).any (fun t => t.valid && decide (k * b.enLen < t.at_) && decide (t.at_ ≤ (cur + 1) * b.enLen))))
      { b with vrd := { b.vrd with nextK := none, applied := ap } }
    else b
  | none => b

/-- What the journal keeps of the account (R203): the intervals closed, and the last checkpoint of each that is not. -/
def Block.energyRead (b : Block) : Block :=
  let es := ((b.coc.groups.filter (fun g => !g.lost) ++ b.coc.progs).flatMap (fun g => g.entries)) ++ (b.coc.buf ++ b.coc.parked).map (fun p => p.1)
  let shut := (es.foldl (fun a e => match e with
    | .close k => k :: a
    | _ => a) b.coc.ckptShut).eraseDups
  let cks := es.foldl (fun (a : List Interval) e => match e with
    | .record r => (match r.en with
      | some x => putInterval a x
      | none => a)
    | _ => a) []
  { b with vrd := { b.vrd with shut := shut, ckpt := cks.filter (fun x => !shut.contains x.k) } }

/-- At start (R203), once Cocoon is READY: an interval with a checkpoint and no committed close is closed from it with CUT and RECOVERED; the
next interval is RESUMED. -/
def Block.energyRecover (b : Block) : Block :=
  if b.energyOn ∧ b.f F.COC_STATUS_STATE = 2 then b.vrd.ckpt.foldl (fun b x => b.closeInterval x true true) b else b

/-- The standby root goes on with the account as it was copied (R203). -/
def Block.energyAdopt (b : Block) : Block :=
  match b.vrd.nextK, b.vrd.ivs, b.vrd.shut with
  | none, x :: _, _ => { b with vrd := { b.vrd with nextK := some x.k } }
  | none, [], k :: t => { b with vrd := { b.vrd with nextK := some (t.foldl max k + 1) } }
  | _, _, _ => b

/-! Additions (R199) -/

/-- The first accumulator of a share. -/
def firstAcc (k : PCol) : ExAcc := ((accsOf k.elems).head?).getD {}

/-- One collective of a decided transaction enters the account (R199). -/
def Block.energyAdd (b : Block) (t : Txn) (code : Nat) (c : Coll) (k : PCol) : Block :=
  let en := c.num == b.f F.VRD_EN_COLL_ENERGY
  let tok := c.num == b.f F.VRD_EN_COLL_TOKENS
  if ¬ b.energyOn ∨ ¬ (en ∨ tok) then b
  else
    let b := b.energyRecover
    let w := b.fullWall t.w
    let n := b.intervalOf w
    if b.vrd.shut.contains n then b
    else
      let fresh := b.vrd.nextK.isNone
      let x := (b.vrd.ivs.find? (fun y => y.k == n)).getD { k := n, resumed := fresh }
      let b := if fresh then { b with vrd := { b.vrd with nextK := some n } } else b
      if code = 0 then
        let x := { x with energy := if en then x.energy.merge (firstAcc k) else x.energy,
                          tokens := if tok then x.tokens.merge (firstAcc k) else x.tokens,
                          missing := x.missing + t.missing, first := some (min w (x.first.getD w)), last := some (max w (x.last.getD w)) }
        (b.checkpoint x).demandCheck x
      else ({ b with vrd := { b.vrd with ivs := putInterval b.vrd.ivs (x.lose t.tag) } }).raise Ev.VRD_EN_LOST

/-! The end of a reduction -/

/-- What follows the root's decision: requests of TRIG = 1 passes (R175), the account (R199), the round (R184). -/
def Block.decided (b : Block) (t : Txn) (code phase : Nat) (cols : List PCol) : Block :=
  (t.colls.zip cols).foldl (fun (b : Block) (p : Coll × PCol) =>
    let es := (List.range 4).filter (fun k => b.is (F.HWK_ENS_CFG_EN.ix k) && b.is (F.HWK_ENS_CFG_TRIG.ix k) && b.f (F.HWK_ENS_CFG_COLL.ix k) == p.1.num)
    let b := if b.on dHAWK then es.foldl (fun b k => b.askPass k phase) b else b
    let b := b.energyAdd t code p.1 p.2
    if p.1.num = b.stragColl ∧ p.1.walls ∧ ¬ tagSw t.tag then
      b.roundInput (bits t.tag 8 40) (t.tag % 256) (fun r => { r with decided := true, w := t.w }) id
    else b) b

/-- The end of a reduction, whole (R142): the partial or the decision, then what hangs on it. -/
def Block.finTxn (b : Block) (t : Txn) : Block :=
  let r := b.finish t
  let b := r.2
  let b := match (if b.isT ∧ b.is F.VRD_CTRL_EN then b.strag t else none) with
    | some p => b.trayJudge t p.2 p.1
    | none =>
      if b.isRoot ∨ b.isT ∨ b.vrd.waiting = [] then b
      else ({ b with vrd := { b.vrd with waiting := [] } }).sendEntries (bits t.tag 8 40) (t.tag % 256) b.vrd.waiting
  match r.1 with
  | some x => b.decided t x.1 x.2.1 x.2.2
  | none => b

/-- INTERVAL_CLOSE. -/
def execIntervalClose (s : State) : Host.Outcome State Fault Refusal := s.lift Block.intervalClose
/-- TARIFF_WRITE. -/
def execTariffWrite (m : Master) (word : Nat) (s : State) : Host.Outcome State Fault Refusal :=
  s.lift (fun b => b.write m 0x7218 word (fun b => if b.syn.agg then b.tariffWrite word else b))
/-- REDUCTION_DONE. -/
def execReductionDone (tag : Nat) (mis : Option (Nat × Nat × Nat × Nat × Nat)) (s : State) : Host.Outcome State Fault Refusal :=
  s.lift (fun b => b.reductionDone tag mis Block.finTxn)
/-- SWARM_ABORT: SWM_LAUNCH.ABORT (R154). -/
def execSwarmAbort (m : Master) (word : Nat) (s : State) : Host.Outcome State Fault Refusal :=
  s.lift (fun b => b.write m 0x5050 word (fun b => (b.writeFields 0x5050 word).abort (word % 4096) Block.finTxn))
/-- LANE_FENCE_WRITE: SWM_LANE_FENCE[k] (R155). -/
def execLaneFenceWrite (m : Master) (k word : Nat) (s : State) : Host.Outcome State Fault Refusal :=
  s.lift (fun b => b.write m (0x5100 + 4 * (k % 8)) word (fun b => (b.writeFields (0x5100 + 4 * (k % 8)) word).lanesGone Block.finTxn))

end Sys2Proof.Machine
end

