-- ==== Sys2Proof/Machine/Monarch.lean ====
section
/-! DEFINITION. Monarch (spec/09_links_monarch.md, R221 to R226): what may start on a port, the virtual-time choice, shapers, gates and items
released by launch slots; the assignment of SEQ when an item is first taken (R232). -/

namespace Sys2Proof.Machine

/-- The head frame of a queue on a port: the queue's number, its class and cost, the frame's LENB and whether it is an SOR, the item it
is cut from (none for a frame passed along). -/
structure MonHead where
  q : Nat
  cls : Nat
  cost : Nat
  len : Nat
  sor : Bool
  item : Option Nat := none
  deriving DecidableEq, Repr

/-- Monarch on a port. -/
def Block.monPort (b : Block) (port : Nat) : MonPort := b.mon.ports.getD port {}

/-- Put Monarch's state of a port. -/
def Block.setMonPort (b : Block) (port : Nat) (p : MonPort) : Block := { b with mon := { b.mon with ports := b.mon.ports.put port p } }

/-- A class on a port. -/
def MonPort.c (p : MonPort) (c : Nat) : MonCls := (p.cls[c]?).getD {}

/-- Change a class on a port. -/
def MonPort.updC (p : MonPort) (c : Nat) (f : MonCls → MonCls) : MonPort := { p with cls := setAt p.cls c (f (p.c c)) }

/-- The rate in force, in bytes of each CLK_AON cycle (MON_SHAPE_ACT). -/
def Block.rate (b : Block) (c : Nat) : Nat := b.f (F.MON_SHAPE_ACT_RATE.ix c)

/-- The burst in force, in bytes: 0 acts as 4 KiB. -/
def Block.burst (b : Block) (c : Nat) : Nat := (let n := b.f (F.MON_SHAPE_ACT_BURST.ix c); if n = 0 then 4 else n) * 1024

/-- The tokens of a class on a port now (R223): RATE more each CLK_AON cycle, at most BURST. -/
def Block.tokens (b : Block) (port c : Nat) : Int :=
  let x := (b.monPort port).c c
  min ((b.burst c : Nat) : Int) (x.tokens + ((b.rate c * (b.clk.aon - x.at_) : Nat) : Int))

/-- The window in which a class is closed, while time is valid (R224). -/
def Block.gateWindow (b : Block) (c : Nat) : Option (Nat × Nat) :=
  if b.is F.ANT_STATUS_TIME_VALID then ((b.mon.gates[c]?).getD {}).window else none

/-- CLK_CORE cycles that a frame takes on a port at its width (R207). -/
def Block.frameTime (b : Block) (port len : Nat) : Nat := (b.port port).frameTime b.syn.coreMHz len

/-- Whether a class's gate lets a frame start (R224): not inside a window, and it would end before the start of one already set. -/
def Block.gateOpen (b : Block) (port c len : Nat) : Bool :=
  match b.gateWindow c with
  | some (s, e) => if b.clk.core < s then decide (b.clk.core + b.frameTime port len ≤ s) else decide (e ≤ b.clk.core)
  | none => true

/-- What a frame needs in any case (R221): the port ACTIVE, its class not paused, credit, a context for an SOR. -/
def Block.basic (b : Block) (port : Nat) (h : MonHead) : Bool :=
  let p := b.port port
  p.state == 2 && !b.paused port h.cls && p.bulk.covers h.len && (!h.sor || decide (p.ctxUsed.length < 64))

/-- Whether a port can start a bulk frame now (R208, R222): ACTIVE, the wire free, no replay before it. -/
def Block.canStart (b : Block) (port : Nat) : Bool :=
  let p := b.port port
  p.state == 2 && p.bulk.idle && p.free 0 b.clk.core

/-- Eligible apart from the class's gate. -/
def Block.ungated (b : Block) (port : Nat) (h : MonHead) : Bool :=
  b.basic port h && (b.rate h.cls == 0 || decide (0 < b.tokens port h.cls))

/-- Eligible (R221). -/
def Block.mayStart (b : Block) (port : Nat) (h : MonHead) : Bool := b.ungated port h && b.gateOpen port h.cls h.len

/-- The next frame of an item on a port. -/
def Block.itemHead (b : Block) (port q : Nat) (i : Item) : MonHead :=
  { q := q, cls := i.body.cls % 8, cost := atLeast1 (b.f (F.MON_Q_CFG_QCOST.ix q)), len := min (i.body.size - i.off) (b.port port).frameMax,
    sor := i.off == 0, item := some i.num }

/-- Whether this role sends records of its own now: an aggregator, or a D-role that is bound (R32, R247). -/
def Block.sendsOwn (b : Block) : Bool := b.on dQUEUE && b.is F.QUE_CTRL_EN && (b.syn.agg || b.is F.SELF_LDI_BOUND)

/-- The first item of a queue still to be sent; a QUE_LOSS record that waits for the item behind it holds the queue. -/
def QueSt.head (x : QueSt) : Option Item :=
  match x.items.find? (fun i => !i.sent) with
  | some i => if i.loss then none else some i
  | none => none

/-- The queue of frames that pass through: 4,096 in a D-role (R221); 65,536, one beyond its own, in an aggregator. -/
def Block.fwdQ (b : Block) : Nat := if b.syn.agg then 65536 else 4096

/-- The heads on a port (R221): of every UPLINK queue on the current path, and of the frames that pass through; none on the closing link of
a ring (R24). -/
def Block.heads (b : Block) (port : Nat) : List MonHead :=
  let own := if port = b.upPort ∧ b.sendsOwn then
      (b.que.queues.filter (fun p => b.consumer p.1 == 0)).filterMap (fun p => p.2.head.map (b.itemHead port p.1))
    else []
  if ¬ b.carries port then []
  else own ++ (match (b.port port).fwd with
    | f :: _ => [{ q := b.fwdQ, cls := f.cls % 8, cost := 1, len := f.lenb, sor := f.sor }]
    | [] => [])

/-- The item of a launch that is the next frame of a class (R225), the one released first among those of the class: exempt from shaper and
gate. -/
def Block.launchHead (b : Block) (port c : Nat) : Option MonHead :=
  if port = b.upPort ∧ b.sendsOwn then
    (b.mon.launched.findSome? (fun l =>
        ((b.queue l.1).items.find? (fun i => i.num == l.2 && !i.sent && i.body.cls % 8 == c)).map (b.itemHead port l.1))).bind
      (fun h => if b.basic port h then some h else none)
  else none

/-- Tag the queues (R222): an eligible head takes a tag and keeps it, any other loses it. -/
def Block.tagQueues (b : Block) (port : Nat) (p : MonPort) : MonPort :=
  let ok := (b.heads port).filter (b.mayStart port)
  let p := { p with qs := p.qs.map (fun x => if ok.any (fun h => h.q == x.1) then x else (x.1, { x.2 with tag := none })) }
  ok.foldl (fun p h =>
    let x := p.qs.getD h.q {}
    if x.tag.isSome then p
    else { p with qs := p.qs.put h.q { x with tag := some ((max (p.c h.cls).v x.last + h.len * h.cost) % 2 ^ 64) } }) p

/-- The tagged queue of a class with the least tag, ties to the lowest number. -/
def leastTag (p : MonPort) (hs : List MonHead) (c : Nat) : Option MonHead :=
  let t (h : MonHead) : Nat := (MonQ.tag (p.qs.getD h.q {})).getD 0
  let mine := hs.filter (fun h => h.cls == c && (MonQ.tag (p.qs.getD h.q {})).isSome)
  match sortBy t (sortBy (fun h => h.q) mine) with
  | [] => none
  | h :: _ => some h

/-- Tag the classes (R222): a candidate that lost its tag is given up, a class without one takes the queue of least tag. -/
def Block.tagClasses (b : Block) (port : Nat) (p : MonPort) : MonPort :=
  let hs := b.heads port
  (List.range 8).foldl (fun p c =>
    let x := p.c c
    let x := match x.cand with
      | some q => if (MonQ.tag (p.qs.getD q {})).isNone then { x with cand := none, tag := none } else x
      | none => x
    let strict := b.is (F.MON_CLASS_CFG_MODE.ix c)
    let cost := atLeast1 (b.f (F.MON_CLASS_CFG_CCOST.ix c))
    let cls (len : Nat) : Option Nat := if strict then none else some ((max p.vl x.last + len * cost) % 2 ^ 64)
    let x := match x.cand, leastTag p hs c with
      | none, some h => { x with cand := some h.q, tag := cls h.len }
      | _, _ => x
    let x := match b.launchHead port c with
      | some h => if x.tag.isNone then { x with tag := cls h.len } else x
      | none => x
    p.updC c (fun _ => x)) p

/-- The frame a class would serve: the launched item's, or its candidate's. -/
def Block.classHead (b : Block) (port : Nat) (p : MonPort) (c : Nat) : Option MonHead :=
  match b.launchHead port c with
  | some h => some h
  | none => (p.c c).cand.bind (fun q => (b.heads port).find? (fun h => h.q == q))

/-- Choose a class (R222): STRICT classes from 7 down, else the WFQ class of least tag, ties to the higher. -/
def Block.chooseClass (b : Block) (port : Nat) (p : MonPort) : Option (Nat × MonHead) :=
  let all := ((List.range 8).reverse).filterMap (fun c => (b.classHead port p c).map (fun h => (c, h)))
  match all.find? (fun x => b.is (F.MON_CLASS_CFG_MODE.ix x.1)) with
  | some x => some x
  | none =>
    match sortBy (fun (x : Nat × MonHead) => ((p.c x.1).tag).getD 0) all with
    | [] => none
    | x :: _ => some x

/-- Whether a served frame is that of a launched item. -/
def Block.isLaunch (b : Block) (port c : Nat) (h : MonHead) : Bool := b.launchHead port c == some h

/-- Virtual times, tags and tokens after a service (R222, R223, R225). -/
def Block.charge (b : Block) (port c : Nat) (h : MonHead) (p : MonPort) : MonPort :=
  let launch := b.isLaunch port c h
  let x := p.c c
  let vl := match x.tag with
    | some t => t
    | none => p.vl
  let qt := (MonQ.tag (p.qs.getD h.q {})).getD 0
  let p := if launch then p else { p with qs := p.qs.put h.q { tag := none, last := qt } }
  let left : Int := if launch then b.tokens port c else max (-4096) (b.tokens port c - ((h.len : Nat) : Int))
  ({ p with vl := vl }).updC c (fun x =>
    { v := if launch then x.v else qt, cand := none, tag := none, last := (x.tag).getD x.last, tokens := left, at_ := b.clk.aon })

/-- The lowest free context of a port. -/
def Port.freeCtx (p : Port) : Nat := ((List.range 64).find? (fun n => !(p.ctxUsed.contains n))).getD 0

/-- Put a bulk frame on a port: its context is taken at SOR and freed after EOR (R210). -/
def Block.putBulk (b : Block) (port : Nat) (f : Frame) : Block :=
  b.updPort port (fun p =>
    ({ p with bulk := p.bulk.launch f b.clk.core b.stampUi,
              ctxUsed := if f.eor then p.ctxUsed.erase f.ctx else if f.sor then f.ctx :: p.ctxUsed else p.ctxUsed }).begun 0 f.lenb
      b.clk.core b.syn.coreMHz)

/-- Whether any record of a stream is taken and not accepted. -/
def Block.outstanding (b : Block) (stream : Nat) : Bool :=
  b.que.queues.any (fun p => p.2.items.any (fun i => i.body.stream == stream && i.seq.isSome))

/-- The consumer takes an item (R232): SEQ, and in a D-role the LDI and epoch of its binding and a copy for the NOR (R290); an aggregator's
own record is its own to accept (R233). -/
def Block.beginItem (b : Block) (q : Nat) (i : Item) : Item × Block :=
  match i.seq with
  | some _ => (i, b)
  | none =>
    let s := b.takeSeq i.body.stream (!b.outstanding i.body.stream)
    let body := if b.syn.agg then i.body else { i.body with ldi := b.selfLdi, epoch := b.selfEpoch }
    let i := { i with seq := some s.1, body := body }
    let b := s.2
    let l := body.whole s.1
    let b := if b.syn.agg then b.hold body.ldi body.epoch body.stream s.1 body.sev l
      else b.norCopy { ldi := body.ldi, epoch := body.epoch, stream := body.stream, seq := s.1, sev := body.sev, bytes := l } body.typ
    let x := b.queue q
    (i, b.setQueue q { x with items := x.items.map (fun j => if j.num = i.num then i else j) })

/-- Send the next frame of an item. The whole sent, a D-role holds it until it is accepted (R241); an aggregator lets it go. -/
def Block.sendItem (b : Block) (port q num len : Nat) : Block :=
  match (b.queue q).items.find? (fun i => i.num == num) with
  | none => b
  | some i0 =>
    let r := b.beginItem q i0
    let i := r.1
    let b := r.2
    let bytes := i.body.whole (i.seq.getD 0)
    let ctx := i.ctx.getD (b.port port).freeCtx
    let eor := decide (bytes.length ≤ i.off + len)
    let f : Frame := { seq := 0, cls := i.body.cls % 8, sor := i.off == 0, eor := eor, ctx := ctx, lenb := len,
                       content := .bytes ((bytes.drop i.off).take len) }
    let b := b.putBulk port f
    let i' : Item := if eor then { i with sent := true, off := 0, ctx := none } else { i with off := i.off + len, ctx := some ctx }
    let x := b.queue q
    let items := if eor ∧ b.syn.agg then x.items.filter (fun j => j.num != num) else x.items.map (fun j => if j.num = num then i' else j)
    let b := b.setQueue q { x with items := items }
    if eor then { b with mon := { b.mon with launched := b.mon.launched.filter (fun l => l.2 != num) } } else b

/-- Send the next of the frames that pass through, on a context of this port (R210, R213). -/
def Block.sendFwd (b : Block) (port : Nat) : Block :=
  let p := b.port port
  match p.fwd with
  | [] => b
  | f :: rest =>
    let ctx := if f.sor then p.freeCtx else p.fwdCtx.getD f.ctx f.ctx
    let p := { p with fwd := rest, fwdCtx := if f.eor then p.fwdCtx.del f.ctx else p.fwdCtx.put f.ctx ctx }
    (b.setPort port p).putBulk port { f with ctx := ctx }

/-- A class has started a frame: it does not starve (R224). -/
def Block.started (b : Block) (c : Nat) : Block :=
  { b with mon := { b.mon with gates := setAt b.mon.gates c { (b.mon.gates[c]?).getD {} with starved := false } } }

/-- Whether a class holds a frame that is eligible apart from its gate (R224). -/
def Block.holdsEligible (b : Block) (c : Nat) : Bool :=
  b.kl.ports.keys.any (fun port => (b.heads port).any (fun h => h.cls == c && b.ungated port h))

/-- A class that holds no such frame at some moment of the period does not starve (R224). -/
def Block.noteIdle (b : Block) : Block :=
  { b with mon := { b.mon with gates := (List.range 8).map (fun c =>
      let g : Gate := (b.mon.gates[c]?).getD {}
      { g with starved := g.starved && b.holdsEligible c }) } }

/-- What the links do in each cycle: frames that wait start where they may (R208), and each class is watched for starving (R224). -/
def Block.linkCycle (b : Block) : Block := if b.on dLINKS then b.drainAll.noteIdle else b

/-- When a port can start a bulk frame, Monarch tags and serves one (R222). -/
def Block.bulkSchedule (b : Block) (port : Nat) : Block :=
  if ¬ b.is F.MON_CTRL_EN ∨ ¬ b.canStart port then b
  else
    let b := b.noteIdle
    let p := b.tagClasses port (b.tagQueues port (b.monPort port))
    match b.chooseClass port p with
    | none => b.setMonPort port p
    | some (c, h) =>
      let b := b.setMonPort port (b.charge port c h p)
      let b := b.started c
      match h.item with
      | some n => b.sendItem port h.q n h.len
      | none => b.sendFwd port

/-! Shapers and gates -/

/-- The staged change of a class. -/
def Block.staged (b : Block) (c : Nat) : Option Shape := (b.mon.staged[c]?).getD none

/-- A staged change applies on every port (R223): each bucket is cut to the new burst, with nothing added. -/
def Block.applyShape (b : Block) (c : Nat) : Block :=
  match b.staged c with
  | none => b
  | some s =>
    let old := (List.range (portCount b.syn.agg)).map (fun n => (n, b.tokens n c))
    let b := (b.setf (F.MON_SHAPE_ACT_RATE.ix c) s.rate).setf (F.MON_SHAPE_ACT_BURST.ix c) s.burst
    let b := old.foldl (fun b x =>
      b.setMonPort x.1 ((b.monPort x.1).updC c (fun y => { y with tokens := min x.2 ((b.burst c : Nat) : Int), at_ := b.clk.aon }))) b
    ({ b with mon := { b.mon with staged := setAt b.mon.staged c none } }).raise Ev.MON_SHAPE_APPLIED [(c, 8)]

/-- Whether a class has a queued frame: an item of an UPLINK queue not sent yet, though no port may send it now, or a frame that passes
through a port (R223). -/
def Block.hasQueued (b : Block) (c : Nat) : Bool :=
  b.que.queues.any (fun q => b.consumer q.1 == 0 && q.2.items.any (fun i => !i.sent && i.body.cls % 8 == c))
    || b.kl.ports.any (fun p => p.2.fwd.any (fun f => f.cls % 8 == c))

/-- Whether the class is idle in the sense of IDLE (R223): no queued frame on any port, or its buckets on all of them stand at BURST. -/
def Block.shapeIdle (b : Block) (c : Nat) : Bool :=
  !b.hasQueued c || (List.range (portCount b.syn.agg)).all (fun n => b.tokens n c == ((b.burst c : Nat) : Int))

/-- A staged change applies when its mode lets it: at once, or while the class is idle; BOUNDARY waits for a boundary (R223). -/
def Block.shapeApply (b : Block) (c : Nat) : Block :=
  match b.staged c with
  | none => b
  | some s => if s.mode = 1 ∨ (s.mode = 2 ∧ ¬ b.shapeIdle c) then b else b.applyShape c

/-- MON_SHAPE_CMD with COMMIT stages a change in place of a pending one (R223). -/
def Block.shapeCommit (b : Block) (word : Nat) : Block :=
  let b := b.writeFields 0x901C word
  if bit word 2 = 1 then
    let c := b.f F.MON_CLASS_SEL_CLASS
    let s : Shape := { rate := b.f (F.MON_SHAPE_RATE.ix c), burst := b.f (F.MON_SHAPE_BURST.ix c), mode := bits word 0 2 }
    { b with mon := { b.mon with staged := setAt b.mon.staged c (some s) } }
  else b

/-- A wingbeat boundary of the role (R223, R224): gates whose index matches set their window afresh, a class starved since the last such
boundary is said, and changes in BOUNDARY mode apply. -/
def Block.monBoundary (b : Block) (idx : Nat) : Block :=
  let b := (List.range 8).foldl (fun b c =>
    let len := b.f (F.MON_GATE_LEN.ix c)
    if len = 0 then { b with mon := { b.mon with gates := setAt b.mon.gates c {} } }
    else if b.is (F.MON_GATE_IDX_ALL.ix c) ∨ b.f (F.MON_GATE_IDX_IDX.ix c) = idx % 256 then
      let g := (b.mon.gates[c]?).getD {}
      let held := b.holdsEligible c
      let b := b.raiseIf (g.starved && g.boundary.isSome && held) Ev.MON_GATE_STARVE [(c, 8)]
      let s := b.clk.core + b.us (b.f (F.MON_GATE_OFF.ix c))
      { b with mon := { b.mon with gates := setAt b.mon.gates c { window := some (s, s + b.us len), closed := false,
                                                                   boundary := some b.clk.core, starved := held } } }
    else b) b
  (List.range 8).foldl (fun b c => match b.staged c with
    | some s => if s.mode = 1 then b.applyShape c else b
    | none => b) b

/-- MON_STATUS.GATED shows a gate that closes or opens (R224). -/
def Block.gateMark (b : Block) (c : Nat) (close : Bool) : Block :=
  let inside := match b.gateWindow c with
    | some (s, e) => decide (s ≤ b.clk.core) && decide (b.clk.core < e)
    | none => false
  if inside = close then
    { b with mon := { b.mon with gates := setAt b.mon.gates c { (b.mon.gates[c]?).getD {} with closed := close } } }
  else b

/-- Virtual times are cleared at each Fabric Image commit (R222). -/
def Block.monCommit (b : Block) : Block := { b with mon := { b.mon with ports := b.mon.ports.map (fun p => (p.1, p.2.clear)) } }

/-! Meanings -/

/-- BULK_SCHEDULE. -/
def execBulkSchedule (port : Nat) (s : State) : Host.Outcome State Fault Refusal :=
  s.lift (fun b => b.onPort port (fun b => b.bulkSchedule port))
/-- SHAPE_COMMIT. -/
def execShapeCommit (m : Master) (word : Nat) (s : State) : Host.Outcome State Fault Refusal :=
  s.lift (fun b => b.write m 0x901C word (fun b => b.shapeCommit word))
/-- SHAPE_APPLY. -/
def execShapeApply (cls : Nat) (s : State) : Host.Outcome State Fault Refusal :=
  s.lift (fun b => if b.on dLINKS then b.shapeApply (cls % 8) else b)
/-- GATE_WINDOW_START. -/
def execGateWindowStart (cls : Nat) (s : State) : Host.Outcome State Fault Refusal :=
  s.lift (fun b => if b.on dLINKS then b.gateMark (cls % 8) true else b)
/-- GATE_WINDOW_END. -/
def execGateWindowEnd (cls : Nat) (s : State) : Host.Outcome State Fault Refusal :=
  s.lift (fun b => if b.on dLINKS then b.gateMark (cls % 8) false else b)

end Sys2Proof.Machine
end

