-- ==== Sys2Proof/Machine/Steward.lean ====
section
/-! DEFINITION. The Steward, the sync counters, the interrupt controller, the event log and the sideband
(spec/15_steward_interrupts_sideband.md, R327 to R345). -/

namespace Sys2Proof.Machine

/-! The Steward's load and watchdog -/

/-- The rank of a duty (Table 15-1). -/
def dutyRank (d : Nat) : Nat := if d < 4 then 0 else if d = 4 then 1 else if d = 7 then 3 else 2

/-- Whether a duty is shed at the present level (R330). -/
def Block.shed (b : Block) (d : Nat) : Bool := decide (3 - b.f F.STW_STATUS_LEVEL < dutyRank d)

/-- Whether any of a group's event bits is 1. -/
def Block.groupPends (b : Block) (g : Nat) : Bool := (List.range 32).any (fun i => b.pends (32 * g + i))

/-- The conditions that persist and the duty each is posted to (R329, Table 15-1; log entry 20). -/
def Block.conditions (b : Block) : List Nat :=
  (if (List.range 8).any (fun i => b.pends (464 + i)) then [0] else [])
    ++ (if b.que.procs ≠ [] then [1] else [])
    ++ (if b.groupPends 7 then [2] else [])
    ++ (if b.vsb.queue ≠ [] then [3] else [])
    ++ (if (List.range 512).any (fun s => b.pends s && b.is (F.IRQ_SRC_CFG_EN.ix s) && b.f (F.IRQ_SRC_CFG_TGT.ix s) == 0) then [4] else [])
    ++ (if b.is F.STW_CTRL_LOG_EMIT ∧ b.evl.carried + 1 < b.evl.next then [5] else [])
    ++ (if b.groupPends 11 then [6] else [])

/-- R329: every 1 ms each condition that still holds is posted again. -/
def Block.postRecheck (b : Block) : Block :=
  if b.on dSTEWARD ∧ b.stw.recheck + b.us 1000 ≤ b.clk.core then
    let b := { b with stw := { b.stw with recheck := b.clk.core } }
    b.conditions.foldl Block.post b
  else b

/-- The shed level after a window (R330): the new level and the runs of high and low windows. -/
def shedLevel (level hiRun loRun span : Nat) (hi lo : Bool) : Nat × Nat × Nat :=
  let h := if hi then hiRun + 1 else 0
  let l := if lo then loRun + 1 else 0
  if span ≤ h ∧ level < 3 then (level + 1, 0, 0)
  else if span ≤ l ∧ 0 < level then (level - 1, 0, 0)
  else (level, min h span, min l span)

/-- R330: at the end of a window of 1 ms, in which `ready` CLK_CORE cycles had a ready thread, the load is recorded and the
shed level may change. -/
def Block.loadWindow (b : Block) (ready : Nat) : Block :=
  let total := b.us 1000
  if b.on dSTEWARD ∧ b.stw.windowStart + total ≤ b.clk.core then
    let r := min ready total
    let hi := decide (b.f F.STW_SHED_HIGH * total ≤ 100 * r)
    let lo := decide (100 * r ≤ b.f F.STW_SHED_LOW * total)
    let lv := b.f F.STW_STATUS_LEVEL
    let p := if b.is F.STW_CTRL_SHED_EN then shedLevel lv b.stw.hiRun b.stw.loRun (atLeast1 (b.f F.STW_SHED_SPAN)) hi lo
             else (0, 0, 0)
    let b := { b with stw := { b.stw with windowStart := b.clk.core, hiRun := p.2.1, loRun := p.2.2 } }
    let b := b.setf F.STW_STATUS_LOAD (100 * r / total)
    let b := b.count (F.STW_HIST_WINDOWS.ix (min 15 (16 * r / total)))
    let b := b.raiseIf hi Ev.STW_OVERLOAD
    (b.setf F.STW_STATUS_LEVEL p.1).raiseIf (p.1 != lv) Ev.STW_SHED
  else b

/-- A rank-0 duty checks in with the watchdog (R330). -/
def Block.checkIn (b : Block) (duty : Nat) : Block :=
  { b with stw := { b.stw with checkIn := setAt b.stw.checkIn duty b.clk.aon,
                               warned := b.stw.warned.filter (fun d => d != duty) } }

/-- CLK_AON cycles since a duty's last check-in. -/
def Block.silent (b : Block) (duty : Nat) : Nat := b.clk.aon - (b.stw.checkIn[duty]?).getD 0

/-- The watchdog's TIMEOUT in CLK_AON cycles. -/
def Block.wdogTime (b : Block) : Nat := aonUs (1000 * atLeast1 (b.f F.STW_WDOG_TIMEOUT))

/-- R330: a rank-0 duty silent for TIMEOUT / 2 raises WDOG_WARN, once until it checks in. -/
def Block.wdogWarn (b : Block) (duty : Nat) : Block :=
  if b.on dSTEWARD ∧ duty < 4 ∧ duty ∉ b.stw.warned ∧ b.wdogTime ≤ 2 * b.silent duty then
    ({ b with stw := { b.stw with warned := duty :: b.stw.warned } }).raise Ev.STW_WDOG_WARN
  else b

/-- POST_RECHECK. -/
def execPostRecheck (s : State) : Host.Outcome State Fault Refusal := s.lift Block.postRecheck

/-- LOAD_WINDOW. -/
def execLoadWindow (ready : Nat) (s : State) : Host.Outcome State Fault Refusal := s.lift (fun b => b.loadWindow ready)

/-- WDOG_WARN. -/
def execWdogWarn (duty : Nat) (s : State) : Host.Outcome State Fault Refusal := s.lift (fun b => b.wdogWarn duty)

/-- Whether a thread of the Steward is scheduled: not while its duty is shed (R330), and in Chrysalis only threads 0 and 3 (R362). -/
def Block.threadRuns (b : Block) (n : Nat) : Bool :=
  b.on dSTEWARD && !b.shed n && (!b.is F.PWR_STATUS_CHRYS || n == 0 || n == 3)

/-! Sync counters -/

/-- The number of a requester (Table 15-9). -/
def Agent.num (a : Agent) : Nat :=
  match a with
  | .master m => m.num
  | .thread n => 8 + n % 8

/-- A sync counter. -/
def Block.ctr (b : Block) (i : Nat) : SynCtr := b.syn_.ctrs.getD i {}

/-- Put a sync counter. -/
def Block.setCtr (b : Block) (i : Nat) (c : SynCtr) : Block :=
  { b with syn_ := { b.syn_ with ctrs := b.syn_.ctrs.putD {} i c } }

/-- Write a requester's SYN_RESULT: the counter's value after the operation, the status, the two flags (R331). -/
def Block.synAnswer (b : Block) (who i status : Nat) : Block :=
  let c := b.ctr i
  { b with syn_ := { b.syn_ with results := b.syn_.results.put who ⟨c.v, status, c.ovf, c.unf⟩ } }

/-- Record a fault of a counter (R332): SYN_FAULT, and the event with the counter and the master. -/
def Block.synFault (b : Block) (who i kind : Nat) : Block :=
  let b := ((b.setf F.SYN_FAULT_INDEX i).setf F.SYN_FAULT_KIND kind).setf F.SYN_FAULT_VALID 1
  b.raise (if kind = 0 then Ev.STW_SYN_OVERFLOW else Ev.STW_SYN_UNDERFLOW) [(i, 16), (who, 8)]

/-- INC (Table 15-2): above 0xFFFF the counter saturates and OVF is set. -/
def synInc (c : SynCtr) (n : Nat) : SynCtr × Nat :=
  if 0xFFFF < c.v + n then ({ c with v := 0xFFFF, ovf := true }, 2) else ({ c with v := c.v + n }, 0)

/-- DEC (Table 15-2): below 0 the counter stops at 0 and UNF is set. -/
def synDec (c : SynCtr) (n : Nat) : SynCtr × Nat :=
  if c.v < n then ({ c with v := 0, unf := true }, 3) else ({ c with v := c.v - n }, 0)

/-- TAKE (Table 15-2): when v is at least n, v falls by n; else nothing changes. -/
def synTake (c : SynCtr) (n : Nat) : SynCtr × Nat :=
  if n ≤ c.v then ({ c with v := c.v - n }, 0) else (c, 1)

/-- Serve the threads that wait on counter i, oldest wait first (R332): each whose TAKE can succeed takes and is woken. -/
def Block.synWake (b : Block) (i : Nat) : Block :=
  b.syn_.waiters.foldl (fun b w =>
    if w.2.1 = i ∧ w.2.2 ≤ (b.ctr i).v then
      let b := b.setCtr i (synTake (b.ctr i) w.2.2).1
      let b := b.synAnswer (8 + w.1) i 0
      { b with syn_ := { b.syn_ with waiters := b.syn_.waiters.filter (fun x => x != w) } }
    else b) b

/-- Whether a master's operation on a counter is DENIED: counters 0 to 255 are the firmware's (R331). -/
def synDenied (who : Agent) (i : Nat) : Bool :=
  match who with
  | .master _ => i < 256
  | .thread _ => false

/-- One operation on a sync counter (R331, R332, Table 15-2). -/
def Block.synOp (b : Block) (who : Agent) (op i n : Nat) : Block :=
  let i := i % 4096
  let n := n % 65536
  let w := who.num
  let c := b.ctr i
  if op = 0 then b.synAnswer w i 0
  else if synDenied who i then b.synAnswer w i 4
  else match op with
    | 1 =>
      let r := synInc c n
      let b := (b.setCtr i r.1).synAnswer w i r.2
      let b := if r.2 = 2 then b.synFault w i 0 else b
      b.synWake i
    | 2 =>
      let r := synDec c n
      let b := (b.setCtr i r.1).synAnswer w i r.2
      if r.2 = 3 then b.synFault w i 1 else b
    | 3 =>
      let r := synTake c n
      let b := (b.setCtr i r.1).synAnswer w i r.2
      match who with
      | .thread t =>
        if r.2 = 1 then { b with syn_ := { b.syn_ with waiters := b.syn_.waiters ++ [(t % 8, i, n)] } } else b
      | .master _ => b
    | 4 =>
      if b.syn_.waiters.any (fun x => x.2.1 == i) then b.synAnswer w i 4
      else (b.setCtr i { c with v := n }).synAnswer w i 0
    | 5 => (b.setCtr i { c with ovf := false, unf := false }).synAnswer w i 0
    | _ => b.synAnswer w i 4

/-- A sync operation by its requester: a master's is a write of SYN_CMD (R331); a thread's acts while STEWARD is ON. -/
def Block.synBy (b : Block) (who : Agent) (op i n : Nat) : Block :=
  match who with
  | .master m => b.write m 0xF100 (i % 4096 + op % 8 * 4096 + n % 65536 * 65536) (fun b => b.synOp who op i n)
  | .thread _ => if b.on dSTEWARD then b.synOp who op i n else b

/-- SYN_READ. -/
def execSynRead (who : Agent) (i n : Nat) (s : State) : Host.Outcome State Fault Refusal := s.lift (fun b => b.synBy who 0 i n)
/-- SYN_INC. -/
def execSynInc (who : Agent) (i n : Nat) (s : State) : Host.Outcome State Fault Refusal := s.lift (fun b => b.synBy who 1 i n)
/-- SYN_DEC. -/
def execSynDec (who : Agent) (i n : Nat) (s : State) : Host.Outcome State Fault Refusal := s.lift (fun b => b.synBy who 2 i n)
/-- SYN_TAKE. -/
def execSynTake (who : Agent) (i n : Nat) (s : State) : Host.Outcome State Fault Refusal := s.lift (fun b => b.synBy who 3 i n)
/-- SYN_SET. -/
def execSynSet (who : Agent) (i n : Nat) (s : State) : Host.Outcome State Fault Refusal := s.lift (fun b => b.synBy who 4 i n)
/-- SYN_CLRF. -/
def execSynClrf (who : Agent) (i n : Nat) (s : State) : Host.Outcome State Fault Refusal := s.lift (fun b => b.synBy who 5 i n)
/-- SYN_RESERVED_OP: OP 6 or 7 (a lower OP in the operand is taken as 6 plus its lowest bit). -/
def execSynReservedOp (who : Agent) (op i n : Nat) (s : State) : Host.Outcome State Fault Refusal :=
  s.lift (fun b => b.synBy who (6 + op % 2) i n)

/-! Interrupts -/

/-- A target's record. -/
def Block.tgt (b : Block) (t : Nat) : IrqTgt := (b.irq.tgts[t]?).getD {}

/-- Put a target's record. -/
def Block.setTgt (b : Block) (t : Nat) (x : IrqTgt) : Block :=
  { b with irq := { b.irq with tgts := setAt b.irq.tgts t x } }

/-- Whether a source is claimed and not returned (on any target's stack). -/
def Block.active (b : Block) (src : Nat) : Bool := b.irq.tgts.any (fun t => t.stack.any (fun p => p.1 == src))

/-- Whether a source is GUARDED (R337). -/
def Block.guarded (b : Block) (src : Nat) : Bool := (b.irq.guards.getD src {}).holdEnd.isSome

/-- A source's PRIO. -/
def Block.prio (b : Block) (src : Nat) : Nat := b.f (F.IRQ_SRC_CFG_PRIO.ix src)

/-- Whether a source is eligible for its target t (the list before R335). -/
def Block.eligible (b : Block) (t src : Nat) : Bool :=
  b.pends src && b.is (F.IRQ_SRC_CFG_EN.ix src) && b.f (F.IRQ_SRC_CFG_TGT.ix src) == t
    && !b.active src && !b.guarded src && decide ((b.tgt t).rp < b.prio src)

/-- The eligible sources of a target, rising. -/
def Block.eligibles (b : Block) (t : Nat) : List Nat := (List.range 512).filter (b.eligible t)

/-- The source a claim takes: highest PRIO, ties to the lowest number (R335). -/
def pickClaim (prio : Nat → Nat) (l : List Nat) : Option Nat :=
  l.foldl (fun a s => match a with
    | none => some s
    | some x => if prio x < prio s then some s else some x) none

/-- The line of a target, judged again (R336). -/
def Block.irqLine (b : Block) (t : Nat) : Block :=
  let x := b.tgt t
  let el := b.eligibles t
  if el = [] then b.setTgt t { x with line := false }
  else if x.line then b
  else
    let hold := b.us (b.f (F.IRQ_MOD_HOLD.at t 16))
    let cnt := min 64 (atLeast1 (b.f (F.IRQ_MOD_COUNT.at t 16)))
    let since (o : Option Nat) : Bool := match o with
      | none => true
      | some c => decide (c + hold ≤ b.clk.core)
    let c1 := el.any (fun s => b.is (F.IRQ_SRC_CFG_BYPASS.ix s))
    let c2 := x.stack.isEmpty && since x.lastLow
    let c3 := decide (cnt ≤ el.length)
    let c4 := since x.lastLowHeld
    if c2 || c3 || c4 then b.setTgt t { x with line := true, lastLow := some b.clk.core, lastLowHeld := some b.clk.core }
    else if c1 then b.setTgt t { x with line := true, lastLow := some b.clk.core }
    else b

/-- All four lines, judged again while STEWARD is ON. -/
def Block.irqLines (b : Block) : Block :=
  if b.on dSTEWARD then [0, 1, 2, 3].foldl Block.irqLine b else b

/-- HIRQ_N[t - 1] of host target t (R333, R336): low while its line is asserted; high while STEWARD is not ON (R379). -/
def Block.hirqN (b : Block) (t : Nat) : Nat := if b.on dSTEWARD ∧ (b.tgt t).line then 0 else 1

/-- claim(t) of R335: the source pushed with the RP it saves, RP raised. -/
def Block.claim (b : Block) (t : Nat) : Option Nat × Block :=
  match pickClaim b.prio (b.eligibles t) with
  | none => (none, b)
  | some s =>
    let x := b.tgt t
    (some s, (b.setTgt t { x with stack := (s, x.rp) :: x.stack, rp := b.prio s }).irqLine t)

/-- The word IRQ_CLAIM reads (R335). -/
def claimWord (prio : Nat → Nat) (o : Option Nat) : Nat :=
  match o with
  | none => 0
  | some s => s + prio s * 2 ^ 16 + 2 ^ 31

/-- A read of IRQ_CLAIM[t]: software's reads of IRQ_CLAIM[0] claim nothing (R335). -/
def Block.claimRead (b : Block) (t : Nat) : Nat × Block :=
  if t = 0 then (0, b)
  else
    let r := b.claim t
    (claimWord b.prio r.1, r.2)

/-- eoi(t, s) of R335, with the re-sampling of a level that still pends (R337). -/
def Block.eoi (b : Block) (t src : Nat) : Block :=
  match (b.tgt t).stack with
  | (s, rp) :: rest =>
    if s = src then
      let b := b.setTgt t { (b.tgt t) with stack := rest, rp := rp }
      let b := if b.pends src then b.begins src else b
      b.irqLine t
    else b.raise Ev.STW_EOI_BAD
  | [] => b.raise Ev.STW_EOI_BAD

/-- Bit n of IRQ_EXT, as a field. -/
def extFld (n : Nat) : Fld := ⟨0xF208, n, 1, 0⟩

/-- The MODE of input n. -/
def Block.inMode (b : Block) (n : Nat) : Nat := b.f (F.IRQ_SRC_CFG_MODE.ix (480 + n))

/-- Set an IRQ_EXT bit: a bit that was 0 begins to pend (R337). -/
def Block.extSet (b : Block) (n : Nat) : Block :=
  if b.is (extFld n) then b else (b.setf (extFld n) 1).begins (480 + n)

/-- In the level modes bit n of IRQ_EXT follows the synchronised input (R334). -/
def Block.extFollow (b : Block) (n : Nat) : Block :=
  match b.inMode n with
  | 0 => if bit b.irq.inLvl n = 1 then b.extSet n else b.setf (extFld n) 0
  | 1 => if bit b.irq.inLvl n = 0 then b.extSet n else b.setf (extFld n) 0
  | _ => b

/-- A synchronised level of IRQ_IN[n] (R334): followed in the level modes; an edge of the selected sense sets the bit in the
edge modes; in RET the edge latch holds the edges of the copied mode; while OFF nothing is held. -/
def Block.irqIn (b : Block) (n : Nat) (level : Bool) : Block :=
  let n := n % 32
  let old := bit b.irq.inLvl n
  let new := if level then 1 else 0
  let b := { b with irq := { b.irq with inLvl := setBit b.irq.inLvl n new } }
  let hit (mode : Nat) : Bool := (mode == 2 && old == 0 && new == 1) || (mode == 3 && old == 1 && new == 0)
  if b.on dSTEWARD then
    if hit (b.inMode n) then b.extSet n else b.extFollow n
  else if b.dom dSTEWARD = 1 then
    if hit ((b.irq.latchMode[n]?).getD 0) then { b with irq := { b.irq with latched := setBit b.irq.latched n 1 } } else b
  else b

/-- STEWARD leaves ON for RET: the edge latch copies the modes (R334). -/
def Block.latchModes (b : Block) : Block :=
  { b with irq := { b.irq with latchMode := (List.range 32).map b.inMode, latched := 0 } }

/-- STEWARD returns: each held edge is set into its IRQ_EXT bit (R354), and the level modes follow the inputs. -/
def Block.unlatch (b : Block) : Block :=
  let held := b.irq.latched
  let b := { b with irq := { b.irq with latched := 0, latchMode := [] } }
  (List.range 32).foldl (fun b n => if bit held n = 1 then b.extSet n else b.extFollow n) b

/-- The end of a source's guard (R337): it becomes eligible again, and counting starts afresh. -/
def Block.guardEnd (b : Block) (src : Nat) : Block :=
  let g := b.irq.guards.getD src {}
  match g.holdEnd with
  | some e =>
    if e ≤ b.clk.core then
      { b with irq := { b.irq with guards := b.irq.guards.put src { g with holdEnd := none, lastEnd := some e, begins := [] } } }
    else b
  | none => b

/-- A further WIN without a guard clears the count of consecutive guards (R337). -/
def Block.guardClear (b : Block) (src : Nat) : Block :=
  let g := b.irq.guards.getD src {}
  match g.holdEnd, g.lastEnd with
  | none, some e =>
    if e + b.stormWin < b.clk.core then
      { b with irq := { b.irq with guards := b.irq.guards.put src { g with count := 0, lastEnd := none } } }
    else b
  | _, _ => b

/-- IRQ_IN_EDGE. -/
def execIrqInEdge (n : Nat) (level : Bool) (s : State) : Host.Outcome State Fault Refusal := s.lift (fun b => b.irqIn n level)

/-- IRQ_CLAIM: a master's read of IRQ_CLAIM[t]; thread 4 claims for target 0 (R333, R335). -/
def execIrqClaim (who : Agent) (t : Nat) (s : State) : Host.Outcome State Fault Refusal :=
  match who with
  | .master m => s.lift (fun b => b.read m (0xF210 + 16 * (t % 4)) (fun b => b.claimRead (t % 4)))
  | .thread _ => s.lift (fun b => if b.threadRuns 4 then (b.claim 0).2 else b)

/-- IRQ_EOI: a master's write of IRQ_EOI[t], or thread 4's return of target 0. -/
def execIrqEoi (who : Agent) (t src : Nat) (s : State) : Host.Outcome State Fault Refusal :=
  match who with
  | .master m => s.lift (fun b => b.write m (0xF214 + 16 * (t % 4)) (src % 512) (fun b => b.eoi (t % 4) (src % 512)))
  | .thread _ => s.lift (fun b => if b.threadRuns 4 then b.eoi 0 (src % 512) else b)

/-- IRQ_HOLD_EXPIRE: the line of a target whose hold has passed goes low for the sources that wait (R336). -/
def execIrqHoldExpire (t : Nat) (s : State) : Host.Outcome State Fault Refusal :=
  s.lift (fun b => if b.on dSTEWARD then b.irqLine (t % 4) else b)

/-- STORM_GUARD_END. -/
def execStormGuardEnd (src : Nat) (s : State) : Host.Outcome State Fault Refusal := s.lift (fun b => b.guardEnd src)

/-- GUARD_COUNT_CLEAR. -/
def execGuardCountClear (src : Nat) (s : State) : Host.Outcome State Fault Refusal := s.lift (fun b => b.guardClear src)

/-! The event log's records and copies -/

/-- The entries that wait to be carried, oldest first. -/
def EvLog.uncarried (l : EvLog) : List LogEntry := (l.ring.filter (fun e => decide (l.carried < e.seqno))).reverse

/-- R339: an EVT_LOG record is formed when 64 entries wait, or 1 ms after the oldest was written; not while the LOG duty is
shed. -/
def Block.evtLog (b : Block) : Block :=
  let l := b.evl.uncarried
  let old : Bool := match l.head? with
    | some e => decide (e.time + b.us 1000 ≤ b.clk.core)
    | none => false
  if b.threadRuns 5 ∧ b.is F.STW_CTRL_LOG_EMIT ∧ (64 ≤ l.length ∨ old) then
    let es := l.take 64
    let last := (es.getLast?).elim b.evl.carried (fun e => e.seqno)
    let b := { b with evl := { b.evl with carried := last } }
    b.emitRow 7 0x03 0 0 0 (es.flatMap LogEntry.bytes)
  else b

/-- The twelve words of an entry (Table 15-8). -/
def LogEntry.words (e : LogEntry) : List Nat := (List.range 12).map (fun i => leAt e.bytes (4 * i) 4)

/-- R339: a write of STW_LOG_SEL latches a copy of the entry; zeros when it is not in the ring. -/
def Block.logSelect (b : Block) (n : Nat) : Block :=
  let b := b.setf F.STW_LOG_SEL_SEQNO n
  let c := match b.evl.ring.find? (fun e => e.seqno == n % 2 ^ 32) with
    | some e => e.words
    | none => []
  { b with evl := { b.evl with latch := c } }

/-- EVT_LOG_RECORD. -/
def execEvtLogRecord (s : State) : Host.Outcome State Fault Refusal := s.lift Block.evtLog

/-- LOG_SELECT. -/
def execLogSelect (m : Master) (seqno : Nat) (s : State) : Host.Outcome State Fault Refusal :=
  s.lift (fun b => b.write m 0xF038 seqno (fun b => b.logSelect seqno))

/-! The sideband -/

/-- This node's address: the strap (R341). -/
def Block.vsbAddr (b : Block) : Nat := b.f F.STW_VSB_STATUS_ADDR

/-- Whether the VSB node is active (STW_VSB_CFG.EN). -/
def Block.vsbOn (b : Block) : Bool := b.is F.STW_VSB_CFG_EN

/-- Note a frame put on the wire. -/
def Block.vsbPut (b : Block) (f : VsbFrame) : Block :=
  { b with vsb := { b.vsb with sent := (f :: b.vsb.sent).take 64 } }

/-- The low byte of ROLE_STATUS. -/
def Block.roleByte (b : Block) : Nat :=
  b.f F.ROLE_STATUS_STRAP + (if b.syn.agg then 4 else 0) + b.f F.ROLE_STATUS_ROLE * 8 + b.f F.ROLE_STATUS_STRAP_BAD * 32
    + b.f F.ROLE_STATUS_MISMATCH * 64

/-- A BEACON broadcast (Table 15-7). -/
def Block.vsbBeacon (b : Block) (solo : Bool) : VsbFrame :=
  { dest := 0x3F, src := b.vsbAddr, typ := 4,
    payload := leBytes 4 (b.f F.SELF_PLOC_PLOC) ++ leBytes 1 b.roleByte ++ leBytes 1 (if solo then 1 else 0) }

/-- A valid frame has come in (R343, R344): it is counted; one that carries this node's own address as SRC raises
VSB_ADDR_CLASH; one from another node ends solo-listen with VSB_REJOIN and one BEACON, and the requests that failed in it wait again. -/
def Block.vsbHeard (b : Block) (src : Nat) : Block :=
  let b := b.count F.STW_VSB_STAT_FRAMES
  let b := { b with vsb := { b.vsb with seen := true } }
  if src = b.vsbAddr then b.raise Ev.STW_VSB_ADDR_CLASH [(src, 8)]
  else
    let b := { b with vsb := { b.vsb with heard := some b.clk.aon } }
    if b.is F.STW_VSB_STATUS_SOLO then
      let again := b.vsb.lone
      let b := ((b.setf F.STW_VSB_STATUS_SOLO 0).raise Ev.STW_VSB_REJOIN).vsbPut (b.vsbBeacon false)
      { b with vsb := { b.vsb with queue := b.vsb.queue ++ again, lone := [] } }
    else b

/-- Act on a received frame while the node is active. -/
def Block.vsbTake (b : Block) (src : Nat) (act : Block → Block) : Block :=
  if b.vsbOn then act (b.vsbHeard src) else b

/-- Whether a frame is a request that a RESP answers (Table 15-7). -/
def VsbFrame.request (f : VsbFrame) : Bool := f.typ == 1 || f.typ == 2

/-- What a unicast frame's try leaves: acknowledged, it waits for its RESP or is done; not acknowledged, it waits for its
next try (R344). -/
def Block.vsbTried (b : Block) (f : VsbFrame) (tries : Nat) (acked : Bool) : Block :=
  let o : Option VsbOut :=
    if acked then (if f.request then some { frame := f, tries := tries, sentAt := b.clk.aon, acked := true } else none)
    else some { frame := f, tries := tries, sentAt := b.clk.aon, acked := false }
  { b with vsb := { b.vsb with out := o } }

/-- A frame starts after 12 µs of idle and arbitrates (R342): a loser tries again after the next idle; in solo-listen only a
BEACON is sent. One unicast frame is in progress at a time; the others wait. -/
def Block.vsbSend (b : Block) (f : VsbFrame) (won acked : Bool) : Block :=
  if ¬ b.vsbOn then b
  else if b.is F.STW_VSB_STATUS_SOLO ∧ (f.dest ≠ 0x3F ∨ f.typ ≠ 4) then
    { b with vsb := { b.vsb with failed := f :: b.vsb.failed, lone := b.vsb.lone ++ [f] } }
  else
    let rest := b.vsb.queue.filter (fun x => x != f)
    if ¬ won ∨ (f.dest ≠ 0x3F ∧ b.vsb.out.isSome) then { b with vsb := { b.vsb with queue := rest ++ [f] } }
    else
      let b := { b with vsb := { b.vsb with queue := rest } }
      let b := (b.vsbPut f).checkIn 3
      if f.dest = 0x3F then b else b.vsbTried f 0 acked

/-- The RESP that answers a request served here (R343). -/
def Block.vsbRespond (b : Block) (dest code value : Nat) : Block :=
  b.vsbPut { dest := dest, src := b.vsbAddr, typ := 3, payload := leBytes 1 code ++ leBytes 4 value }

/-- A RESP completes the outstanding request to its sender (R343). -/
def Block.vsbResp (b : Block) (src status value : Nat) : Block :=
  b.vsbTake src (fun b =>
    match b.vsb.out with
    | some o =>
      if o.acked ∧ o.frame.dest = src then { b with vsb := { b.vsb with out := none, answer := some (status, value) } } else b
    | none => b)

/-- Enter solo-listen (R344): every queued unicast frame fails, VSB_LONE, beacons from 1 ms. -/
def Block.vsbAlone (b : Block) (f : VsbFrame) : Block :=
  let gone := f :: b.vsb.queue.filter (fun x => x.dest != 0x3F)
  let b := { b with vsb := { b.vsb with out := none, queue := b.vsb.queue.filter (fun x => x.dest == 0x3F),
                                        failed := gone ++ b.vsb.failed, lone := gone,
                                        beaconIv := aonUs 1000, beaconAt := b.clk.aon + aonUs 1000 } }
  ((b.count F.STW_VSB_STAT_NOACK gone.length).setf F.STW_VSB_STATUS_SOLO 1).raise Ev.STW_VSB_LONE

/-- The retry of a unicast frame without ACK, 100 µs × 2^k after the last try, up to RETRY tries more (R344); when every try
has failed, NOACK or solo-listen. -/
def Block.vsbRetry (b : Block) (acked : Bool) : Block :=
  match b.vsb.out with
  | some o =>
    if o.acked then b
    else if o.tries < atLeast1 (b.f F.STW_VSB_CFG_RETRY) then
      if o.sentAt + aonUs (100 * 2 ^ o.tries) ≤ b.clk.aon then (b.vsbPut o.frame).vsbTried o.frame (o.tries + 1) acked else b
    else if b.vsb.heard.elim false (fun t => decide (b.clk.aon - t ≤ aonUs 10000)) then
      ({ b with vsb := { b.vsb with out := none, failed := o.frame :: b.vsb.failed } }).count F.STW_VSB_STAT_NOACK
    else b.vsbAlone o.frame
  | none => b

/-- A request without RESP for 1 ms is sent again (R343). -/
def Block.vsbRespTimeout (b : Block) (acked : Bool) : Block :=
  match b.vsb.out with
  | some o =>
    if o.acked ∧ o.sentAt + aonUs 1000 ≤ b.clk.aon then (b.vsbPut o.frame).vsbTried o.frame 0 acked else b
  | none => b

/-- In solo-listen a BEACON with SOLO = 1 goes out, at an interval that doubles up to BMAX (R344). -/
def Block.vsbSoloBeacon (b : Block) : Block :=
  if b.vsbOn ∧ b.is F.STW_VSB_STATUS_SOLO ∧ b.vsb.beaconAt ≤ b.clk.aon then
    let iv := min (2 * b.vsb.beaconIv) (aonUs (10000 * atLeast1 (b.f F.STW_VSB_CFG_BMAX)))
    let b := b.vsbPut (b.vsbBeacon true)
    { b with vsb := { b.vsb with beaconIv := iv, beaconAt := b.clk.aon + iv } }
  else b

/-- VSB_RESP_RECEIVED. -/
def execVsbRespReceived (src status value : Nat) (s : State) : Host.Outcome State Fault Refusal :=
  s.lift (fun b => b.vsbResp src status value)
/-- VSB_BEACON_RECEIVED: the beacon of another node ends solo-listen (R344); its content is for the firmware. -/
def execVsbBeaconReceived (src _ploc _role : Nat) (_solo : Bool) (s : State) : Host.Outcome State Fault Refusal :=
  s.lift (fun b => b.vsbTake src id)
/-- VSB_RESP_TIMEOUT. -/
def execVsbRespTimeout (acked : Bool) (s : State) : Host.Outcome State Fault Refusal := s.lift (fun b => b.vsbRespTimeout acked)
/-- VSB_STUCK: the wire held low for more than 50 µs outside a START (R343). -/
def execVsbStuck (s : State) : Host.Outcome State Fault Refusal := s.lift (fun b => b.raiseIf b.vsbOn Ev.STW_VSB_STUCK)
/-- VSB_SOLO_BEACON. -/
def execVsbSoloBeacon (s : State) : Host.Outcome State Fault Refusal := s.lift Block.vsbSoloBeacon
/-- VSB_FRAME_CRC_FAIL: no ACK, a count, VSB_CRC (R342). -/
def execVsbFrameCrcFail (s : State) : Host.Outcome State Fault Refusal :=
  s.lift (fun b => if b.vsbOn then (b.count F.STW_VSB_STAT_CRC).raise Ev.STW_VSB_CRC else b)

end Sys2Proof.Machine
end

