-- ==== Sys2Proof/Machine/Recovery.lean ====
section
/-! DEFINITION. Recovery (spec/10_queues_delivery.md, R244, R245, R248 to R250; spec/01_roles_topology.md, R27, R32 to R35, R41): procedures with
their intents and marks, rebind and unbind, taking the owner's place, resynchronising the mirror, rejoining, and rehearsal. -/

namespace Sys2Proof.Machine

/-! Procedures -/

/-- The step number that marks a procedure complete (REC_STAT.STEP has four bits). -/
def stepDone : Nat := 15

/-- A procedure of this block. -/
def Block.procOf (b : Block) (proc ldi : Nat) : Option Proc := b.que.procs.find? (fun p => p.proc == proc && p.ldi == ldi)

/-- Replace a procedure. -/
def Block.putProc (b : Block) (p : Proc) : Block :=
  { b with que := { b.que with procs := b.que.procs.map (fun x => if x.proc = p.proc ∧ x.ldi = p.ldi then p else x) } }

/-- The mark of a procedure as the mirror carries it. -/
def Proc.mark (p : Proc) (step : Nat) : Mirror := .proc p.proc p.ldi step p.repoch p.epoch p.ploc p.port

/-- The mark of a procedure goes to the journal and to the buddy's mirror (R248). -/
def Block.markProc (b : Block) (p : Proc) (done : Bool) : Block :=
  (b.journal (.mark p done)).toMirror (p.mark (if done then stepDone else p.step))

/-- A procedure begins with its intent (R248), its first step: a rehearsed stall stops its renewals here (R250). One that already runs goes
on. -/
def Block.startProc (b : Block) (proc ldi : Nat) (ctrl repoch : Nat := 0) (target : Nat × Nat × Nat := (0, 0, 0)) : Block :=
  if (b.procOf proc ldi).isSome then b
  else
    let p : Proc := { proc := proc, ldi := ldi, ctrl := ctrl, repoch := repoch, renewed := b.clk.core, stalled := b.que.stallNext,
                      epoch := target.1, ploc := target.2.1, port := target.2.2 }
    let inj := b.que.inj.map (fun i => { i with procs := i.procs + 1 })
    ({ b with que := { b.que with procs := b.que.procs ++ [p], inj := inj, stallNext := false } }).markProc p false

/-- A procedure's controller stops: it is no longer among those that run here. -/
def Block.dropProc (b : Block) (proc ldi : Nat) : Block :=
  { b with que := { b.que with procs := b.que.procs.filter (fun x => !(x.proc == proc && x.ldi == ldi)) } }

/-- Whether a procedure has been taken over with a higher REPOCH than this controller's (R249). -/
def Block.overtaken (b : Block) (p : Proc) : Bool :=
  b.que.remote.any (fun x => x.proc == p.proc && x.ldi == p.ldi && decide (p.repoch < x.repoch))

/-- A progress mark (R248). One with a REPOCH below the intent's is refused, and the controller that recovers late stops (R249). A rehearsed
stall stops the renewals here (R250). -/
def Block.markStep (b : Block) (proc ldi step : Nat) : Block :=
  match b.procOf proc ldi with
  | none => b
  | some p =>
    if b.overtaken p then b.dropProc proc ldi
    else
      let p := { p with step := step, stalled := p.stalled || b.que.stallNext }
      ({ b.putProc p with que := { (b.putProc p).que with stallNext := false } }).markProc p false

/-- A procedure completes (R248, R251), unless another controller has it (R249). -/
def Block.endProc (b : Block) (proc ldi : Nat) : Block :=
  match b.procOf proc ldi with
  | none => b
  | some p =>
    let late := b.overtaken p
    let b := b.dropProc proc ldi
    if late then b else (b.markProc p true).raise Ev.QUE_REC_DONE [(proc, 8), (p.repoch, 16)]

/-! Epochs and rebind -/

/-- Change a binding. -/
def Block.updBind (b : Block) (ldi : Nat) (f : Bind → Bind) : Block :=
  { b with fab := { b.fab with binds := b.fab.binds.upd ldi {} f } }

/-- A spare of the pool, units that joined it included (R35), that no LDI is bound to, dead or not, that no rebind has taken, and that is no
replaced unit that has not answered UNBIND yet (R32): PLOC and port. -/
def Block.spare (b : Block) : Option (Nat × Nat) :=
  (b.fab.topo.spares ++ b.fab.pool).find? (fun p => !(b.fab.binds.any (fun x => x.2.ploc == p.1 && x.2.epoch != 0))
    && !(b.fab.rebinds.any (fun r => r.ploc == p.1)) && !(b.fab.gone.any (fun g => g.2.2 == p.1)))

/-- Replace a rebind. -/
def Block.putRebind (b : Block) (r : Rebind) : Block :=
  { b with fab := { b.fab with rebinds := b.fab.rebinds.map (fun x => if x.ldi = r.ldi then r else x) } }

/-- Start the rebind of an LDI (R33 step 1): its intent names the new epoch, one more than the current one (R27), and the spare. -/
def Block.startRebind (b : Block) (ldi : Nat) (ctrl repoch : Nat := 0) : Block :=
  if b.fab.rejoining ∨ b.fab.rebinds.any (fun r => r.ldi == ldi) then b
  else
    match b.spare with
    | none => b
    | some (ploc, port) =>
      let r : Rebind := { ldi := ldi, epoch := epochOf (b.epochCount ldi + 1), ploc := ploc, port := port }
      ({ b with fab := { b.fab with rebinds := b.fab.rebinds ++ [r] } }).startProc 1 ldi ctrl repoch (r.epoch, ploc, port)

/-- An LDI is declared dead (R32): it has no member here until it is rebound. -/
def Block.declareDead (b : Block) (ldi : Nat) : Block := (b.updBind ldi (fun x => { x with alive := false })).startRebind ldi

/-- Step 3 of R33: BIND goes to the spare. -/
def Block.sendBind (b : Block) (ldi : Nat) : Block :=
  match b.fab.rebinds.find? (fun r => r.ldi == ldi && r.step == 2) with
  | some r => b.sendMsg r.port (.bind r.ldi r.epoch)
  | none => b

/-- Step 2 of R33 is done: the epoch stands in both copies of its counter; the table and the buddy's take it, and the unit it replaces is no
spare until it answers UNBIND (R35). -/
def Block.epochRaised (b : Block) (ldi : Nat) : Block :=
  match b.fab.rebinds.find? (fun r => r.ldi == ldi && r.step == 1) with
  | some r =>
    let b := b.putRebind { r with step := 2 }
    let old : Bind := b.fab.binds.getD ldi {}
    let b := if old.epoch = 0 then b else { b with fab := { b.fab with gone := b.fab.gone ++ [(ldi, old.epoch, old.ploc)] } }
    let b := b.updBind ldi (fun x => { x with ploc := r.ploc, epoch := r.epoch, port := none, alive := false })
    let b := b.toMirror (.binding ldi r.ploc r.epoch r.port)
    (b.markStep 1 ldi 2).sendBind ldi
  | none => b

/-- Step 2 of R33: commit the new epoch to its counter, once; a run that finds it there goes on (R33). -/
def Block.raiseEpoch (b : Block) (ldi : Nat) : Block :=
  match b.fab.rebinds.find? (fun r => r.ldi == ldi && r.step == 1) with
  | some r =>
    let slot := b.epochSlot ldi
    if epochOf (b.coc.ctr slot) = r.epoch then b.epochRaised ldi else b.raiseCtr slot (countFor (b.coc.ctr slot) r.epoch)
  | none => b

/-- Intents that a group committed let their procedures go on (R248). -/
def Block.marksCommitted (b : Block) (l : List JEntry) : Block :=
  l.foldl (fun b e => match e with
    | .mark p false => if p.proc = 1 ∧ p.step = 0 then b.raiseEpoch p.ldi else b
    | _ => b) b

/-- BIND_ACK (R33 steps 4 to 6): the spare is bound where it answered; the route is announced; it is a member from the next boundary on
(R34). -/
def Block.bindAcked (b : Block) (port ldi epoch : Nat) : Block :=
  match b.fab.rebinds.find? (fun r => r.ldi == ldi && r.step == 2 && r.epoch == epoch) with
  | some _ =>
    let b := { b with fab := { b.fab with rebinds := b.fab.rebinds.filter (fun r => r.ldi != ldi), pendingMembers := b.fab.pendingMembers ++ [ldi] } }
    let b := b.updBind ldi (fun x => { x with port := some port, learned := b.arrivalUi, heard := b.clk.core })
    let b := ((b.markStep 1 ldi 3).markStep 1 ldi 4).sendAll upstream (.route ldi b.selfLai epoch)
    ((b.markStep 1 ldi 5).clearDie ldi).endProc 1 ldi
  | none => if b.binding ldi epoch then b.updBind ldi (fun x => { x with heard := b.clk.core }) else b

/-! Unbind -/

/-- A unit that carries an epoch not current is told so (R35), under PROC 5. -/
def Block.startUnbind (b : Block) (port ldi epoch : Nat) : Block :=
  if ¬ b.actingHome ldi ∨ epoch = 0 ∨ b.fab.rejoining then b
  else
    let known := b.fab.unbinds.any (fun u => u.1 == ldi && u.2.1 == epoch)
    let b := if known then b else { b with fab := { b.fab with unbinds := b.fab.unbinds ++ [(ldi, epoch, port)] } }
    (b.startProc 5 ldi 0 0 (epoch, 0, port)).sendMsg port (.unbind ldi epoch)

/-- A unit that answered UNBIND joins the spare pool, where it was bound when it was declared dead (R35). -/
def Block.joinPool (b : Block) (port ldi epoch : Nat) : Block :=
  let mine (g : Nat × Nat × Nat) : Bool := g.1 == ldi && g.2.1 == epoch
  let new := ((b.fab.gone.filter mine).map (fun g => (g.2.2, port))).filter (fun p => !(b.fab.topo.spares ++ b.fab.pool).any (fun q => q.1 == p.1))
  { b with fab := { b.fab with gone := b.fab.gone.filter (fun g => !mine g), pool := b.fab.pool ++ new } }

/-- UNBIND_ACK completes it (R35, R247): the unit joins the spare pool. -/
def Block.unbindAcked (b : Block) (port ldi epoch : Nat) : Block :=
  if b.fab.unbinds.any (fun u => u.1 == ldi && u.2.1 == epoch) then
    let b := { b with fab := { b.fab with unbinds := b.fab.unbinds.filter (fun u => !(u.1 == ldi && u.2.1 == epoch)) } }
    let b := b.joinPool port ldi epoch
    if b.fab.unbinds.any (fun u => u.1 == ldi) then b else (b.markStep 5 ldi 1).endProc 5 ldi
  else b

/-! The mirror: RESYNC and REJOIN -/

/-- Whether this block speaks for an LDI's binding and streams: its acting home, but not while it rejoins with tables of its own that may be
old (R41). -/
def Block.speaksFor (b : Block) (ldi : Nat) : Bool := b.actingHome ldi && !b.fab.rejoining

/-- Straggler and rule counts, and at the root the running accumulators and interval state, go to the other side (R190, R245). -/
def Block.sendCounts (b : Block) : Block :=
  let b := (b.vrd.dies.filter (fun x => b.speaksFor x.1)).foldl (fun b x => b.toMirror (.straggler x.1 x.2.code)) b
  let b := b.vrd.rules.foldl (fun b x => b.toMirror (.straggler (2 ^ 21 + x.1) x.2.code)) b
  if b.isRoot then
    let b := b.vrd.trays.foldl (fun b x => b.toMirror (.straggler (2 ^ 20 + x.1) x.2.code)) b
    let b := b.swm.running.foldl (fun b x => b.toMirror (.running x.1 x.2)) b
    b.vrd.ivs.foldl (fun b x => b.toMirror (.interval x)) b
  else b

/-- Bindings, stream state and counts go to the other side (R245, PROC 4 step 1): of the LDIs this block speaks for, and of its own streams; what
it keeps of the other's own streams goes back to that (R232, R239). -/
def Block.sendTables (b : Block) : Block :=
  let b := (b.fab.binds.filter (fun x => b.speaksFor x.1)).foldl (fun b x => b.toMirror (.binding x.1 x.2.ploc x.2.epoch (if x.2.away then noPort else x.2.port.getD noPort))) b
  let b := (b.que.keys.filter (fun k => k.epoch == 0 || b.speaksFor k.ldi)).foldl (fun b k => b.toMirror (.stream k.ldi k.epoch k.stream k.next k.acc)) b
  let b := b.que.mirror.foldl (fun b u => match u with
    | .stream ldi 0 stream next acc => if ldi = b.fab.topo.buddy then b.toMirror (.stream ldi 0 stream next acc) else b
    | _ => b) b
  b.sendCounts

/-- Each record held and not released is copied to the other side (PROC 4 step 2). -/
def Block.sendCopies (b : Block) : Block :=
  (b.que.keys.filter (fun k => k.epoch == 0 || b.speaksFor k.ldi)).foldl (fun b k =>
    k.held.foldl (fun b h => b.toMirror (.record k.ldi k.epoch k.stream h.seq h.bytes)) b) b

/-- The tables agree (R41): a rejoining aggregator has fetched and adopted them and is a buddy again. -/
def Block.tablesAgree (b : Block) : Block :=
  if b.fab.rejoining then
    ((((({ b with fab := { b.fab with rejoining := false } }).markStep 3 0 1).markStep 3 0 2).markStep 3 0 3).endProc 3 0)
  else b

/-- The mirror link came up (R245): tables and copies go out, and the lower LAI of the pair controls RESYNC. -/
def Block.startResync (b : Block) : Block :=
  let b := b.setf F.QUE_STATUS_SYNC 0
  let b := if b.selfLai < b.fab.topo.buddy then b.startProc 4 0 else b
  ((b.sendTables.markStep 4 0 1).sendCopies).markStep 4 0 2

/-- RESYNC is complete once every copy is confirmed: its controller marks the mirror in sync and says so. -/
def Block.resyncCheck (b : Block) : Block :=
  if (b.procOf 4 0).isSome ∧ b.mirrorUp ∧ b.que.mirrorOut = [] then
    (((b.setf F.QUE_STATUS_SYNC 1).markStep 4 0 3).endProc 4 0).tablesAgree
  else b

/-- A rejoining aggregator fetches its former buddy's tables (R41, PROC 3). It does not resume the home or root role before a commit where
the buddy acts in it. -/
def Block.startRejoin (b : Block) (displaced : Bool) : Block :=
  let b := { b with fab := { b.fab with rejoining := true, displaced := b.fab.displaced || displaced, withheld := none,
                                        actingRoot := b.fab.actingRoot && !displaced } }
  let b := b.startProc 3 0
  if b.is F.QUE_STATUS_SYNC then b.tablesAgree else b

/-! Taking the owner's place -/

/-- One mirrored update is adopted (R245, PROC 2): streams first, then records in SEQ order; records accepted before are journalled here. -/
def Block.adopt (b : Block) (u : Mirror) : Block :=
  match u with
  | .stream ldi epoch stream _ acc => b.setKey { ldi := ldi, epoch := epoch, stream := stream, next := acc, acc := acc, sure := acc, reported := acc }
  | .record ldi epoch stream seq bytes =>
    let k := b.key ldi epoch stream
    let sev := bits (leAt bytes 8 4) 20 3
    if before48 seq k.acc then
      let b := b.setKey { k with held := k.held ++ [{ seq := seq, bytes := bytes }] }
      b.journal (.record { ldi := ldi, epoch := epoch, stream := stream, seq := seq, sev := sev, dup := b.is F.QUE_EVENTS_DUAL_FAULT, bytes := bytes })
    else if seq = k.next then b.hold ldi epoch stream seq sev bytes
    else b
  | .straggler e n =>
    let x := Confirm.ofCode n
    if e < 2 ^ 20 then { b with vrd := { b.vrd with dies := b.vrd.dies.putD {} e x } }
    else if e < 2 ^ 21 then { b with vrd := { b.vrd with trays := b.vrd.trays.putD {} (e - 2 ^ 20) x } }
    else { b with vrd := { b.vrd with rules := b.vrd.rules.putD {} (e - 2 ^ 21) x } }
  | .running c l => { b with swm := { b.swm with running := b.swm.running.put c l } }
  | .interval x =>
    let rest := b.vrd.ivs.filter (fun y => y.k != x.k)
    if x.closed then { b with vrd := { b.vrd with ivs := rest, shut := x.k :: b.vrd.shut } }
    else { b with vrd := { b.vrd with ivs := putInterval b.vrd.ivs x } }
  | _ => b

/-- Whether an update is a stream's state. -/
def Mirror.isStream (u : Mirror) : Bool :=
  match u with
  | .stream _ _ _ _ _ => true
  | _ => false

/-- The SEQ of a mirrored record. -/
def Mirror.seq (u : Mirror) : Nat :=
  match u with
  | .record _ _ _ s _ => s
  | _ => 0

/-- TAKE_OWNER (R248 PROC 2, R40): the mirrored state is adopted, this block becomes acting home of the buddy's LDIs and, as the standby
root, acting root; the routes are announced; unfinished procedures of the buddy's are for its own Steward's watch (R249). -/
def Block.takeOwner (b : Block) : Block :=
  let m := b.que.mirror.filter Mirror.isStream ++ sortBy Mirror.seq (b.que.mirror.filter (fun u => !u.isStream))
  let b := m.foldl Block.adopt b
  let b := if b.fab.topo.isStandby ∧ ¬ b.fab.actingRoot then
      let b := b.energyAdopt
      { b with vrd := { b.vrd with rootWait := true } }
    else b
  let b := b.markStep 2 0 1
  let b := { b with fab := { b.fab with takeOver := true, actingRoot := b.fab.actingRoot || b.fab.topo.isStandby } }
  let b := b.markStep 2 0 2
  let b := if b.isT then b.fab.topo.buddyLdis.foldl (fun b l => b.sendAll upstream (.route l b.selfLai (b.fab.binds.getD l {}).epoch)) b else b
  (b.markStep 2 0 3).endProc 2 0

/-! Controllers (R249) -/

/-- TAKEOVER in CLK_CORE cycles. -/
def Block.takeoverTime (b : Block) : Nat := b.us (100 * atLeast1 (b.f F.QUE_REC_CFG_TAKEOVER))

/-- The controller renews its progress every TAKEOVER / 4, unless it has stalled. -/
def Block.renewProcs (b : Block) : Block :=
  b.que.procs.foldl (fun b p =>
    if ¬ p.stalled ∧ p.renewed + b.takeoverTime / 4 ≤ b.clk.core then
      (b.putProc { p with renewed := b.clk.core }).toMirror (p.mark p.step)
    else b) b

/-- Run a procedure from its first unmarked step (R248, R249). -/
def Block.resumeProc (b : Block) (p : Proc) : Block :=
  let b := { b with que := { b.que with procs := b.que.procs.filter (fun x => !(x.proc == p.proc && x.ldi == p.ldi)) } }
  match p.proc with
  | 1 =>
    if p.step < 2 ∧ p.epoch = 0 then b.startRebind p.ldi p.ctrl p.repoch
    else if p.step < 2 then
      let r : Rebind := { ldi := p.ldi, epoch := p.epoch, ploc := p.ploc, port := p.port }
      let b := { b with fab := { b.fab with rebinds := b.fab.rebinds.filter (fun (y : Rebind) => y.ldi != p.ldi) ++ [r] } }
      b.startProc 1 p.ldi p.ctrl p.repoch (p.epoch, p.ploc, p.port)
    else
      let x : Bind := b.fab.binds.getD p.ldi {}
      let port := ((b.fab.topo.spares.find? (fun s => s.1 == x.ploc)).map (fun s => s.2)).getD (x.port.getD 0)
      let r : Rebind := { ldi := p.ldi, epoch := x.epoch, ploc := x.ploc, step := 2, port := port }
      let b := { b with fab := { b.fab with rebinds := b.fab.rebinds.filter (fun (y : Rebind) => y.ldi != p.ldi) ++ [r] } }
      (b.startProc 1 p.ldi p.ctrl p.repoch).sendBind p.ldi
  | 2 => (b.startProc 2 p.ldi p.ctrl p.repoch).takeOwner
  | 3 =>
    let b := ({ b with fab := { b.fab with rejoining := true } }).startProc 3 p.ldi p.ctrl p.repoch
    if b.is F.QUE_STATUS_SYNC then b.tablesAgree else b
  | 4 =>
    let b := b.startProc 4 p.ldi p.ctrl p.repoch
    if b.mirrorUp then (((b.sendTables.markStep 4 0 1).sendCopies).markStep 4 0 2) else b
  | 5 =>
    let b := { b with fab := { b.fab with unbinds := b.fab.unbinds.filter (fun (u : Nat × Nat × Nat) => !(u.1 == p.ldi && u.2.1 == p.epoch)) ++ [(p.ldi, p.epoch, p.port)] } }
    (b.startProc 5 p.ldi p.ctrl p.repoch (p.epoch, 0, p.port)).sendMsg p.port (.unbind p.ldi p.epoch)
  | _ => b.startProc p.proc p.ldi p.ctrl p.repoch

/-- The procedure's frame for the failed controller's block (R249, Table 15-7): to the node of the buddy, whose address no rule tells; its
bytes have no layout in the spec and are left open too (log entry 71). -/
def Block.procFrame (b : Block) (p : Proc) : VsbFrame :=
  { dest := Config.vsbNode b.fab.topo.buddy % 0x3F, src := b.vsbAddr, typ := 5,
    payload := (Config.procBytes p.proc p.ldi p.step p.repoch).take 48 }

/-- Drive the failed controller's block over VSB: what comes of it is seen when its frame is acknowledged or fails. -/
def Block.driveProc (b : Block) (p : Proc) : Block :=
  { b with vsb := { b.vsb with queue := b.vsb.queue ++ [b.procFrame p] }, que := { b.que with driven := b.que.driven ++ [p] } }

/-- The frame of a driven procedure was acknowledged: its block goes on, and is watched again; or the block did not answer on VSB, and the
procedure runs here (R249). -/
def Block.drivenNow (b : Block) (p : Proc) : Block :=
  let f := b.procFrame p
  let out : Bool := match b.vsb.out with
    | some o => o.frame == f
    | none => false
  let b1 := { b with que := { b.que with driven := b.que.driven.filter (fun x => x != p) } }
  if b.vsb.failed.contains f then ({ b1 with vsb := { b.vsb with failed := b.vsb.failed.erase f, lone := b.vsb.lone.erase f } } : Block).resumeProc p
  else if b.vsb.queue.contains f ∨ out then b
  else { b1 with que := { b1.que with remote := b1.que.remote ++ [{ p with renewed := b.clk.core }] } }

/-- What VSB did with the procedures that are driven over it (R249). -/
def Block.drivenCheck (b : Block) : Block := b.que.driven.foldl Block.drivenNow b

/-- A procedure message reaches the VSB duty (R249): a takeover with a higher REPOCH moves the procedure here to the other controller and starts
it again at the first unmarked step; a lower REPOCH is refused. -/
def Block.vsbProc (b : Block) (proc ldi step repoch : Nat) : Block :=
  let b := b.post 3
  match b.que.procs.find? (fun p => p.proc == proc && p.ldi == ldi) with
  | some p =>
    if p.repoch < repoch then b.resumeProc { p with repoch := repoch, step := max p.step step, ctrl := 1, renewed := b.clk.core, stalled := false }
    else if p.repoch = repoch then b.putProc { p with step := max p.step step, renewed := b.clk.core }
    else b
  | none => b

/-- A procedure with no renewal for TAKEOVER is taken over (R249): REPOCH counts one more, and the failed controller's block is driven over VSB;
where this block is on no VSB the steps go on here. `who` is 1 for the buddy, 2 for the parent; how a parent learns of a child's procedures no
rule says: it acts on those it knows. -/
def Block.takeProc (b : Block) (who : Nat) : Block :=
  match b.que.remote.find? (fun p => decide (p.renewed + b.takeoverTime ≤ b.clk.core)) with
  | none => b
  | some p =>
    let p : Proc := { p with ctrl := who % 4, repoch := (p.repoch + 1) % 65536, renewed := b.clk.core, stalled := false }
    let b := { b with que := { b.que with remote := b.que.remote.filter (fun x => !(x.proc == p.proc && x.ldi == p.ldi)) } }
    let b := b.raiseCtr (2032 + p.proc) p.repoch
    let b := b.raise Ev.QUE_REC_TAKEOVER [(p.proc, 8), (p.repoch, 16)]
    if b.vsbOn then b.driveProc p else b.resumeProc p

/-- A mirrored mark of a procedure that the buddy runs (R245, R248), with what its intent names: one with a lower REPOCH than is known is
refused (R249); the end of RESYNC marks this side in sync too. -/
def Block.remoteMark (b : Block) (proc ldi step repoch : Nat) (target : Nat × Nat × Nat) : Block :=
  let old := b.que.remote.find? (fun p => p.proc == proc && p.ldi == ldi)
  let known := max (old.map (fun p => p.repoch)|>.getD 0) ((b.procOf proc ldi).map (fun p => p.repoch)|>.getD 0)
  if repoch < known then b
  else
    let rest := b.que.remote.filter (fun p => !(p.proc == proc && p.ldi == ldi))
    let new : List Proc := if step = stepDone then [] else [{ proc := proc, ldi := ldi, step := step, repoch := repoch, renewed := b.clk.core,
                                                                  epoch := target.1, ploc := target.2.1, port := target.2.2 }]
    let b := { b with que := { b.que with remote := rest ++ new } }
    if proc = 4 ∧ step = stepDone then (b.setf F.QUE_STATUS_SYNC 1).tablesAgree else b

/-! Rehearsal (R250) -/

/-- 2 × max(P, 200 µs) in CLK_CORE cycles (R250, R285). -/
def Block.twoL (b : Block) : Nat := 2 * max b.wbPeriod (b.us 200)

/-- QUE_INJ_CFG with ARM arms the slot it addresses with the trigger as it stands. -/
def Block.injArm (b : Block) (word : Nat) : Block :=
  let b := b.writeFields 0xA084 word
  if bit word 4 = 1 then
    let n := b.f F.QUE_INJ_SEL_SLOT
    let t := b.f (F.QUE_INJ_AT_LO_AT.ix n) + 2 ^ 32 * b.f (F.QUE_INJ_AT_HI_AT.ix n)
    { b with que := { b.que with injArmed := b.que.injArmed.put n t, injRepeat := b.que.injRepeat.del n } }
  else b

/-- Whether an armed slot fires now: its trigger is reached (R65; an aggregator keeps no phase, R42), or its repeat has come. -/
def Block.injDue (b : Block) (n : Nat) : Bool :=
  match b.que.injArmed.find n with
  | none => false
  | some t =>
    match b.que.injRepeat.find n with
    | some k => k == 0
    | none => if b.is (F.QUE_INJ_CFG_TRIG.ix n) then wallReached b.wall t else !b.syn.agg && decide (t ≤ b.phase)

/-- Why an injection is refused. An aggregator without a complete mirror refuses; a D-role has none. -/
def Block.injRefused (b : Block) : Bool :=
  b.is F.KL_SETUP_STATUS_SHARED_DOMAIN || (b.syn.agg && !b.inSync) || !b.que.procs.isEmpty || b.que.inj.isSome

/-- The fault of a kind is put in (Table 10-5). -/
def Block.injectFault (b : Block) (kind target : Nat) : Block :=
  match kind with
  | 1 => { b with que := { b.que with dropAccept := some target } }
  | 2 => { b with que := { b.que with corrupt := some (target % 256) } }
  | 3 => if target % 256 < portCount b.syn.agg then (b.declareDown (target % 256) false).train (target % 256) else b
  | 4 => { b with que := { b.que with muteUntil := some (b.clk.core + b.twoL) } }
  | 5 => { b with que := { b.que with stallNext := true } }
  | _ => b

/-- A slot fires (R250): refused and said, or the fault is injected; a slot with PERIOD stays armed for that many wingbeat periods. -/
def Block.injFire (b : Block) (n : Nat) : Block :=
  let kind := b.f (F.QUE_INJ_CFG_KIND.ix n)
  let kind := if 5 < kind then 0 else kind
  if ¬ b.injDue n ∨ ¬ b.on dQUEUE then b
  else
    let per := b.f (F.QUE_INJ_CFG_PERIOD.ix n)
    let b := if per = 0 then { b with que := { b.que with injArmed := b.que.injArmed.del n, injRepeat := b.que.injRepeat.del n } }
      else { b with que := { b.que with injRepeat := b.que.injRepeat.put n per } }
    if kind = 0 then b
    else if b.injRefused then b.raise Ev.QUE_INJ_REFUSED
    else
      let t := b.f (F.QUE_INJ_CFG_TARGET.ix n)
      let b := { b with que := { b.que with inj := some { slot := n, kind := kind, start := b.clk.core, target := t } } }
      (b.raise Ev.QUE_INJECTED).injectFault kind t

/-- A boundary brings repeats nearer. -/
def Block.injBoundary (b : Block) : Block :=
  { b with que := { b.que with injRepeat := b.que.injRepeat.map (fun p => (p.1, p.2 - 1)) } }

/-- Whether the injected fault is recovered from. -/
def Block.injOver (b : Block) (i : Inj) : Bool :=
  match i.kind with
  | 1 => b.que.dropAccept.isNone
  | 2 => b.que.corrupt.isNone
  | 3 => (b.port (i.target % 256)).state == 2
  | 4 => (match b.que.muteUntil with
      | some t => decide (t ≤ b.clk.core)
      | none => true) && b.que.procs.isEmpty && !b.fab.rejoining
  | _ => !b.que.stallNext && b.que.procs.isEmpty

/-- The rehearsal is over: a REHEARSAL record with slot, fault, µs to recovery, procedures run (R250). Three 8-byte units hold four values:
slot and fault are taken as 4 bytes each. -/
def Block.rehearsalDone (b : Block) (slot : Nat) : Block :=
  match b.que.inj with
  | some i =>
    if i.slot = slot ∧ b.injOver i then
      let us := (b.clk.core - i.start) / b.syn.coreMHz
      let b := { b with que := { b.que with inj := none, muteUntil := none } }
      b.emitRow 6 0x41 3 0 0 (leBytes 4 i.slot ++ leBytes 4 i.kind ++ leBytes 8 us ++ leBytes 8 i.procs)
    else b
  | none => b

/-! Meanings -/

/-- MIRROR_RECEIVED is in Delivery; MIRROR_CONFIRM: acceptance goes on, and RESYNC may end. -/
def execMirrorConfirm (key : Nat) (s : State) : Host.Outcome State Fault Refusal :=
  s.lift (fun b => if b.syn.agg ∧ b.on dQUEUE then (b.mirrorConfirm key).resyncCheck else b)
/-- PROCEDURE_RENEW. -/
def execProcedureRenew (s : State) : Host.Outcome State Fault Refusal := s.lift (fun b => if b.on dQUEUE then b.renewProcs else b)
/-- PROCEDURE_TAKEOVER. -/
def execProcedureTakeover (who : Nat) (s : State) : Host.Outcome State Fault Refusal :=
  s.lift (fun b => if b.syn.agg ∧ b.on dQUEUE then b.takeProc who else b)
/-- VSB_FRAME_SEND. -/
def execVsbFrameSend (f : VsbFrame) (won acked : Bool) (s : State) : Host.Outcome State Fault Refusal :=
  s.lift (fun b => (b.vsbSend f won acked).drivenCheck)
/-- VSB_NOACK_RETRY. -/
def execVsbNoackRetry (acked : Bool) (s : State) : Host.Outcome State Fault Refusal := s.lift (fun b => (b.vsbRetry acked).drivenCheck)
/-- VSB_PROC_RECEIVED. -/
def execVsbProcReceived (src proc ldi step repoch : Nat) (s : State) : Host.Outcome State Fault Refusal :=
  s.lift (fun b => b.vsbTake src (fun b => b.vsbProc proc ldi step repoch))
/-- INJECTION_ARM. -/
def execInjectionArm (m : Master) (word : Nat) (s : State) : Host.Outcome State Fault Refusal :=
  s.lift (fun b => b.write m 0xA084 word (fun b => b.injArm word))
/-- INJECTION_FIRE. -/
def execInjectionFire (slot : Nat) (s : State) : Host.Outcome State Fault Refusal := s.lift (fun b => b.injFire (slot % 8))
/-- REHEARSAL_DONE. -/
def execRehearsalDone (slot : Nat) (s : State) : Host.Outcome State Fault Refusal := s.lift (fun b => b.rehearsalDone slot)

end Sys2Proof.Machine
end

