-- ==== Sys2Proof/Machine/Fabric.lean ====
section
/-! DEFINITION. Roles and the fabric (spec/01_roles_topology.md, R20 to R41, R247, R397): paths, heartbeats and losses, discovery and
set-up, binding and unbinding of a D-role, what a wingbeat boundary and a port that comes up bring. -/

namespace Sys2Proof.Machine

/-! Heartbeats and paths -/

/-- L of R40: max(P, 200 µs), in CLK_CORE cycles. -/
def Block.lossTime (b : Block) : Nat := max b.wbPeriod (b.us 200)

/-- Whether a D-role's A path is up again (R22): link A up, its home's heartbeats there without a gap for L. -/
def Block.aPathUp (b : Block) : Bool :=
  (b.port 0).state == 2 && (match b.fab.hbFrom with
    | some t => decide (t + b.lossTime ≤ b.clk.core)
    | none => false)

/-- While TIME_VALID = 0 a D-role returns to its A path at once (R22). -/
def Block.returnNow (b : Block) : Block :=
  if ¬ b.syn.agg ∧ b.fab.pathB ∧ b.aPathUp ∧ ¬ b.timeValid then b.moveToA else b

/-- TIME_VALID has fallen: no boundary can fire, so a move that waits for one takes effect at once (R22, R23). -/
def Block.timeGone (b : Block) : Block :=
  let b := if b.fab.toU1 ∧ ¬ b.timeValid then b.goU1 else b
  b.returnNow

/-- A wingbeat boundary of the role (R22, R23, R34, R40, R250): the last 16 boundaries are kept for P; a D-role whose A path is up returns to
it; an aggregator whose parent was declared lost moves to U1, one whose buddy was lost takes its place; rebound LDIs are members. -/
def Block.fabBoundary (b : Block) : Block :=
  let b := { b with fab := { b.fab with boundaries := (b.clk.core :: b.fab.boundaries).take 16 } }
  let b := b.injBoundary
  if b.syn.agg then
    let b := if b.fab.toU1 then b.goU1 else b
    let b := if b.fab.buddyLost ∧ (b.procOf 2 0).isSome then b.takeOwner else b
    let l := b.fab.pendingMembers
    let b := { b with fab := { b.fab with pendingMembers := [] } }
    l.foldl (fun b n => b.updBind n (fun x => { x with alive := true })) b
  else if b.fab.pathB ∧ b.aPathUp then b.moveToA
  else b

/-- Every link of an aggregator: downstream, upstream, mirror. -/
def Block.allLinks (b : Block) : List Nat := b.kl.ports.keys.filter (fun n => (b.port n).state == 2)

/-- Whether heartbeats are kept back: stopped by the watchdog (R330), withheld after a loss of power (R285) or for want of a Cocoon (R280),
muted by an injection (R250). -/
def Block.hbMuted (b : Block) : Bool :=
  b.fab.hbStopped || b.fab.withheld.isSome || b.fab.cocSilent || (match b.que.muteUntil with
    | some t => decide (b.clk.core < t)
    | none => false)

/-- A heartbeat on every link every 100 µs (R40). -/
def Block.heartbeatSend (b : Block) : Block :=
  if b.syn.agg ∧ b.on dLINKS ∧ b.fab.hbSent + b.us 100 ≤ b.clk.core ∧ b.f F.ROLE_STATUS_ROLE ≠ 3 then
    let b := { b with fab := { b.fab with hbSent := b.clk.core } }
    if b.hbMuted then b else b.sendAll b.allLinks (.heartbeat b.selfLai b.fab.takeOver)
  else b

/-- The buddy speaks (R40, R41): it is no longer lost; where it acts as home of this block's LDIs, this block rejoins as its buddy. -/
def Block.buddyHeard (b : Block) (acting : Bool) : Block :=
  let b := { b with fab := { b.fab with buddyLast := b.clk.core, buddyLost := false, buddySynced := b.is F.QUE_STATUS_SYNC } }
  let b := if (b.procOf 2 0).isSome ∧ ¬ b.fab.takeOver then
      { b with que := { b.que with procs := b.que.procs.filter (fun p => p.proc != 2) } }
    else b
  if acting ∧ ¬ b.fab.displaced then b.startRejoin true else b

/-- A heartbeat (R22, R40): its home's on link A of a D-role keeps the A path; an aggregator learns where its sender stands, and watches its
buddy on the mirror links and its parent on U0 (on U1 it watches none: log entry 127). R22 wants the home's heartbeats "without a gap" and
gives no length: two of them L or more apart are one (DESIGN CHOICE, log entry 132). -/
def Block.heartbeat (b : Block) (port lai : Nat) (acting : Bool) : Block :=
  let b := b.unstage port 2
  if b.syn.agg then
    let b := { b with fab := { b.fab with nbr := b.fab.nbr.put lai port } }
    if 130 ≤ port then (if lai = b.fab.topo.buddy then b.buddyHeard acting else b)
    else if port = 128 ∧ lai = b.fab.topo.parent then { b with fab := { b.fab with parentLast := b.clk.core, parentLost := false } }
    else b
  else if port = 0 ∧ lai = b.fab.topo.parent then
    let gap := match b.fab.hbLast with
      | some t => decide (t + b.lossTime ≤ b.clk.core)
      | none => true
    let from_ := if gap then some b.clk.core else b.fab.hbFrom
    ({ b with fab := { b.fab with hbFrom := from_, hbLast := some b.clk.core } }).returnNow
  else b

/-- No heartbeat for L (R40): a D-role whose link A has trained, which is from when it counts, moves to its B path at once (R22); an
aggregator watches its parent on U0 alone, moves to U1 at the next boundary, at once while its time is not valid (R23), and stays there (log
entry 127); a buddy starts to take the owner's place, and says DUAL_FAULT where the mirror was not complete (R244). -/
def Block.heartbeatLoss (b : Block) : Block :=
  if b.syn.agg then
    let b := if ¬ b.fab.parentLost ∧ ¬ b.fab.topo.isRoot ∧ b.fab.parentLast + b.lossTime ≤ b.clk.core then b.uplinkLost else b
    if ¬ b.fab.buddyLost ∧ b.fab.buddyLast + b.lossTime ≤ b.clk.core then
      let b := b.raiseIf (!b.fab.buddySynced) Ev.QUE_DUAL_FAULT
      ({ b with fab := { b.fab with buddyLost := true } }).startProc 2 0
    else b
  else if (b.port 0).live ∧ (b.fab.hbLast.getD b.fab.parentLast) + b.lossTime ≤ b.clk.core then
    let b := { b with fab := { b.fab with hbFrom := none, hbLast := none, parentLast := b.clk.core } }
    (if b.parentPort = some 0 then b.parentLost else b).moveToB
  else b

/-- After a start following a loss of power, withholding ends when its time is over, and the aggregator rejoins (R285). -/
def Block.withholdEnd (b : Block) : Block :=
  match b.fab.withheld with
  | some t => if t ≤ b.clk.core then b.startRejoin false else b
  | none => b

/-! Discovery and set-up -/

/-- Bound LDIs homed here, or taken over, with no port learned, and children not heard (KL_SETUP_STATUS.MISSING). -/
def Block.missingCount (b : Block) : Nat :=
  (b.fab.binds.filter (fun p => b.actingHome p.1 && p.2.epoch != 0 && p.2.port.isNone)).length
    + (b.fab.topo.children.filter (fun a => (b.fab.nbr.find a).isNone)).length

/-- A cold set-up is ready when everything below has answered (R37). -/
def Block.setupCheck (b : Block) : Block :=
  if b.f F.KL_SETUP_STATUS_STATE = 1 then
    let n := b.missingCount
    let b := b.setf F.KL_SETUP_STATUS_MISSING (sat 16 n)
    if n = 0 then
      ({ b with fab := { b.fab with setupDigest := b.fab.topoDigest, powerLost := false } }).setf F.KL_SETUP_STATUS_STATE 3
    else b
  else b

/-- Tags shared by two aggregators (R30). -/
def sharedTag (a c : List Nat) : Bool := (a.zip c).any (fun p => p.1 == p.2)

/-- A measured latency to the root over an upstream link beyond the budget (R25). OVER_BUDGET is called an event and stands in no event
register: it is a status bit alone (DESIGN CHOICE, log entry 129). -/
def Block.latencyCheck (b : Block) (port latNs : Nat) : Block :=
  let link := port - 128
  let b := { b with fab := { b.fab with latency := setAt b.fab.latency link latNs } }
  if b.fab.topo.budgetNs < latNs then (b.setf F.KL_SETUP_STATUS_OVER_BUDGET 1).setf F.KL_SETUP_STATUS_BUDGET_LINK link else b

/-- Links of an aggregator below it that are up. -/
def Block.downLinks (b : Block) : List Nat := b.allLinks.filter (fun n => decide (n < 128))

/-- DISCOVER (R25, R30): from the buddy, its tags are compared, and a standby root, which has no one above, passes discovery on below and
answers the root, so that its children measure U1 and both ends compare; from above, the latency is judged, it goes on below and to the
buddy, and an answer goes back; from below, the child is found. An aggregator whose PLOC is not set takes no part (R29). SHARED_DOMAIN is
called an event and stands in no event register: it is a status bit alone (DESIGN CHOICE, log entry 129); no rule says when it clears: a later
DISCOVER of the buddy without a shared tag clears it (DESIGN CHOICE, log entry 130). -/
def Block.discover (b : Block) (port lai : Nat) (tags : List Nat) (fromBuddy : Bool) (latNs : Nat) : Block :=
  let b := b.unstage port 2
  if ¬ b.syn.agg ∨ b.f F.SELF_PLOC_PLOC = 0xFFFFFFFF then b
  else
    let b := { b with fab := { b.fab with nbr := b.fab.nbr.put lai port } }
    let mine : Msg := .discover b.selfLai b.fab.topo.tags
    if fromBuddy then
      let b := b.setb F.KL_SETUP_STATUS_SHARED_DOMAIN (sharedTag tags b.fab.topo.tags)
      if b.fab.topo.isStandby then (b.sendAll b.downLinks mine).sendMsg port mine else b
    else if port = 128 ∨ port = 129 then
      ((b.latencyCheck port latNs).sendAll (b.allLinks.filter (fun n => decide (n < 128 ∨ 130 ≤ n))) mine).sendMsg port mine
    else b.setupCheck

/-- Whether this aggregator finds the warm set-up allowed (R37): the image's topology is that of the set-up, it has lost no power since, and
every enabled link is up. -/
def Block.mayWarm (b : Block) : Bool :=
  b.f F.KL_SETUP_STATUS_STATE == 3 && b.fab.setupDigest == b.fab.topoDigest && !b.fab.powerLost
    && ((List.range 132).filter (fun n => b.is (F.KL_PORT_CFG_EN.ix n))).all (fun n => (b.port n).state == 2)

/-- The set-up of a job (R37), warm or cold. Warm: each bound LDI is asked for its epoch again; cold: everything is learned afresh, the root
sending DISCOVER. -/
def Block.setUp (b : Block) (warm : Bool) : Block :=
    let b := b.setb F.KL_SETUP_STATUS_WARM warm
    if warm then
      let b := ({ b with fab := { b.fab with verifyFrom := some b.clk.core } }).setf F.KL_SETUP_STATUS_STATE 2
      b.fab.binds.foldl (fun b p => match p.2.port with
        | some n => if b.actingHome p.1 then b.sendMsg n (.bind p.1 p.2.epoch) else b
        | none => b) b
    else
      let binds : SMap Bind := List.map (fun (p : Nat × Bind) => (p.1, { p.2 with port := none })) b.fab.binds
      let b := { b with fab := { b.fab with verifyFrom := none, nbr := [], binds := binds } }
      let b := b.setf F.KL_SETUP_STATUS_STATE 1
      if b.fab.topo.isRoot ∧ b.f F.SELF_PLOC_PLOC ≠ 0xFFFFFFFF then b.sendAll b.allLinks (.discover b.selfLai b.fab.topo.tags) else b

/-- At a job start (R37): a rebind in progress completes first (R38). Where this aggregator finds nothing against a warm set-up, whether any
other aggregator of the fabric has lost power decides: no block sees that, and it is a free value (log entry 131). -/
def Block.jobStart (b : Block) : Block :=
  if ¬ b.syn.agg ∨ ¬ b.on dLINKS ∨ b.f F.ROLE_STATUS_ROLE = 3 then b
  else if b.fab.rebinds ≠ [] then { b with fab := { b.fab with jobWaits := true } }
  else if b.mayWarm then
    let r := b.fresh
    r.2.setUp (r.1 % 2 == 0)
  else b.setUp false

/-- A job start that waited for a rebind goes on once none is in progress (R38). -/
def Block.setupResume (b : Block) : Block :=
  if b.fab.jobWaits ∧ b.fab.rebinds = [] then ({ b with fab := { b.fab with jobWaits := false } }).jobStart else b

/-- 2 ms after a warm start (R37): a bound LDI that has not answered since is treated as after its dead timeout; the set-up is ready. -/
def Block.verifyTimeout (b : Block) : Block :=
  match b.fab.verifyFrom with
  | some t =>
    if t + b.us 2000 ≤ b.clk.core then
      let dead := b.fab.binds.filter (fun p => b.actingHome p.1 && p.2.epoch != 0 && p.2.alive && decide (p.2.heard < t))
      let b := { b with fab := { b.fab with verifyFrom := none } }
      let b := (b.setf F.KL_SETUP_STATUS_MISSING (sat 16 dead.length)).setf F.KL_SETUP_STATUS_STATE 3
      dead.foldl (fun b p => b.declareDead p.1) b
    else b
  | none => b

/-! Binding -/

/-- The dead timeout (R32): nothing came from a bound LDI for that many wingbeat periods, or an LDI of the home list was never bound. -/
def Block.deadTimeout (b : Block) (ldi : Nat) : Block :=
  let x : Bind := b.fab.binds.getD ldi {}
  if ¬ b.actingHome ldi ∨ b.fab.rejoining ∨ b.fab.rebinds.any (fun r => r.ldi == ldi) then b
  else if x.epoch = 0 then b.startRebind ldi
  else if x.alive ∧ b.wbPeriod ≠ 0 ∧ x.heard + b.fab.topo.deadPeriods * b.wbPeriod ≤ b.clk.core then b.declareDead ldi
  else if ¬ x.alive ∧ ¬ b.fab.pendingMembers.contains ldi then b.startRebind ldi
  else b

/-- What a D-role discards on UNBIND (R247): its Hold Buffer and its stream state; records still in Silkworm go with them. -/
def Block.dropHold (b : Block) : Block :=
  { b with que := { b.que with queues := [], streams := [], push := none }, slk := { b.slk with jobs := [] },
           mon := { b.mon with launched := [] } }

/-- BIND at a D-role (R29, R397). -/
def Block.bind_ (b : Block) (port ldi epoch : Nat) : Block :=
  let b := b.unstage port 2
  if b.syn.agg ∨ epoch = 0 ∨ b.f F.SELF_PLOC_PLOC = 0xFFFFFFFF then b
  else
    let bound := b.is F.SELF_LDI_BOUND
    let same := bound && b.f F.SELF_LDI_INDEX == ldi && b.f F.SELF_EPOCH_EPOCH == epoch
    let b := if bound ∧ ¬ same then b.dropHold else b
    let b := if same then b
      else
        let b := { b with que := { b.que with streams := [] }, fab := { b.fab with released := false } }
        ((b.setf F.SELF_LDI_INDEX ldi).setf F.SELF_LDI_BOUND 1).setf F.SELF_EPOCH_EPOCH epoch
    b.sendMsg port (.bindAck ldi epoch)

/-- UNBIND at a D-role (R35, R247). -/
def Block.unbind_ (b : Block) (port ldi epoch : Nat) : Block :=
  let b := b.unstage port 2
  if b.syn.agg then b
  else
    (({ b.dropHold with fab := { b.fab with released := true } }).setf F.SELF_LDI_BOUND 0).sendMsg port (.unbindAck ldi epoch)

/-- A route announced by a T-role (R33): kept by LDI with the epoch of its binding, by which beacons are judged here (R54, log entry 98), and
passed on above. -/
def Block.route (b : Block) (port ldi lai epoch : Nat) : Block :=
  let b := b.unstage port 2
  if b.syn.agg ∧ ¬ b.isT then
    let b := { b with fab := { b.fab with routes := b.fab.routes.put ldi (((b.fab.nbr.find? (fun p => p.2 == port)).map (fun p => p.1)).getD lai),
                                          routeEpochs := b.fab.routeEpochs.put ldi epoch } }
    if b.isRoot then b else b.sendAll upstream (.route ldi b.selfLai epoch)
  else b

/-! Ports that come up -/

/-- A port reaches ACTIVE (R214): the path's first training gives the role its time parent (R56), a training of the parent's port makes
earlier exchanges void, as does a standby's return to mirror link 0 (R58), and a mirror link that comes up starts RESYNC (R245). A D-role counts
its home's heartbeats on link A from then on (R22). -/
def Block.portUp (b : Block) (port : Nat) (mirrorWas : Bool) : Block :=
  let b := if ¬ b.syn.agg ∧ port = 0 ∧ b.fab.hbLast.isNone then { b with fab := { b.fab with parentLast := b.clk.core } } else b
  let b := if b.noParent ∧ (port = b.upPort ∨ (b.fab.topo.isStandby ∧ 130 ≤ port)) then b.setParent else b
  let b := if b.parentPort = some port then b.dropExchanges else b
  let b := if 130 ≤ port ∧ b.syn.agg ∧ ¬ mirrorWas then b.startResync else b
  b.returnNow

/-- Contributions (R28, R36, R142): only those of the bound unit count, any other is quarantined (R246) and its sender told to unbind; a late
one gives its member's lag to the Verdict unit (R147, R187). -/
def Block.contribution (b : Block) (port : Nat) (c : Contrib) : Block :=
  let b := b.unstage port 1
  if ¬ b.syn.agg then b
  else if ¬ b.binding c.ldi c.epoch then (b.quarantineUnit c).startUnbind port c.ldi c.epoch
  else
    let r := b.learn port c.ldi
    if r.1 then
      let x := r.2.takeContrib c
      let b := x.2.openedSince r.2.tags
      if x.1 then b.lateLag c else b
    else r.2.quarantineUnit c

/-! Meanings -/

/-- DISCOVER_RECEIVED. -/
def execDiscoverReceived (port lai : Nat) (tags : List Nat) (fromBuddy : Bool) (latNs : Nat) (s : State) : Host.Outcome State Fault Refusal :=
  s.lift (fun b => b.discover port lai tags fromBuddy latNs)
/-- DEAD_TIMEOUT. -/
def execDeadTimeout (ldi : Nat) (s : State) : Host.Outcome State Fault Refusal := s.lift (fun b => b.deadTimeout ldi)
/-- BIND_REPEAT. -/
def execBindRepeat (ldi : Nat) (s : State) : Host.Outcome State Fault Refusal := s.lift (fun b => b.sendBind ldi)
/-- BIND_RECEIVED. -/
def execBindReceived (port ldi epoch : Nat) (s : State) : Host.Outcome State Fault Refusal := s.lift (fun b => b.bind_ port ldi epoch)
/-- BIND_ACK_RECEIVED. -/
def execBindAckReceived (port ldi epoch : Nat) (s : State) : Host.Outcome State Fault Refusal :=
  s.lift (fun b => ((b.unstage port 2).bindAcked port ldi epoch).setupCheck.setupResume)
/-- ROUTE_RECEIVED. -/
def execRouteReceived (port ldi : Nat) (via : Route) (s : State) : Host.Outcome State Fault Refusal :=
  s.lift (fun b => b.route port ldi via.lai via.epoch)
/-- UNBIND_RECEIVED. -/
def execUnbindReceived (port ldi epoch : Nat) (s : State) : Host.Outcome State Fault Refusal := s.lift (fun b => b.unbind_ port ldi epoch)
/-- UNBIND_REPEAT. -/
def execUnbindRepeat (ldi epoch : Nat) (s : State) : Host.Outcome State Fault Refusal :=
  s.lift (fun b => (b.fab.unbinds.filter (fun u => u.1 == ldi && u.2.1 == epoch)).foldl (fun b u => b.sendMsg u.2.2 (.unbind ldi epoch)) b)
/-- UNBIND_ACK_RECEIVED. -/
def execUnbindAckReceived (port ldi epoch : Nat) (s : State) : Host.Outcome State Fault Refusal :=
  s.lift (fun b => (b.unstage port 2).unbindAcked port ldi epoch)
/-- JOB_START. -/
def execJobStart (s : State) : Host.Outcome State Fault Refusal := s.lift Block.jobStart
/-- SETUP_VERIFY_TIMEOUT. -/
def execSetupVerifyTimeout (s : State) : Host.Outcome State Fault Refusal := s.lift Block.verifyTimeout
/-- HEARTBEAT_SEND. -/
def execHeartbeatSend (s : State) : Host.Outcome State Fault Refusal := s.lift Block.heartbeatSend
/-- HEARTBEAT_RECEIVED. -/
def execHeartbeatReceived (port lai : Nat) (acting : Bool) (s : State) : Host.Outcome State Fault Refusal :=
  s.lift (fun b => (b.heartbeat port lai acting).setupCheck)
/-- HEARTBEAT_LOSS. -/
def execHeartbeatLoss (s : State) : Host.Outcome State Fault Refusal := s.lift (fun b => if b.on dLINKS then b.heartbeatLoss else b)
/-- HEARTBEAT_WITHHOLD_END. -/
def execHeartbeatWithholdEnd (s : State) : Host.Outcome State Fault Refusal := s.lift Block.withholdEnd
/-- TRAINING_DONE. -/
def execTrainingDone (port locked : Nat) (s : State) : Host.Outcome State Fault Refusal :=
  s.lift (fun b => b.onPort port (fun b =>
    let was := (b.port port).state
    let m := b.mirrorUp
    let b := b.trainingDone port locked
    if was ≠ 2 ∧ (b.port port).state = 2 then b.portUp port m else b))
/-- CONTRIBUTION_RECEIVED. -/
def execContributionReceived (port : Nat) (c : Contrib) (s : State) : Host.Outcome State Fault Refusal :=
  s.lift (fun b => b.contribution port c)

end Sys2Proof.Machine
end

