-- ==== Sys2Proof/Machine/Delivery.lean ====
section
/-! DEFINITION. Queues and delivery, the commands (spec/10_queues_delivery.md, R229, R234 to R247): records and ACCEPT received, the mirror's
receiving end, retransmission, flush, and software's push. -/

namespace Sys2Proof.Machine

/-! Records received -/

/-- A report that has not come before makes its finding (R196). -/
def Block.reportArrived (b : Block) (r : Rec) (seq : Nat) : Block :=
  let k := (r.ldi, r.epoch, r.stream, seq)
  if r.typ ≠ 0x60 ∨ b.vrd.found.contains k then b
  else ({ b with vrd := { b.vrd with found := k :: b.vrd.found } }).corrupt r.ldi r.bytes

/-- The owner takes a record (R241): a duplicate is answered at once, one already held needs nothing, a gap is answered and counted, the next
in line is held and journalled. While it flushes it takes in nothing (R283). A host's report makes its finding when it first arrives, without
waiting for its turn (R196, R315). -/
def Block.ownRecord (b : Block) (r : Rec) (seq : Nat) (bytes : List Byte) : Block :=
  let k := b.key r.ldi r.epoch r.stream
  let say (gap : Bool) (b : Block) : Block :=
    b.sendAccept r.ldi r.epoch gap [{ stream := r.stream, seq := accValue (b.key r.ldi r.epoch r.stream).sure }]
  let b := if before48 seq k.acc ∨ before48 seq k.next then b else b.reportArrived r seq
  if b.coc.flush then b
  else if before48 seq k.acc then say false (b.count F.QUE_ACC_STAT_DUP)
  else if before48 seq k.next then b
  else if seq ≠ k.next then
    (say true (b.count F.QUE_ACC_STAT_GAP)).raise Ev.QUE_GAP [(r.ldi, 20), (r.epoch, 16), (r.stream, 16)]
  else
    let b := { b with vrd := { b.vrd with found := b.vrd.found.filter (fun x => x != (r.ldi, r.epoch, r.stream, seq)) } }
    b.hold r.ldi r.epoch r.stream seq r.sev bytes

/-- Note the port on which the last record of an LDI came: its ACCEPT goes back that way (R237). -/
def Block.cameBy (b : Block) (ldi port : Nat) : Block := { b with fab := { b.fab with via := b.fab.via.put ldi port } }

/-- A record that passed its header check (R28, R36, R171, R228, R237, R246): an aggregator's feeds the feature maps; a die's that is not
bound so, or was learned elsewhere, is quarantined; else it feeds the maps and goes to its owner. At an S-role a die's record has passed R28 below. `relayed` says that it came by way of
another aggregator, which learned its port. -/
def Block.judgeRecord (b : Block) (port : Nat) (r : Rec) (seq : Nat) (bytes : List Byte) (relayed : Bool) : Block :=
  if r.epoch = 0 then b.featArrived port r
  else if ¬ b.isT then (b.featArrived port r).relay r bytes
  else if ¬ b.binding r.ldi r.epoch then (b.quarantine r bytes).startUnbind port r.ldi r.epoch
  else
    let l := if relayed then (true, b.updBind r.ldi (fun x => { x with heard := b.clk.core })) else b.learn port r.ldi
    if ¬ l.1 then l.2.quarantine r bytes
    else
      let b := l.2.cameBy r.ldi port
      let b := b.featArrived port r
      if b.actingHome r.ldi then b.ownRecord r seq bytes else if relayed then b else b.relay r bytes

/-- A record received (R229, R241): a header that fails is discarded and counted. -/
def Block.recordReceived (b : Block) (port : Nat) (bytes : List Byte) : Block :=
  let b := b.unstage port 0
  if ¬ b.syn.agg ∨ ¬ b.on dQUEUE ∨ ¬ b.is F.QUE_CTRL_EN then b
  else
    match parseRec bytes with
    | none => (b.count F.QUE_ACC_STAT_HDRBAD).raise Ev.QUE_HDR_BAD
    | some (r, seq) =>
      let r := { r with raw := none }
      let b := if b.isT ∨ r.epoch = 0 then b else b.cameBy r.ldi port
      b.judgeRecord port r seq bytes (decide (128 ≤ port))

/-- An update of the buddy's (R245), over the mirror link in use: kept and confirmed; a relayed record goes its way, a mark of a procedure is
noted. -/
def Block.mirrorReceived (b : Block) (u : Mirror) : Block :=
  if ¬ b.syn.agg ∨ ¬ b.mirrorUp then b
  else
    let port := b.mirrorPort
    let b := b.unstage port 0
    match u with
    | .relay bytes =>
      let b := { b with que := { b.que with confirmed := b.que.confirmed + 1 } }
      (match parseRec bytes with
       | some (r, seq) => b.judgeRecord port r seq bytes true
       | none => (b.count F.QUE_ACC_STAT_HDRBAD).raise Ev.QUE_HDR_BAD)
    | .proc p ldi step repoch epoch ploc out => (b.takeMirror u).remoteMark p ldi step repoch (epoch, ploc, out)
    | _ => b.takeMirror u

/-! ACCEPT received -/

/-- An entry of an ACCEPT at the D-role (R241): records up to its SEQ are freed, and the stream has progressed. A GAP has the stream sent
again. -/
def Block.acceptEntry (b : Block) (gap : Bool) (e : AcceptEntry) : Block :=
  let st := b.que.streams.getD e.stream {}
  let top := (e.seq + 1) % 2 ^ 48
  let b := if before48 st.acc top then
      let keep (i : Item) : Bool := !(i.body.stream == e.stream && (match i.seq with
        | some s => before48 s top
        | none => false))
      let qs : SMap QueSt := b.que.queues.map (fun (q : Nat × QueSt) => (q.1, { q.2 with items := q.2.items.filter keep }))
      { b with que := { b.que with queues := qs, streams := b.que.streams.put e.stream { st with acc := top, progress := b.clk.core } } }
    else b
  if gap then (b.resend e.stream).raise Ev.QUE_GAP [(b.selfLdi, 20), (b.selfEpoch, 16), (e.stream, 16)] else b

/-- ACCEPT (R237, R241): a D-role takes what names its binding; an aggregator passes the owner's ACCEPT back the way the record came. -/
def Block.acceptReceived (b : Block) (port epoch ldi : Nat) (gap : Bool) (es : List AcceptEntry) : Block :=
  let b := b.unstage port 2
  if b.syn.agg then
    match b.fab.via.find ldi with
    | some p => if p = port then b else b.sendMsg p (.accept epoch ldi gap es)
    | none => b
  else if b.on dQUEUE ∧ b.is F.SELF_LDI_BOUND ∧ epoch = b.selfEpoch ∧ ldi = b.selfLdi then es.foldl (fun b e => b.acceptEntry gap e) b
  else b

/-- RTO without progress (R241): the stream's unaccepted records are sent again. -/
def Block.retransmit (b : Block) (stream : Nat) : Block :=
  let st := b.que.streams.getD stream {}
  if ¬ b.syn.agg ∧ b.on dQUEUE ∧ b.outstanding stream ∧ st.progress + b.us (atLeast1 (b.f F.QUE_HOLD_CFG_RTO)) ≤ b.clk.core then b.resend stream
  else b

/-! Loss, flush -/

/-- A queue that has room after drops takes the QUE_LOSS record that its next item will stand behind (R234); its STREAM and CLASS are
written with that item. -/
def Block.queueLoss (b : Block) (q : Nat) : Block :=
  match (b.queue q).loss with
  | some l =>
    if b.takes q ∧ b.room q 88 l.sev then
      let x := b.queue q
      (b.setQueue q { x with loss := none }).append q (b.lossRec q l 0 0) true
    else b
  | none => b

/-- QUE_CMD.FLUSH (R235): every whole item without a SEQ is discarded and counted; a push in progress, and a snapshot record that a drain is
writing, is discarded when its last word comes, and FLUSHING reads 1 until then. A second flush adds nothing. -/
def Block.flushQueue (b : Block) (q : Nat) : Block :=
  if (b.queue q).flushing then b
  else
    let b := ((b.cutDrains).doomDrain q false).doomDrain q true
    let x := b.queue q
    let gone := x.items.filter (fun i => i.seq.isNone)
    let mine : Bool := match b.que.push with
      | some p => p.queue == q && !p.waiting
      | none => false
    let b := b.setQueue q { x with items := x.items.filter (fun i => i.seq.isSome), flushing := mine || b.drainDoomed q false || b.drainDoomed q true }
    let b := b.count (F.QUE_DROPS_FLUSHED.ix q) gone.length
    let b := { b with mon := { b.mon with launched := b.mon.launched.filter (fun l => !(gone.any (fun i => i.num == l.2))) } }
    if mine then { b with que := { b.que with push := b.que.push.map (fun p => { p with doomed := true }) } } else b

/-- The last item that a flush affects is gone: FLUSHING clears. -/
def Block.flushDone (b : Block) (q : Nat) : Block :=
  let doomed : Bool := match b.que.push with
    | some p => p.queue == q && p.doomed
    | none => false
  if (b.queue q).flushing && !doomed && !b.drainDoomed q false && !b.drainDoomed q true then b.setQueue q { b.queue q with flushing := false } else b

/-! Push (R236) -/

/-- Bytes of a push: 12 + 2 LEN words. -/
def Push.size (p : Push) : Nat := 4 * (12 + 2 * p.len)

/-- START: room is reserved, or the queue's FULL policy acts. -/
def Block.pushStart (b : Block) (len sev : Nat) : Block :=
  if b.que.push.isSome then b.raise Ev.QUE_PUSH_BAD
  else
    let q := b.qnum (b.f F.QUE_SEL_QUEUE)
    let p : Push := { queue := q, len := len, sev := sev }
    if ¬ b.takes q ∨ b.capacity q < p.size then b.dropBytes q p.size b.phase sev
    else
      let b := b.raiseIf (! b.holdRoom b.holdUsed p.size sev) Ev.QUE_HOLD_FULL
      if b.room q p.size sev then { b with que := { b.que with push := some p } }
      else if b.f (F.QUE_CFG_FULL.ix q) = 0 then { b with que := { b.que with push := some { p with waiting := true } } }
      else
        match b.makeRoom q p.size sev with
        | some b => { b with que := { b.que with push := some p } }
        | none => b.dropBytes q p.size b.phase sev

/-- The little-endian bytes of words. -/
def wordBytes (l : List Nat) : List Byte := l.flatMap (leBytes 4)

/-- The record a push spells, none where its TYPE, LEN or SEV is not what it must be. The block writes EPOCH, LDI, PHASE and WALL. -/
def Block.pushRec (b : Block) (p : Push) : Option Rec :=
  let l := wordBytes p.words
  let w := leAt l 8 4
  if p.words.length ≠ 12 + 2 * p.len ∨ leAt l 0 1 < 0xE0 ∨ leAt l 2 2 ≠ p.len ∨ bits w 20 3 ≠ p.sev then none
  else
    some { typ := leAt l 0 1, fmt := leAt l 1 1 % 16, flags := leAt l 1 1 / 16, stream := leAt l 4 2, epoch := b.selfEpoch, ldi := b.selfLdi,
           sev := p.sev, cls := bits w 23 3, phase := b.phase, wall := b.wall, bytes := l.drop 48 }

/-- A pushed record leaves the push for its queue, in the room it had reserved; through Silkworm where a rule names the queue. A QUE_LOSS
record goes ahead of it where that fits too. -/
def Block.pushEnter (b : Block) (p : Push) (r : Rec) : Block :=
  if (b.jobCtx p.queue r none).isSome ∨ b.slk.jobs.any (fun j => j.queue == p.queue) then b.arrive p.queue r none 0 p.size
  else
    let b := b.featOwn r
    if b.room p.queue (r.size + b.lossBytes p.queue) r.sev then b.enter p.queue r
    else (b.settleLoss p.queue r.stream r.cls).append p.queue r

/-- END: the item is complete, discarded where a flush doomed it, or refused with PUSH_BAD. -/
def Block.pushEnd (b : Block) : Block :=
  match b.que.push with
  | some p =>
    if p.waiting then b.raise Ev.QUE_PUSH_BAD
    else
      let b := { b with que := { b.que with push := none } }
      if p.doomed then (b.count (F.QUE_DROPS_FLUSHED.ix p.queue)).flushDone p.queue
      else
        match b.pushRec p with
        | some r => b.pushEnter p r
        | none => b.raise Ev.QUE_PUSH_BAD
  | none => b.raise Ev.QUE_PUSH_BAD

/-- ABORT: a waiting push is withdrawn; an open one is discarded with PUSH_BAD. -/
def Block.pushAbort (b : Block) : Block :=
  match b.que.push with
  | some p =>
    let b := { b with que := { b.que with push := none } }
    if p.waiting then b else (b.flushDone p.queue).raise Ev.QUE_PUSH_BAD
  | none => b.raise Ev.QUE_PUSH_BAD

/-- A write of QUE_PUSH_CMD: more than one of its commands acts on none (R396). -/
def Block.pushCmd (b : Block) (word : Nat) : Block :=
  match word % 8 with
  | 0 => b
  | 1 => b.pushStart (bits word 16 16) (bits word 5 3)
  | 2 => b.pushEnd
  | 4 => b.pushAbort
  | _ => b.raise Ev.QUE_PUSH_BAD

/-- A write of QUE_PUSH_DATA: the next word, while the push is open. -/
def Block.pushData (b : Block) (word : Nat) : Block :=
  match b.que.push with
  | some p =>
    if p.waiting then b.raise Ev.QUE_PUSH_BAD
    else { b with que := { b.que with push := some { p with words := (p.words ++ [word % 2 ^ 32]).take (13 + 2 * p.len) } } }
  | none => b.raise Ev.QUE_PUSH_BAD

/-- A push that waits gets its room; it is dropped and counted where its queue has come to take no item (R231). -/
def Block.pushReserve (b : Block) : Block :=
  match b.que.push with
  | some p =>
    if ¬ p.waiting then b
    else if ¬ b.takes p.queue ∨ b.capacity p.queue < p.size then ({ b with que := { b.que with push := none } }).dropBytes p.queue p.size b.phase p.sev
    else if b.room p.queue p.size p.sev then { b with que := { b.que with push := some { p with waiting := false } } }
    else b
  | none => b

/-! Meanings -/

/-- RECORD_RECEIVED. `bad` names the drift channels whose adders fail their check at the next sample (R193,
log entry 149). -/
def execRecordReceived (port : Nat) (bytes : List Byte) (bad : List Nat) (s : State) : Host.Outcome State Fault Refusal :=
  s.lift (fun b => ({ b with vrd := { b.vrd with driftBad := b.vrd.driftBad ++ bad } }).recordReceived port bytes |>.driftReports)
/-- ACCEPT_RECEIVED. -/
def execAcceptReceived (port epoch ldi : Nat) (gap : Bool) (entries : List AcceptEntry) (s : State) : Host.Outcome State Fault Refusal :=
  s.lift (fun b => b.acceptReceived port epoch ldi gap entries)
/-- ACCEPT_SEND. -/
def execAcceptSend (ldi : Nat) (s : State) : Host.Outcome State Fault Refusal :=
  s.lift (fun b => if b.syn.agg ∧ b.on dQUEUE then b.acceptSend ldi else b)
/-- RETRANSMIT_TIMEOUT. -/
def execRetransmitTimeout (stream : Nat) (s : State) : Host.Outcome State Fault Refusal := s.lift (fun b => b.retransmit stream)
/-- MIRROR_RECEIVED. -/
def execMirrorReceived (update : Mirror) (s : State) : Host.Outcome State Fault Refusal := s.lift (fun b => b.mirrorReceived update)
/-- QUEUE_LOSS. -/
def execQueueLoss (q : Nat) (s : State) : Host.Outcome State Fault Refusal := s.lift (fun b => b.queueLoss (b.qnum q))
/-- QUEUE_FLUSH. -/
def execQueueFlush (m : Master) (s : State) : Host.Outcome State Fault Refusal :=
  s.lift (fun b => b.write m 0xA020 1 (fun b => b.flushQueue (b.qnum (b.f F.QUE_SEL_QUEUE))))
/-- FLUSH_DONE. -/
def execFlushDone (q : Nat) (s : State) : Host.Outcome State Fault Refusal := s.lift (fun b => b.flushDone (b.qnum q))
/-- PUSH_START. -/
def execPushStart (m : Master) (word : Nat) (s : State) : Host.Outcome State Fault Refusal :=
  s.lift (fun b => b.write m 0xA034 word (fun b => b.pushCmd word))
/-- PUSH_DATA. -/
def execPushData (m : Master) (word : Nat) (s : State) : Host.Outcome State Fault Refusal :=
  s.lift (fun b => b.write m 0xA030 word (fun b => b.pushData word))
/-- PUSH_END. -/
def execPushEnd (m : Master) (s : State) : Host.Outcome State Fault Refusal :=
  s.lift (fun b => b.write m 0xA034 2 (fun b => b.pushCmd 2))
/-- PUSH_ABORT. -/
def execPushAbort (m : Master) (s : State) : Host.Outcome State Fault Refusal :=
  s.lift (fun b => b.write m 0xA034 4 (fun b => b.pushCmd 4))
/-- PUSH_RESERVED. -/
def execPushReserved (s : State) : Host.Outcome State Fault Refusal := s.lift Block.pushReserve

end Sys2Proof.Machine
end

