-- ==== Sys2Proof/Machine/Cocoon.lean ====
section
/-! DEFINITION. Cocoon (spec/12_cocoon_store.md, R266 to R292): the journal writer, NAND status, patrol, recovery, cursors, counters, clear and
format, the power-fail flush, the NOR copy. -/

namespace Sys2Proof.Machine

/-! Power on, off -/

/-- Cocoon begins to run (COC_CTRL.EN, R275): the journal is rebuilt; a D-role without a valid SFDP table has none (R289). -/
def Block.cocStart (b : Block) : Block :=
  if b.f F.COC_STATUS_STATE ≠ 0 ∨ ¬ b.is F.COC_CTRL_EN ∨ (¬ b.syn.agg ∧ (b.syn.norMiB = 0 ∨ ¬ b.syn.norSfdp)) then b
  else b.setf F.COC_STATUS_STATE 1

/-- Cocoon stops running. -/
def Block.cocStop (b : Block) : Block :=
  { b.setf F.COC_STATUS_STATE 0 with coc := { b.coc with buf := [], bufSince := none, cursors := [{}, {}, {}, {}] } }

/-- STORE comes up from reset (R268, R280, R289): targets answer from here on, a NOR without a valid table is reported, the time for READY
runs. -/
def Block.cocUp (b : Block) : Block :=
  let b := { b with coc := { b.coc with tgts := [], excl := [], failing := [], since := some b.clk.aon } }
  let b := b.raiseIf (!b.syn.agg && decide (0 < b.syn.norMiB) && !b.syn.norSfdp) Ev.COC_NOR_BAD
  let b := if ¬ b.syn.agg ∧ 0 < b.syn.norMiB ∧ b.syn.norSfdp then (b.setf F.HOST_CAP_NOR 1).setf F.HOST_CAP_NOR_MIB b.syn.norMiB else b
  b.cocStart

/-- An aggregator's Cocoon is not READY 1 s after start: it keeps its heartbeats back (R280). -/
def Block.cocLate (b : Block) : Block :=
  match b.coc.since with
  | some t =>
    if b.syn.agg ∧ b.f F.COC_STATUS_STATE ≠ 2 ∧ t + aonUs 1000000 ≤ b.clk.aon then { b with fab := { b.fab with cocSilent := true } } else b
  | none => b

/-! The writer -/

/-- Groups settle, and what the committed entries mean to the recovery unit follows. -/
def Block.settleAll (b : Block) : Block :=
  let r := b.settleGroups
  (r.2.marksCommitted r.1).resyncCheck

/-- Whether groups may be closed now: no format erases the medium. -/
def Block.mayClose (b : Block) : Bool := b.cocReady && b.coc.op != some CocOp.format

/-- Accepted records that are not yet in a group, stream by stream in SEQ order (R283 step 2). -/
def Block.owed (b : Block) : List (JEntry × Nat) :=
  b.que.keys.flatMap (fun k => b.coc.buf.filter (fun x => match x.1 with
    | .record r => !r.quar && r.ldi == k.ldi && r.epoch == k.epoch && r.stream == k.stream && before48 r.seq k.acc && x.2 == x.1.size
    | _ => false))

/-- EN_CKPT records and closes that are not yet in a group (R202 step 1). -/
def Block.accountOwed (b : Block) : List (JEntry × Nat) :=
  b.coc.buf.filter (fun x => x.2 == x.1.size && (match x.1 with
    | .record r => r.en.isSome
    | .close _ => true
    | .mark _ _ => false))

/-- The journal's part of a power-fail warning (R202, R283, R291): no new item; an entry that is partly written goes on; then accepted records
and the account's entries; the rest waits; a clear or format stops. -/
def Block.flushBegin (b : Block) : Block :=
  if ¬ b.syn.agg ∨ b.coc.flush ∨ ¬ b.cocReady then b
  else
    let part := b.coc.buf.filter (fun x => x.2 != x.1.size)
    let owed := b.owed
    let mine := part ++ owed ++ b.accountOwed.filter (fun x => !owed.contains x)
    let b := { b with coc := { b.coc with flush := true, flushG := none, flushed := false, buf := mine,
                                          parked := b.coc.buf.filter (fun x => !mine.contains x) } }
    let b := match b.coc.op with
      | some _ => { b with coc := { b.coc with opStop := true, opWait := false }, busy := if b.busy = some BusyOp.clear ∨ b.busy = some BusyOp.format then none else b.busy }
      | none => b
    b.raise Ev.COC_PF_START

/-- Whether the flush runs (COC_STATUS.FLUSHING). -/
def Block.flushing (b : Block) : Bool := b.coc.flush && !b.coc.flushed

/-- Step 3 to 5 of R283, once every owed record is in a group: the root's account, a checkpoint, the FLUSHED group. -/
def Block.flushEnd (b : Block) : Block :=
  let b :=
    if b.isRoot then
      let b := b.powerFailClose
      if b.consumer (b.qnum (b.f F.VRD_DEST_QUEUE)) = 1 then b.consumeQueue (b.qnum (b.f F.VRD_DEST_QUEUE)) else b
    else b
  let b := b.journalCheckpoint b.que.keys
  let n := b.coc.nextG
  let b := b.closeGroup true
  if b.coc.nextG = n then b else { b with coc := { b.coc with flushG := some (b.coc.nextG - 1) } }

/-- GROUP_CLOSE (R272, R274, R283): due when a group is full or GTIME µs after its first byte, at once in a flush, whose end also waits for the
counter raises in progress. -/
def Block.groupClose (b : Block) : Block :=
  let b := b.consume
  if ¬ b.mayClose then b
  else if b.coc.flush then
    (if b.coc.buf ≠ [] then (b.closeGroup).settleAll
     else if b.coc.flushG.isNone ∧ b.coc.progs = [] ∧ b.coc.raises = [] then b.flushEnd.settleAll
     else b)
  else
    match b.coc.bufSince with
    | some t =>
      if b.coc.groupSize ≤ b.coc.waiting ∨ t + b.us (atLeast1 (b.f F.COC_CFG_GTIME)) ≤ b.clk.core then (b.closeGroup).settleAll else b
    | none => b

/-- Resume after the flush, once the warning is gone (R284). -/
def Block.flushResume (b : Block) : Block :=
  if b.coc.flush ∧ b.coc.flushed ∧ ¬ b.pwr.pfLow then
    let c := b.coc
    { b with coc := { c with flush := false, flushed := false, flushG := none, buf := c.parked ++ c.buf, parked := [],
                             bufSince := if c.parked = [] then c.bufSince else some b.clk.core } }
  else b

/-- The FLUSHED group has committed (R283): PF_DONE. -/
def Block.flushDone_ (b : Block) : Block :=
  match b.coc.flushG with
  | some g =>
    if b.flushing ∧ ¬ b.coc.progs.any (fun p => p.gseq == g) then
      (({ b with coc := { b.coc with flushed := true } }).raise Ev.COC_PF_DONE).flushResume
    else b
  | none => b

/-! NAND status -/

/-- A target's start (R268): used where its parameter page is valid and its geometry is one the block uses. -/
def Block.targetFound (b : Block) (ch tgt : Nat) (geo : Option Geo) : Block :=
  let k := tgtKey ch tgt
  match geo with
  | some g =>
    if g.good then { b with coc := { b.coc with tgts := b.coc.tgts.put k g, excl := b.coc.excl.filter (fun x => x != k) } }
    else ({ b with coc := { b.coc with excl := b.coc.excl ++ [k] } }).raise Ev.COC_TARGET_FAIL (placeArgs ch tgt 0)
  | none => ({ b with coc := { b.coc with excl := b.coc.excl ++ [k] } }).raise Ev.COC_TARGET_FAIL (placeArgs ch tgt 0)

/-- NAND_STATUS: what completed, and what follows (R268, R269, R272, R274, R287). -/
def Block.nandStatus (b : Block) (r : NandResult) : Block :=
  if ¬ b.syn.agg ∨ ¬ b.on dSTORE then b
  else
    match r with
    | .param ch tgt geo => if bit b.syn.nvmPresent ch = 1 ∧ tgt < 8 then b.targetFound ch tgt geo else b
    | .program ch tgt blk page pass => (b.programDone ch tgt blk page pass).settleAll
    | .erase ch tgt blk pass => b.eraseDone ch tgt blk pass
    | .read ch tgt blk page l => b.ladder ch tgt blk page l
    | .counter copyB pass => { b with coc := b.coc.ctrStatus copyB pass }

/-- A target that has failed every operation for 1 ms is excluded (R272). -/
def Block.targetTimeout (b : Block) (ch tgt : Nat) : Block :=
  match b.coc.failing.find (tgtKey ch tgt) with
  | some t => if t + aonUs 1000 ≤ b.clk.aon then (b.excludeTgt ch tgt).settleAll else b
  | none => b

/-- Whether the patrol reads a page (R271): it holds unreleased or FIRST data. -/
def Coc.patrolled (c : Coc) (ch tgt blk page : Nat) : Bool :=
  c.groups.any (fun g => !g.lost && g.data.any (fun p => p.isAt ch tgt blk page && (p.first || g.recs.any (fun r => decide (c.rel ≤ r.jpos)))))

/-- PATROL_READ: the ladder, and a refresh of a block whose oldest page is older than AGE days (R271), while the MEDIA duty is scheduled (R330, log entry 158). -/
def Block.patrolRead (b : Block) (ch tgt blk page : Nat) (l : Ladder) : Block :=
  if ¬ b.syn.agg ∨ ¬ b.cocReady ∨ ¬ b.threadRuns 6 ∨ ¬ b.coc.patrolled ch tgt blk page then b
  else
    let b := b.ladder ch tgt blk page l
    let days := b.f F.COC_SCRUB_AGE
    let k := blkKey ch tgt blk
    if days ≠ 0 ∧ days * 86400 * 25000000 < b.clk.aon - (b.coc.blk k).at_ then b.refreshBlk k else b

/-! Recovery -/

/-- What recovery makes of a group (R275), given the pages that fail their CRC by (GSEQ, RELOC, index; 100 is A, 101 is B): none without a
valid marker, else the group, lost where a data page cannot be rebuilt. -/
def recoverGroup (bad : List (Nat × Nat × Nat)) (g : Group) : Option Group :=
  let fails (i : Nat) : Bool := bad.contains (g.gseq, g.reloc, i)
  let a := g.a.isSome && !fails 100
  let c := g.b.isSome && !fails 101
  if ¬ a ∧ ¬ c then none
  else
    let gone := ((List.range g.data.length).filter fails).length
    some { g with lost := g.lost || decide (1 < gone) || (decide (gone = 1) && !a) }

/-- The groups that recovery applies, from a GSEQ on (fuel: the groups there are): of each the newest copy with a marker. -/
def recoverWalk (fuel : Nat) (bad : List (Nat × Nat × Nat)) (all : List Group) (gseq : Nat) : List Group :=
  match fuel with
  | 0 => []
  | n + 1 =>
    match (sortBy (fun (g : Group) => 1000000 - g.reloc) (all.filter (fun g => g.gseq == gseq))).findSome? (recoverGroup bad) with
    | some g => g :: recoverWalk n bad all (gseq + 1)
    | none => []

/-- A record of the journal moves its stream's accepted state on (R275, R241). -/
def applyKey (l : List OwnKey) (r : JRec) : List OwnKey :=
  let same (k : OwnKey) : Bool := k.ldi == r.ldi && k.epoch == r.epoch && k.stream == r.stream
  let acc := (r.seq + 1) % 2 ^ 48
  if r.quar then l
  else if l.any same then
    l.map (fun k => if same k ∧ before48 k.acc acc then { k with next := acc, acc := acc, sure := acc, reported := acc } else k)
  else l ++ [{ ldi := r.ldi, epoch := r.epoch, stream := r.stream, next := acc, acc := acc, sure := acc, reported := acc }]

/-- A mark of the journal: the procedure stands at it, or is complete. -/
def applyMark (l : List Proc) (e : JEntry) : List Proc :=
  match e with
  | .record _ => l
  | .close _ => l
  | .mark p done =>
    let rest := l.filter (fun x => !(x.proc == p.proc && x.ldi == p.ldi))
    if done then rest else rest ++ [p]

/-- The newly applied groups get their JPOS and stand in the index. -/
def Block.applyGroup (b : Block) (g : Group) : Block :=
  if b.coc.groups.any (fun x => x.gseq == g.gseq) then
    { b with coc := { b.coc with groups := b.coc.groups.map (fun x => if x.gseq = g.gseq then g else x) } }
  else (b.commitGroup { g with reloc := 0 }).2

/-- Pages behind the last applied group are discarded (R275): their blocks are erased, after what they hold besides has been moved. -/
def Block.discardGroup (b : Block) (g : Group) : Block :=
  let b := { b with coc := { b.coc with groups := b.coc.groups.filter (fun x => x.gseq != g.gseq) } }
  (g.pages.map (fun p => blkKey p.ch p.tgt p.blk)).eraseDups.foldl (fun b k =>
    let x := b.coc.blk k
    let b := if x.phase = 1 then { b with coc := { b.coc with blks := b.coc.blks.put k { x with phase := 2 } } } else b
    b.refreshBlk k) b

/-- The epochs of this T-role's and its buddy's LDIs are what their counters say (R288), unless the table is ahead of them (R27). -/
def Block.epochsBack (b : Block) : Block :=
  (b.fab.topo.homeLdis ++ b.fab.topo.buddyLdis).foldl (fun b ldi =>
    let e := epochOf (b.epochCount ldi)
    if e = 0 then b else b.updBind ldi (fun x => { x with epoch := e })) b

/-- The MGMT_BUSY of a long operation of Cocoon. -/
def CocOp.busy (o : CocOp) : BusyOp :=
  match o with
  | .clear => .clear
  | .format => .format

/-- The clear or format that a reset or a loss of power interrupted goes on (R291), once no other operation holds MGMT_BUSY (R14). -/
def Block.opResume (b : Block) : Block :=
  match b.coc.op with
  | some o =>
    if b.busy.isSome then { b with coc := { b.coc with opStop := true, opWait := true } }
    else { b with coc := { b.coc with opStop := false, opWait := false }, busy := some o.busy }
  | none => b

/-- What waited for MGMT_BUSY to fall goes on. -/
def Block.opTurn (b : Block) : Block := if b.coc.opWait ∧ b.busy = none then b.opResume else b

/-- The aggregator's journal is rebuilt (R275): from the newest checkpoint on, group by group, to the first without a valid marker. -/
def Block.recoverJournal (b : Block) (bad : List (Nat × Nat × Nat)) : Block :=
  let all := b.coc.groups ++ b.coc.progs
  let got := recoverWalk (all.length + 1) bad all b.coc.ckpt
  let last := got.foldl (fun a g => max a g.gseq) (b.coc.ckpt - 1)
  let cut := all.filter (fun g => decide (last < g.gseq))
  let marks := (all.filter (fun g => decide (g.gseq < b.coc.ckpt)) ++ got).flatMap (fun g => g.entries)
  let procs := marks.foldl applyMark b.coc.ckptProcs
  let whole := { b with coc := { b.coc with progs := [] } }
  let b := got.foldl Block.applyGroup whole
  let recs := (b.coc.groups.filter (fun g => decide (whole.coc.ckpt ≤ g.gseq) && decide (g.gseq ≤ last) && !g.lost)).flatMap Group.recs
  let keys := (b.coc.ckptKeys.map (fun (k : OwnKey) => { k with next := k.acc, held := [], sure := k.acc, reported := k.acc, dueSince := none }))
  let b := { b with que := { b.que with keys := recs.foldl applyKey keys } }
  let b := b.que.keys.foldl (fun b k => if k.epoch = 0 then b.ownStream k.stream k.acc else b) b
  let b := cut.foldl Block.discardGroup b
  let b := (got.filter (fun g => g.lost)).foldl (fun b g => b.raise Ev.COC_GROUP_LOST [(g.gseq, 64)]) b
  let flushed := (b.coc.groups.find? (fun g => g.gseq == last)).any (fun g => g.flushed)
  let b := b.raiseIf (b.coc.lostPower && !flushed) Ev.COC_PF_CUT
  let b := { b with coc := { b.coc with nextG := max b.coc.nextG (last + 1), lostPower := false } }
  let b := b.epochsBack
  let b := procs.foldl (fun b p => b.resumeProc { p with renewed := b.clk.core, stalled := false }) b
  (b.energyRead).journalCheckpoint b.que.keys

/-- JOURNAL_RECOVERY_DONE (R275, R279, R280, R268): READY, or FAULT where less than 320 GB are usable. -/
def Block.recoveryDone (b : Block) (bad : List (Nat × Nat × Nat)) : Block :=
  if ¬ b.on dSTORE ∨ b.f F.COC_STATUS_STATE ≠ 1 then b
  else if b.syn.agg ∧ b.coc.capKib * 1024 < 320 * 10 ^ 9 then b.setf F.COC_STATUS_STATE 3
  else
    let b := if b.syn.agg then b.recoverJournal bad else b
    let b := (b.setf F.COC_STATUS_STATE 2).raise Ev.COC_RECOVERED
    let b := { b with fab := { b.fab with cocSilent := false } }
    b.energyRecover.opResume

/-! Cursors -/

/-- The cursor that software addresses; the D build has one (R281). -/
def Block.curNum (b : Block) : Nat := if b.syn.agg then b.f F.COC_CUR_SEL_CUR else 0

/-- A cursor. -/
def Block.cursor (b : Block) (c : Nat) : Cursor := (b.coc.cursors[c]?).getD {}

/-- Replace a cursor. -/
def Block.setCursor (b : Block) (c : Nat) (x : Cursor) : Block := { b with coc := { b.coc with cursors := setAt b.coc.cursors c x } }

/-- The records that a cursor walks, rising in JPOS: the index of the FIRST area or of all groups not lost; the NOR's (R282, R290). -/
def Block.index (b : Block) (first : Bool) : List JRec :=
  if b.syn.agg then (if first then b.coc.firsts else (b.coc.groups.filter (fun g => !g.lost)).flatMap Group.recs)
  else (b.coc.nor.filter (fun x => x.done && x.first == first)).map (fun x => x.r)

/-- The release point as a cursor sees it: FIRST has none (R277). -/
def Block.relFor (b : Block) (first : Bool) : Nat := if first then 0 else b.coc.rel

/-- Whether NEXT and PREV skip a record (R282). -/
def Block.skips (b : Block) (c : Nat) (r : JRec) : Bool :=
  (r.quar && !(b.is (F.COC_CUR_FILT_QUAR.ix c))) || (b.is (F.COC_CUR_FILT_SEL.ix c) && r.stream != b.f (F.COC_CUR_FILT_STREAM.ix c))

/-- The lowest unreleased record. -/
def Block.oldest (b : Block) (first : Bool) : Option JRec := (b.index first).find? (fun r => decide (b.relFor first ≤ r.jpos))

/-- Where a move ends (R281, R282): STAT, and the record to load. -/
def Block.moveTo (b : Block) (first : Bool) (r : Option JRec) : Nat × Option JRec :=
  match r with
  | none => (2, none)
  | some r => if r.jpos < b.relFor first then (3, b.oldest first) else (0, some r)

/-- A command moves its cursor (Table 12-4): 1 OLDEST, 2 NEWEST, 3 NEXT, 4 PREV, 5 SEEK. Answers STAT and the record to load. -/
def Block.curMove (b : Block) (c cmd : Nat) : Nat × Option JRec :=
  let first := b.is (F.COC_CUR_CTRL_AREA.ix c)
  let l := b.index first
  let pos := (b.cursor c).pos
  if l = [] ∧ (b.coc.nextJ = 0 ∨ first) then (4, none)
  else
    match cmd with
    | 1 => (match b.oldest first with
        | some r => (0, some r)
        | none => (2, none))
    | 2 => b.moveTo first l.getLast?
    | 3 => b.moveTo first (l.find? (fun r => decide (pos < r.jpos) && !b.skips c r))
    | 4 => b.moveTo first ((l.filter (fun r => decide (r.jpos < pos) && !b.skips c r)).getLast?)
    | _ =>
      let j := b.f (F.COC_CUR_POS_LO_POS_LO.ix c) + 2 ^ 32 * b.f (F.COC_CUR_POS_HI_POS_HI.ix c)
      match l.find? (fun r => r.jpos == j) with
      | some r => b.moveTo first (some r)
      | none =>
        if ¬ first ∧ (j < b.coc.rel ∨ (b.coc.groups.filter (fun g => g.lost)).any (fun g => g.recs.any (fun r => r.jpos == j))) then
          (3, b.oldest first)
        else (2, none)

/-- A cursor command (R281): the cursor is BUSY until its load is done; one with nothing to load answers at once. -/
def Block.curCommand (b : Block) (cmd word : Nat) : Block :=
  let b := b.writeFields 0xC10C word
  if b.f F.COC_STATUS_STATE ≠ 2 then b
  else
    let c := b.curNum
    let m := b.curMove c cmd
    let x := b.cursor c
    match m.2 with
    | some r => (b.setCursor c { x with load := some (m.1, r.jpos, some r) }).setf (F.COC_CUR_CTRL_STAT.ix c) 1
    | none => (b.setCursor c { x with load := none }).setf (F.COC_CUR_CTRL_STAT.ix c) m.1

/-- The tag of a record in a cursor's buffer (R273): FIRSTCOPY where it came from the FIRST area. -/
def JRec.tag (r : JRec) (copy : Bool) : Nat := (if r.quar then 1 else 0) + (if r.dup then 2 else 0) + (if copy then 4 else 0)

/-- A load ends (R281): the cursor stands at its record. -/
def Block.loadDone (b : Block) (c : Nat) : Block :=
  let x := b.cursor c
  match x.load with
  | some (stat, pos, r) =>
    let copy := b.is (F.COC_CUR_CTRL_AREA.ix c)
    let b := b.setCursor c { x with load := none, pos := pos, loaded := r }
    let b := b.setf (F.COC_CUR_INFO_TAG.ix c) ((r.map (fun r => r.tag copy)).getD 0)
    b.setf (F.COC_CUR_CTRL_STAT.ix c) stat
  | none => b

/-- RELEASE (R278, R281): the release point moves up to the cursor's record and one; blocks go to erase, and a writer that was full goes
on. It is refused in the FIRST area and in the D build. -/
def Block.release (b : Block) (word : Nat) : Block :=
  let b := b.writeFields 0xC10C word
  let c := b.curNum
  let j := (b.cursor c).pos + 1
  if ¬ b.syn.agg ∨ b.is (F.COC_CUR_CTRL_AREA.ix c) ∨ b.f F.COC_STATUS_STATE ≠ 2 ∨ b.coc.nextJ < j ∨ j ≤ b.coc.rel then b
  else
    let b := { b with coc := ({ b.coc with rel := j } : Coc).reclaim }
    if b.is F.COC_STATUS_FULL ∧ b.coc.chans.length ≤ b.freePages then b.cocFull false else b

/-- Show a 64-bit value: the low word is read, the high word latched. -/
def lowHigh (v : Nat) : Nat × Nat := (v % 2 ^ 32, v / 2 ^ 32 % 2 ^ 32)

/-! Counters -/

/-- RAISE by software (R287, R288): slots 0 to 2,047 ignore it, which are all the D build has. -/
def Block.softRaise (b : Block) : Block :=
  let slot := b.f F.COC_MCTR_SEL_SLOT
  let v := b.f F.COC_MCTR_LO_VAL_LO + 2 ^ 32 * b.f F.COC_MCTR_HI_VAL_HI
  if ¬ b.syn.agg ∨ slot < 2048 then b
  else
    let n := b.coc.raises.length
    let b := b.raiseCtr slot v
    if b.coc.raises.length = n then b else b.setf F.COC_MCTR_CMD_DONE 0

/-- The slot software addresses. -/
def Block.ctrSlot (b : Block) : Nat := if b.syn.agg then b.f F.COC_MCTR_SEL_SLOT else b.f F.COC_MCTR_SEL_SLOT % 64

/-- The oldest raise stands in both copies (R287): DONE when none is left; a rebind's epoch goes on (R33). In the D build the two NOR
sectors take it now. -/
def Block.raiseDone (b : Block) : Block :=
  match b.coc.raises with
  | [] => b
  | (s, v, _) :: t =>
    let b := if b.syn.agg then b
      else { b with coc := { b.coc with logA := b.coc.logA.put s (max v (b.coc.logA.getD s 0)), logB := b.coc.logB.put s (max v (b.coc.logB.getD s 0)) } }
    if b.coc.logA.getD s 0 < v ∨ b.coc.logB.getD s 0 < v then b
    else
      let b := { b with coc := { b.coc with raises := t } }
      let b := if t = [] then b.setf F.COC_MCTR_CMD_DONE 1 else b
      let ldis := b.fab.topo.homeLdis ++ b.fab.topo.buddyLdis
      match ldis[s]? with
      | some ldi => if (b.fab.rebinds.find? (fun r => r.ldi == ldi && r.step == 1)).any (fun r => r.epoch == epochOf v) then b.epochRaised ldi else b
      | none => b

/-! Clear and format -/

/-- A long operation of Cocoon begins (R291): its intent stands in META, MGMT_BUSY rises. -/
def Block.opStart (b : Block) (o : CocOp) (busy : BusyOp) : Block := { b with coc := { b.coc with op := some o }, busy := some busy }

/-- CLEAR: taken while Cocoon is READY and no operation pends; else refused with OP_REFUSED (R291). -/
def Block.clearStart (b : Block) : Block :=
  if b.f F.COC_STATUS_STATE = 2 ∧ b.coc.op.isNone ∧ ¬ b.coc.flush then b.opStart .clear .clear else b.raise Ev.COC_OP_REFUSED

/-- FORMAT (R291): refused while unreleased records exist, unless FORCE releases them; the numbering goes to its counters first. -/
def Block.formatStart (b : Block) (force : Bool) : Block :=
  let unreleased := (b.index false).any (fun r => decide (b.coc.rel ≤ r.jpos)) || !b.coc.progs.isEmpty
  if b.f F.COC_STATUS_STATE < 2 ∨ b.coc.op.isSome ∨ b.coc.flush ∨ (unreleased ∧ ¬ force) then b.raise Ev.COC_OP_REFUSED
  else
    let b := if force then { b with coc := { b.coc with rel := max b.coc.rel b.coc.nextJ } } else b
    let coming := b.coc.progs.foldl (fun a g => a + (if g.reloc = 0 then g.recs.length else 0)) 0
    let b := if b.syn.agg then (b.raiseCtr 2044 (b.coc.nextG - 1)).raiseCtr 2045 (b.coc.nextJ + coming) else b
    b.opStart .format .format

/-- What CLEAR leaves (R277, R278, R291): no FIRST record; FIRST blocks and released LAST blocks erased. -/
def Coc.cleared (c : Coc) : Coc :=
  let c := { c with firsts := [], firstUsed := 0, firstFull := false, groups := c.groups.map (fun (g : Group) => { g with data := g.data.filter (fun p => !p.first) }) }
  let areaIs (k : Nat) : Bool := (match SMap.find c.usable (k / 2 ^ 24) with
    | some g => c.areaOf g (k % 2 ^ 24) == 1
    | none => false)
  let c := { c with blks := List.map (fun (p : Nat × Blk) => if areaIs p.1 ∧ p.2.phase ≠ 4 ∧ p.2.phase ≠ 0 then (p.1, { p.2 with phase := 3 }) else p) c.blks }
  { c.reclaim with nor := c.nor.filter (fun x => !x.first && decide (c.rel ≤ x.r.jpos)) }

/-- What FORMAT leaves (R277, R291): an empty medium, its numbering carried on, FIRST of the size COC_AREA gives; worn blocks stay worn and
retired ones retired. -/
def Coc.formatted (c : Coc) (agg : Bool) (gib : Nat) (keys : List OwnKey) (procs : List Proc) (shut : List Nat := []) : Coc :=
  let j := if agg then max (c.ctr 2045) c.nextJ else c.nextJ
  let g := if agg then max (c.ctr 2044 + 1) c.nextG else c.nextG
  { c with groups := [], firsts := [], firstUsed := 0, firstFull := false, firstSize := min 64 gib * 2 ^ 30, refresh := [], nor := [],
           blks := List.map (fun (p : Nat × Blk) => if p.2.phase = 4 ∨ p.2.phase = 0 then p else (p.1, { erases := p.2.erases + 1 })) c.blks,
           nextG := g, ckpt := g, nextJ := j, rel := j, ckptKeys := keys, ckptProcs := procs, ckptShut := shut }

/-- OP_DONE (R291): a clear or format ends; groups in programming come first. -/
def Block.opDone (b : Block) : Block :=
  let over_ (o : BusyOp) (b : Block) : Block :=
    (({ b with coc := { b.coc with op := none }, busy := if b.busy = some o then none else b.busy }).setf F.COC_STATUS_FULL 0).raise Ev.COC_OP_DONE
  if ¬ b.on dSTORE ∨ b.coc.opStop ∨ b.f F.COC_STATUS_STATE < 2 then b
  else
    match b.coc.op with
    | some .clear => over_ .clear { b with coc := b.coc.cleared }
    | some .format =>
      if b.coc.progs ≠ [] ∨ (b.syn.agg ∧ b.coc.raises.any (fun r => r.1 == 2044 || r.1 == 2045)) then b
      else over_ .format { b with coc := b.coc.formatted b.syn.agg (b.f F.COC_AREA_FIRST) b.que.keys b.que.procs b.vrd.shut }
    | none => b

/-! The NOR copy -/

/-- NOR_WRITE_DONE (R290): the oldest pending record's commit word is programmed. -/
def Coc.norDone (c : Coc) : Coc :=
  match c.nor.findIdx? (fun x => !x.done) with
  | some i => { c with nor := c.nor.zipIdx.map (fun p => if p.2 = i then { p.1 with done := true } else p.1) }
  | none => c

/-! Reads that latch (R292) -/

/-- A read of COC_REL_LO. -/
def Block.relLo (b : Block) : Nat × Block :=
  ((lowHigh b.coc.rel).1, { b with coc := { b.coc with relLatch := (lowHigh b.coc.rel).2 } })
/-- A read of COC_NEW_LO. -/
def Block.newLo (b : Block) : Nat × Block :=
  ((lowHigh b.coc.nextJ).1, { b with coc := { b.coc with newLatch := (lowHigh b.coc.nextJ).2 } })
/-- A read of COC_CUR_POS_LO. -/
def Block.curPosLo (b : Block) : Nat × Block :=
  let v := lowHigh (b.cursor b.curNum).pos
  (v.1, b.setCursor b.curNum { b.cursor b.curNum with latch := v.2 })
/-- A read of COC_MCTR_LO. -/
def Block.mctrLo (b : Block) : Nat × Block :=
  let v := lowHigh (b.coc.ctr b.ctrSlot)
  (v.1, { b with coc := { b.coc with ctrLatch := v.2 } })

/-! Meanings -/

/-- GROUP_CLOSE. -/
def execGroupClose (s : State) : Host.Outcome State Fault Refusal := s.lift Block.groupClose
/-- NAND_STATUS. -/
def execNandStatus (result : NandResult) (s : State) : Host.Outcome State Fault Refusal := s.lift (fun b => b.nandStatus result)
/-- TARGET_FAIL_TIMEOUT. -/
def execTargetFailTimeout (ch tgt : Nat) (s : State) : Host.Outcome State Fault Refusal := s.lift (fun b => b.targetTimeout ch tgt)
/-- PATROL_READ. -/
def execPatrolRead (ch tgt blk page : Nat) (ladder : Ladder) (s : State) : Host.Outcome State Fault Refusal :=
  s.lift (fun b => b.patrolRead ch tgt blk page ladder)
/-- JOURNAL_RECOVERY_DONE. -/
def execJournalRecoveryDone (bad : List (Nat × Nat × Nat)) (s : State) : Host.Outcome State Fault Refusal := s.lift (fun b => b.recoveryDone bad)
/-- COCOON_READY_TIMEOUT. -/
def execCocoonReadyTimeout (s : State) : Host.Outcome State Fault Refusal := s.lift Block.cocLate
/-- CURSOR_OLDEST. -/
def execCursorOldest (m : Master) (word : Nat) (s : State) : Host.Outcome State Fault Refusal :=
  s.lift (fun b => b.write m 0xC10C (word / 8 * 8 + 1) (fun b => b.curCommand 1 word))
/-- CURSOR_NEWEST. -/
def execCursorNewest (m : Master) (word : Nat) (s : State) : Host.Outcome State Fault Refusal :=
  s.lift (fun b => b.write m 0xC10C (word / 8 * 8 + 2) (fun b => b.curCommand 2 word))
/-- CURSOR_NEXT. -/
def execCursorNext (m : Master) (word : Nat) (s : State) : Host.Outcome State Fault Refusal :=
  s.lift (fun b => b.write m 0xC10C (word / 8 * 8 + 3) (fun b => b.curCommand 3 word))
/-- CURSOR_PREV. -/
def execCursorPrev (m : Master) (word : Nat) (s : State) : Host.Outcome State Fault Refusal :=
  s.lift (fun b => b.write m 0xC10C (word / 8 * 8 + 4) (fun b => b.curCommand 4 word))
/-- CURSOR_SEEK. -/
def execCursorSeek (m : Master) (word : Nat) (s : State) : Host.Outcome State Fault Refusal :=
  s.lift (fun b => b.write m 0xC10C (word / 8 * 8 + 5) (fun b => b.curCommand 5 word))
/-- CURSOR_RELEASE. -/
def execCursorRelease (m : Master) (word : Nat) (s : State) : Host.Outcome State Fault Refusal :=
  s.lift (fun b => b.write m 0xC10C (word / 8 * 8 + 6) (fun b => b.release word))
/-- CURSOR_LOAD_DONE. -/
def execCursorLoadDone (c : Nat) (s : State) : Host.Outcome State Fault Refusal := s.lift (fun b => b.loadDone (c % 4))
/-- REL_LO_READ. -/
def execRelLoRead (m : Master) (s : State) : Host.Outcome State Fault Refusal := s.lift (fun b => b.read m 0xC040 Block.relLo)
/-- NEW_LO_READ. -/
def execNewLoRead (m : Master) (s : State) : Host.Outcome State Fault Refusal := s.lift (fun b => b.read m 0xC048 Block.newLo)
/-- CUR_POS_READ. -/
def execCurPosRead (m : Master) (s : State) : Host.Outcome State Fault Refusal := s.lift (fun b => b.read m 0xC104 Block.curPosLo)
/-- MCTR_READ. -/
def execMctrRead (m : Master) (s : State) : Host.Outcome State Fault Refusal := s.lift (fun b => b.read m 0xC204 Block.mctrLo)
/-- COUNTER_RAISE. -/
def execCounterRaise (m : Master) (s : State) : Host.Outcome State Fault Refusal := s.lift (fun b => b.write m 0xC20C 1 Block.softRaise)
/-- COUNTER_RAISE_DONE. -/
def execCounterRaiseDone (s : State) : Host.Outcome State Fault Refusal := s.lift (fun b => if b.on dSTORE then b.raiseDone else b)
/-- COCOON_CLEAR. -/
def execCocoonClear (m : Master) (s : State) : Host.Outcome State Fault Refusal := s.lift (fun b => b.write m 0xC060 1 Block.clearStart)
/-- COCOON_FORMAT. -/
def execCocoonFormat (m : Master) (force : Bool) (s : State) : Host.Outcome State Fault Refusal :=
  s.lift (fun b => b.write m 0xC060 (if force then 6 else 2) (fun b => b.formatStart force))
/-- OP_DONE. -/
def execOpDone (s : State) : Host.Outcome State Fault Refusal := s.lift Block.opDone
/-- NOR_WRITE_DONE. -/
def execNorWriteDone (s : State) : Host.Outcome State Fault Refusal :=
  s.lift (fun b => if ¬ b.syn.agg ∧ b.on dSTORE then { b with coc := b.coc.norDone } else b)

end Sys2Proof.Machine
end

