-- ==== Sys2Proof/Machine/Trace.lean ====
section
/-! DEFINITION. Trace and hang rings (spec/04_trace_hang.md, R91 to R111): ticks, trigger machines, packets, drops, trace DMA, the hang
rings and their freeze. -/

namespace Sys2Proof.Machine

/-! Buffers -/

/-- A trace buffer. -/
def Block.tbuf (b : Block) (n : Nat) : TrcBuf := b.trc.bufs.getD n {}

/-- Put a trace buffer. -/
def Block.setTbuf (b : Block) (n : Nat) (t : TrcBuf) : Block := { b with trc := { b.trc with bufs := b.trc.bufs.put n t } }

/-- A field of a buffer's registers. -/
def Block.bf (b : Block) (x : Fld) (n : Nat) : Nat := b.f (x.at n 64)

/-- The state of a buffer's trigger machine (Table 4-4). -/
def Block.trcState (b : Block) (n : Nat) : Nat := b.bf F.TRC_BUF_CMD_STATE n

/-- The machine changes state: TRIG is raised (R101). -/
def Block.setTrcState (b : Block) (n st : Nat) : Block := (b.setf (F.TRC_BUF_CMD_STATE.at n 64) st).raise (Ev.TRC_TRIG0 + n)

/-- The size of a buffer: 256 KiB. -/
def trcSize : Nat := 262144

/-- Bytes held in a buffer. -/
def TrcBuf.used (t : TrcBuf) : Nat := (t.pkts.map (fun p => p.1)).foldl (· + ·) 0

/-- Write bytes into the circular store. -/
def storeBytes (m : SMap Byte) (at_ : Nat) (bs : List Byte) : SMap Byte :=
  match bs with
  | [] => m
  | x :: t => storeBytes (m.putD 0 (at_ % trcSize) x) (at_ + 1) t

/-- Write a packet at WR. -/
def TrcBuf.push (t : TrcBuf) (p : List Byte) (now : Nat) : TrcBuf :=
  { t with mem := storeBytes t.mem t.wr p, wr := (t.wr + p.length) % trcSize, pkts := t.pkts ++ [(p.length, now)] }

/-- Discard the oldest packet (RING, R104). -/
def TrcBuf.discard (t : TrcBuf) : TrcBuf :=
  match t.pkts with
  | p :: rest => { t with pkts := rest, rd := (t.rd + p.1) % trcSize, total := (t.total + p.1) % 2 ^ 40,
                          taken := t.taken - 1, passed := if t.taken = 0 then t.passed else t.passed + 1 }
  | [] => t

/-- Discard the oldest packets until n bytes fit (fuel: the packets held). -/
def TrcBuf.makeRoom (fuel : Nat) (t : TrcBuf) (n : Nat) : TrcBuf :=
  match fuel with
  | 0 => t
  | k + 1 => if trcSize < t.used + n then TrcBuf.makeRoom k t.discard n else t

/-! Conditions (Table 4-5) -/

/-- Whether a start or stop condition holds at a tick. -/
def Block.trcCond (b : Block) (t : TrcBuf) (code idx : Nat) : Bool :=
  match code with
  | 1 => true
  | 2 => t.fired.contains idx
  | 3 => t.ctxIn
  | 4 => t.ctxOut
  | 5 => b.is F.TRC_HANG_STATUS_FROZEN
  | 6 => b.trc.trig
  | _ => false

/-- What the machine does at a tick (R101): the new state and the TRIG packets (state, cause). -/
def Block.judgeTrig (b : Block) (n : Nat) (t : TrcBuf) : Nat × List (Nat × Nat) :=
  let st := b.trcState n
  let go := b.trcCond t (b.bf F.TRC_BUF_TRIG_START n) (b.bf F.TRC_BUF_TRIG_START_IDX n)
  let stop := b.trcCond t (b.bf F.TRC_BUF_TRIG_STOP n) (b.bf F.TRC_BUF_TRIG_STOP_IDX n)
  if t.stop ∧ st ≠ 0 then (0, [(0, 0xF)])
  else if st = 1 ∧ go then
    (if stop then (3, [(2, b.bf F.TRC_BUF_TRIG_START n), (3, b.bf F.TRC_BUF_TRIG_STOP n)]) else (2, [(2, b.bf F.TRC_BUF_TRIG_START n)]))
  else if st = 2 ∧ stop then (3, [(3, b.bf F.TRC_BUF_TRIG_STOP n)])
  else (st, [])

/-! Packets (Table 4-3) -/

/-- TS. -/
def pktTs (tick phase wall : Nat) : List Byte := leBytes 1 1 ++ leBytes 4 tick ++ leBytes 8 phase ++ leBytes 8 wall

/-- DROP. -/
def pktDrop (ds : List Nat) : List Byte := leBytes 1 2 ++ ds.flatMap (fun d => leBytes 2 (sat 16 d))

/-- TRIG. -/
def pktTrig (x : Nat × Nat) : List Byte := leBytes 1 3 ++ leBytes 1 x.1 ++ leBytes 1 x.2

/-- CTX. -/
def pktCtx (part : Nat) (c : Nat × Nat) : List Byte := leBytes 1 (64 + 8 * part) ++ leBytes 2 c.1 ++ leBytes 2 c.2

/-- The least number of bytes that hold a signed 48-bit difference (R98): 0 for 0, else the least of 1 to 5, else 6. -/
def deltaBytes (d : Int) : Nat :=
  if d = 0 then 0
  else ((List.range 5).map (· + 1)).find? (fun k => decide (-((2 ^ (8 * k - 1) : Nat) : Int) ≤ d) && decide (d < ((2 ^ (8 * k - 1) : Nat) : Int)))
    |>.getD 6

/-- SAMPLE (R98): FULL where the lane resynchronises or its difference needs 6 bytes. -/
def pktSample (lane pc stall tick last : Nat) (resync : Bool) : List Byte :=
  let d := signed 48 (pc % 2 ^ 48 + 2 ^ 48 - last % 2 ^ 48)
  let nb := if resync then 6 else deltaBytes d
  let full := nb = 6
  let field := if full then pc % 2 ^ 48 else (d % ((2 ^ 48 : Nat) : Int)).toNat
  leBytes 1 (128 + lane) ++ leBytes 1 (stall % 8 + (if full then 8 else 0) + nb * 16) ++ leBytes nb field
    ++ (if full then leBytes 2 tick else [])

/-! Ticks -/

/-- TRC_CTRL.PERIOD: values below 64 act as 64. -/
def Block.tickPeriod (b : Block) : Nat := max 64 (b.f F.TRC_CTRL_PERIOD)

/-- Whether lane n is sampled into buffer k at tick T (R94, R95). -/
def Block.sampled (b : Block) (k T n : Nat) : Bool :=
  let div := if b.f (F.TRC_LANE_CFG_DIV.ix n) = 0 then 256 else b.f (F.TRC_LANE_CFG_DIV.ix n)
  b.is (F.TRC_LANE_CFG_EN.ix n) && b.f (F.TRC_LANE_CFG_BUF.ix n) == k && T % div == 0
    && bit (b.bf F.TRC_BUF_CFG_PARTMASK k) (b.f (F.TRC_LANE_CFG_PART.ix n)) == 1

/-- The bytes kept free above 64 for samples of a priority (R102). -/
def Block.keepFree (b : Block) (k prio : Nat) : Nat :=
  1024 * (match prio with
    | 0 => b.bf F.TRC_BUF_TH_TH0 k
    | 1 => b.bf F.TRC_BUF_TH_TH1 k
    | 2 => b.bf F.TRC_BUF_TH_TH2 k
    | _ => 0)

/-- TRC_TS.INTERVAL in ticks. -/
def Block.tsInterval (b : Block) : Nat := min 0x8000 (atLeast1 (b.f F.TRC_TS_INTERVAL))

/-- A lane's PC and stall in this cycle: a lane that presents none gives stall 7 with its last PC (R94). -/
def Block.lanePc (b : Block) (lanes : List (Nat × Nat × Nat)) (n : Nat) : Nat × Nat :=
  match lanes.find? (fun x => x.1 == n) with
  | some x => (x.2.1 % 2 ^ 48, x.2.2 % 8)
  | none => (b.trc.lastPc.getD n 0, 7)

/-- The SAMPLE packets of a tick for a buffer (R98, R102): bytes of those written, the lanes written with their PCs, and drops by
priority. `room` is the free bytes, none in RING mode. -/
def Block.samples (b : Block) (k T : Nat) (lanes : List (Nat × Nat × Nat)) (resync : Bool) (room : Option Nat) :
    List (List Byte) × List (Nat × Nat) × List Nat :=
  let ls := (List.range 64).filter (b.sampled k T)
  let step (a : List (List Byte) × List (Nat × Nat) × List Nat × Nat) (n : Nat) : List (List Byte) × List (Nat × Nat) × List Nat × Nat :=
    let v := b.lanePc lanes n
    let p := pktSample n v.1 v.2 T (b.trc.lastPc.getD n 0) (resync || !b.trc.synced.contains (n, k))
    let prio := b.f (F.TRC_LANE_CFG_PRIO.ix n)
    let fits := match room with
      | none => true
      | some r => decide (a.2.2.2 + p.length + 64 + b.keepFree k prio ≤ r)
    if fits then (a.1 ++ [p], a.2.1 ++ [(n, v.1)], a.2.2.1, a.2.2.2 + p.length) else (a.1, a.2.1, a.2.2.1 ++ [prio], a.2.2.2)
  let r := ls.foldl step ([], [], [], 0)
  (r.1, r.2.1, r.2.2.1)

/-- Count dropped samples (R102): DROP, TRC_BUF_LOST. -/
def Block.countDrops (b : Block) (k : Nat) (ps : List Nat) : Block :=
  if ps = [] then b
  else
    let t := b.tbuf k
    let ds : List Nat := (List.zipIdx t.drops).map (fun (x : Nat × Nat) => x.1 + ps.count x.2)
    ((b.setTbuf k { t with drops := ds }).count (F.TRC_BUF_LOST_SAMPLES.at k 64) ps.length).raise (Ev.TRC_DROP0 + k)

/-- The state a buffer's machine goes to from POST (Table 4-4): ARMED where REARM = 1, else OFF. -/
def Block.postNext (b : Block) (k : Nat) : Nat := if b.bf F.TRC_BUF_TRIG_REARM k = 1 then 1 else 0

/-- The machine of a buffer leaves POST for a state; a STOP that OFF would find is over (R101). -/
def Block.leavePost (b : Block) (k st : Nat) (trigs : List (Nat × Nat)) : Block :=
  let t := b.tbuf k
  (b.setTbuf k { t with trigs := trigs, ended := none, stop := t.stop && st != 0 }).setTrcState k st

/-- POST ends when CMD.POST ticks have passed since its entry (R101): the tick at which the count expired has written the TRIG packet, cause
0x0E; where CMD.POST was made less since, the packet stands due at the next tick (log entry 34). -/
def Block.postEnd (b : Block) (k0 : Nat) : Block :=
  let k := k0 % 4
  let t := b.tbuf k
  if b.on dTRACE ∧ b.trcState k = 3 then
    match t.ended with
    | some st => b.leavePost k st t.trigs
    | none =>
      if t.entered + b.bf F.TRC_BUF_CMD_POST k < b.trc.ticks then b.leavePost k (b.postNext k) (t.trigs ++ [(b.postNext k, 0xE)]) else b
  else b

/-- The TRIG packet of POST's end, at the tick at which its count expires (R101). -/
def Block.endTrig (b : Block) (k N st entered : Nat) : Option Nat :=
  if st = 3 ∧ entered + b.bf F.TRC_BUF_CMD_POST k ≤ N then some (b.postNext k) else none

/-- One tick of a buffer, the Nth (R93 to R104): its machine is judged, then the packets of the tick are written in the order of R99; in
STREAM mode, a tick whose packets other than SAMPLE do not fit writes nothing. A partition that no context tag has named has the context
LAYER 0, OP 0 (DESIGN CHOICE: R96 names none; log entry 139). -/
def Block.tickBuf (b : Block) (N : Nat) (lanes : List (Nat × Nat × Nat)) (k : Nat) : Block :=
  let T := N % 2 ^ 32
  let t := b.tbuf k
  let st := b.trcState k
  let j := b.judgeTrig k t
  let b := j.2.foldl (fun b x => b.setTrcState k x.1) b
  let entering := st = 1 ∧ 2 ≤ j.1
  let active := 2 ≤ j.1
  let entered := if st ≠ 3 ∧ j.1 = 3 then N else t.entered
  let ended := b.endTrig k N j.1 entered
  let t := { t with trigs := t.trigs ++ j.2 ++ (ended.map (fun st => (st, 0xE))).toList, needTs := t.needTs || decide entering,
                    written := if entering then [] else t.written, entered := entered, ended := ended, stop := false, fired := [], ctxIn := false, ctxOut := false }
  let ring := b.bf F.TRC_BUF_CFG_MODE k = 1
  let parts := if active then (List.range 8).filter (fun p => bit (b.bf F.TRC_BUF_CFG_PARTMASK k) p == 1
      && t.written.find p != some (b.trc.ctx.getD p (0, 0))) else []
  let ctxs := parts.map (fun p => pktCtx p (b.trc.ctx.getD p (0, 0)))
  let tsDue := active && (t.needTs || decide (t.lastTs + b.tsInterval ≤ N))
  let dropDue := t.drops ≠ [0, 0, 0, 0]
  let pre (ts : Bool) : List (List Byte) :=
    (if dropDue then [pktDrop t.drops] else []) ++ t.trigs.map pktTrig ++ (if ts then [pktTs T b.phase b.wall] else []) ++ ctxs
  let ts := tsDue || decide dropDue
  let head := pre ts
  let headLen := (head.map List.length).foldl (· + ·) 0
  let free := trcSize - t.used
  let ss := if active then b.samples k T lanes ts (if ring then none else some (free - headLen)) else ([], [], [])
  let writes := t.trigs ≠ [] ∨ tsDue = true ∨ ctxs ≠ [] ∨ ss.1 ≠ []
  if ¬ writes then (b.setTbuf k t).countDrops k ss.2.2
  else if ¬ ring ∧ free < headLen then
    let all := if active then ((List.range 64).filter (b.sampled k T)).map (fun n => b.f (F.TRC_LANE_CFG_PRIO.ix n)) else []
    (b.setTbuf k t).countDrops k all
  else
    let ps := head ++ ss.1
    let n := (ps.map List.length).foldl (· + ·) 0
    let t := if ring then TrcBuf.makeRoom t.pkts.length t n else t
    let t := ps.foldl (fun (t : TrcBuf) p => t.push p b.trc.cyc) t
    let t := { t with trigs := [], drops := [0, 0, 0, 0], needTs := t.needTs && !ts, lastTs := if ts then N else t.lastTs,
                      written := parts.foldl (fun (m : SMap (Nat × Nat)) p => m.put p (b.trc.ctx.getD p (0, 0))) t.written }
    let synced := if ts then b.trc.synced.filter (fun x => x.2 != k) else b.trc.synced
    let done : List (Nat × Nat) := ss.2.1.map (fun (x : Nat × Nat) => (x.1, k))
    let b := b.setTbuf k t
    let b := { b with trc := { b.trc with
      synced := synced.filter (fun n => ! done.contains n) ++ done,
      lastPc := ss.2.1.foldl (fun (m : SMap Nat) (x : Nat × Nat) => m.put x.1 x.2) b.trc.lastPc } }
    b.countDrops k ss.2.2

/-- The cycle of the tick after this one: PERIOD cycles after it, or the first such cycle still to come (R93). -/
def Block.afterTick (b : Block) : Nat :=
  b.trc.nextAt + b.tickPeriod * ((b.trc.cyc - b.trc.nextAt) / b.tickPeriod + 1)

/-- TRACE_TICK (R93): every PERIOD cycles while EN = 1; a machine whose POST has ended is out of it before the next tick. -/
def Block.traceTick (b : Block) (lanes : List (Nat × Nat × Nat)) : Block :=
  if b.on dTRACE ∧ b.is F.TRC_CTRL_EN ∧ b.trc.nextAt ≤ b.trc.cyc then
    let N := b.trc.ticks
    let b := (List.range 4).foldl (fun b k => (b.postEnd k).tickBuf N lanes k) b
    let b := { b with trc := { b.trc with ticks := N + 1, nextAt := b.afterTick, trig := false } }
    b.setf F.TRC_STATUS_TICK (N % 2 ^ 32)
  else b

/-- EN has been set, or TRACE is there again with EN kept: the first tick falls in the next cycle (R93). The tick number goes on from where it
stood when EN was cleared (DESIGN CHOICE: R93 does not say that it starts again; log entry 138). -/
def Block.trcEnable (b : Block) : Block := { b with trc := { b.trc with nextAt := b.trc.cyc + 1 } }

/-- CMD.ARM (R101): OFF becomes ARMED; ignored outside OFF. The change's TRIG packet is due at the next tick, its cause a free value (R97 names
none for it; log entry 34). What a DUMP has not drained stays in the RING (R104). -/
def Block.trcArm (b : Block) (k : Nat) : Block :=
  if b.trcState k = 0 then
    let t := b.tbuf k
    (b.setTbuf k { t with trigs := t.trigs ++ [(1, (Config.armCause k b.trc.ticks).toNat)], stop := false, dump := false }).setTrcState k 1
  else b

/-- CMD.STOP (R101): OFF at the next tick; nothing in OFF. -/
def Block.trcStop (b : Block) (k : Nat) : Block :=
  if b.trcState k = 0 then b else b.setTbuf k { b.tbuf k with stop := true }

/-- CMD.DUMP (R104): in OFF, and in RING mode, the content is drained once; of an empty buffer there is none. -/
def Block.trcDump (b : Block) (k : Nat) : Block :=
  if b.trcState k = 0 ∧ b.bf F.TRC_BUF_CFG_MODE k = 1 ∧ (b.tbuf k).taken < (b.tbuf k).pkts.length then b.setTbuf k { b.tbuf k with dump := true } else b

/-- Whether a context matches a buffer's match values (Table 4-5). -/
def Block.ctxMatch (b : Block) (k : Nat) (c : Nat × Nat) : Bool :=
  let ml := b.bf F.TRC_BUF_MASK_LAYER k
  let mo := b.bf F.TRC_BUF_MASK_OP k
  (c.1 &&& ml) == (b.bf F.TRC_BUF_MATCH_LAYER k &&& ml) && (c.2 &&& mo) == (b.bf F.TRC_BUF_MATCH_OP k &&& mo)

/-- A context tag is presented (R96): a context that no tick has written to a buffer is lost to it. -/
def Block.contextTag (b : Block) (p0 layer op : Nat) : Block :=
  if b.on dTRACE then
    let p := p0 % 8
    let old := b.trc.ctx.getD p (0, 0)
    let new := (layer % 65536, op % 65536)
    let b := (List.range 4).foldl (fun b k =>
      let t := b.tbuf k
      let holds := 2 ≤ b.trcState k ∧ bit (b.bf F.TRC_BUF_CFG_PARTMASK k) p = 1
      let b := if holds ∧ old ≠ new ∧ t.written.find p ≠ some old then b.count (F.TRC_BUF_LOST_CTX.at k 64) else b
      if b.bf F.TRC_BUF_TRIG_CTXPART k = p then
        b.setTbuf k { t with ctxIn := t.ctxIn || (!b.ctxMatch k old && b.ctxMatch k new), ctxOut := t.ctxOut || (b.ctxMatch k old && !b.ctxMatch k new) }
      else b) b
    { b with trc := { b.trc with ctx := b.trc.ctx.put p new } }
  else b

/-- A rising TRC_TRIG (R92, R101). -/
def Block.trigEdge (b : Block) : Block := if b.on dTRACE then { b with trc := { b.trc with trig := true } } else b

/-- A wingbeat of an index has fired (Table 4-5, code 0x2). -/
def Block.trcFired (b : Block) (idx : Nat) : Block :=
  if b.on dTRACE then (List.range 4).foldl (fun b k => b.setTbuf k { b.tbuf k with fired := idx :: (b.tbuf k).fired }) b else b

/-! Trace DMA (R105) -/

/-- The bytes of a buffer's store from an offset on. -/
def readStore (m : SMap Byte) (at_ n : Nat) : List Byte := (List.range n).map (fun i => m.getD ((at_ + i) % trcSize) 0)

/-- As many whole packets as stay within a size, and their bytes. -/
def fitPkts (ps : List (Nat × Nat)) (size : Nat) : Nat × Nat :=
  match ps with
  | [] => (0, 0)
  | p :: t => if p.1 ≤ size then (let r := fitPkts t (size - p.1); (r.1 + 1, r.2 + p.1)) else (0, 0)

/-- Trace DMA forms a TRC_DATA record (R105) from whole packets, when enough wait, the oldest has waited 1 ms, or the machine is OFF; a
RING is drained in OFF only, after DUMP (R104). It waits while its queue is full under WAIT, with HOLD_FULL where the Hold Buffer is what has no
room (R243). -/
def Block.traceRecord (b : Block) (k0 : Nat) : Block :=
  let k := k0 % 4
  let t := b.tbuf k
  let ring := b.bf F.TRC_BUF_CFG_MODE k = 1
  let rest := t.pkts.drop t.taken
  let waiting := (rest.map (fun p => p.1)).foldl (· + ·) 0
  let size := (b.bf F.TRC_BUF_CFG_CHUNK k + 1) * 1024
  let old : Bool := match rest.head? with
    | some p => decide (p.2 + b.us 1000 ≤ b.trc.cyc)
    | none => false
  if b.on dTRACE ∧ rest ≠ [] ∧ (¬ ring ∨ (t.dump ∧ b.trcState k = 0)) ∧ (size ≤ waiting ∨ old ∨ b.trcState k = 0) then
    let skip := ((t.pkts.take t.taken).map (fun p => p.1)).foldl (· + ·) 0
    let f := fitPkts rest size
    let data := readStore t.mem (t.rd + skip) f.2
    let desc := leBytes 3 (k + (if ring then 4 else 0)) ++ leBytes 5 (t.total + skip)
    let q := b.bf F.TRC_BUF_QUEUE_QUEUE k
    let r := b.form q (b.bf F.TRC_BUF_QUEUE_STREAM k) 0x13 0 0 0 (desc ++ data ++ List.replicate ((8 - f.2 % 8) % 8) 0)
    if b.goesDirect (b.qnum q) r k ∧ b.traceWaits (b.qnum q) r then
      b.raiseIf (! b.holdRoom b.holdUsed (r.size + b.lossBytes (b.qnum q)) r.sev) Ev.QUE_HOLD_FULL
    else (b.setTbuf k { t with taken := t.taken + f.1, dump := t.dump && decide (f.1 < rest.length) }).arrive q r (some k) f.1
  else b

/-! Hang rings (R107 to R110) -/

/-- The free-running counter B: one every 64 CLK_CORE cycles (R108) in which TRACE is ON (R91). -/
def Block.hangB (b : Block) : Nat := b.trc.cyc / 64

/-- A unit's ring takes an event (R107, R108). -/
def HangUnit.store (u : HangUnit) (code b wall : Nat) : HangUnit :=
  let dt := match u.lastB with
    | some p => sat 16 (b - p)
    | none => 0xFFFF
  { ents := u.ents.put u.next (code % 65536, dt), next := (u.next + 1) % 64, wrapped := u.wrapped || u.next == 63,
    count := sat 16 (u.count + 1), wall := wall, lastB := some b }

/-- Events of the hang port in one cycle, by slot (R107): absent units are counted; frozen rings store nothing and count (R109). -/
def Block.hangEvents (b : Block) (slots : List (Nat × Nat)) : Block :=
  if b.on dTRACE then
    (slots.take 4).foldl (fun b x =>
      let u := x.1 % 8192
      if b.syn.hostUnits ≤ u then b.count F.TRC_HANG_STATUS_BADUNIT
      else if b.is F.TRC_HANG_STATUS_FROZEN then
        let n := b.trc.discard + 1
        ({ b with trc := { b.trc with discard := n % 256 } }).count F.TRC_HANG_STATUS_DISCARDED (n / 256)
      else { b with trc := { b.trc with units := b.trc.units.put u ((b.trc.units.getD u {}).store x.2 b.hangB b.wall) } }) b
  else b

/-- A unit's 16-byte header (R108). -/
def HangUnit.header (u : HangUnit) : List Byte :=
  leBytes 8 u.wall ++ leBytes 2 u.count ++ leBytes 1 (u.next + (if u.wrapped then 64 else 0)) ++ leBytes 5 0

/-- A unit's 64 entries. -/
def HangUnit.entries (u : HangUnit) : List Byte :=
  (List.range 64).flatMap (fun i => let e := u.ents.getD i (0, 0); leBytes 2 e.1 ++ leBytes 2 e.2)

/-- One HANG_SNAP record for each group of 64 units (R109). -/
def Block.hangSnap (b : Block) : Block :=
  (List.range ((b.syn.hostUnits + 63) / 64)).foldl (fun b g =>
    let n := min 64 (b.syn.hostUnits - 64 * g)
    b.emitRow 3 0x14 0 0 0 (leBytes 8 (64 * g + n * 2 ^ 13)
      ++ (List.range n).flatMap (fun i => let u := b.trc.units.getD (64 * g + i) {}; u.header ++ u.entries))) b

/-- The rings freeze, once (R109): cause 1 HNG_FREEZE, 2 software, 3 STEP_TIMEOUT. -/
def Block.hangFreeze (b : Block) (cause : Nat) : Block :=
  if b.on dTRACE ∧ ¬ b.is F.TRC_HANG_STATUS_FROZEN then
    let b := { b with trc := { b.trc with freezeWall := b.wall } }
    let b := ((b.setf F.TRC_HANG_STATUS_FROZEN 1).setf F.TRC_HANG_STATUS_CAUSE cause).setf F.TRC_HANG_WALL_LO_LO b.wall
    let b := b.raise Ev.TRC_FROZEN [(cause, 8)]
    if b.is F.TRC_HANG_CTRL_DUMP then b.hangSnap else b
  else b

/-- UNFREEZE, and CLEAR written with it (R109). CAUSE reads none from then on (DESIGN CHOICE: R109 says what a freeze records, not what
becomes of it; log entry 140). -/
def Block.hangUnfreeze (b : Block) (clear : Bool) : Block :=
  let b := (b.setf F.TRC_HANG_STATUS_FROZEN 0).setf F.TRC_HANG_STATUS_CAUSE 0
  if clear then { b with trc := { b.trc with units := [] } } else b

/-! Meanings (D build only, R91) -/

/-- A command of a buffer's CMD register, its RW field POST taken (R396). -/
def Block.trcCmd (b : Block) (m : Master) (k word cmd : Nat) (act : Block → Block) : Block :=
  let off := 0x4118 + 64 * (k % 4)
  let w := word / 65536 % 65536 * 65536 + cmd
  b.write m off w (fun b => if b.syn.agg then b else act (b.writeFields off w))

/-- TRACE_TICK. -/
def execTraceTick (lanes : List (Nat × Nat × Nat)) (s : State) : Host.Outcome State Fault Refusal := s.lift (fun b => b.traceTick lanes)
/-- POST_END. -/
def execPostEnd (buf : Nat) (s : State) : Host.Outcome State Fault Refusal := s.lift (fun b => b.postEnd buf)
/-- TRACE_ARM. -/
def execTraceArm (m : Master) (buf word : Nat) (s : State) : Host.Outcome State Fault Refusal :=
  s.lift (fun b => b.trcCmd m buf word 4 (fun b => b.trcArm (buf % 4)))
/-- TRACE_STOP. -/
def execTraceStop (m : Master) (buf word : Nat) (s : State) : Host.Outcome State Fault Refusal :=
  s.lift (fun b => b.trcCmd m buf word 8 (fun b => b.trcStop (buf % 4)))
/-- TRACE_DUMP. -/
def execTraceDump (m : Master) (buf word : Nat) (s : State) : Host.Outcome State Fault Refusal :=
  s.lift (fun b => b.trcCmd m buf word 16 (fun b => b.trcDump (buf % 4)))
/-- CONTEXT_TAG. -/
def execContextTag (part layer op : Nat) (s : State) : Host.Outcome State Fault Refusal := s.lift (fun b => b.contextTag part layer op)
/-- TRC_TRIG_EDGE. -/
def execTrcTrigEdge (s : State) : Host.Outcome State Fault Refusal := s.lift Block.trigEdge
/-- TRACE_RECORD_FORM. -/
def execTraceRecordForm (buf : Nat) (s : State) : Host.Outcome State Fault Refusal := s.lift (fun b => b.traceRecord buf)
/-- HANG_EVENT. -/
def execHangEvent (slots : List (Nat × Nat)) (s : State) : Host.Outcome State Fault Refusal := s.lift (fun b => b.hangEvents slots)
/-- HANG_FREEZE_PIN. -/
def execHangFreezePin (s : State) : Host.Outcome State Fault Refusal := s.lift (fun b => b.hangFreeze 1)
/-- HANG_FREEZE_CMD: a write of TRC_HANG_CTRL with FREEZE. -/
def execHangFreezeCmd (m : Master) (word : Nat) (s : State) : Host.Outcome State Fault Refusal :=
  let w := word / 8 % 4 * 8 + 1
  s.lift (fun b => b.write m 0x4200 w (fun b => if b.syn.agg then b else (b.writeFields 0x4200 w).hangFreeze 2))
/-- HANG_UNFREEZE: a write of TRC_HANG_CTRL with UNFREEZE; CLEAR qualifies it. -/
def execHangUnfreeze (m : Master) (word : Nat) (s : State) : Host.Outcome State Fault Refusal :=
  let w := word / 4 % 8 * 4 + 2
  s.lift (fun b => b.write m 0x4200 w (fun b => if b.syn.agg then b else (b.writeFields 0x4200 w).hangUnfreeze (bit w 2 == 1)))
/-- A read of TRC_HANG_WALL_LO (R110). -/
def Block.hangWallLo (b : Block) : Nat × Block := (b.f F.TRC_HANG_WALL_LO_LO, b.setf F.TRC_HANG_WALL_HI_HI (b.trc.freezeWall / 2 ^ 32))
/-- HANG_WALL_READ: a read of TRC_HANG_WALL_LO latches TRC_HANG_WALL_HI. -/
def execHangWallRead (m : Master) (s : State) : Host.Outcome State Fault Refusal :=
  s.lift (fun b => b.read m 0x4208 Block.hangWallLo)

end Sys2Proof.Machine
end

