-- ==== Sys2Proof/Machine/Effects.lean ====
section
/-! DEFINITION. What a change of configuration starts or ends in the units, whoever changed it: a software write before the first apply
(R10), or an apply (R305). -/

namespace Sys2Proof.Machine

/-- Where the phase comes from (R42, R43): 0 the port, 1 beacons, 2 none. The aggregator build keeps no phase. -/
def Block.phsrc (b : Block) : Nat := if b.syn.agg then 2 else min 2 (b.f F.ANT_CTRL_PHSRC)

/-- The step-strobe timeout counts from now (R45). -/
def Block.stepTimer (b : Block) : Block := { b with ant := { b.ant with stepFrom := b.clk.aon, stepHit := false } }

/-- The beacon timeout counts from now (R54). -/
def Block.beaconTimer (b : Block) : Block := { b with ant := { b.ant with bcnFrom := b.clk.aon, bcnHit := false } }

/-- The port's edge detector is loaded by the next sample (R43). -/
def Block.edgeReset (b : Block) : Block := { b with ant := { b.ant with sampled := false } }

/-- A change of PHSRC, or of what makes time wingbeats due (R43, R45, R54, R55). -/
def Block.antEffects (old b : Block) : Block :=
  let b := if b.phsrc = 0 ∧ old.phsrc ≠ 0 then (b.edgeReset).stepTimer else b
  let b := if b.phsrc = 1 ∧ old.phsrc ≠ 1 then b.beaconTimer else b
  if b.f F.ANT_CTRL_TWB_EN ≠ old.f F.ANT_CTRL_TWB_EN ∨ b.f F.ANT_TWB_PERIOD_PERIOD ≠ old.f F.ANT_TWB_PERIOD_PERIOD then
    { b with ant := { b.ant with twbFrom := b.nowUs } }
  else b

/-- COC_CTRL.EN changed (R266). -/
def Block.cocEffects (old b : Block) : Block :=
  if b.is F.COC_CTRL_EN ∧ ¬ old.is F.COC_CTRL_EN then (if b.on dSTORE then b.cocStart else b)
  else if old.is F.COC_CTRL_EN ∧ ¬ b.is F.COC_CTRL_EN then b.cocStop
  else b

/-- Lanes whose FENCE fell in this interval still taint their banks' snapshots (R82, Table 3-4). -/
def Block.laneEffects (old b : Block) : Block :=
  let fell := (old.copies F.PRB_LANE_CFG_FENCE 1).filter (fun n => b.f (F.PRB_LANE_CFG_FENCE.ix n) == 0)
  { b with prb := { b.prb with fenced := b.prb.fenced ++ fell.filter (fun n => !b.prb.fenced.contains n) } }

/-- What follows a change of the registers that no command of its own changes. SHED_EN = 0 holds the shed level at 0 (R330). -/
def Block.regEffects (old b : Block) : Block :=
  let b := (Block.cocEffects old (Block.antEffects old b))
  let b := if b.is F.STW_CTRL_SHED_EN ∨ b.f F.STW_STATUS_LEVEL = 0 then b else (b.setf F.STW_STATUS_LEVEL 0).raise Ev.STW_SHED
  let b := if b.is F.TRC_CTRL_EN ∧ ¬ old.is F.TRC_CTRL_EN then b.trcEnable else b
  let b := if b.is F.INT_CTRL_ST_EN ∧ ¬ old.is F.INT_CTRL_ST_EN then { b with int := { b.int with dueAt := b.clk.core } } else b
  Block.laneEffects old b

end Sys2Proof.Machine
end

