-- ==== Sys2Proof/Machine/Crypto.lean ====
section
/-! DEFINITION. The published algorithms that the block uses (spec/00_scope.md, Standards): SHA-256 and HMAC-SHA-256
(FIPS 180-4, FIPS 198-1), SHA-384, and ECDSA over P-384 (FIPS 186-5), over bytes and numbers. -/

namespace Sys2Proof.Machine

/-- Round constants of SHA-256, part 1. -/
def sha256K_0 : List Nat :=
  [0x428A2F98, 0x71374491, 0xB5C0FBCF, 0xE9B5DBA5, 0x3956C25B, 0x59F111F1, 0x923F82A4, 0xAB1C5ED5,
   0xD807AA98, 0x12835B01, 0x243185BE, 0x550C7DC3, 0x72BE5D74, 0x80DEB1FE, 0x9BDC06A7, 0xC19BF174,
   0xE49B69C1, 0xEFBE4786, 0x0FC19DC6, 0x240CA1CC, 0x2DE92C6F, 0x4A7484AA, 0x5CB0A9DC, 0x76F988DA,
   0x983E5152, 0xA831C66D, 0xB00327C8, 0xBF597FC7, 0xC6E00BF3, 0xD5A79147, 0x06CA6351, 0x14292967]

/-- Round constants of SHA-256, part 2. -/
def sha256K_1 : List Nat :=
  [0x27B70A85, 0x2E1B2138, 0x4D2C6DFC, 0x53380D13, 0x650A7354, 0x766A0ABB, 0x81C2C92E, 0x92722C85,
   0xA2BFE8A1, 0xA81A664B, 0xC24B8B70, 0xC76C51A3, 0xD192E819, 0xD6990624, 0xF40E3585, 0x106AA070,
   0x19A4C116, 0x1E376C08, 0x2748774C, 0x34B0BCB5, 0x391C0CB3, 0x4ED8AA4A, 0x5B9CCA4F, 0x682E6FF3,
   0x748F82EE, 0x78A5636F, 0x84C87814, 0x8CC70208, 0x90BEFFFA, 0xA4506CEB, 0xBEF9A3F7, 0xC67178F2]

/-- Round constants of SHA-256. -/
def sha256K : List Nat := sha256K_0 ++ sha256K_1

/-- Initial value of SHA-256 -/
def sha256H : List Nat :=
  [0x6A09E667, 0xBB67AE85, 0x3C6EF372, 0xA54FF53A, 0x510E527F, 0x9B05688C, 0x1F83D9AB, 0x5BE0CD19]

/-- Round constants of SHA-512, part 1. -/
def sha512K_0 : List Nat :=
  [0x428A2F98D728AE22, 0x7137449123EF65CD, 0xB5C0FBCFEC4D3B2F, 0xE9B5DBA58189DBBC,
   0x3956C25BF348B538, 0x59F111F1B605D019, 0x923F82A4AF194F9B, 0xAB1C5ED5DA6D8118,
   0xD807AA98A3030242, 0x12835B0145706FBE, 0x243185BE4EE4B28C, 0x550C7DC3D5FFB4E2,
   0x72BE5D74F27B896F, 0x80DEB1FE3B1696B1, 0x9BDC06A725C71235, 0xC19BF174CF692694,
   0xE49B69C19EF14AD2, 0xEFBE4786384F25E3, 0x0FC19DC68B8CD5B5, 0x240CA1CC77AC9C65,
   0x2DE92C6F592B0275, 0x4A7484AA6EA6E483, 0x5CB0A9DCBD41FBD4, 0x76F988DA831153B5,
   0x983E5152EE66DFAB, 0xA831C66D2DB43210, 0xB00327C898FB213F, 0xBF597FC7BEEF0EE4,
   0xC6E00BF33DA88FC2, 0xD5A79147930AA725, 0x06CA6351E003826F, 0x142929670A0E6E70,
   0x27B70A8546D22FFC, 0x2E1B21385C26C926, 0x4D2C6DFC5AC42AED, 0x53380D139D95B3DF,
   0x650A73548BAF63DE, 0x766A0ABB3C77B2A8, 0x81C2C92E47EDAEE6, 0x92722C851482353B]

/-- Round constants of SHA-512, part 2. -/
def sha512K_1 : List Nat :=
  [0xA2BFE8A14CF10364, 0xA81A664BBC423001, 0xC24B8B70D0F89791, 0xC76C51A30654BE30,
   0xD192E819D6EF5218, 0xD69906245565A910, 0xF40E35855771202A, 0x106AA07032BBD1B8,
   0x19A4C116B8D2D0C8, 0x1E376C085141AB53, 0x2748774CDF8EEB99, 0x34B0BCB5E19B48A8,
   0x391C0CB3C5C95A63, 0x4ED8AA4AE3418ACB, 0x5B9CCA4F7763E373, 0x682E6FF3D6B2B8A3,
   0x748F82EE5DEFB2FC, 0x78A5636F43172F60, 0x84C87814A1F0AB72, 0x8CC702081A6439EC,
   0x90BEFFFA23631E28, 0xA4506CEBDE82BDE9, 0xBEF9A3F7B2C67915, 0xC67178F2E372532B,
   0xCA273ECEEA26619C, 0xD186B8C721C0C207, 0xEADA7DD6CDE0EB1E, 0xF57D4F7FEE6ED178,
   0x06F067AA72176FBA, 0x0A637DC5A2C898A6, 0x113F9804BEF90DAE, 0x1B710B35131C471B,
   0x28DB77F523047D84, 0x32CAAB7B40C72493, 0x3C9EBE0A15C9BEBC, 0x431D67C49C100D4C,
   0x4CC5D4BECB3E42B6, 0x597F299CFC657E2A, 0x5FCB6FAB3AD6FAEC, 0x6C44198C4A475817]

/-- Round constants of SHA-512. -/
def sha512K : List Nat := sha512K_0 ++ sha512K_1

/-- Initial value of SHA-384 -/
def sha384H : List Nat :=
  [0xCBBB9D5DC1059ED8, 0x629A292A367CD507, 0x9159015A3070DD17, 0x152FECD8F70E5939,
   0x67332667FFC00B31, 0x8EB44A8768581511, 0xDB0C2E0D64F98FA7, 0x47B5481DBEFA4FA4]

/-- Rotate right in a word of w bits. -/
def rotr (w n x : Nat) : Nat := (x >>> n) ||| (x <<< (w - n) % 2 ^ w)

/-- The parameters in which SHA-256 and SHA-384 differ: word width, the six rotation triples' amounts, round constants. -/
structure ShaParams where
  w : Nat
  s0 : Nat × Nat × Nat
  s1 : Nat × Nat × Nat
  b0 : Nat × Nat × Nat
  b1 : Nat × Nat × Nat
  k : List Nat

/-- SHA-256. -/
def sha256P : ShaParams := ⟨32, (7, 18, 3), (17, 19, 10), (2, 13, 22), (6, 11, 25), sha256K⟩

/-- SHA-384 (the functions of SHA-512). -/
def sha384P : ShaParams := ⟨64, (1, 8, 7), (19, 61, 6), (28, 34, 39), (14, 18, 41), sha512K⟩

/-- The small sigma functions: two rotations and a shift. -/
def smallSig (w : Nat) (r : Nat × Nat × Nat) (x : Nat) : Nat := rotr w r.1 x ^^^ rotr w r.2.1 x ^^^ (x >>> r.2.2)

/-- The big sigma functions: three rotations. -/
def bigSig (w : Nat) (r : Nat × Nat × Nat) (x : Nat) : Nat := rotr w r.1 x ^^^ rotr w r.2.1 x ^^^ rotr w r.2.2 x

/-- One round: the window of the next 16 schedule words (first is used now), the eight working values. -/
def shaRound (p : ShaParams) (st : List Nat × List Nat) (k : Nat) : List Nat × List Nat :=
  match st.1, st.2 with
  | w0 :: ws, [a, b, c, d, e, f, g, h] =>
    let m := 2 ^ p.w
    let t1 := (h + bigSig p.w p.b1 e + ((e &&& f) ^^^ ((m - 1 - e) &&& g)) + k + w0) % m
    let t2 := (bigSig p.w p.b0 a + ((a &&& b) ^^^ (a &&& c) ^^^ (b &&& c))) % m
    let nw := (smallSig p.w p.s1 ((ws[13]?).getD 0) + (ws[8]?).getD 0 + smallSig p.w p.s0 ((ws[0]?).getD 0) + w0) % m
    (ws ++ [nw], [(t1 + t2) % m, a, b, c, (d + t1) % m, e, f, g])
  | _, v => (st.1, v)

/-- The big-endian words of a block. -/
def beWords (n : Nat) (fuel : Nat) (bs : List Byte) : List Nat :=
  match fuel with
  | 0 => []
  | f + 1 => match bs with
    | [] => []
    | _ => ofBe (bs.take n) :: beWords n f (bs.drop n)

/-- One block: the rounds, then the sum with the chaining value. -/
def shaBlock (p : ShaParams) (hv : List Nat) (blk : List Byte) : List Nat :=
  let r := p.k.foldl (shaRound p) (beWords (p.w / 8) 16 blk, hv)
  (hv.zip r.2).map (fun q => (q.1 + q.2) % 2 ^ p.w)

/-- The padding: 0x80, zeros, the bit length in the last two words. -/
def shaPad (p : ShaParams) (bs : List Byte) : List Byte :=
  let blk := 2 * p.w
  let tail := p.w / 4
  let used := bs.length + 1 + tail
  let z := (blk - used % blk) % blk
  bs ++ [0x80] ++ List.replicate z 0 ++ beBytes tail (8 * bs.length)

/-- All blocks of a padded message. -/
def shaBlocks (p : ShaParams) (fuel : Nat) (hv : List Nat) (bs : List Byte) : List Nat :=
  match fuel with
  | 0 => hv
  | f + 1 => match bs with
    | [] => hv
    | _ => shaBlocks p f (shaBlock p hv (bs.take (2 * p.w))) (bs.drop (2 * p.w))

/-- SHA-256 of bytes, as 32 bytes. -/
def sha256 (bs : List Byte) : List Byte :=
  let m := shaPad sha256P bs
  (shaBlocks sha256P m.length sha256H m).flatMap (beBytes 4)

/-- SHA-384 of bytes, as 48 bytes. -/
def sha384 (bs : List Byte) : List Byte :=
  let m := shaPad sha384P bs
  ((shaBlocks sha384P m.length sha384H m).take 6).flatMap (beBytes 8)

/-- XOR each byte with a constant. -/
def xorPad (bs : List Byte) (c : Byte) : List Byte := bs.map (fun b => b ^^^ c)

/-- HMAC-SHA-256 with a key of at most 64 bytes. -/
def hmac256 (key msg : List Byte) : List Byte :=
  let k := key ++ List.replicate (64 - key.length) 0
  sha256 (xorPad k 0x5C ++ sha256 (xorPad k 0x36 ++ msg))

/-! ECDSA over P-384 -/

/-- The field prime of P-384: 2^384 - 2^128 - 2^96 + 2^32 - 1. -/
def p384 : Nat := 2 ^ 384 - 2 ^ 128 - 2 ^ 96 + 2 ^ 32 - 1

/-- The order of the base point. -/
def n384 : Nat :=
  0xFFFFFFFFFFFFFFFFFFFFFFFFFFFFFFFFFFFFFFFFFFFFFFFFC7634D81F4372DDF581A0DB248B0A77AECEC196ACCC52973

/-- The curve's b. -/
def b384 : Nat :=
  0xB3312FA7E23EE7E4988E056BE3F82D19181D9C6EFE8141120314088F5013875AC656398D8A2ED19D2A85C8EDD3EC2AEF

/-- The base point. -/
def g384 : Nat × Nat :=
  (0xAA87CA22BE8B05378EB1C71EF320AD746E1D3B628BA79B9859F741E082542A385502F25DBF55296C3A545E3872760AB7,
   0x3617DE4A96262C6F5D9E98BF9292DC29F8F41DBD289A147CE9DA3113B5F0B8C00A60B1CE1D7E819D7A431D7C90EA0E5F)

/-- a^e mod m by squaring, over the bits of e (fuel bounds them). -/
def powMod (fuel a e m : Nat) : Nat :=
  match fuel with
  | 0 => 1 % m
  | f + 1 =>
    if e = 0 then 1 % m
    else
      let h := powMod f (a * a % m) (e / 2) m
      if e % 2 = 1 then a * h % m else h

/-- The inverse modulo a prime. -/
def invMod (a m : Nat) : Nat := powMod 384 a (m - 2) m

/-- A point of the curve: none is the point at infinity. -/
abbrev Point := Option (Nat × Nat)

/-- Point addition on P-384 (a = -3). -/
def pointAdd (x y : Point) : Point :=
  match x, y with
  | none, q => q
  | p, none => p
  | some (x1, y1), some (x2, y2) =>
    if x1 = x2 ∧ (y1 + y2) % p384 = 0 then none
    else
      let l := if x1 = x2 then (3 * x1 * x1 + p384 - 3) * invMod (2 * y1 % p384) p384 % p384
               else (y2 + p384 - y1) * invMod ((x2 + p384 - x1) % p384) p384 % p384
      let x3 := (l * l + 2 * p384 - x1 - x2) % p384
      some (x3, (l * (x1 + p384 - x3) + p384 - y1) % p384)

/-- k times a point, over the bits of k. -/
def pointMul (fuel k : Nat) (q : Point) : Point :=
  match fuel with
  | 0 => none
  | f + 1 =>
    if k = 0 then none
    else
      let h := pointMul f (k / 2) (pointAdd q q)
      if k % 2 = 1 then pointAdd q h else h

/-- Whether a point lies on P-384. -/
def onCurve (x y : Nat) : Bool :=
  decide (x < p384) && decide (y < p384) && decide (y * y % p384 = (x * x * x + (p384 - 3) * x + b384) % p384)

/-- ECDSA P-384 verification over SHA-384 (FIPS 186-5): message, public key, r and s. -/
def ecdsaVerify (msg : List Byte) (qx qy r s : Nat) : Bool :=
  if r = 0 ∨ n384 ≤ r ∨ s = 0 ∨ n384 ≤ s ∨ ¬ onCurve qx qy then false
  else
    let e := ofBe (sha384 msg)
    let w := invMod s n384
    match pointAdd (pointMul 384 (e * w % n384) (some g384)) (pointMul 384 (r * w % n384) (some (qx, qy))) with
    | some (x, _) => x % n384 == r
    | none => false

end Sys2Proof.Machine
end

