-- ==== Sys2Proof/Machine/Security.lean ====
section
/-! DEFINITION. The Security unit (spec/17_security_debug.md, R366 to R376): key store, unlock, lockout, revocation, test port. -/

namespace Sys2Proof.Machine

/-! Key store -/

/-- Bytes [i, i + n) of the key store. -/
def keyBytes (k : SMap Byte) (i n : Nat) : List Byte := (List.range n).map (fun j => k.getD (i + j) 0)

/-- KEYID of a slot (Table 17-1). -/
def slotKeyId (k : SMap Byte) (slot : Nat) : Nat := ofLe (keyBytes k (102 * slot) 4)

/-- Whether a slot holds a key. -/
def slotPresent (k : SMap Byte) (slot : Nat) : Bool := k.getD (102 * slot + 100) 0 == 1

/-- Whether a slot's key is revoked. -/
def slotRevoked (k : SMap Byte) (slot : Nat) : Bool := k.getD (102 * slot + 101) 0 == 1

/-- A slot's public key. -/
def slotKey (k : SMap Byte) (slot : Nat) : Nat × Nat :=
  (ofBe (keyBytes k (102 * slot + 4) 48), ofBe (keyBytes k (102 * slot + 52) 48))

/-- The slots present and not revoked. -/
def liveSlots (k : SMap Byte) : List Nat := (List.range 8).filter (fun i => slotPresent k i && !slotRevoked k i)

/-- The bytes the OTP's CRC covers: 0x000 to 0x36F with each REVOKED byte taken as 0 (R366). -/
def otpCrcBytes (k : SMap Byte) : List Byte :=
  (List.range 0x370).map (fun i => if i < 816 ∧ i % 102 = 101 then 0 else k.getD i 0)

/-- Whether the stored CRC matches (R366). -/
def otpOk (k : SMap Byte) : Bool := crc32c (otpCrcBytes k) == ofLe (keyBytes k 0x374 4)

/-- SEALED: byte 0x370 [0]. -/
def Block.sealed (b : Block) : Bool := bit (b.sec.keys.getD 0x370 0).toNat 0 == 1

/-- The stored password digest. -/
def Block.pwDigest (b : Block) : List Byte := keyBytes b.sec.keys 0x350 32

/-- The OTP is read at a POR release (R366, R389): the key store, the CRC's outcome, OTP_ERR on a mismatch. -/
def Block.readOtp (b : Block) : Block :=
  let ok := otpOk b.sec.otp
  ({ b with sec := { b.sec with keys := b.sec.otp, crcOk := ok } }).raiseIf (!ok) Ev.SEC_OTP_ERR

/-! Unlock -/

/-- Change a master's record. -/
def Block.setSec (b : Block) (m : Master) (f : MasterSec → MasterSec) : Block :=
  { b with sec := b.sec.set m (f (b.sec.of m)) }

/-- CLK_AON cycles in a second. -/
def aonSec : Nat := 25000000

/-- Whether a master is in lockout (R372). -/
def Block.lockedOut (b : Block) (m : Master) : Bool :=
  match (b.sec.of m).lockEnd with
  | some e => decide (b.clk.aon < e)
  | none => false

/-- The live nonce of a master: within 10 s of CHAL and before its first RESPOND (R371). -/
def Block.liveNonce (b : Block) (m : Master) : Option Nat :=
  match (b.sec.of m).nonce with
  | some (v, e) => if b.clk.aon < e then some v else none
  | none => none

/-- CHAL: a new nonce, 256 free bits, live for 10 s (R371; log entry 4). -/
def Block.chal (b : Block) (m : Master) : Block :=
  let p := b.fresh
  p.2.setSec m (fun x => { x with nonce := some (p.1 % 2 ^ 256, b.clk.aon + 10 * aonSec) })

/-- SEC_RESP as bytes: eight words, little-endian each. -/
def MasterSec.respBytes (x : MasterSec) : List Byte := x.resp.flatMap (leBytes 4)

/-- The challenge message (Table 17-3). -/
def Block.chalMsg (b : Block) (m : Master) (nonce word : Nat) : List Byte :=
  leBytes 32 nonce ++ leBytes 4 (b.f F.SELF_PLOC_PLOC) ++ leBytes 4 0x00030002 ++ leBytes 4 (bits word 4 12)
    ++ leBytes 1 m.num ++ leBytes 3 0

/-- An attempt ends with a result: SEC_RESP is cleared (R371). -/
def Block.attempt (b : Block) (m : Master) (result : Nat) : Block :=
  b.setSec m (fun x => { x with result := result, resp := [0, 0, 0, 0, 0, 0, 0, 0] })

/-- The lockout of n consecutive BAD results, in seconds (R372): 2^(n - 3) from the third, at most 1,024. -/
def lockoutSec (n : Nat) : Nat := if n < 3 then 0 else min 1024 (2 ^ (n - 3))

/-- BAD (R371, R372). -/
def Block.badAttempt (b : Block) (m : Master) : Block :=
  let n := (b.sec.of m).fails + 1
  let b := (b.attempt m 1).setSec m (fun x => { x with fails := n })
  let b := b.raise Ev.SEC_UNLOCK_FAIL [(m.num, 8)]
  if 3 ≤ n then
    (b.setSec m (fun x => { x with lockEnd := some (b.clk.aon + lockoutSec n * aonSec) })).raise Ev.SEC_LOCKOUT [(m.num, 8)]
  else b

/-- OK (R371): the requested rights and partitions join the grant. -/
def Block.goodAttempt (b : Block) (m : Master) (rights part : Nat) : Block :=
  let b := (b.attempt m 0).setSec m (fun x => { x with fails := 0, addR := x.addR ||| rights, addP := x.addP ||| part })
  b.raise Ev.SEC_UNLOCK [(m.num, 8)]

/-- RESPOND (R371): lockout first, then the live nonce, then the HMAC. The nonce is used up. -/
def Block.respond (b : Block) (m : Master) (word : Nat) : Block :=
  let x := b.sec.of m
  let n := b.liveNonce m
  let b := b.setSec m (fun x => { x with nonce := none })
  if b.lockedOut m then b.attempt m 2
  else match n with
    | none => b.attempt m 3
    | some v =>
      if hmac256 (keyBytes b.sec.keys 0x330 32) (b.chalMsg m v word) = x.respBytes then
        b.goodAttempt m (bits word 4 4) (bits word 8 8)
      else b.badAttempt m

/-- PASSWORD (R371): lockout first, then SEALED, then the digest. A password never grants KEYADMIN. -/
def Block.password (b : Block) (m : Master) (word : Nat) : Block :=
  if b.lockedOut m then b.attempt m 2
  else if b.sealed ∨ b.pwDigest = List.replicate 32 0xFF then b.attempt m 4
  else if sha256 (b.sec.of m).respBytes = b.pwDigest then b.goodAttempt m (bits word 4 3) (bits word 8 8)
  else b.badAttempt m

/-- RELOCK (R373): the master returns to its baseline. -/
def Block.relock (b : Block) (m : Master) : Block :=
  (b.setSec m (fun x => { x with addR := 0, addP := 0 })).raise Ev.SEC_RELOCK [(m.num, 8)]

/-- A nonce stops being live 10 s after CHAL (R371). -/
def Block.nonceExpire (b : Block) (m : Master) : Block :=
  if (b.liveNonce m).isSome then b else b.setSec m (fun x => { x with nonce := none })

/-- A lockout's time has passed (R372). -/
def Block.lockoutEnd (b : Block) (m : Master) : Block :=
  if b.lockedOut m then b else b.setSec m (fun x => { x with lockEnd := none })

/-! Revocation and the test port -/

/-- Whether R368 refuses the revocation of a slot. -/
def Block.revokeRefused (b : Block) (slot : Nat) : Bool :=
  b.sec.signer == some slot || liveSlots b.sec.keys == [slot]

/-- REVOKE (R368): the program of the REVOKED byte begins. -/
def Block.revoke (b : Block) (slot : Nat) : Block :=
  if b.sec.pgm.isSome then b else { b with sec := { b.sec with pgm := some slot } }

/-- A write of SEC_KEY_STAT with REVOKE (R368): refused with DENIED for the slot that signed ACTIVE and for the last live slot. -/
def Block.keyRevoke (b : Block) (m : Master) : Block :=
  let slot := b.f F.SEC_KEY_SEL_SLOT
  if b.respCode m 0x11078 0xF true 8 = 0 ∧ b.revokeRefused slot then
    (b.answer m 2 0).raise Ev.SEC_DENIED [(m.num, 8), (0x11078, 24)]
  else b.write m 0x11078 8 (fun b => b.revoke slot)

/-- The OTP program ends (R368, R389): done, the REVOKED byte is 0x01 at once and KEY_REVOKED is raised; failed, the revocation
is refused. -/
def Block.pgmDone (b : Block) (fail : Bool) : Block :=
  match b.sec.pgm with
  | none => b
  | some slot =>
    let b := { b with sec := { b.sec with pgm := none } }
    if fail then b
    else
      let i := 102 * slot + 101
      ({ b with sec := { b.sec with otp := b.sec.otp.put i 1, keys := b.sec.keys.put i 1 } }).raise Ev.SEC_KEY_REVOKED
        [(slotKeyId b.sec.keys slot, 32)]

/-- Clear the grant and nonce of the masters other than the test port, and the test port's nonce (R375). -/
def Block.scanClear (b : Block) : Block :=
  let z (x : MasterSec) : MasterSec := { x with addR := 0, addP := 0, nonce := none }
  { b with sec := { b.sec with mgmt := z b.sec.mgmt, vsb := z b.sec.vsb, test := { b.sec.test with nonce := none } } }

/-- A test-port instruction is loaded (R375, Table 17-5): private ones without DEBUG select bypass and raise JTAG_DENIED. -/
def Block.testInstr (b : Block) (code : Nat) : Block :=
  let put (b : Block) (c : Nat) : Block := { b with sec := { b.sec with jtag := c } }
  if code = 0x30 ∨ code = 0x31 then
    if bit (b.rights .test) 0 = 1 then put (if code = 0x31 then b.scanClear else b) code
    else (put b 0xFF).raise Ev.SEC_JTAG_DENIED
  else if code = 0x01 ∨ code = 0x10 ∨ code = 0x20 then put b code
  else put b 0xFF

/-- UNLOCK_CHAL. -/
def execUnlockChal (m : Master) (s : State) : Host.Outcome State Fault Refusal :=
  s.lift (fun b => b.write m 0x11050 1 (fun b => b.chal m))
/-- UNLOCK_RESPOND. -/
def execUnlockRespond (m : Master) (word : Nat) (s : State) : Host.Outcome State Fault Refusal :=
  s.lift (fun b => b.write m 0x11050 (word / 16 * 16 + 2) (fun b => b.respond m word))
/-- UNLOCK_PASSWORD. -/
def execUnlockPassword (m : Master) (word : Nat) (s : State) : Host.Outcome State Fault Refusal :=
  s.lift (fun b => b.write m 0x11050 (word / 16 * 16 + 4) (fun b => b.password m word))
/-- UNLOCK_RELOCK. -/
def execUnlockRelock (m : Master) (s : State) : Host.Outcome State Fault Refusal :=
  s.lift (fun b => b.write m 0x11050 8 (fun b => b.relock m))
/-- NONCE_EXPIRE. -/
def execNonceExpire (m : Master) (s : State) : Host.Outcome State Fault Refusal := s.lift (fun b => b.nonceExpire m)
/-- LOCKOUT_END. -/
def execLockoutEnd (m : Master) (s : State) : Host.Outcome State Fault Refusal := s.lift (fun b => b.lockoutEnd m)
/-- KEY_REVOKE. -/
def execKeyRevoke (m : Master) (s : State) : Host.Outcome State Fault Refusal := s.lift (fun b => b.keyRevoke m)
/-- KEY_PGM_DONE. -/
def execKeyPgmDone (fail : Bool) (s : State) : Host.Outcome State Fault Refusal := s.lift (fun b => b.pgmDone fail)
/-- TEST_INSTRUCTION. -/
def execTestInstruction (code : Nat) (s : State) : Host.Outcome State Fault Refusal := s.lift (fun b => b.testInstr code)

end Sys2Proof.Machine
end

