-- ==== Sys2Proof/Machine/ImageCheck.lean ====
section
/-! DEFINITION. The layout and the checks of a Fabric Image (spec/13_fabric_image.md, R293 to R298, R302). -/

namespace Sys2Proof.Machine

/-! Layout -/

/-- An entry of the section table (Table 13-2), with its place in the table and the bytes that must be 0. -/
structure Sect where
  i : Nat
  typ : Nat
  flags : Nat
  sminor : Nat
  off : Nat
  len : Nat
  zero : Nat
  deriving DecidableEq, Repr

/-- The section table of an image. -/
def imgSections (l : List Byte) : List Sect :=
  (List.range (leAt l 6 2)).map (fun i =>
    let o := 64 + 16 * i
    { i := i, typ := leAt l o 1, flags := leAt l (o + 1) 1, sminor := leAt l (o + 2) 2, off := leAt l (o + 4) 4, len := leAt l (o + 8) 4,
      zero := leAt l (o + 12) 4 })

/-- Whether a section is REQUIRED. -/
def Sect.required (x : Sect) : Bool := bit x.flags 0 == 1

/-- Whether a section's TYPE is reserved (Table 13-3). -/
def Sect.reserved (x : Sect) : Bool := x.typ == 0 || decide (9 ≤ x.typ)

/-- The block's version (R7). -/
def blockMajor : Nat := 3
/-- The minor version. -/
def blockMinor : Nat := 2

/-- Whether a section is skipped (R294). -/
def Sect.skipped (x : Sect) : Bool := x.reserved || decide (blockMinor < x.sminor)

/-- The section of a type that the block uses. -/
def imgSection (l : List Byte) (typ : Nat) : Option Sect := (imgSections l).find? (fun x => x.typ == typ && !x.skipped)

/-- Its body, none where it is absent or skipped. -/
def imgBody (l : List Byte) (typ : Nat) : Option (List Byte) := (imgSection l typ).map (fun x => slice l x.off x.len)

/-- BUILD of an image. -/
def imgBuild (l : List Byte) : Nat := leAt l 12 4

/-- TOPO of an image: the first 16 bytes of the digest of its TOPOLOGY body. -/
def imgTopo (l : List Byte) : Nat := leAt l 24 16

/-- The level at which an image is applied (Table 13-4): 0 EXACT, 1 BACKWARD, 2 FORWARD. -/
def imgLevel (l : List Byte) : Nat :=
  let m := leAt l 10 2
  if m = blockMinor then 0 else if m < blockMinor then 1 else 2

/-- An entry of the INSTANCE section (R295). -/
structure Inst where
  ploc : Nat
  lai : Nat
  root : Bool
  standby : Bool
  tags : List Nat
  board : List Nat
  off : Nat
  count : Nat
  deriving DecidableEq, Repr

/-- The entries of an INSTANCE body. -/
def instances (l : List Byte) : List Inst :=
  (List.range (l.length / 32)).map (fun k =>
    let o := 32 * k
    { ploc := leAt l o 4, lai := leAt l (o + 4) 2, root := bit (leAt l (o + 6) 2) 0 == 1, standby := bit (leAt l (o + 6) 2) 1 == 1,
      tags := [leAt l (o + 8) 2, leAt l (o + 10) 2, leAt l (o + 12) 2, leAt l (o + 14) 2],
      board := [leAt l (o + 16) 2, leAt l (o + 18) 2, leAt l (o + 28) 2, leAt l (o + 30) 2],
      off := leAt l (o + 20) 4, count := leAt l (o + 24) 4 })

/-- The entry of a PLOC. -/
def imgInst (l : List Byte) (ploc : Nat) : Option Inst := (instances ((imgBody l 1).getD [])).find? (fun e => e.ploc == ploc)

/-- The writes of a REGS body (R296): offset and value. -/
def regWrites (l : List Byte) : List (Nat × Nat) := (List.range (l.length / 8)).map (fun k => (leAt l (8 * k) 4, leAt l (8 * k + 4) 4))

/-- The writes that an instance takes: the common list, which is every write in no instance's own list, then its own. -/
def imgWrites (l : List Byte) (e : Inst) : List (Nat × Nat) :=
  let ws := regWrites ((imgBody l 3).getD [])
  let es := instances ((imgBody l 1).getD [])
  let own (x : Inst) (k : Nat) : Bool := decide (x.off / 8 ≤ k) && decide (k < x.off / 8 + x.count)
  let common := (ws.zipIdx.filter (fun p => !es.any (fun x => own x p.2))).map (fun p => p.1)
  common ++ (ws.drop (e.off / 8)).take e.count

/-! Register writes of an image -/

/-- One write of a REGS list: RW and RWL fields take their values (R296); one of TARIFF_AT_HI changes its tariff entry (R205). -/
def Block.imgPut (b : Block) (w : Nat × Nat) : Block :=
  match regAt b.syn.agg w.1 with
  | some (r, k) =>
    let i := b.selector r.sel
    let word := if w.1 = 0xF204 ∧ b.f F.IRQ_SRC_SEL_SRC < 480 then w.2 &&& 0xFFFFF9FF else w.2
    let b := r.fields.foldl (fun b' f => if f.acc = .rw ∨ f.acc = .rwl then b'.setf (f.at r k i) (bits word f.lo f.w) else b') b
    if w.1 = 0x7218 ∧ b.syn.agg then b.tariffSet w.2 else b
  | none => b

/-- BOARD of each asymmetry register from the INSTANCE entry; the mirror links' are the aggregator's (R295). -/
def Block.imgBoard (b : Block) (e : Inst) : Block :=
  (e.board.zipIdx.filter (fun p => b.syn.agg || decide (p.2 < 2))).foldl (fun b p => b.setf (F.ANT_ASYM_BOARD.at p.2) p.1) b

/-- The registers as an image leaves them. -/
def Block.imgRegs (b : Block) (l : List Byte) (e : Inst) : Block := (imgWrites l e).foldl Block.imgPut (b.imgBoard e)

/-- The bits of a register that some field names. -/
def RegSpec.named (r : RegSpec) : Nat := r.fields.foldl (fun a f => a + maxOf f.w * 2 ^ f.lo) 0

/-- Whether a write breaks R296: the offset, a bit of a WO, W1C or RC field, a value in an RO field, or, unless the level is FORWARD, in
reserved bits. -/
def badWrite (agg fwd : Bool) (w : Nat × Nat) : Bool :=
  let off := w.1
  !((0x1000 ≤ off && off < 0x10000) || (0x11000 ≤ off && off < 0x12000)) || off % 4 != 0
    || (match regAt agg off with
        | some (r, _) =>
          r.fields.any (fun f => f.acc != .rw && f.acc != .rwl && bits w.2 f.lo f.w != 0) || (!fwd && w.2 &&& r.named != w.2)
        | none => false)

/-! Checks (Table 13-5) -/

/-- A failed check: CODE, the section table index, REGION. -/
abbrev ImgErr := Nat × Nat × Nat

/-- A failure that no register region is named for. -/
def imgErr (code : Nat) (i : Nat := 0) : Option ImgErr := some (code, i, 0x1F)

/-- Whether two bodies overlap. -/
def Sect.overlaps (x y : Sect) : Bool :=
  x.i != y.i && x.len != 0 && y.len != 0 && decide (x.off < y.off + y.len) && decide (y.off < x.off + x.len)

/-- Whether an entry of the section table is malformed. -/
def Sect.bad (l : List Byte) (secs : List Sect) (x : Sect) : Bool :=
  2 ≤ x.flags || x.zero != 0 || x.off % 8 != 0 || decide (x.off < 64 + 16 * secs.length) || decide (l.length - 112 < x.off + x.len)
    || secs.any (fun y => decide (y.i < x.i) && (y.typ == x.typ || x.overlaps y))

/-- FORMAT. -/
def checkFormat (l : List Byte) : Option ImgErr :=
  let n := leAt l 6 2
  let secs := imgSections l
  if l.length < 64 + 16 + 112 ∨ leAt l 0 4 ≠ 0x46494D33 ∨ leAt l 16 8 ≠ l.length ∨ 4 ≤ leAt l 4 1 ∨ leAt l 5 1 ≠ 0
      ∨ ofLe (slice l 40 24) ≠ 0 ∨ n = 0 ∨ 64 < n ∨ l.length < 64 + 16 * n + 112 ∨ ofLe (slice l (l.length - 108) 12) ≠ 0 then imgErr 1
  else
    match secs.find? (Sect.bad l secs) with
    | some x => imgErr 1 x.i
    | none =>
      match secs.find? (fun x => x.typ == 2), secs.find? (fun x => x.typ == 3) with
      | some t, some _ => if (sha384 (slice l t.off t.len)).take 16 = slice l 24 16 then none else imgErr 1 t.i
      | _, _ => imgErr 1

/-- SIZE: above the role's limit (R293), or not the words that FIM_SIZE names. -/
def checkSize (l : List Byte) (wordsOk : Bool) : Option ImgErr :=
  if (if leAt l 4 1 % 4 = 0 then 8388608 else 50331648) < l.length ∨ ¬ wordsOk then imgErr 2 else none

/-- SIGNATURE and KEY (R297, R366, R367): the live slot that holds the image's KEYID; no key is trusted while the OTP's CRC does not match. -/
def Block.checkSig (b : Block) (l : List Byte) : Option ImgErr :=
  let sig := slice l (l.length - 112) 112
  match (liveSlots b.sec.keys).find? (fun k => b.sec.crcOk && slotKeyId b.sec.keys k == leAt sig 0 4) with
  | none => imgErr 4
  | some k =>
    let q := slotKey b.sec.keys k
    if ecdsaVerify (l.take (l.length - 112)) q.1 q.2 (ofBe (slice sig 16 48)) (ofBe (slice sig 64 48)) then none else imgErr 3

/-- ROLE, VERSION and SECTION. -/
def Block.checkRole (b : Block) (l : List Byte) : Option ImgErr :=
  if leAt l 4 1 % 4 ≠ b.f F.ROLE_STATUS_STRAP then imgErr 5
  else if leAt l 8 2 ≠ blockMajor then imgErr 6
  else
    match (imgSections l).find? (fun x => x.required && decide (blockMinor < x.sminor)) with
    | some x => imgErr 6 x.i
    | none =>
      match (imgSections l).find? (fun x => x.required && x.reserved) with
      | some x => imgErr 7 x.i
      | none => none

/-- REGS (R296). -/
def Block.checkRegs (b : Block) (l : List Byte) : Option ImgErr :=
  match imgSection l 3 with
  | none => none
  | some s =>
    let body := slice l s.off s.len
    let out (e : Inst) : Bool := e.off % 8 != 0 || decide (body.length < e.off + 8 * e.count)
    if body.length % 8 ≠ 0 ∨ (instances ((imgBody l 1).getD [])).any out ∨ (regWrites body).any (badWrite b.syn.agg (imgLevel l == 2)) then
      imgErr 9 s.i
    else none

/-! CONTENT: the units' checks of the registers as the image leaves them -/

/-- R47 and R55: positions rise with the index; the time wingbeat's index is no enabled entry's. -/
def Block.antOk (n : Block) : Bool :=
  let es := (List.range 256).filter (fun i => n.is (F.ANT_WB_ENTRY_EN.at i))
  let pos := es.map (fun i => n.f (F.ANT_WB_ENTRY_POS.at i))
  (pos.zip (pos.drop 1)).all (fun p => decide (p.1 < p.2))
    && !(n.is F.ANT_CTRL_TWB_EN && n.is (F.ANT_WB_ENTRY_EN.at (n.f F.ANT_TWB_ACT_IDX)))

/-- R398: a collective's source range lies in its source. -/
def Coll.inRange (c : Coll) : Bool :=
  match c.src with
  | 0 => decide (c.base + c.elems ≤ 16384)
  | 1 => decide (c.base + c.elems ≤ 1024)
  | 2 => decide (c.base + c.elems ≤ 256)
  | 5 => decide (c.base + (c.elems * fmtBytes c.fin + 3) / 4 ≤ 16)
  | _ => true

/-- R118 and R138 for an aggregator's programs; R398 for a die's ranges. -/
def Block.swmOk (n : Block) : Bool :=
  if n.syn.agg then n.colls.all (fun c => n.progOk (n.f (F.SWM_COLL_PROG_PROG.ix c.num)) c.src) else n.colls.all Coll.inRange

/-- The model that an image brings, none where its section does not expand; the active model where it brings none. -/
def Block.imgModel (b : Block) (l : List Byte) : Option Model :=
  match imgBody l 5 with
  | some s => (expandModel b.syn.agg s).toOption
  | none => b.hwk.active

/-- FEATFMT of a feature as the image leaves it. -/
def Block.imgFeatfmt (b : Block) (l : List Byte) (f : Nat) : Nat :=
  match imgBody l 5 with
  | some s => ((rawFeatfmt s)[f]?).getD 0
  | none => b.featfmt f

/-- Whether a model uses a feature as a category. -/
def Model.catUse (m : Model) (f : Nat) : Bool := m.ens.any (fun e => e.trees.any (fun t => t.nodes.any (fun x => x.cat && x.feature == f)))

/-- The rows of an ensemble. -/
def Block.ensRows (n : Block) (k : Nat) : List Nat :=
  (List.range (n.f (F.HWK_ENS_ENT_COUNT.ix k) + 1)).map (fun i => n.f (F.HWK_ENS_ENT_FIRST.ix k) + i)

/-- R158 in the D build, where expansion is one of these checks (R163). -/
def Block.modelOk (n : Block) (l : List Byte) : Bool :=
  match imgBody l 5 with
  | some s => n.syn.agg || (expandModel false s).toOption.isSome
  | none => true

/-- R171, R174 and the range of an ensemble. -/
def Block.hwkOk (n : Block) (l : List Byte) : Bool :=
  let es := (List.range 4).filter (fun k => n.is (F.HWK_ENS_CFG_EN.ix k))
  let pins := (List.range 4).filter (fun k => n.is (F.HWK_ENS_CFG_PIN.ix k))
  !n.syn.agg || ((n.copies F.HWK_FMAP_TGT_EN 1).all (fun i => n.f (F.HWK_FMAP_SRC_FMT.ix i) == n.imgFeatfmt l (n.f (F.HWK_FMAP_TGT_FEATURE.ix i)))
    && decide ((pins.flatMap n.ensRows).eraseDups.length ≤ 448)
    && es.all (fun k => decide (n.f (F.HWK_ENS_ENT_FIRST.ix k) + n.f (F.HWK_ENS_ENT_COUNT.ix k) ≤ 65535)))

/-- Whether a feature may feed a drift channel (R192): not P64, no category. -/
def Block.driftOk (n : Block) (l : List Byte) (f : Nat) : Bool :=
  n.imgFeatfmt l f != 15 && !((n.imgModel l).any (fun m => m.catUse f))

/-- R192 and R198. -/
def Block.vrdOk (n : Block) (l : List Byte) : Bool :=
  let e := n.coll (n.f F.VRD_EN_COLL_ENERGY)
  let t := n.coll (n.f F.VRD_EN_COLL_TOKENS)
  let good (c : Coll) : Bool := c.run && c.prog.op == 3 && decide (c.fin ≤ 13) && c.fin != 12
  !n.syn.agg || ((n.copies F.VRD_DRIFT_CFG_EN 1).all (fun i => n.driftOk l (n.f (F.VRD_DRIFT_X_FEATURE.ix i))
      && (!n.is (F.VRD_DRIFT_CFG_YEN.ix i) || n.driftOk l (n.f (F.VRD_DRIFT_Y_FEATURE.ix i))))
    && (!n.is F.VRD_CTRL_ENERGY || (good e && good t && e.idx == t.idx)))

/-- Every producer's STREAM and queue (R230): the rows of QUE_RDEST, the integrity unit; of a die, trace and the local tile; of an aggregator,
the Verdict unit, enabled collectives, ensembles that emit. -/
def Block.producers (n : Block) : List (Nat × Nat) :=
  let at_ (x y : Fld) : Nat × Nat := (n.f x, n.qnum (n.f y))
  (List.range 8).map (fun k => at_ (F.QUE_RDEST_STREAM.at k) (F.QUE_RDEST_QUEUE.at k))
    ++ [at_ F.INT_DEST_STREAM F.INT_DEST_QUEUE]
    ++ (if n.syn.agg then
          at_ F.VRD_DEST_STREAM F.VRD_DEST_QUEUE :: (n.colls.map (fun c => at_ (F.SWM_COLL_DEST_STREAM.ix c.num) (F.SWM_COLL_DEST_QUEUE.ix c.num))
            ++ ((List.range 4).filter (fun k => n.is (F.HWK_ENS_CFG_EN.ix k) && n.is (F.HWK_ENS_CFG_EMIT.ix k))).map
                 (fun k => at_ (F.HWK_ENS_DEST_STREAM.ix k) (F.HWK_ENS_DEST_QUEUE.ix k)))
        else
          at_ F.HWK_LOCAL_DEST_STREAM F.HWK_LOCAL_DEST_QUEUE ::
            (List.range 4).map (fun k => at_ (F.TRC_BUF_QUEUE_STREAM.at k 64) (F.TRC_BUF_QUEUE_QUEUE.at k 64)))

/-- R230 and R246. -/
def Block.queOk (n : Block) (role : Nat) : Bool :=
  let ps := n.producers
  ps.all (fun p => ps.all (fun q => p.1 != q.1 || p.2 == q.2)) && (role != 1 || n.consumer (n.qnum (n.f F.QUE_QUAR_QUEUE)) == 1)

/-- No two enabled rules of Silkworm name one queue. -/
def Block.slkOk (n : Block) : Bool :=
  let qs := ((n.copies F.SLK_RULE_CFG_EN 1).map (fun i => n.qnum (n.f (F.SLK_RULE_CFG_QUEUE.ix i))))
  qs.eraseDups.length == qs.length

/-- CONTENT, region by region. -/
def Block.checkContent (b : Block) (l : List Byte) (e : Inst) : Option ImgErr :=
  let n := b.imgRegs l e
  let at_ (typ region : Nat) : Option ImgErr := some (0xA, ((imgSection l typ).map (fun s => s.i)).getD 0, region)
  if ¬ n.antOk then at_ 3 1
  else if ¬ n.swmOk then at_ 3 5
  else if ¬ n.modelOk l then at_ 5 6
  else if ¬ n.hwkOk l then at_ 3 6
  else if ¬ n.vrdOk l then at_ 3 7
  else if ¬ n.queOk (leAt l 4 1 % 4) then at_ 3 10
  else if ¬ n.slkOk then at_ 3 11
  else if n.syn.agg ∧ (imgBody l 6).isNone then at_ 6 12
  else none

/-- DIGEST (R300): while an image is asked for, only ACTIVE or PREVIOUS passes. -/
def Block.checkDigest (b : Block) (l : List Byte) : Option ImgErr :=
  if b.is F.FIM_STATUS_NEED ∧ ¬ (b.fim.digA.map (fun x => x.1) = some (sha384 l) ∨ b.fim.digP.map (fun x => x.1) = some (sha384 l)) then imgErr 12
  else none

/-- The checks of R302 in table order: the first failure. -/
def Block.imgCheck (b : Block) (l : List Byte) (wordsOk : Bool := true) : Option ImgErr :=
  (checkFormat l).orElse fun _ => (checkSize l wordsOk).orElse fun _ => (b.checkSig l).orElse fun _ => (b.checkRole l).orElse fun _ =>
    match imgInst l (b.f F.SELF_PLOC_PLOC) with
    | none => imgErr 8 (((imgSection l 1).map (fun s => s.i)).getD 0)
    | some e => (b.checkRegs l).orElse fun _ => (b.checkContent l e).orElse fun _ => b.checkDigest l

end Sys2Proof.Machine
end

