-- ==== Sys2Proof/Machine/Deflate.lean ====
section
/-! DEFINITION. Silkworm's coder (spec/11_silkworm.md, R255 to R257): greedy match finding, package-merge, canonical codes, the DEFLATE
blocks of RFC 1951 with tables carried over. -/

namespace Sys2Proof.Machine

/-- A symbol of the finder: (0, byte) is a literal, (length, distance) a match. -/
abbrev Sym := Nat × Nat

/-- The hash of three bytes (R255). -/
def hash3 (l : List Byte) : Nat :=
  match l with
  | a :: b :: c :: _ => ((a.toNat * 1024) ^^^ (b.toNat * 32) ^^^ c.toNat) % 32768
  | _ => 0

/-- The length of the common prefix of two lists, at most n. -/
def prefixLen (n : Nat) (x y : List Byte) : Nat :=
  match n, x, y with
  | n + 1, a :: s, b :: t => if a = b then prefixLen n s t + 1 else 0
  | _, _, _ => 0

/-- The best match at position p of an input (R255): over the positions before p with the same hash, nearest first, at most `depth`
of them, those within 32,768. -/
def bestMatch (inp : List Byte) (depth p : Nat) : Sym :=
  let here := inp.drop p
  if here.length < 3 then (0, 0)
  else
    let h := hash3 here
    let cands := (((List.range p).reverse.filter (fun q => hash3 (inp.drop q) == h)).take depth).filter (fun q => decide (p - q ≤ 32768))
    cands.foldl (fun (best : Sym) q =>
      let l := prefixLen (min 258 here.length) (inp.drop q) here
      if best.1 < l then (l, p - q) else best) (0, 0)

/-- The symbols of an input from position p on (fuel: its length). -/
def findSyms (fuel : Nat) (inp : List Byte) (depth p : Nat) : List Sym :=
  match fuel with
  | 0 => []
  | n + 1 =>
    match inp.drop p with
    | [] => []
    | x :: _ =>
      let m := bestMatch inp depth p
      if 3 ≤ m.1 then m :: findSyms n inp depth (p + m.1) else (0, x.toNat) :: findSyms n inp depth (p + 1)

/-- Input bytes a symbol stands for. -/
def symLen (s : Sym) : Nat := if s.1 = 0 then 1 else s.1

/-- The base lengths of codes 257 to 285 and their extra bits (RFC 1951). -/
def lenTable : List (Nat × Nat) :=
  [(3, 0), (4, 0), (5, 0), (6, 0), (7, 0), (8, 0), (9, 0), (10, 0), (11, 1), (13, 1), (15, 1), (17, 1), (19, 2), (23, 2), (27, 2),
   (31, 2), (35, 3), (43, 3), (51, 3), (59, 3), (67, 4), (83, 4), (99, 4), (115, 4), (131, 5), (163, 5), (195, 5), (227, 5), (258, 0)]

/-- The base distances of codes 0 to 29 and their extra bits (RFC 1951). -/
def distTable : List (Nat × Nat) :=
  [(1, 0), (2, 0), (3, 0), (4, 0), (5, 1), (7, 1), (9, 2), (13, 2), (17, 3), (25, 3), (33, 4), (49, 4), (65, 5), (97, 5), (129, 6),
   (193, 6), (257, 7), (385, 7), (513, 8), (769, 8), (1025, 9), (1537, 9), (2049, 10), (3073, 10), (4097, 11), (6145, 11), (8193, 12),
   (12289, 12), (16385, 13), (24577, 13)]

/-- The last entry of a table whose base is at most x: its number, base and extra bits. -/
def codeOf (t : List (Nat × Nat)) (x : Nat) : Nat × Nat × Nat :=
  (t.foldl (fun (r : Nat × (Nat × Nat × Nat)) e => (r.1 + 1, if e.1 ≤ x then (r.1, e.1, e.2) else r.2)) (0, (0, 0, 0))).2

/-- The literal/length symbol of a symbol. -/
def llSym (s : Sym) : Nat := if s.1 = 0 then s.2 else 257 + (codeOf lenTable s.1).1

/-! Package-merge (R257) -/

/-- Sort weighed items by weight, equal weights in the order given (by symbol). -/
def sortW (l : List (Nat × List Nat)) : List (Nat × List Nat) := sortBy (fun p => p.1) l

/-- Pair up the items of a level into packages. -/
def packages (l : List (Nat × List Nat)) : List (Nat × List Nat) :=
  match l with
  | a :: b :: t => (a.1 + b.1, a.2 ++ b.2) :: packages t
  | _ => []

/-- Merge packages into the items: a package sorts after every item of equal weight. -/
def mergeW (items pk : List (Nat × List Nat)) : List (Nat × List Nat) := pk.foldl (fun a x => insertBy (fun p => p.1) x a) items

/-- The list of the last level after n merges. -/
def levels (n : Nat) (items l : List (Nat × List Nat)) : List (Nat × List Nat) :=
  match n with
  | 0 => l
  | n + 1 => levels n items (mergeW items (packages l))

/-- pm(w, L): the code lengths of an optimal prefix code with no length above L (R257). -/
def pm (w : List Nat) (lim : Nat) : List Nat :=
  let items := sortW (w.zipIdx.map (fun p => (p.1, [p.2])))
  let used := ((levels (lim - 1) items items).take (2 * w.length - 2)).flatMap (fun p => p.2)
  (List.range w.length).map (fun s => used.count s)

/-! Codes and bits -/

/-- The w bits of a value, least significant first. -/
def bitsLsb (w x : Nat) : List Bool := (List.range w).map (fun i => bit x i == 1)

/-- The w bits of a code, most significant first (RFC 1951). -/
def bitsMsb (w x : Nat) : List Bool := (bitsLsb w x).reverse

/-- The first code of a length: canonical assignment (RFC 1951 §3.2.2). -/
def firstCode (lens : List Nat) (l : Nat) : Nat :=
  match l with
  | 0 => 0
  | n + 1 => 2 * (firstCode lens n + (if n = 0 then 0 else lens.count n))

/-- The code of a symbol as bits. -/
def codeBits (lens : List Nat) (s : Nat) : List Bool :=
  let l := (lens[s]?).getD 0
  bitsMsb l (firstCode lens l + (lens.take s).count l)

/-- The bits of a symbol under a pair of codes. -/
def symBits (ll ld : List Nat) (s : Sym) : List Bool :=
  if s.1 = 0 then codeBits ll s.2
  else
    let c := codeOf lenTable s.1
    let d := codeOf distTable s.2
    codeBits ll (257 + c.1) ++ bitsLsb c.2.2 (s.1 - c.2.1) ++ codeBits ld d.1 ++ bitsLsb d.2.2 (s.2 - d.2.1)

/-- The length of the run of a value at the head of a list. -/
def runLen (x : Nat) (l : List Nat) : Nat := (l.takeWhile (· == x)).length

/-- The code-length symbols of a list of lengths (R257), each with its extra bits (value, width); `last` is the length before. -/
def clSyms (fuel : Nat) (last : Option Nat) (l : List Nat) : List (Nat × Nat × Nat) :=
  match fuel, l with
  | n + 1, x :: t =>
    let z := runLen 0 (x :: t)
    let r := runLen x (x :: t)
    if 11 ≤ z then (18, min z 138 - 11, 7) :: clSyms n (some 0) ((x :: t).drop (min z 138))
    else if 3 ≤ z then (17, z - 3, 3) :: clSyms n (some 0) ((x :: t).drop z)
    else if last = some x ∧ 3 ≤ r then (16, min r 6 - 3, 2) :: clSyms n (some x) ((x :: t).drop (min r 6))
    else (x, 0, 0) :: clSyms n (some x) t
  | _, _ => []

/-- The order of the code-length code's lengths (RFC 1951). -/
def clOrder : List Nat := [16, 17, 18, 0, 8, 7, 9, 6, 10, 5, 11, 4, 12, 3, 13, 2, 14, 1, 15]

/-- header(ll, ld) (R257). -/
def headerBits (ll ld : List Nat) : List Bool :=
  let syms := clSyms 316 none (ll ++ ld)
  let lens := pm ((List.range 19).map (fun s => (syms.filter (fun x => x.1 == s)).length + 1)) 7
  let ordered := clOrder.map (fun s => (lens[s]?).getD 0)
  let keep := max 4 (ordered.length - (ordered.reverse.takeWhile (· == 0)).length)
  bitsLsb 5 29 ++ bitsLsb 5 29 ++ bitsLsb 4 (keep - 4) ++ (ordered.take keep).flatMap (bitsLsb 3)
    ++ syms.flatMap (fun x => codeBits lens x.1 ++ bitsLsb x.2.2 x.2.1)

/-- The lengths of the fixed literal/length code (RFC 1951). -/
def fixedLl : List Nat := List.replicate 144 8 ++ List.replicate 112 9 ++ List.replicate 24 7 ++ List.replicate 8 8

/-- The lengths of the fixed distance code. -/
def fixedLd : List Nat := List.replicate 32 5

/-! Jobs (R256) -/

/-- Cut symbols into blocks: a block ends after the symbol that takes the input consumed to a multiple of `size`. -/
def cutBlocks (size : Nat) (done : Nat) (cur : List Sym) (l : List Sym) : List (List Sym) :=
  match l with
  | [] => if cur = [] then [] else [cur]
  | s :: t =>
    let d := done + symLen s
    if done / size < d / size then (cur ++ [s]) :: cutBlocks size d [] t else cutBlocks size d (cur ++ [s]) t

/-- The counts of a block's symbols, 256 counted once. -/
def counts (b : List Sym) : List Nat × List Nat :=
  let ls := b.map llSym
  let ds := (b.filter (fun s => s.1 != 0)).map (fun s => (codeOf distTable s.2).1)
  ((List.range 286).map (fun s => ls.count s + (if s = 256 then 1 else 0)), (List.range 30).map (fun s => ds.count s))

/-- The codes a block is coded with, and the bits that open it (R256). -/
def blockCodes (ctx : Option (List Nat × List Nat)) (final : Bool) : List Nat × List Nat × List Bool :=
  match ctx with
  | some (cl, cd) =>
    let ll := pm (cl.map (· + 1)) 15
    let ld := pm (cd.map (· + 1)) 15
    (ll, ld, [final, false, true] ++ headerBits ll ld)
  | none => (fixedLl, fixedLd, [final, true, false])

/-- The bits of a job's blocks, and the context's counts after it. -/
def jobBits (blocks : List (List Sym)) (ctx : Option (List Nat × List Nat)) : List Bool × Option (List Nat × List Nat) :=
  match blocks with
  | [] => ([], ctx)
  | b :: rest =>
    let c := blockCodes ctx (rest == [])
    let r := jobBits rest (some (counts b))
    (c.2.2 ++ b.flatMap (symBits c.1 c.2.1) ++ codeBits c.1 256 ++ r.1, r.2)

/-- Bits packed into bytes, least significant first, the last filled with 0 (fuel: the number of bits). -/
def packBits (fuel : Nat) (l : List Bool) : List Byte :=
  match fuel, l with
  | n + 1, _ :: _ =>
    BitVec.ofNat 8 ((l.take 8).foldr (fun b a => 2 * a + (if b then 1 else 0)) 0) :: packBits n (l.drop 8)
  | _, _ => []

/-- The blocks of an input: one empty block for an empty input. -/
def blocksOf (inp : List Byte) (depth size : Nat) : List (List Sym) :=
  let l := cutBlocks size 0 [] (findSyms inp.length inp depth 0)
  if l = [] then [[]] else l

/-- A job's result: DEFLATE bytes, number of blocks, counts carried on (R256). -/
def deflate (inp : List Byte) (depth size : Nat) (ctx : Option (List Nat × List Nat)) : List Byte × Nat × Option (List Nat × List Nat) :=
  let bs := blocksOf inp depth size
  let r := jobBits bs ctx
  (packBits r.1.length r.1, bs.length, r.2)

/-- The symbols that an engine has coded once it has taken at least `want` input bytes. -/
def takeSyms (want : Nat) (l : List Sym) : List Sym :=
  match l with
  | [] => []
  | s :: t => if want = 0 then [] else s :: takeSyms (want - symLen s) t

/-- Input taken and whole output bytes placed at a stop after the symbol in progress (R263). -/
def progressAt (inp : List Byte) (depth size want : Nat) (ctx : Option (List Nat × List Nat)) : Nat × Nat :=
  let syms := takeSyms want (findSyms inp.length inp depth 0)
  let taken := (syms.map symLen).foldl (· + ·) 0
  let r := go (cutBlocks size 0 [] syms) ctx
  (taken, r / 8)
where
  go (blocks : List (List Sym)) (ctx : Option (List Nat × List Nat)) : Nat :=
    match blocks with
    | [] => 0
    | [b] =>
      let c := blockCodes ctx false
      c.2.2.length + (b.flatMap (symBits c.1 c.2.1)).length
    | b :: rest =>
      let c := blockCodes ctx false
      c.2.2.length + (b.flatMap (symBits c.1 c.2.1)).length + (codeBits c.1 256).length + go rest (some (counts b))

end Sys2Proof.Machine
end

