-- ==== Sys2Proof/Machine/Silkworm.lean ====
section
/-! DEFINITION. Silkworm (spec/11_silkworm.md, R252 to R265): the end, stop and resumption of jobs. How records reach it stands in
Machine/Records.lean. -/

namespace Sys2Proof.Machine

/-- SLK_CFG.DEPTH, where 0 acts as 1. -/
def Block.slkDepth (b : Block) : Nat := atLeast1 (b.f F.SLK_CFG_DEPTH)

/-- SLK_CFG.BLOCK in bytes: 0 acts as 1, above 64 as 64. -/
def Block.slkBlock (b : Block) : Nat := min 64 (atLeast1 (b.f F.SLK_CFG_BLOCK)) * 1024

/-- The counts of a context, none while have = 0. -/
def Block.slkCtx (b : Block) (c : Nat) : Option (List Nat × List Nat) := b.slk.ctxs.find c

/-- The CLK_CORE cycles in which an engine takes n bytes at 16 GB/s (R252). -/
def Block.takeTime (b : Block) (n : Nat) : Nat := (n * b.syn.coreMHz + 15999) / 16000

/-- The bytes an engine takes in n CLK_CORE cycles. -/
def Block.takenIn (b : Block) (n : Nat) : Nat := n * 16000 / b.syn.coreMHz

/-- The packed record of a job (R254). -/
def packedRec (r : Rec) (ctx : Nat) (z : List Byte) (blocks : Nat) : Rec :=
  let d := leBytes 1 r.typ ++ leBytes 2 (r.bytes.length / 8) ++ leBytes 1 ctx ++ leBytes 4 z.length ++ leBytes 4 (crc32c r.bytes)
    ++ leBytes 2 blocks ++ leBytes 2 0
  { r with typ := 0x50, bytes := d ++ z ++ List.replicate ((8 - z.length % 8) % 8) 0 }

/-- The job an engine runs. -/
def Block.jobOn (b : Block) (e : Nat) : Option SlkJob := b.slk.jobs.find? (fun j => j.engine == some e)

/-- Take counts into a context. -/
def Block.setCtx (b : Block) (c : Nat) (x : Option (List Nat × List Nat)) : Block :=
  { b with slk := { b.slk with ctxs := match x with
                                       | some v => b.slk.ctxs.put c v
                                       | none => b.slk.ctxs.del c } }

/-- A job ends with CHECK (R262, R264): the checking inflater of its engine disagrees with the coder. -/
def Block.jobCheck (b : Block) (j : SlkJob) (e : Nat) : Block :=
  let c := j.ctx.getD 0
  let b := b.raise Ev.SLK_CHECK [(c, 8), (j.body.typ, 8)]
  let b := b.failJob j
  b.checkFail 2 e 2 0 0 e 0 0 c false

/-- A job ends (R256, R261): packed, or the original where the output is not smaller; the context's counts are taken. -/
def Block.jobEnd (b : Block) (j : SlkJob) : Block :=
  let c := j.ctx.getD 0
  let z := deflate j.body.bytes b.slkDepth b.slkBlock (b.slkCtx c)
  let p := packedRec j.body c z.1 z.2.1
  let b := b.setCtx c z.2.2
  let b := match j.trace with
    | some n => b.showTrace n j.body.bytes.length z.1.length
    | none => b
  if j.body.bytes.length ≤ p.bytes.length then
    ((b.putJob { j with engine := none, out := some j.body }).count F.SLK_STATS_NOTSMALL).raise Ev.SLK_NOT_SMALLER [(c, 8), (j.body.typ, 8)]
  else b.putJob { j with engine := none, out := some p }

/-- The record a job would leave, were it to end now. -/
def Block.jobOut (b : Block) (j : SlkJob) : Rec :=
  let z := deflate j.body.bytes b.slkDepth b.slkBlock (b.slkCtx (j.ctx.getD 0))
  let p := packedRec j.body (j.ctx.getD 0) z.1 z.2.1
  if j.body.bytes.length ≤ p.bytes.length then j.body else p

/-- A job's time is over (R252): n bytes at 16 GB/s from where it began, and 64 cycles. -/
def Block.jobDone (b : Block) (e : Nat) (check : Bool) : Block :=
  match b.jobOn e with
  | some j =>
    if b.on dCODEC ∧ j.since + b.takeTime (j.body.bytes.length - j.base) + 64 ≤ b.clk.core
        ∧ ¬ (j.trace.isSome ∧ b.traceWaits j.queue (b.jobOut j)) then
      (if check then b.jobCheck j e else b.jobEnd j).slkGo
    else b
  | none => b

/-- A trace job stops after the symbol in progress (R263): CONSUMED and PRODUCED are shown and the engine is free. -/
def Block.stopTrace (b : Block) (j : SlkJob) (buf : Nat) : Block :=
  let want := j.base + b.takenIn (b.clk.core - j.since)
  let r := progressAt j.body.bytes b.slkDepth b.slkBlock want (b.slkCtx (j.ctx.getD 0))
  ((b.putJob { j with engine := none, stopped := true, base := r.1 }).showTrace buf r.1 r.2).raise Ev.SLK_STOP

/-- A running job's output cannot be placed because its queue is full under WAIT (R234, R263, R264). -/
def Block.jobStop (b : Block) (e : Nat) : Block :=
  match b.jobOn e with
  | some j =>
    if b.on dCODEC ∧ b.traceWaits j.queue (b.jobOut j) then
      let b := b.raiseIf (j.dma.isSome && ! b.holdRoom b.holdUsed ((b.jobOut j).size + b.lossBytes j.queue) (b.jobOut j).sev) Ev.QUE_HOLD_FULL
      (match j.trace with
       | some n => b.stopTrace j n
       | none => if b.consumer j.queue = 1 then b.failJob j else b).slkGo
    else b
  | none => b

/-- A stopped trace job resumes from CONSUMED when there is room, on any free engine (R263). -/
def Block.jobResume (b : Block) (buf : Nat) : Block :=
  match b.slk.jobs.find? (fun j => j.trace == some buf && j.stopped) with
  | some j =>
    if b.on dCODEC ∧ ¬ b.traceWaits j.queue (b.jobOut j) then (b.putJob { j with stopped := false }).assign else b
  | none => b

/-- SLK_ENG_FENCE (R263, R264): the D build uses bit 0. -/
def Block.engineFence (b : Block) (word : Nat) : Block :=
  (b.setf F.SLK_ENG_FENCE_FENCE (if b.syn.agg then word % 16 else word % 2)).slkFenced

/-- SLK_RULE_CFG.RESET (R256): the context of the selected rule forgets its counts. -/
def Block.ctxReset (b : Block) : Block :=
  let r := b.f F.SLK_RULE_SEL_RULE
  b.setCtx (if b.syn.agg then r else r % 16) none

/-- CODEC enters retention, or goes off (R263, R264): trace jobs stop, or, when off, forget what they did; any other job fails. -/
def Block.slkSleep (b : Block) (off : Bool) : Block :=
  let b := b.slk.jobs.foldl (fun b j =>
    if j.ctx.isSome ∧ j.out.isNone then
      match j.trace with
      | some n => if off then b.putJob { j with engine := none, base := 0, stopped := false }
                  else if j.engine.isSome then b.stopTrace j n else b
      | none => b.failJob j
    else b) b
  let b := if off then { b with slk := { b.slk with ctxs := [] } } else b
  b.slkGo

/-- CODEC is ON again: stopped trace jobs may go on (R263). -/
def Block.slkWake (b : Block) : Block := ((List.range 4).foldl (fun b n => b.jobResume n) b).slkGo

/-- The power-fail warning (R264): Cocoon jobs that run complete; those not begun enter their queues uncompressed. -/
def Block.slkPf (b : Block) : Block :=
  (b.slk.jobs.foldl (fun b j =>
    if j.ctx.isSome ∧ j.engine.isNone ∧ j.out.isNone ∧ j.trace.isNone ∧ b.consumer j.queue = 1 then b.putJob { j with ctx := none } else b) b).slkGo

/-- SLK_STATUS as it reads: BUSY and STOPPED. -/
def Block.slkStatus (b : Block) : Nat :=
  b.slk.jobs.foldl (fun a j =>
    let a := match j.engine with
      | some e => setBit a e 1
      | none => a
    match j.trace with
    | some n => if j.stopped then setBit a (4 + n) 1 else a
    | none => a) 0

/-! Meanings -/

/-- JOB_DONE. -/
def execJobDone (engine : Nat) (checkFail : Bool) (s : State) : Host.Outcome State Fault Refusal :=
  s.lift (fun b => b.jobDone engine checkFail)
/-- JOB_STOP. -/
def execJobStop (engine : Nat) (s : State) : Host.Outcome State Fault Refusal := s.lift (fun b => b.jobStop engine)
/-- JOB_RESUME. -/
def execJobResume (buf : Nat) (s : State) : Host.Outcome State Fault Refusal := s.lift (fun b => b.jobResume buf)
/-- CONTEXT_RESET: a write of SLK_RULE_CFG with RESET; its RWL fields are written too (R313). -/
def execContextReset (m : Master) (word : Nat) (s : State) : Host.Outcome State Fault Refusal :=
  s.lift (fun b => b.write m 0xB024 word (fun b => (b.writeFields 0xB024 word).ctxReset))
/-- ENGINE_FENCE_WRITE. -/
def execEngineFenceWrite (m : Master) (word : Nat) (s : State) : Host.Outcome State Fault Refusal :=
  s.lift (fun b => b.write m 0xB010 word (fun b => b.engineFence word))

end Sys2Proof.Machine
end

