-- ==== Sys2Proof/Machine/Image.lean ====
section
/-! DEFINITION. The Fabric Image unit (spec/13_fabric_image.md, R299 to R311): the image store, loads, apply, commit, rollback, probation, the
start-up apply, and the block's part of retained memory. -/

namespace Sys2Proof.Machine

/-! The store (R299, R300) -/

/-- Whether the block holds image copies (FIM_STATUS.STORE). -/
def Block.hasStore (b : Block) : Bool := b.syn.agg || (decide (0 < b.syn.norStore) && b.syn.norSfdp)

/-- The counter slot of a copy: X or Y. -/
def Block.imgSlot (b : Block) (x : Bool) : Nat := (if b.syn.agg then 2046 else 62) + (if x then 0 else 1)

/-- A generation counter, a raise under way included. -/
def Block.gen (b : Block) (x : Bool) : Nat :=
  b.coc.raises.foldl (fun a r => if r.1 = b.imgSlot x then max a r.2.1 else a) (b.coc.ctr (b.imgSlot x))

/-- The copy whose counter is higher: true for X, none where neither was ever raised. -/
def Block.activeCopy (b : Block) : Option Bool := if b.gen true = b.gen false then none else some (decide (b.gen false < b.gen true))

/-- Whether the store holds a committed copy (R360). -/
def Block.hasCommitted (b : Block) : Bool := b.activeCopy.isSome

/-- The copy that is not ACTIVE: a load writes it. -/
def Block.otherCopy (b : Block) : Bool := !(b.activeCopy.getD false)

/-- A copy. -/
def Fim.copy (f : Fim) (x : Bool) : Option ImgCopy := if x then f.x else f.y

/-- Replace a copy. -/
def Fim.setCopy (f : Fim) (x : Bool) (c : Option ImgCopy) : Fim := if x then { f with x := c } else { f with y := c }

/-- What the block's part of the retained memory holds (R299, R300, R364): the MEDIUM list, or the digests of both copies with their BUILD. -/
def Block.retBlock (b : Block) : List Byte :=
  let dig (d : Option (List Byte × Nat)) : List Byte :=
    match d with
    | some x => slice x.1 0 64 ++ leBytes 4 x.2
    | none => List.replicate 68 0
  if b.syn.agg then b.fim.medium else dig b.fim.digA ++ dig b.fim.digP

/-! What FIM shows -/

/-- STATE of FIM_STATUS. -/
def Block.fimState (b : Block) : Nat := b.f F.FIM_STATUS_STATE

/-- Set STATE. -/
def Block.setFim (b : Block) (st : Nat) : Block := b.setf F.FIM_STATUS_STATE st

/-- Set FIM_ERR. -/
def Block.setErr (b : Block) (e : ImgErr) : Block :=
  ((b.setf F.FIM_ERR_CODE e.1).setf F.FIM_ERR_SECTION e.2.1).setf F.FIM_ERR_REGION e.2.2

/-- FIM_ERR as an entry carries it. -/
def Block.errArg (b : Block) : Nat × Nat := (b.stored 0xD01C, 32)

/-- The live slot whose key signed an image (R297, R368). -/
def Block.slotOf (b : Block) (l : List Byte) : Option Nat :=
  (liveSlots b.sec.keys).find? (fun k => slotKeyId b.sec.keys k == leAt l (l.length - 112) 4)

/-- Show ACTIVE (FIM_ACT_BUILD, FIM_TOPO, SEC_KEY_STAT.SIGNER). -/
def Block.showActive (b : Block) (l : List Byte) : Block :=
  let b := { b with sec := { b.sec with signer := b.slotOf l } }
  (b.setf F.FIM_ACT_BUILD_BUILD (imgBuild l)).setf F.FIM_TOPO_TOPO (imgTopo l % 2 ^ 32)

/-- PREVIOUS is valid or not, and its BUILD. -/
def Block.setPrev (b : Block) (ok : Bool) (build : Nat) : Block :=
  ({ b with fim := { b.fim with prevOk := ok } }).setf F.FIM_PREV_BUILD_BUILD (if ok then build else 0)

/-- A commit or rollback is refused (R304). -/
def Block.commitRefuse (b : Block) (code : Nat) : Block :=
  let b := b.setErr (code, 0, 0x1F)
  b.raise Ev.FIM_COMMIT_REFUSED [b.errArg]

/-! Loading (R301, R302) -/

/-- The bytes of a load from outside overwrite the copy that is not ACTIVE. -/
def Block.spoil (b : Block) (src : Nat) : Block :=
  if src < 2 ∧ b.hasStore then ({ b with fim := b.fim.setCopy b.otherCopy none }).setPrev false 0 else b

/-- FIM_CMD.LOAD: a load from a source begins; VERIFIED and a staged expansion are cleared. -/
def Block.loadBegin (b : Block) (src : Nat) (roll : Option (Nat × Bool)) : Block :=
  let b := { b with hwk := { b.hwk with staged := none }, fim := { b.fim with load := some { src := src, roll := roll }, stage := [] } }
  (if src = 1 then b.spoil 1 else b).setFim 1

/-- FIM_CMD.ABORT. -/
def Block.loadAbort (b : Block) : Block := if b.fim.load.isSome then ({ b with fim := { b.fim with load := none } }).setFim 0 else b

/-- The next word of a load from PORT. -/
def Block.loadWord (b : Block) (word : Nat) : Block :=
  match b.fim.load with
  | some x =>
    if x.src = 0 then
      let b := if x.words = [] then b.spoil 0 else b
      { b with fim := { b.fim with load := some { x with words := word % 2 ^ 32 :: x.words } } }
    else b
  | none => b

/-- The bytes that a load brought, none while words are missing. `dram` is what attached DRAM held at FIM_ADDR. -/
def Block.loadBytes (b : Block) (x : ImgLoad) (dram : List Byte) : Option (List Byte) :=
  let n := b.f F.FIM_SIZE_BYTES
  let copy (y : Bool) : List Byte := ((b.fim.copy y).map (fun c => c.bytes)).getD []
  match x.src with
  | 0 => if n ≤ 4 * x.words.length then some (wordBytes x.words.reverse) else none
  | 1 => some (if b.syn.agg then slice dram 0 n else [])
  | 2 => some (copy b.otherCopy)
  | _ => some (match b.activeCopy with
      | some y => copy y
      | none => [])

/-- A load fails its checks. A PREVIOUS that fails is valid no more. -/
def Block.loadFailed (b : Block) (x : ImgLoad) (e : ImgErr) : Block :=
  let b := if x.src = 2 then b.setPrev false 0 else b
  let b := if e.1 = 5 then b.setf F.ROLE_STATUS_MISMATCH 1 else b
  let b := if e.1 = 6 then b.setf F.FIM_STATUS_LEVEL 3 else b
  let b := (b.setErr e).setFim 3
  b.raise Ev.FIM_LOAD_FAIL [b.errArg]

/-- A load passes its checks: the image is staged, and stands in the store where it came from outside. -/
def Block.loadPassed (b : Block) (x : ImgLoad) (l : List Byte) : Block :=
  let b := ((b.setErr (0, 0, 0x1F)).setFim 2).setf F.FIM_STATUS_LEVEL (imgLevel l)
  let f := { b.fim with stage := l, stageSrc := x.src }
  let f := if x.src < 2 ∧ b.hasStore then f.setCopy b.otherCopy (some { bytes := l, ploc := b.f F.SELF_PLOC_PLOC }) else f
  ({ b with fim := f }).raise Ev.FIM_VERIFIED

/-- Whether a staged image has a model section (R304). -/
def Block.stagedModel (b : Block) : Option (List Byte) := imgBody b.fim.stage 5

/-! Commit (R304) -/

/-- COMMIT(idx, any): refused, or waiting for its boundary; with nothing running it applies now. -/
def Block.commitBegin (b : Block) (idx : Nat) (any : Bool) : Block :=
  if b.fimState ≠ 2 then b.commitRefuse 0xFF
  else if b.syn.agg ∧ b.stagedModel.isSome ∧ b.hwk.staged.isNone ∧ ¬ b.is F.PWR_STATUS_CHRYS then b.commitRefuse 0xB
  else
    let c : Commit := { since := b.clk.core, idx := idx, any := any, now := b.f F.ROLE_STATUS_ROLE == 3 }
    ({ b with busy := some .commit, fim := { b.fim with commit := some c } }).setFim 4

/-- The commit ends without an apply (R304, R306): the staging stays VERIFIED. -/
def Block.commitDrop (b : Block) (src : Nat) : Block :=
  ({ b with busy := none, fim := { b.fim with commit := none } }.setFim 2).raise src

/-- No matching boundary within 30 ms. -/
def Block.commitLate (b : Block) : Block :=
  match b.fim.commit with
  | some c => if ¬ c.applied ∧ ¬ c.now ∧ c.since + b.us 30000 ≤ b.clk.core then b.commitDrop Ev.FIM_NOBOUNDARY else b
  | none => b

/-- A power-fail warning before the boundary abandons the commit (R306). -/
def Block.commitAbandon (b : Block) : Block :=
  match b.fim.commit with
  | some c => if c.applied then b else b.commitDrop Ev.FIM_ABANDONED
  | none => b

/-- Rollback goes on once its image is VERIFIED (R307, R308): an aggregator expands its model first. -/
def Block.rollOn (b : Block) (r : Nat × Bool) : Block :=
  match (if b.syn.agg then b.stagedModel else none) with
  | some s => ({ b with fim := { b.fim with rollWait := some r } }).expandBegin s
  | none => b.commitBegin r.1 r.2

/-- LOAD_COMPLETE (R302). The load of a rollback ends once no long operation holds MGMT_BUSY, since what follows it is one (R14, R307). -/
def Block.loadDone_ (b : Block) (dram : List Byte) : Block :=
  match b.fim.load with
  | none => b
  | some x =>
    if x.roll.isSome ∧ b.busy.isSome then b else
    match b.loadBytes x dram with
    | none => b
    | some l =>
      let b := ({ b with fim := { b.fim with load := none } }).setf F.FIM_STG_BUILD_BUILD (imgBuild l)
      match b.imgCheck l (x.src != 0 || 4 * x.words.length == b.f F.FIM_SIZE_BYTES) with
      | some e => b.loadFailed x e
      | none =>
        let b := b.loadPassed x l
        (match x.roll with
         | some r => b.rollOn r
         | none => b)

/-- ROLLBACK (R307). -/
def Block.rollbackBegin (b : Block) (idx : Nat) (any : Bool) : Block :=
  if b.fim.prevOk then b.loadBegin 2 (some (idx, any)) else b.raise Ev.FIM_COMMIT_REFUSED [b.errArg]

/-- Confirmation (R309). -/
def Block.confirm_ (b : Block) : Block :=
  if b.fim.prob then ({ b with fim := { b.fim with prob := false } }).raise Ev.FIM_CONFIRMED else b

/-- A write of FIM_CMD (R301): SRC, ANY and IDX take their values; exactly one command acts (R396). -/
def Block.fimCmd (b : Block) (word : Nat) : Block :=
  let b := b.writeFields 0xD008 word
  let idx := b.f F.FIM_CMD_IDX
  let any := b.is F.FIM_CMD_ANY
  match bits word 2 5 with
  | 1 => b.loadBegin (b.f F.FIM_CMD_SRC) none
  | 2 => b.loadAbort
  | 4 => b.commitBegin idx any
  | 8 => b.rollbackBegin idx any
  | 16 => b.confirm_
  | _ => b

/-! Model expansion (R163, R164, R308) -/

/-- HWK_EXPAND.GO: the staged image's model section; nothing to expand is nothing to do. -/
def Block.expandGo (b : Block) : Block :=
  if b.syn.agg ∧ b.fimState = 2 then
    match b.stagedModel with
    | some s => b.expandBegin s
    | none => b
  else b

/-- EXPAND_DONE: a rollback goes on or ends with code MODEL. -/
def Block.expandDone_ (b : Block) : Block :=
  let r := b.expandEnd
  match r.1, r.2.fim.rollWait with
  | some ok, some w =>
    let b := { r.2 with fim := { r.2.fim with rollWait := none } }
    if ok then b.commitBegin w.1 w.2 else b.commitRefuse 0xB
  | _, _ => r.2

/-! Apply (R305) -/

/-- An image has been applied: a start that waited for one begins its GOOD time (R359, R363). -/
def Block.imageApplied (b : Block) : Block :=
  match b.pwr.start with
  | .noImage _ => { b with pwr := { b.pwr with start := .running b.clk.aon } }
  | _ => b

/-- What the image says of this block's place (R295). -/
def imgPlace (l : List Byte) (e : Inst) : Topo :=
  let t := Config.topology ((imgBody l 2).getD []) ((imgBody l 4).getD []) e.ploc
  { t with lai := e.lai, isRoot := e.root, isStandby := e.standby, tags := e.tags }

/-- Identity and place in the fabric. An aggregator that an image names home and root takes both roles (R41); the buddy that acts for a lost one
goes on while that is lost. -/
def Block.applyIdentity (b : Block) (l : List Byte) (e : Inst) : Block :=
  let b := b.setf F.ROLE_STATUS_ROLE (leAt l 4 1 % 4)
  let b := if b.syn.agg then (b.setf F.SELF_LDI_INDEX e.lai).setf F.SELF_LDI_BOUND 1 else b
  let b := { b with fab := { b.fab with topo := imgPlace l e, topoDigest := imgTopo l, displaced := false,
                                        takeOver := b.fab.takeOver && b.fab.buddyLost,
                                        actingRoot := e.root || (b.fab.actingRoot && e.standby && b.fab.buddyLost) } }
  let b := if b.noParent ∧ (b.port b.upPort).state ≠ 2 then b else b.setParent
  if b.syn.agg then b.epochsBack else b

/-- Fences that the image changed act as a write of their register does (R155, R178, R259). -/
def Block.applyFences (old b : Block) : Block :=
  let b := if b.freeLanes = old.freeLanes then b else b.lanesGone Block.finTxn
  let b := if b.freeTiles = old.freeTiles then b else b.tileFenceWrite (b.f F.HWK_TILE_FENCE_FENCE)
  if b.f F.SLK_ENG_FENCE_FENCE = old.f F.SLK_ENG_FENCE_FENCE then b else b.engineFence (b.f F.SLK_ENG_FENCE_FENCE)

/-- Ports and queues whose EN changed (R215, R235). -/
def Block.applyEnables (old b : Block) : Block :=
  let b := (List.range (portCount b.syn.agg)).foldl (fun b n => b.portEn n (old.is (F.KL_PORT_CFG_EN.ix n))) b
  ((old.copies F.QUE_CFG_EN 1).filter (fun q => !b.is (F.QUE_CFG_EN.ix q))).foldl Block.flushQueue b

/-- Lanes of the trace unit that fail R95. -/
def Block.laneConflicts (b : Block) : Block :=
  if b.syn.agg then b
  else
    ((b.copies F.TRC_LANE_CFG_EN 1).filter (fun n =>
      bit (b.bf F.TRC_BUF_CFG_PARTMASK (b.f (F.TRC_LANE_CFG_BUF.ix n))) (b.f (F.TRC_LANE_CFG_PART.ix n)) == 0)).foldl
      (fun b n => b.raise Ev.TRC_LANE_CONFLICT [(n, 16)]) b

/-- The aggregator keeps the list of the MEDIUM section it applied (R299). -/
def Block.applyMedium (b : Block) (l : List Byte) : Block :=
  match (if b.syn.agg then imgBody l 6 else none) with
  | some m => { b with fim := { b.fim with medium := m, mediumNand := m } }
  | none => b

/-- The model of an image takes effect (R166). At a start nothing was active, and it stands before any pass. -/
def Block.applyModel (b : Block) (l : List Byte) (start : Bool) : Block :=
  match imgBody l 5 with
  | none => b
  | some s =>
    match (if b.syn.agg ∧ ¬ start then b.hwk.staged else (expandModel b.syn.agg s).toOption) with
    | some m => if start then ({ b with hwk := { b.hwk with active := some m, staged := none } }).showTrees else b.swapModel m
    | none => b

/-- Timeouts that the image wrote begin anew (R45, R54). -/
def Block.applyTimers (b : Block) (l : List Byte) (e : Inst) : Block :=
  if (imgWrites l e).any (fun w => w.1 == 0x101C) then b.stepTimer.beaconTimer else b

/-- The apply at boundary b (R296, R305, Table 13-6): with another TOPO than the running image's a cold set-up starts. -/
def Block.applyImage (old : Block) (l : List Byte) (start : Bool := false) : Block :=
  match imgInst l (old.f F.SELF_PLOC_PLOC) with
  | none => old
  | some e =>
    let b := (old.imgRegs l e).applyIdentity l e
    let b := (Block.regEffects old b).applyTimers l e
    let b := Block.applyFences old (Block.applyEnables old b)
    let b := ((b.monCommit).laneConflicts).applyMedium l
    let b := b.applyModel l start
    let b := { b with fim := { b.fim with run := some l, probSeen := 0, probSkip := false } }
    let b := match old.fim.run with
      | some r => if imgTopo r = imgTopo l ∨ ¬ b.syn.agg ∨ ¬ b.on dLINKS then b else b.setUp false
      | none => b
    (b.energyRecover).imageApplied

/-- The commit applies (R304): the counter of the new copy is raised; a copy that is ACTIVE already needs none. SELF_PLOC is kept with
the copy (R299). In Chrysalis the image's model is expanded as part of the apply (R308). -/
def Block.commitApply (b : Block) (phase : Nat) (start : Bool := false) : Block :=
  match b.fim.commit with
  | none => b
  | some c =>
    let n := b.otherCopy
    let src := b.fim.stageSrc
    let gen := if src = 3 ∨ ¬ b.hasStore then 0 else max (b.gen true) (b.gen false) + 1
    let b := b.applyImage b.fim.stage start
    let b := { b with fim := { b.fim with commit := some { c with applied := true, phase := phase, gen := gen } } }
    let at_ := if src = 3 then !n else n
    let b := { b with fim := b.fim.setCopy at_ ((b.fim.copy at_).map (fun x => { x with ploc := b.f F.SELF_PLOC_PLOC })) }
    if gen = 0 then b else b.raiseCtr (b.imgSlot n) gen

/-- A boundary of an index is the one a commit waits for (R304). Probation counts the boundaries after that of the apply (R309). -/
def Block.commitBoundary (b : Block) (idx phase : Nat) : Block :=
  let n := if b.fim.probSkip then b.fim.probSeen else b.fim.probSeen + 1
  let b := { b with fim := { b.fim with probSeen := n, probSkip := false } }
  match b.fim.commit with
  | some c => if ¬ c.applied ∧ ¬ c.now ∧ (c.any ∨ c.idx = idx) then b.commitApply phase else b
  | none => b

/-- Without a store the digests stand for the copies (R300); one that is ACTIVE already changes none. -/
def Block.keepDigest (b : Block) : Block :=
  let d := sha384 b.fim.stage
  let b := b.setf F.FIM_STATUS_NEED 0
  if b.fim.digA.map (fun x => x.1) = some d then b
  else { b with fim := { b.fim with digP := b.fim.digA, digA := some (d, imgBuild b.fim.stage) } }

/-- A raise stands in both copies of a counter. -/
def Coc.ctrBoth (c : Coc) (slot v : Nat) : Bool := decide (v ≤ c.logA.getD slot 0) && decide (v ≤ c.logB.getD slot 0)

/-- The two sectors of a NOR counter take a raise (R286, R287). -/
def Coc.ctrNow (c : Coc) (slot v : Nat) : Coc :=
  { c with logA := c.logA.put slot (max v (c.logA.getD slot 0)), logB := c.logB.put slot (max v (c.logB.getD slot 0)),
           raises := c.raises.filter (fun r => !(r.1 == slot && r.2.1 == v)) }

/-- The commit is complete (R304): ACTIVE and PREVIOUS change, probation begins, MGMT_BUSY falls. -/
def Block.commitEnd (b : Block) (c : Commit) : Block :=
  let l := b.fim.stage
  let b := if b.hasStore then (if b.fim.stageSrc = 3 then b else b.setPrev b.fim.actOk (b.f F.FIM_ACT_BUILD_BUILD)) else b.keepDigest
  let b := (b.showActive l).setFim 0
  let b := { b with busy := none, fim := { b.fim with commit := none, actOk := true, prob := true } }
  b.raise Ev.FIM_COMMITTED [(imgBuild l, 32), (c.phase, 64)]

/-- COMMIT_DONE: once the raise stands in both copies of the counter; a D-role's NOR takes it now. -/
def Block.commitDone (b : Block) : Block :=
  match b.fim.commit with
  | some c =>
    let mine := b.imgSlot (b.activeCopy.getD true)
    if ¬ c.applied then b
    else if c.gen = 0 then b.commitEnd c
    else if b.syn.agg then (if b.coc.ctrBoth mine c.gen then b.commitEnd c else b)
    else ({ b with coc := b.coc.ctrNow mine c.gen }).commitEnd c
  | none => b

/-- Probation is over after BOUNDARIES boundaries (R309). -/
def Block.probEnd (b : Block) : Block :=
  let n := b.f F.FIM_PROB_BOUNDARIES
  if n ≠ 0 ∧ n ≤ b.fim.probSeen then b.confirm_ else b

/-! The start (R300, R310) -/

/-- Whether a copy passes: its checks, and in the aggregator its expansion (R308): the code of the first failure. -/
def Block.copyFails (b : Block) (c : Option ImgCopy) : Option Nat :=
  match c with
  | none => some 1
  | some x =>
    match b.imgCheck x.bytes with
    | some e => some e.1
    | none =>
      match imgBody x.bytes 5 with
      | some s => if b.syn.agg ∧ (expandModel true s).toOption.isNone then some 0xB else none
      | none => none

/-- After a power-on reset SELF_PLOC is what was kept with a copy. -/
def Block.plocOf (b : Block) (c : Option ImgCopy) : Block :=
  match c with
  | some x => if b.fim.por then b.setf F.SELF_PLOC_PLOC x.ploc else b
  | none => b

/-- Apply a copy at start. -/
def Block.applyCopy (b : Block) (x : Bool) (c : ImgCopy) : Block :=
  let b := (b.applyImage c.bytes true).showActive c.bytes
  { (b.setf F.FIM_STATUS_LEVEL (imgLevel c.bytes)) with
    fim := { (b.fim.setCopy x (some { c with ploc := b.f F.SELF_PLOC_PLOC })) with actOk := true, stage := c.bytes } }

/-- The steps of R310 for a block whose counters name an ACTIVE: whether an image was applied. An ACTIVE of another role sets MISMATCH (R19). -/
def Block.startCopies (b : Block) (x : Bool) : Bool × Block :=
  let act := b.fim.copy x
  let prev := b.fim.copy (!x)
  let b := b.plocOf act
  let fails := if b.fim.prob ∧ b.f F.RST_CAUSE_LAST = 4 then some 0 else b.copyFails act
  match fails, act with
  | none, some c =>
    let b := b.applyCopy x c
    (true, b.setPrev (b.fim.prevOk && prev.isSome) ((prev.map (fun p => imgBuild p.bytes)).getD 0))
  | code, _ =>
    let b := if code = some 5 then b.setf F.ROLE_STATUS_MISMATCH 1 else b
    let b := b.plocOf prev
    match (if b.fim.prevOk then b.copyFails prev else some 1), prev with
    | none, some c =>
      let b := b.raiseCtr (b.imgSlot (!x)) (max (b.gen true) (b.gen false) + 1)
      let b := ((b.applyCopy (!x) c).setPrev false 0).setErr (code.getD 0, 0, 0x1F)
      let b := ({ b with fim := { b.fim with prob := false } }).setf F.FIM_STATUS_ROLLED 1
      (true, b.raise Ev.FIM_ROLLBACK [b.errArg, (imgBuild c.bytes, 32), (b.phase, 64)])
    | _, _ => (false, b)

/-- The image at a start (R300, R310): whether one was applied. -/
def Block.startupApply (b : Block) : Bool × Block :=
  if b.hasStore then
    match b.activeCopy with
    | some x => b.startCopies x
    | none => (false, b)
  else if b.fim.digA.isSome ∧ ¬ b.fim.por then (false, (b.setf F.FIM_STATUS_NEED 1).raise Ev.FIM_NEED)
  else (false, b)

/-! Meanings -/

/-- IMAGE_LOAD. -/
def execImageLoad (m : Master) (word : Nat) (s : State) : Host.Outcome State Fault Refusal :=
  s.lift (fun b => b.write m 0xD008 (setBit word 2 1) (fun b => b.fimCmd (setBit word 2 1)))
/-- IMAGE_ABORT. -/
def execImageAbort (m : Master) (word : Nat) (s : State) : Host.Outcome State Fault Refusal :=
  s.lift (fun b => b.write m 0xD008 (setBit word 3 1) (fun b => b.fimCmd (setBit word 3 1)))
/-- IMAGE_COMMIT. -/
def execImageCommit (m : Master) (word : Nat) (s : State) : Host.Outcome State Fault Refusal :=
  s.lift (fun b => b.write m 0xD008 (setBit word 4 1) (fun b => b.fimCmd (setBit word 4 1)))
/-- IMAGE_ROLLBACK. -/
def execImageRollback (m : Master) (word : Nat) (s : State) : Host.Outcome State Fault Refusal :=
  s.lift (fun b => b.write m 0xD008 (setBit word 5 1) (fun b => b.fimCmd (setBit word 5 1)))
/-- IMAGE_CONFIRM. -/
def execImageConfirm (m : Master) (word : Nat) (s : State) : Host.Outcome State Fault Refusal :=
  s.lift (fun b => b.write m 0xD008 (setBit word 6 1) (fun b => b.fimCmd (setBit word 6 1)))
/-- IMAGE_DATA. -/
def execImageData (m : Master) (word : Nat) (s : State) : Host.Outcome State Fault Refusal :=
  s.lift (fun b => b.write m 0xD00C word (fun b => b.loadWord word))
/-- LOAD_COMPLETE. -/
def execLoadComplete (dram : List Byte) (s : State) : Host.Outcome State Fault Refusal :=
  s.lift (fun b => if b.on dSTEWARD then b.loadDone_ dram else b)
/-- COMMIT_NO_BOUNDARY. -/
def execCommitNoBoundary (s : State) : Host.Outcome State Fault Refusal := s.lift Block.commitLate
/-- COMMIT_DONE. -/
def execCommitDone (s : State) : Host.Outcome State Fault Refusal := s.lift Block.commitDone
/-- PROBATION_END. -/
def execProbationEnd (s : State) : Host.Outcome State Fault Refusal := s.lift Block.probEnd
/-- MODEL_EXPAND: HWK_EXPAND.GO. -/
def execModelExpand (m : Master) (word : Nat) (s : State) : Host.Outcome State Fault Refusal :=
  s.lift (fun b => b.write m 0x600C (setBit word 0 1) Block.expandGo)
/-- EXPAND_DONE. -/
def execExpandDone (s : State) : Host.Outcome State Fault Refusal := s.lift Block.expandDone_

end Sys2Proof.Machine
end

