-- ==== Sys2Proof/Machine/Fire.lean ====
section
/-! DEFINITION. Phase, wingbeats, fires and launches (spec/02_antenna_phase_time.md, R42 to R55, R63 to R67). -/

namespace Sys2Proof.Machine

/-! Fire requests (R49) -/

/-- MINGAP: values below 0x10 act as 0x10. -/
def Block.minGap (b : Block) : Nat := max 16 (b.f F.ANT_CTRL_MINGAP)

/-- When the queued requests fire if nothing hinders them: each once it is due, MINGAP after the one before. -/
def fireTimes (gap now : Nat) (last : Option Nat) (l : List FireReq) : List Nat :=
  match l with
  | [] => []
  | r :: t =>
    let x := max (max r.due now) ((last.map (fun y => y + gap)).getD 0)
    x :: fireTimes gap now (some x) t

/-- Requests that still take a place at a cycle. -/
def Block.placesAt (b : Block) (cycle : Nat) : Nat :=
  ((fireTimes b.minGap b.clk.core b.ant.lastFire b.ant.fireQ).filter (fun x => decide (cycle < x))).length

/-- Show the fire queue (ANT_STATUS.FIREQ). -/
def Block.showFireQ (b : Block) : Block := b.setf F.ANT_STATUS_FIREQ (min 8 (b.placesAt (b.clk.core + 2)))

/-- The phase of a wingbeat. -/
def phaseOf (step pos : Nat) : Nat := step % 2 ^ 40 * 2 ^ 24 + pos % 2 ^ 24

/-- WALL of the cycle in which a request arrives (R49, Table 2-3): a crossing's is queued one cycle after it is found. -/
def Block.arrivalWall (b : Block) (r : FireReq) : Nat := if b.clk.core < r.due then b.runTime.wall else b.wall

/-- PHASE of a request's records (R50): its own, or for a time wingbeat the die's. -/
def Block.firePhase (b : Block) (r : FireReq) : Nat := if r.cause = 5 then b.phase else phaseOf r.step r.pos

/-- A request that finds the queue full (R49, R67): STORM, a WB_SKIP record, absent contributions. -/
def Block.skipFire (b : Block) (r : FireReq) : Block :=
  let p := b.firePhase r
  let w := b.arrivalWall r
  let b := b.raise Ev.ANT_STORM
  let b := b.emitAt (b.rdestQ 5) (b.rdestS 5) 0x02 0 0 0 p w (captureDesc r.idx 3 0 0 0)
  b.fireContribs b r.idx r.step 3 r.acts p w

/-- A request enters the fire queue (R49, R52): lost while time is not valid. A request that fires at once leaves its place free. -/
def Block.enqueue (b : Block) (r : FireReq) : Block :=
  if ¬ b.timeValid then b
  else if 8 ≤ b.placesAt r.due then b.skipFire r
  else ({ b with ant := { b.ant with fireQ := b.ant.fireQ ++ [r] } }).showFireQ

/-- ACT bits of a table entry, FREEZE first. -/
def Block.entryActs (b : Block) (i : Nat) : Nat :=
  b.f (F.ANT_WB_ENTRY_FREEZE.at i) + 2 * b.f (F.ANT_WB_ENTRY_MON.at i) + 4 * b.f (F.ANT_WB_ENTRY_SCL.at i) + 8 * b.f (F.ANT_WB_ENTRY_SWM.at i)

/-- Enabled entries whose position passes a test, ascending index. -/
def Block.entries (b : Block) (p : Nat → Bool) : List Nat :=
  (List.range 256).filter (fun i => b.is (F.ANT_WB_ENTRY_EN.at i) && p (b.f (F.ANT_WB_ENTRY_POS.at i)))

/-- Enqueue a table entry's crossing for a step: it fires two cycles on (Table 2-3). -/
def Block.cross (b : Block) (step cause i : Nat) : Block :=
  b.enqueue { step := step, pos := b.f (F.ANT_WB_ENTRY_POS.at i), idx := i, cause := cause, acts := b.entryActs i,
              bcn := b.is (F.ANT_WB_ENTRY_BCN.at i), due := b.clk.core + 2 }

/-! The phase (R44) -/

/-- The largest fraction. -/
def maxFrac : Nat := 0xFFFFFF

/-- Whether the port is followed (R42, R43): the D build, ANTENNA ON, PHSRC = 0b00. -/
def Block.portFollowed (b : Block) : Bool := !b.syn.agg && b.on dANTENNA && b.phsrc == 0

/-- Show CLAMPED. -/
def Block.setClamped (b : Block) (v : Bool) : Block := ({ b with ant := { b.ant with clamped := v } }).setb F.ANT_STATUS_CLAMPED v

/-- The part of a cycle that adds PHR_ADV. -/
def Block.advance (b : Block) (adv : Nat) : Block :=
  let frac := b.ant.frac
  let sum := frac + adv % 65536
  let new := min sum maxFrac
  let b := if maxFrac < sum then
      let b := b.count F.ANT_OVERRUN_UNITS (sum - maxFrac)
      if b.ant.clamped then b else (b.raise Ev.ANT_OVERRUN).setClamped true
    else b
  let b := (b.entries (fun p => decide (frac < p) && decide (p ≤ new))).foldl (fun b i => b.cross b.ant.step 0 i) b
  { b with ant := { b.ant with frac := new } }

/-- A step strobe: catch-up fires of the old step, then the new step begins. -/
def Block.strobe (b : Block) : Block :=
  let b := (b.entries (fun p => decide (b.ant.frac < p))).foldl (fun b i => b.cross b.ant.step 2 i) b
  let step := (b.ant.step + 1) % 2 ^ 40
  let b := { b with ant := { b.ant with step := step } }
  let b := b.raiseIf (step == 0) Ev.ANT_STEP_WRAP
  let b := ({ b with ant := { b.ant with frac := 0 } }).setClamped false
  (b.entries (fun p => p == 0)).foldl (fun b i => b.cross step 0 i) b

/-- A load: only a phase above the present one is taken; other inputs of the cycle are dropped. -/
def Block.loadPhase (b : Block) (value : Nat) (others : Bool) : Block :=
  let v := value % 2 ^ 64
  let b := if b.phase < v then { b with ant := { b.ant with step := v / 2 ^ 24, frac := v % 2 ^ 24 } } else b.raise Ev.ANT_SET_REFUSED
  b.raiseIf others Ev.ANT_SET_COLLIDE

/-- The first sample loads the edge detector (R43). -/
def Block.sampled_ (b : Block) : Block := { b with ant := { b.ant with sampled := true } }

/-- A cycle of the port whose inputs PHR_SET and PHR_STEP have risen as given (R43, R44). -/
def Block.portCycle (b : Block) (load : Option Nat) (stepRise : Bool) (adv : Nat) : Block :=
  if ¬ b.portFollowed then b
  else if ¬ b.ant.sampled then b.sampled_.advance adv
  else
    let b := if stepRise then b.stepTimer else b
    match load with
    | some v => b.loadPhase v (stepRise || adv % 65536 != 0)
    | none => (if stepRise then b.strobe else b).advance adv

/-! Timeouts (R45, R54) -/

/-- No step strobe for STEP × 100 µs: raised once; it may freeze the hang rings (R109). -/
def Block.stepLate (b : Block) : Block :=
  let n := b.f F.ANT_TIMEOUTS_STEP
  if b.portFollowed ∧ n ≠ 0 ∧ ¬ b.ant.stepHit ∧ b.ant.stepFrom + aonUs (100 * n) ≤ b.clk.aon then
    let b := ({ b with ant := { b.ant with stepHit := true } }).raise Ev.ANT_STEP_TIMEOUT
    if b.is F.TRC_HANG_CTRL_ON_STEP then b.hangFreeze 3 else b
  else b

/-- No beacon for BEACON × 100 µs: raised once. -/
def Block.beaconLate (b : Block) : Block :=
  let n := b.f F.ANT_TIMEOUTS_BEACON
  if ¬ b.syn.agg ∧ b.on dANTENNA ∧ b.phsrc = 1 ∧ n ≠ 0 ∧ ¬ b.ant.bcnHit ∧ b.ant.bcnFrom + aonUs (100 * n) ≤ b.clk.aon then
    ({ b with ant := { b.ant with bcnHit := true } }).raise Ev.ANT_BEACON_LOST
  else b

/-! Beacons (R53, R54) -/

/-- A follower takes a beacon above its phase; one that is not is dropped. No rule gives the latency from its arrival to an uncontended fire
(Table 2-3 is of crossings): its request is due in the cycle of arrival (DESIGN CHOICE, log entry 135). -/
def Block.followBeacon (b : Block) (step pos idx wall : Nat) : Block :=
  let b := b.beaconTimer
  if b.phase < phaseOf step pos then
    let b := { b with ant := { b.ant with step := step % 2 ^ 40, frac := pos % 2 ^ 24 } }
    b.enqueue { step := step % 2 ^ 40, pos := pos % 2 ^ 24, idx := idx % 256, cause := 4, acts := b.entryActs (idx % 256), srcWall := wall,
                due := b.clk.core }
  else b.raise Ev.ANT_BEACON_STALE

/-- Whether a beacon passes the test of R28 at an aggregator (R54): its LDI and epoch are those of the binding that this aggregator keeps, or
that its route was announced with; one that knows no binding of the LDI lets it pass, but for a T-role's from below (log entry 98). -/
def Block.beaconOk (b : Block) (port ldi epoch : Nat) : Bool :=
  if b.isT then
    (if (b.fab.binds.getD ldi {}).epoch ≠ 0 then b.binding ldi epoch else decide (128 ≤ port))
  else (b.fab.routeEpochs.find ldi).elim true (fun e => e == epoch)

/-- The ports a beacon goes out on (R53): those of the followers that the image lists for its source; back on the port it came by only at a
T-role, whose chain may hold followers of a unit on it. -/
def Block.beaconPorts (b : Block) (port ldi : Nat) : List Nat :=
  ((b.fab.topo.beacons.filter (fun p => p.1 == ldi)).map (fun p => p.2)).filter (fun n => n != port || (b.isT && decide (port < 128)))

/-- BEACON: an aggregator passes it to the followers' ports after the test of R28; a D-role follows its source. -/
def Block.beacon (b : Block) (port ldi epoch step pos idx wall : Nat) : Block :=
  let b := b.unstage port 2
  if b.syn.agg then
    if b.beaconOk port ldi epoch then b.sendAll (b.beaconPorts port ldi) (.beacon ldi epoch step pos idx wall) else b
  else if b.on dANTENNA ∧ b.phsrc = 1 ∧ ldi = b.f F.ANT_BEACON_SRC_LDI then b.followBeacon step pos idx wall
  else b

/-! Time wingbeats (R55) -/

/-- The next due instant is reached: a request of cause TIME, whose step is its count. -/
def Block.timeWingbeat (b : Block) : Block :=
  let per := atLeast1 (b.f F.ANT_TWB_PERIOD_PERIOD)
  let t := (b.ant.twbFrom / per + 1) * per
  if ¬ b.syn.agg ∧ b.on dANTENNA ∧ b.is F.ANT_CTRL_TWB_EN ∧ b.timeValid ∧ t ≤ b.nowUs then
    let b := { b with ant := { b.ant with twbFrom := t } }
    let acts := b.f F.ANT_TWB_ACT_FREEZE + 2 * b.f F.ANT_TWB_ACT_MON + 4 * b.f F.ANT_TWB_ACT_SCL + 8 * b.f F.ANT_TWB_ACT_SWM
    b.enqueue { step := t / per % 2 ^ 40, pos := b.ant.frac, idx := b.f F.ANT_TWB_ACT_IDX, cause := 5, acts := acts, due := b.clk.core }
  else b

/-! Fires (R49 to R51) -/

/-- The request that fires now: at the head, due, MINGAP after the previous fire. -/
def Block.dueFire (b : Block) : Option FireReq :=
  match b.ant.fireQ with
  | r :: _ =>
    if r.due ≤ b.clk.core ∧ (b.ant.lastFire.map (fun t => t + b.minGap)).getD 0 ≤ b.clk.core ∧ ¬ b.syn.agg ∧ b.on dANTENNA ∧ b.timeValid then
      some r
    else none
  | [] => none

/-- The cause a request fires with: a crossing that fires late is DEFERRED. -/
def Block.fireCause (b : Block) (r : FireReq) : Nat := if r.cause = 0 ∧ r.due < b.clk.core then 1 else r.cause

/-- Whether a fire is a wingbeat boundary (R51). -/
def Block.isBoundary (b : Block) (cause : Nat) : Bool := decide (cause ≤ 2) || cause == 4 || (cause == 5 && b.phsrc == 2)

/-- A new acting root's first boundary (R186): its wingbeat is the first that may have a round. -/
def Block.rootBoundary (b : Block) (phase : Nat) : Block :=
  if b.vrd.rootWait then { b with vrd := { b.vrd with rootWait := false, rootFrom := some phase } } else b

/-- What a boundary brings to the die (R22, R186, R223, R224, R304). -/
def Block.dieBoundary (b : Block) (idx phase : Nat) : Block := ((b.commitBoundary idx phase).fabBoundary).rootBoundary phase

/-- The captures of a fire: counters, monitors, Scales, contributions, the local tile, in the state `pre` of the fire; monitors
are read as the freeze's counter samples leave them (R83, R84). -/
def Block.captures (b pre : Block) (r : FireReq) (cause phase : Nat) : Block :=
  let b := if bit r.acts 0 = 1 then b.freeze r.idx cause phase b.wall else b
  let pre := { pre with prb := { pre.prb with mons := b.prb.mons } }
  let b := if bit r.acts 1 = 1 then b.captureMons r.idx cause phase b.wall else b
  let b := if bit r.acts 2 = 1 then b.sclRead r.idx cause phase b.wall else b
  let b := b.fireContribs pre r.idx r.step cause r.acts b.phase b.wall
  b.localPass pre r.idx cause r.acts phase b.wall

/-- WB_MARK of a boundary and the beacon of an entry with BCN (R51, R53). A die that was told to unbind sends nothing of its own (R247); one
that was never bound sends them too (log entry 67). -/
def Block.fireSends (b : Block) (r : FireReq) (cause : Nat) (bound : Bool) : Block :=
  if b.fab.released then b
  else
    let b := if bound then b.sendMsg b.upPort (.wbMark r.step r.idx b.wall) else b
    if r.bcn ∧ cause ≤ 2 then b.sendMsg b.upPort (.beacon b.selfLdi b.selfEpoch r.step r.pos r.idx b.wall) else b

/-- The head request fires: the commit's apply and the path's return come first, then the capture units get its descriptor (Table 2-4: a time
wingbeat's POS is the fraction now), then messages; the host sees PHR_WB. -/
def Block.fire (b : Block) : Block :=
  match b.dueFire with
  | none => b
  | some r =>
    let cause := b.fireCause r
    let phase := b.firePhase r
    let bound := b.isBoundary cause
    let r : FireReq := { r with cause := cause, pos := if cause = 5 then b.ant.frac else r.pos }
    let b := b.raiseIf (cause == 1) Ev.ANT_DEFERRED
    let b := { b with ant := { b.ant with fireQ := b.ant.fireQ.drop 1, lastFire := some b.clk.core, desc := some r },
                      pins := { b.pins with phrWb := true, phrWbIdx := r.idx } }
    let b := if bound then b.dieBoundary r.idx phase else b
    let b := (b.captures b r cause phase).trcFired r.idx
    let b := b.fireSends r cause bound
    (if bound then b.monBoundary r.idx else b).showFireQ

/-- Whether a mark of a step is still remembered when one of step n comes: step numbers wrap (R44), so those from the half of the range that
comes next are forgotten (log entry 97). -/
def keepMark (n s : Nat) : Bool :=
  decide ((n + 2 ^ 40 - s % 2 ^ 40) % 2 ^ 40 < 2 ^ 39) || decide ((s + 2 ^ 40 - n % 2 ^ 40) % 2 ^ 40 < 2 ^ 38)

/-- The first WB_MARK of a wingbeat from a child is an aggregator's boundary (R51), and goes on to the parent, on both links (R23); later copies
are dropped. -/
def Block.wbMark (b : Block) (port step idx wall : Nat) : Block :=
  let b := b.unstage port 2
  let k := (step % 2 ^ 40, idx % 256)
  if ¬ b.syn.agg ∨ 128 ≤ port ∨ b.f F.ROLE_STATUS_ROLE = 3 ∨ b.fab.marks.contains k then b
  else
    let phase := b.wbPhase k.1 k.2
    let b := { b with fab := { b.fab with marks := k :: b.fab.marks.filter (fun x => keepMark k.1 x.1) } }
    let b := b.dieBoundary k.2 phase
    let b := if b.isRoot then b else b.sendAll upstream (.wbMark k.1 k.2 wall)
    let b := ((b.openWingbeat k.1 k.2 wall).openedSince b.tags).passTriggers k.2 phase
    b.monBoundary k.2

/-! Launches (R65, R66) -/

/-- Whether a slot's trigger is reached; without phase a phase trigger never is (R42). -/
def Block.launchReached (b : Block) (l : Launch) : Bool :=
  if l.kind = 1 then !b.syn.agg && decide (l.trig ≤ b.phase) else l.kind == 2 && wallReached b.wall l.trig

/-- Write ANT_LAUNCH_CFG with ARM: the slot reads its trigger. -/
def Block.launchArm (b : Block) (word : Nat) : Block :=
  let b := b.writeFields 0x1204 word
  if bit word 18 = 1 then
    let n := b.f F.ANT_LAUNCH_SEL_SLOT
    let l : Launch :=
      { kind := b.f (F.ANT_LAUNCH_CFG_KIND.ix n), queue := b.f (F.ANT_LAUNCH_CFG_QUEUE.ix n),
        trig := b.f (F.ANT_LAUNCH_AT_LO_AT_LO.ix n) + 2 ^ 32 * b.f (F.ANT_LAUNCH_AT_HI_AT_HI.ix n) }
    let l := { l with late := b.launchReached l }
    let b := { b with ant := { b.ant with launches := b.ant.launches.put n l } }
    ((b.setf (F.ANT_LAUNCH_CFG_ARMED.ix n) 1).setf (F.ANT_LAUNCH_CFG_LATE.ix n) 0).setf (F.ANT_LAUNCH_CFG_EMPTY.ix n) 0
  else b

/-- A slot whose trigger is reached fires, once a flush of its queue has ended: the head item that waits passes to Monarch. -/
def Block.launchFire (b : Block) (n : Nat) : Block :=
  match b.ant.launches.find n with
  | none => b
  | some l =>
    let q := b.qnum l.queue
    if ¬ b.on dANTENNA ∨ ¬ b.launchReached l ∨ (b.queue q).flushing then b
    else
      let b := ({ b with ant := { b.ant with launches := b.ant.launches.del n } }).setf (F.ANT_LAUNCH_CFG_ARMED.ix n) 0
      let b := if l.late then (b.setf (F.ANT_LAUNCH_CFG_LATE.ix n) 1).raise Ev.ANT_LAUNCH_LATE else b
      match (b.queue q).items.find? (fun i => i.seq.isNone && !b.mon.launched.contains (q, i.num)) with
      | some i => { b with mon := { b.mon with launched := b.mon.launched ++ [(q, i.num)] } }
      | none => (b.setf (F.ANT_LAUNCH_CFG_EMPTY.ix n) 1).raise Ev.ANT_LAUNCH_EMPTY

/-! Meanings -/

/-- PHASE_LOAD: PHR_SET has risen; PHR_STEP may have too. -/
def execPhaseLoad (value : Nat) (stepRise : Bool) (adv : Nat) (s : State) : Host.Outcome State Fault Refusal :=
  s.lift (fun b => b.portCycle (some value) stepRise adv)
/-- STEP_STROBE: PHR_STEP has risen. -/
def execStepStrobe (adv : Nat) (s : State) : Host.Outcome State Fault Refusal := s.lift (fun b => b.portCycle none true adv)
/-- PHASE_ADVANCE. -/
def execPhaseAdvance (adv : Nat) (s : State) : Host.Outcome State Fault Refusal := s.lift (fun b => b.portCycle none false adv)
/-- STEP_TIMEOUT. -/
def execStepTimeout (s : State) : Host.Outcome State Fault Refusal := s.lift Block.stepLate
/-- WINGBEAT_FIRE. -/
def execWingbeatFire (s : State) : Host.Outcome State Fault Refusal := s.lift Block.fire
/-- BEACON_RECEIVED. -/
def execBeaconReceived (port ldi epoch step pos idx wall : Nat) (s : State) : Host.Outcome State Fault Refusal :=
  s.lift (fun b => b.beacon port ldi epoch step pos idx wall)
/-- BEACON_LOST. -/
def execBeaconLost (s : State) : Host.Outcome State Fault Refusal := s.lift Block.beaconLate
/-- TIME_WINGBEAT. -/
def execTimeWingbeat (s : State) : Host.Outcome State Fault Refusal := s.lift Block.timeWingbeat
/-- LAUNCH_ARM. -/
def execLaunchArm (m : Master) (word : Nat) (s : State) : Host.Outcome State Fault Refusal :=
  s.lift (fun b => b.write m 0x1204 (setBit word 18 1) (fun b => b.launchArm (setBit word 18 1)))
/-- LAUNCH_FIRE. -/
def execLaunchFire (slot : Nat) (s : State) : Host.Outcome State Fault Refusal := s.lift (fun b => b.launchFire (slot % 32))
/-- WB_MARK_RECEIVED. -/
def execWbMarkReceived (port step idx wall : Nat) (s : State) : Host.Outcome State Fault Refusal := s.lift (fun b => b.wbMark port step idx wall)

end Sys2Proof.Machine
end

