-- ==== Sys2Proof/Machine/MemoryPort.lean ====
section
/-! DEFINITION. Memory that fails its check (spec/14_integrity.md, R313, R314; spec/16_power_reset.md, R348) and the Memory Port
(spec/18_ports_register_map.md, R384 to R386). -/

namespace Sys2Proof.Machine

/-- The record that stands for a Hold Buffer item that is lost (Table 14-3): original TYPE and LEN. -/
def Rec.voided (r : Rec) : Rec :=
  { r with typ := 0x61, fmt := 0, flags := 0, bytes := leBytes 8 (r.typ % 256 + r.bytes.length / 8 * 256), raw := none }

/-- A queue item is lost (Table 14-3): one without a SEQ is discarded and counted, a Hold Buffer item with a SEQ becomes INT_VOID. -/
def Block.itemLost (b : Block) (q num : Nat) : Block :=
  let x := b.queue q
  match x.items.find? (fun i => i.num == num) with
  | none => b
  | some i =>
    if i.seq.isSome ∧ ¬ b.syn.agg then
      b.setQueue q { x with items := x.items.map (fun j => if j.num = num then { j with body := j.body.voided } else j) }
    else (b.setQueue q { x with items := x.items.filter (fun j => j.num != num) }).dropItem q i.body

/-- What an uncorrectable word does to the value it held (Table 14-3; parity: Table 14-2). -/
def Block.valueLost (b : Block) (what : SramHeld) : Block :=
  match what with
  | .swarm tag => b.swarmSram tag
  | .model tree => { b with hwk := { b.hwk with badTrees := tree :: b.hwk.badTrees } }
  | .row e =>
    let r := b.row e
    b.putRow e { r with feats := r.feats.map (fun (p : Nat × Feat) => (p.1, { p.2 with valid := false })) }
  | .drift ch => b.driftClear ch
  | .item q num => (b.itemLost q num).raiseIf (!b.syn.agg) Ev.PWR_RET_ERR
  | .ownerCopy _ _ _ _ buddyOk => b.raiseIf (!buddyOk) Ev.QUE_DUAL_FAULT
  | .txn tag => b.swarmSram tag
  | .queue q => b.dropOld q (b.queue q).items.length
  | .rwl => b
  | .probe _ _ => b
  | .fire => b
  | .retained _ => b.raise Ev.PWR_RET_ERR
  | .other => b

/-- Whether a word is guarded by parity (Table 14-2). -/
def SramHeld.parity (w : SramHeld) : Bool :=
  match w with
  | .rwl => true
  | .probe _ _ => true
  | .txn _ => true
  | .queue _ => true
  | .fire => true
  | _ => false

/-- The report of a word that cannot be corrected (R313, R314): SRAM or DRAM, a parity error, a probe counter or monitor. A retained word
has none (R348). -/
def Block.wordReport (b : Block) (dram : Bool) (addr : Nat) (what : SramHeld) (exp obs : Nat) : Block :=
  match what with
  | .retained _ => b
  | .probe i m => b.report 9 (if m then 1 else 0) 0 5 (i / 2048 * 2 ^ 14 + i % 2 ^ 14) exp obs addr
  | w =>
    if w.parity then b.report 7 1 0 5 0 exp obs addr
    else if dram then (b.count F.INT_ECC_DRAM).memFail 8 0 addr exp obs
    else (b.count F.INT_ECC_UNCORR).memFail 7 0 addr exp obs

/-- A retained word is lost (R348): the value it held is absent. -/
def Block.retLost (b : Block) (addr : Nat) : Block :=
  if 0x4000 ≤ addr then b
  else
    match Config.retPart addr with
    | 0 => if b.syn.agg then { b with fim := { b.fim with medium := [] } } else { b with fim := { b.fim with digA := none } }
    | 1 => if b.syn.agg then b else { b with fim := { b.fim with digP := none } }
    | _ => b

/-- The same for software's part of retained memory: the word reads as unwritten. -/
def retWordLost (mem : Memory) (what : SramHeld) : Memory :=
  match what with
  | .retained addr =>
    let a := addr % 65536 / 8 * 8
    if a < 0x4000 then mem else mem.filter (fun c => !(decide (a ≤ c.1) && decide (c.1 < a + 8)))
  | _ => mem

/-- An uncorrectable word: its report, and what becomes of its value. -/
def Block.wordLost (b : Block) (dram : Bool) (addr : Nat) (what : SramHeld) (exp obs : Nat := 0) : Block :=
  let b := (b.wordReport dram addr what exp obs).valueLost what
  match what with
  | .retained a => b.retLost (a % 65536)
  | _ => b

/-- SRAM_PATROL: a word read by the patrol (R314). -/
def execSramPatrol (w : SramWord) (s : State) : Host.Outcome State Fault Refusal :=
  s.liftM (fun mem b =>
    if b.on dSTEWARD then
      match w with
      | .clean => (mem, b)
      | .corrected => (mem, b.count F.INT_ECC_CORR)
      | .uncorr addr what => (retWordLost mem what, b.wordLost false addr what)
    else (mem, b))

/-- The check bits of a line (R385), by its line address. -/
def lineCheck (addr : Nat) (data : List Byte) : Nat := crc32c (leBytes 8 addr ++ slice data 0 64)

/-- The number of a channel's tag. -/
def mpKey (ch tag : Nat) : Nat := ch % 8 * 1024 + tag % 1024

/-- A response (R385): a late one is discarded and frees its tag; one that is in error or fails its check is a DRAM line failure. -/
def Block.memResponse (b : Block) (ch tag addr : Nat) (data : List Byte) (chk : Nat) (err : Bool) (held : SramHeld) : Block :=
  if ¬ b.syn.agg then b
  else if b.mp.late.contains (mpKey ch tag) then { b with mp := { late := b.mp.late.erase (mpKey ch tag) } }
  else if err ∨ lineCheck addr data ≠ chk then b.wordLost true (addr * 64) held (lineCheck addr data) chk
  else b

/-- No response within 100 µs (R385): a DRAM line failure; the tag stays in use. -/
def Block.memTimeout (b : Block) (ch tag addr : Nat) (held : SramHeld) : Block :=
  if ¬ b.syn.agg ∨ b.mp.late.contains (mpKey ch tag) then b
  else ({ b with mp := { late := mpKey ch tag :: b.mp.late } }).wordLost true (addr * 64) held

/-- MEMORY_RESPONSE. -/
def execMemoryResponse (ch tag addr : Nat) (data : List Byte) (chk : Nat) (err : Bool) (held : SramHeld) (s : State) :
    Host.Outcome State Fault Refusal := s.lift (fun b => b.memResponse ch tag addr data chk err held)
/-- MEMORY_TIMEOUT. -/
def execMemoryTimeout (ch tag addr : Nat) (held : SramHeld) (s : State) : Host.Outcome State Fault Refusal :=
  s.lift (fun b => b.memTimeout ch tag addr held)
/-- SELF_REFRESH_ACK (R386). -/
def execSelfRefreshAck (level : Bool) (s : State) : Host.Outcome State Fault Refusal :=
  s.lift (fun b => if b.syn.agg then { b with pins := { b.pins with mpSrAck := level } } else b)

end Sys2Proof.Machine
end

