-- ==== Sys2Proof/Machine/PowerUnits.lean ====
section
/-! DEFINITION. What the units of each domain do when it sleeps, returns or is reset (spec/16_power_reset.md, Table 16-1, R346 to R364, and
the rules it names). -/

namespace Sys2Proof.Machine

/-- Whether this block acts as root. -/
def Block.actingRoot (b : Block) : Bool := b.isRoot

/-! Answers to a request to sleep (Table 16-1) -/

/-- Whether a port's replay buffers hold a frame. -/
def Port.unacked (p : Port) : Bool := p.bulk.held != [] || p.express.held != [] || p.control.held != []

/-- Whether a domain refuses to sleep, and its REASON. -/
def Block.refuseReason (b : Block) (d : Nat) : Option Nat :=
  let no (c : Bool) (r : Nat) : Option Nat := if c then some r else none
  match d with
  | 1 => no (b.que.procs != [] || b.fim.load.isSome || b.fim.commit.isSome) 1
  | 2 => no (b.ant.fireQ != []) 2
  | 3 => no (b.kl.ports.any (fun p => p.2.unacked)) 3
  | 4 => no (b.syn.agg && (decide (0 < b.unjournalled) || b.flushing)) 4
  | 5 => no (b.coc.progs != [] || b.flushing || b.coc.cursors.any (fun c => c.load.isSome)) 5
  | 6 => no (b.prb.drains != [] || b.prb.mdrains != []) 6
  | 7 => no b.scl.wire.isSome 7
  | 8 => no ((List.range 4).any (fun n => b.trcState n == 2 || b.trcState n == 3 || (b.tbuf n).pkts.length != (b.tbuf n).taken && b.trcState n != 1)) 8
  | 9 => no (b.swm.txns != []) 9
  | 10 => no (b.hwk.pass.isSome || b.hwk.lpass.isSome || b.hwk.expanding.isSome) 10
  | 11 => no (b.slk.jobs.any (fun j => j.engine.isSome && j.trace.isNone && b.consumer j.queue == 1)) 11
  | _ => none

/-! Register fields of a domain -/

/-- Whether a field is RWL. -/
def isRwl (agg : Bool) (off lo : Nat) : Bool :=
  match regAt agg off with
  | some (r, _) => r.fields.any (fun f => f.lo == lo && f.acc == .rwl)
  | none => false

/-- The register fields of a domain take their reset values. After a unit reset RWL fields stand as last applied (R313, R361). -/
def Block.clearRegs (b : Block) (d : Nat) (keepRwl : Bool) : Block :=
  { b with flds := b.flds.filter (fun p =>
      let off := p.1 / 32 % 2 ^ 18
      regionDom (off / 4096) != d || (keepRwl && isRwl b.syn.agg off (p.1 % 32))) }

/-! Unit reset (R361): the state of a return from OFF -/

/-- STEWARD: the resident firmware starts again, counters and interrupts are cleared, the log is empty; report numbers go on (R315), edges
latched in AON wait (R334, R338), and the VSB interface, in AON too, keeps its strap and its solo-listen (R341, R343); the Fabric Image unit keeps what stands in its store and what runs. Procedures go on from their intents (R248). -/
def Block.resetSteward (b : Block) (block : Bool) : Block :=
  let act := b.f F.FIM_ACT_BUILD_BUILD
  let prev := b.f F.FIM_PREV_BUILD_BUILD
  let topo := b.f F.FIM_TOPO_TOPO
  let vsb := b.f F.STW_VSB_STATUS_ADDR
  let solo := b.f F.STW_VSB_STATUS_SOLO
  let b := ((b.clearRegs 1 (!block)).setf F.STW_VSB_STATUS_ADDR vsb).setf F.STW_VSB_STATUS_SOLO solo
  let busy : Option BusyOp := if b.busy = some BusyOp.commit then none else b.busy
  let b := { b with
    busy := busy,
    stw := { checkIn := List.replicate 4 b.clk.aon, windowStart := b.clk.core, recheck := b.clk.core },
    syn_ := {},
    irq := { inLvl := b.irq.inLvl, latchMode := b.irq.latchMode, latched := b.irq.latched },
    evl := { waiting := b.evl.waiting },
    int := { rnum := b.int.rnum } }
  if block then { b with fim := b.fim.blockReset }
  else
    let b := { b with fim := { b.fim with load := none, rollWait := none, commit := none, stage := [] } }
    let b := ((b.setf F.FIM_ACT_BUILD_BUILD act).setf F.FIM_PREV_BUILD_BUILD prev).setf F.FIM_TOPO_TOPO topo
    b.que.procs.foldl (fun b p => b.resumeProc { p with renewed := b.clk.core, stalled := false }) b

/-- ANTENNA: phase reads 0, requests and slots are gone, time is not valid (R45, R52). The time parent is the path's where that is up. -/
def Block.resetAntenna (b : Block) (block : Bool) : Block :=
  let b := b.clearRegs 2 (!block)
  let b := { b with ant := { stepFrom := b.clk.aon, bcnFrom := b.clk.aon, syncAt := b.clk.core, sentAt := b.clk.core, reqAt := b.clk.core } }
  if ¬ block then (if (b.port b.upPort).state = 2 then b.setParent else b).timeGone else b

/-- LINKS: every port is down; the fabric's tables stand over a unit reset. -/
def Block.resetLinks (b : Block) (block : Bool) : Block :=
  let b := if block then b else b.kl.ports.keys.foldl (fun b n => b.declareDown n false) b
  let b := b.clearRegs 3 (!block)
  let fab : Fab := if block then { powerLost := b.fab.powerLost }
    else { b.fab with nbr := [], hbFrom := none, hbLast := none }
  { b with kl := {}, mon := {}, fab := { fab with parentLast := b.clk.core, buddyLast := b.clk.core } }

/-- QUEUE: a die keeps its Hold Buffer and stream state, and sends again what is not accepted (R242); an aggregator loses what its SRAM
held, and over a block reset the owner's state, which the journal brings back. -/
def Block.resetQueue (b : Block) (block : Bool) : Block :=
  let b := b.clearRegs 4 (!block)
  let b := { b with mon := { b.mon with launched := [] } }
  if b.syn.agg then
    if block then { b with que := {} }
    else { b with que := { b.que with queues := [], push := none, inj := none, injArmed := [], injRepeat := [], hostRing := [] } }
  else
    let qs : SMap QueSt := b.que.queues.map (fun (p : Nat × QueSt) => (p.1, { p.2 with flushing := false }))
    ({ b with que := { queues := qs, streams := b.que.streams, itemNum := b.que.itemNum } }).rewind.resendAll

/-- STORE: the media keep what was programmed; the feature table is marked empty (R170), what attached DRAM held in staging is gone. -/
def Block.resetStore (b : Block) (block : Bool) : Block :=
  let b := b.clearRegs 5 (!block)
  { b with coc := b.coc.reset, mp := {}, hwk := { b.hwk with rows := [], cached := [], staged := none },
           busy := if b.busy = some BusyOp.clear ∨ b.busy = some BusyOp.format then none else b.busy }

/-- PROBE: records already formed stay, counters read 0, the next snapshot is marked (R78, R81). -/
def Block.resetProbe (b : Block) (block : Bool) : Block :=
  { b.clearRegs 6 (!block) with prb := {} }

/-- SCALES: no conversion yet; the next wire test is a period away. The level of SCL_TRANSIENT is the pin's, not the domain's (R89). -/
def Block.resetScales (b : Block) (block : Bool) : Block :=
  { b.clearRegs 7 (!block) with scl := { wireAt := b.clk.aon, transient := b.scl.transient, fellAt := b.scl.fellAt } }

/-- TRACE: buffers are empty; frozen hang rings stand (R110). With EN kept the first tick falls in the next cycle (R93). -/
def Block.resetTrace (b : Block) (block : Bool) : Block :=
  let go (n : Block) : Block := if n.is F.TRC_CTRL_EN then n.trcEnable else n
  let cyc := b.trc.cyc
  let b := { b with slk := { b.slk with jobs := b.slk.jobs.map (fun (j : SlkJob) => ({ j with pkts := 0 } : SlkJob)) } }
  go <| if b.is F.TRC_HANG_STATUS_FROZEN then
    let cause := b.f F.TRC_HANG_STATUS_CAUSE
    let n := { b.clearRegs 8 (!block) with trc := { cyc := cyc, units := b.trc.units, freezeWall := b.trc.freezeWall } }
    ((n.setf F.TRC_HANG_STATUS_FROZEN 1).setf F.TRC_HANG_STATUS_CAUSE cause).setf F.TRC_HANG_WALL_LO_LO n.trc.freezeWall
  else { b.clearRegs 8 (!block) with trc := { cyc := cyc } }

/-- SWARM: entries and rounds are gone; what the journal keeps of the account stands (R202, R203), and so does the start of a new root's rounds
(R186). -/
def Block.resetSwarm (b : Block) (block : Bool) : Block :=
  ({ b.clearRegs 9 (!block) with swm := {}, vrd := { rootWait := b.vrd.rootWait, rootFrom := b.vrd.rootFrom, found := b.vrd.found } } : Block).energyRead

/-- HAWK: the model store is copied again from the expanded model in attached DRAM (Table 14-3); a die has none there. The feature table
lies with STORE. -/
def Block.resetHawk (b : Block) (block : Bool) : Block :=
  let busy : Option BusyOp := if b.busy = some BusyOp.expand then none else b.busy
  let b : Block := { b.clearRegs 10 (!block) with busy := busy }
  let old := b.hwk
  let again : Option Model := if b.syn.agg ∧ ¬ block then old.swap.orElse (fun _ => old.active) else none
  { b with hwk := { rows := old.rows, staged := if block then none else old.staged, swap := again, copying := again.isSome } }

/-- CODEC: every job ends, contexts are cleared (R263). -/
def Block.resetCodec (b : Block) (block : Bool) : Block :=
  if block then { b.clearRegs 11 false with slk := {} } else (b.slkSleep true).clearRegs 11 true

/-- The state a domain has after a reset. -/
def Block.resetUnits (b : Block) (d : Nat) (block : Bool) : Block :=
  match d with
  | 1 => b.resetSteward block
  | 2 => b.resetAntenna block
  | 3 => b.resetLinks block
  | 4 => b.resetQueue block
  | 5 => b.resetStore block
  | 6 => b.resetProbe block
  | 7 => b.resetScales block
  | 8 => b.resetTrace block
  | 9 => b.resetSwarm block
  | 10 => b.resetHawk block
  | 11 => b.resetCodec block
  | _ => b

/-- A reset of the whole block reaches a domain (R357). -/
def Block.blockReset (b : Block) (d : Nat) : Block := b.resetUnits d true

/-- A unit reset of a domain, or its return from OFF (R347, R361). -/
def Block.unitReset (b : Block) (d : Nat) : Block := b.resetUnits d false

/-! Stop and return -/

/-- The units of a domain stop (R351): to OFF or to RET. ANTENNA switched off has no valid time (R52); STORE asks for
self-refresh until it is ON again (R386, log entry 153). -/
def Block.stopUnit (b : Block) (d : Nat) (off : Bool) : Block :=
  match d with
  | 1 => b.latchModes
  | 2 => if off then ({ b with ant := { b.ant with fireQ := [] } }.setf F.ANT_STATUS_TIME_VALID 0).timeGone else b
  | 3 => b.kl.ports.keys.foldl (fun b n => b.declareDown n false) b
  | 5 => if b.syn.agg then { b with pins := { b.pins with mpSrReq := true } } else b
  | 6 => if off then { b with prb := {} } else b
  | 8 => if off then ({ b with trc := {}, slk := { b.slk with jobs := b.slk.jobs.map (fun (j : SlkJob) => ({ j with pkts := 0 } : SlkJob)) } }).setf F.TRC_HANG_STATUS_FROZEN 0 else b
  | 11 => b.slkSleep off
  | _ => b

/-- Every enabled port trains (R215). -/
def Block.trainAll (b : Block) : Block :=
  ((List.range (portCount b.syn.agg)).filter (fun n => b.is (F.KL_PORT_CFG_EN.ix n))).foldl Block.train b

/-- Time was not kept (Table 16-1): TIME_VALID = 0, the value of time is open, the timeouts and the edge detector begin anew (R43, R45, R54). -/
def Block.timeLost (b : Block) : Block :=
  let r := b.fresh
  let b := { r.2 with ant := { r.2.ant with fine := r.1 % r.2.fineMod, slew := 0 } }
  (((b.setf F.ANT_STATUS_TIME_VALID 0).stepTimer).beaconTimer.edgeReset).timeGone

/-- The units of a domain go on after RET. -/
def Block.wakeUnit (b : Block) (d : Nat) : Block :=
  match d with
  | 2 => b.timeLost
  | 3 => b.trainAll
  | 5 =>
    let b := { b with pins := { b.pins with mpSrReq := false } }
    if b.pwr.pfLow then b.flushBegin else b
  | 7 => { b with scl := { b.scl with wireAt := b.clk.aon } }
  | 11 => b.slkWake
  | _ => b

/-- Whether a start's release sequence runs. -/
def Block.starting (b : Block) : Bool := match b.pwr.start with | .release => true | _ => false

/-- A domain is ON again: as after a unit reset, or as it was. An aggregator's QUEUE that comes back alone runs RESYNC (R361). -/
def Block.returnUnit (b : Block) (d : Nat) (off : Bool) : Block :=
  if off then
    let b := b.unitReset d
    match d with
    | 3 => b.trainAll
    | 4 => if b.syn.agg ∧ ¬ b.starting then (b.setf F.QUE_STATUS_SYNC 0).startProc 4 0 else b
    | 5 => ({ b with pins := { b.pins with mpSrReq := false } }).cocUp
    | _ => b
  else b.wakeUnit d

/-! Power fail (R355) -/

/-- PF_WARN: Silkworm, the image unit and the journal act; a die discards an item that is not yet whole. -/
def Block.pfBegin (b : Block) : Block :=
  let b := b.slkPf.commitAbandon
  if b.syn.agg then (if b.on dSTORE then b.flushBegin else b) else { b with que := { b.que with push := none } }

/-- PF_CLEAR (R284): the writer and the root's account resume. -/
def Block.pfEnd (b : Block) : Block := b.flushResume.energyRecover

/-! Start -/

/-- The straps, read at power-on (R17, R18): the role, and whether it is valid for the build. -/
def Block.sampleStraps (b : Block) : Block :=
  let role := b.syn.rolePins % 4
  let ok := if b.syn.agg then role == 1 || role == 2 else role == 0
  ((b.setf F.ROLE_STATUS_STRAP role).setb F.ROLE_STATUS_BUILD b.syn.agg).setb F.ROLE_STATUS_STRAP_BAD (!ok)

/-- What a start brings before an image is applied: after a loss of power an aggregator withholds its heartbeats (R285). -/
def Block.atStart (b : Block) : Block :=
  if b.syn.agg ∧ b.f F.RST_CAUSE_LAST ≤ 2 then
    { b with fab := { b.fab with withheld := some (b.clk.core + b.twoL), powerLost := true } }
  else b

end Sys2Proof.Machine
end

