-- ==== Sys2Proof/Machine/Power.lean ====
section
/-! DEFINITION. The power and reset controller (spec/16_power_reset.md, R346 to R365) and the wake watcher
(spec/15_steward_interrupts_sideband.md, R340). -/

namespace Sys2Proof.Machine

/-! Domain states and the sequence engine -/

/-- Put the state of a domain (PWR_STATUS.DOM). -/
def Block.setDom (b : Block) (d v : Nat) : Block := b.setf (domFld d) v

/-- Set the running sequence; PWR_STATUS.SEQ shows one that sleeps, wakes or rolls back. -/
def Block.setSeq (b : Block) (q : Option PSeq) : Block :=
  let busy := match q with
    | some x => x.kind != .start
    | none => false
  ({ b with pwr := { b.pwr with seq := q } }).setb F.PWR_STATUS_SEQ busy

/-- The target state of a domain for sleep: 0b11 acts as 0b10 (PWR_DOM_TGT). -/
def Block.target (b : Block) (d : Nat) : Nat :=
  let t := bits (b.f F.PWR_DOM_TGT_TGT) (2 * d) 2
  if t = 3 then 2 else t

/-- Drive PWR_REQ for a domain. -/
def Block.request (b : Block) (d v : Nat) : Block := { b with pwr := { b.pwr with req := b.pwr.req.put d v } }

/-- The domains that a sleep asks, in reverse release order: present, ON, target not ON (R351). -/
def Block.toStop (b : Block) : List Nat :=
  releaseOrder.reverse.filter (fun d => !domAbsent b.syn.agg d && b.dom d == 2 && b.target d != 2)

/-- The mask of a list of domains. -/
def domMask (l : List Nat) : Nat := l.foldl (fun a d => a + 2 ^ d) 0

/-- Wait for the answer of the next domain of an entry; after the last, ASLEEP and SLEEP_DONE (R351 step 5). -/
def Block.askNext (b : Block) (todo : List Nat) : Block :=
  match todo with
  | d :: rest => b.setSeq (some { kind := .entry, wait := .answer, dom := d, todo := rest, since := b.clk.aon })
  | [] => ((b.setSeq none).setf F.PWR_STATUS_ASLEEP 1).raise Ev.PWR_SLEEP_DONE

/-- The end of a rollback or a wake (R352 to R354): the sleep is reported, or ASLEEP falls and WAKE is raised. -/
def Block.seqEnd (b : Block) (kind : SeqKind) : Block :=
  let b := { (b.setSeq none) with pwr := { (b.setSeq none).pwr with stopped := [] } }
  match kind, b.pwr.refusal with
  | .rollback, some (d, reason, mask) =>
    let b := { b with pwr := { b.pwr with refusal := none } }
    let b := (b.setf F.PWR_SLEEP_STAT_STOPPED mask).setf F.PWR_SLEEP_STAT_VALID 1
    if b.pwr.woken then
      let b := { b with pwr := { b.pwr with woken := false, late := false } }
      (b.setf F.PWR_SLEEP_STAT_WOKEN 1).raise Ev.PWR_WAKE
    else
      let b := ((b.setf F.PWR_SLEEP_STAT_DOMAIN d).setf F.PWR_SLEEP_STAT_REASON reason).setf F.PWR_SLEEP_STAT_WOKEN 0
      let word := d + reason * 16 + mask * 256 + 2 ^ 31
      let b := b.raise Ev.PWR_SLEEP_REFUSED [(word, 32)]
      let late := b.pwr.late
      ({ b with pwr := { b.pwr with late := false } }).raiseIf late Ev.PWR_WAKE
  | .wake, _ => (b.setf F.PWR_STATUS_ASLEEP 0).raise Ev.PWR_WAKE
  | _, _ => b

/-- Request the next domain of a wake, rollback or start ON; after the last, the sequence ends. -/
def Block.wakeNext (b : Block) (kind : SeqKind) (todo : List Nat) (finish : Block → Block) : Block :=
  match todo with
  | d :: rest => (b.request d 2).setSeq (some { kind := kind, wait := .ack, dom := d, todo := rest, since := b.clk.aon })
  | [] => finish b

/-- The stopped domains in the order in which they wake: release order, but those that the power-fail flush needs come first
while PF_WARN_N is low (R352, R355). -/
def Block.wakeOrder (b : Block) : List Nat :=
  let st := b.pwr.stopped.map (fun p => p.1)
  let l := releaseOrder.filter (fun d => st.contains d)
  if b.pwr.pfLow ∧ b.syn.agg then
    let need := [dSTEWARD, dSTORE, dQUEUE] ++ (if b.actingRoot then [dSWARM] else [])
    l.filter (fun d => need.contains d) ++ l.filter (fun d => !need.contains d)
  else l

/-- Begin a rollback or a wake of the stopped domains (R352, R354). -/
def Block.wakeAll (b : Block) (kind : SeqKind) : Block := b.wakeNext kind b.wakeOrder (fun b => b.seqEnd kind)

/-- A refused or interrupted entry rolls back (R352, R353). -/
def Block.rollback (b : Block) (d reason : Nat) : Block :=
  let mask := domMask (b.pwr.stopped.map (fun p => p.1))
  ({ b with pwr := { b.pwr with refusal := some (d, reason, mask) } }).wakeAll .rollback

/-- Whether GO is refused at once, and why (R351 step 1): 0xE PF, 0xD PF_NEED. -/
def Block.goRefused (b : Block) : Option Nat :=
  if b.pwr.pfLow then some 0xE
  else if b.syn.agg ∧ b.is F.COC_CTRL_EN
      ∧ (b.target dSTEWARD = 0 ∨ b.target dSTORE = 0 ∨ b.target dQUEUE = 0 ∨ (b.actingRoot ∧ b.target dSWARM = 0)) then some 0xD
  else none

/-- Whether every domain is held in reset, the inputs of R358 not yet steady. -/
def Block.holding (b : Block) : Bool := match b.pwr.start with | .hold _ => true | _ => false

/-- PWR_SLEEP.GO (R351): ignored while a sequence runs, the block sleeps or is held in reset; a refusal at GO stops no domain. -/
def Block.sleepGo (b : Block) : Block :=
  if b.pwr.seq.isSome ∨ b.is F.PWR_STATUS_ASLEEP ∨ b.holding then b
  else match b.goRefused with
    | some r => ({ b with pwr := { b.pwr with stopped := [], woken := false, refusal := some (0, r, 0) } }).seqEnd .rollback
    | none => ({ b with pwr := { b.pwr with stopped := [], woken := false, late := false } }).askNext b.toStop

/-- The asked domain answers (R351, Table 16-1): REFUSE with its REASON, or READY, and its switch is requested. STORE is not READY while a
request to the attached memory is outstanding (R386, log entry 154). -/
def Block.domainAnswer (b : Block) : Block :=
  match b.pwr.seq with
  | some q =>
    if q.kind = .entry ∧ q.wait = .answer then
      match b.refuseReason q.dom with
      | some r => b.rollback q.dom r
      | none => if q.dom = dSTORE ∧ b.mp.late ≠ [] then b else (b.request q.dom (b.target q.dom)).setSeq (some { q with wait := .ack, since := b.clk.aon })
    else b
  | none => b

/-- No answer within WAIT µs counts as REFUSE with TIMEOUT (R351). -/
def Block.answerTimeout (b : Block) : Block :=
  match b.pwr.seq with
  | some q =>
    if q.kind = .entry ∧ q.wait = .answer ∧ q.since + aonUs (atLeast1 (b.f F.PWR_SLEEP_WAIT)) ≤ b.clk.aon then b.rollback q.dom 0xC
    else b
  | none => b

/-- A domain of an entry has stopped: its units stop, and the next is asked; an entry that a slot or a warning interrupted
rolls back (R351 step 4, R353). -/
def Block.stopped (b : Block) (q : PSeq) (state : Nat) : Block :=
  let b := (b.stopUnit q.dom (state != 1)).setDom q.dom state
  let b := { b with pwr := { b.pwr with stopped := (q.dom, state != 1) :: b.pwr.stopped } }
  if b.pwr.woken then b.rollback q.dom 0 else b.askNext q.todo

/-- A domain returns to ON: released from reset, isolation removed, its units at what they hold in RET or at what they have
after a unit reset (R347, R350). -/
def Block.returned (b : Block) (d : Nat) : Block :=
  let off := !(b.pwr.stopped.contains (d, false))
  let b := ({ b with pwr := { b.pwr with held := b.pwr.held.filter (fun x => x != d) } }).setDom d 2
  let b := b.returnUnit d off
  if d = dSTEWARD then (b.unlatch).drainLog else b

/-- The switch of the domain in hand has acknowledged (R349, R350). -/
def Block.switchAck (b : Block) (d : Nat) : Block :=
  match b.pwr.seq with
  | some q =>
    if q.wait = .ack ∧ q.dom = d then
      match q.kind with
      | .entry => b.stopped q (b.pwr.req.getD d 0)
      | _ => (b.returned d).setSeq (some { q with wait := .gap, since := b.clk.aon })
    else b
  | none => b

/-- No acknowledgement within 100 µs (R349): the domain reads FAULT, SWITCH_FAULT is raised, and the sequence goes on with the
domain treated as OFF. -/
def Block.ackTimeout (b : Block) (d : Nat) : Block :=
  match b.pwr.seq with
  | some q =>
    if q.wait = .ack ∧ q.dom = d ∧ q.since + aonUs 100 ≤ b.clk.aon then
      let b := (b.setDom d 3).raise Ev.PWR_SWITCH_FAULT [(d, 8)]
      match q.kind with
      | .entry => b.stopped q 3
      | _ => (b.stopUnit d true).setSeq (some { q with wait := .gap, since := b.clk.aon })
    else b
  | none => b

/-! Reset and start -/

/-- Put the failed-start count and the latest failure (RST_STAT). -/
def Block.setFails (b : Block) (n last : Nat) : Block := (b.setf F.RST_STAT_FAILS n).setf F.RST_STAT_LAST last

/-- fail(c) of R359: counted up to 3, recorded, START_FAIL raised; after 1 s a SOFT reset follows. -/
def Block.startFail (b : Block) (c : Nat) : Block :=
  let n := min 3 (b.f F.RST_STAT_FAILS + 1)
  let b := (b.setFails n c).raise Ev.PWR_START_FAIL [(c, 8), (n, 8)]
  { b with pwr := { b.pwr with start := .failed b.clk.aon } }

/-- The bit of RST_CAUSE for a reset code (Table 16-5). -/
def causeFld (k : Nat) : Fld := ⟨0x10100, k - 1, 1, if k = 1 then 1 else 0⟩

/-- The part of a reset common to all kinds but UNIT (R357, R359, R369): records that a drain has formed are in their queue (R81), domains 1 to
11 go to reset and OFF, the units lose what a reset clears, masters are locked, any sleep is forgotten, the cause is recorded, and the hold of R358 begins. -/
def Block.resetCore (b : Block) (k : Nat) : Block :=
  let b := releaseOrder.foldl (fun b d => (b.blockReset d).setDom d 0) b.cutDrains
  let b := if k = 2 then { b with coc := b.coc.powerUp } else b
  let z (x : MasterSec) : MasterSec := { x with addR := 0, addP := 0 }
  let b := { b with sec := { b.sec with mgmt := z b.sec.mgmt, vsb := z b.sec.vsb, test := z b.sec.test }, busy := none,
                    pwr := { b.pwr with seq := none, stopped := [], refusal := none, woken := false, late := false, heldReset := none,
                                        held := [1, 2, 3, 4, 5, 6, 7, 8, 9, 10, 11], req := [], start := .hold b.clk.aon } }
  let b := (b.setf F.PWR_STATUS_SEQ 0).setf F.PWR_STATUS_ASLEEP 0
  let b := (b.setf F.PWR_STATUS_CHRYS 0).setf F.RST_STAT_CHRYS 0
  let b := (b.setf F.RST_STAT_GOOD 0).setf F.ROLE_STATUS_ROLE 3
  (b.setf (causeFld k) 1).setf F.RST_CAUSE_LAST k

/-- A reset of kind PIN, WDOG, SOFT or MAIN (R357, R359): PIN, WDOG and SOFT wait for the end of a power-fail flush; a WDOG
reset before a good start counts a failed start. -/
def Block.reset (b : Block) (k : Nat) : Block :=
  if b.flushing ∧ k ≠ 2 then { b with pwr := { b.pwr with heldReset := some k } }
  else
    let b := if k = 4 ∧ ¬ b.is F.RST_STAT_GOOD then b.setFails (min 3 (b.f F.RST_STAT_FAILS + 1)) 2 else b
    b.resetCore k

/-- A power-on reset (R357): every domain, AON included, and the retained banks; the straps are sampled, the key store is
read, each master is in lockout for 1 s (R17, R341, R366, R372). What lies in the attached NAND, NOR and OTP stays. -/
def Block.por (b : Block) : Block :=
  let m : MasterSec := { lockEnd := some (b.clk.aon + aonSec) }
  let n : Block := { syn := b.syn, clk := b.clk, freeN := b.freeN, coc := b.coc.powerUp, fim := b.fim.powerUp b.hasStore,
                     sec := { mgmt := m, vsb := m, test := m, otp := b.sec.otp },
                     irq := { inLvl := b.irq.inLvl }, scl := { transient := b.scl.transient }, pwr := { start := .hold b.clk.aon, pfLow := b.pwr.pfLow } }
  let n := (n.setf F.STW_VSB_STATUS_ADDR b.syn.vsbPins).sampleStraps
  (n.setb F.PWR_STATUS_PF b.pwr.pfLow).readOtp

/-- Enter Chrysalis (R359, R362): only STEWARD, STORE and LINKS are released; TRACE stays unpowered, so its frozen rings are gone (R110). -/
def Block.chrysalis (b : Block) : Block :=
  let cause := if b.is F.ROLE_STATUS_STRAP_BAD then 2 else 1
  let b := (((b.stopUnit dTRACE true).setf F.PWR_STATUS_CHRYS 1).setf F.RST_STAT_CHRYS 1).setf F.RST_STAT_CCAUSE cause
  ({ b with pwr := { b.pwr with start := .release } }).wakeNext .start [dSTEWARD, dSTORE, dLINKS] id

/-- START_SEQUENCE (R358, R359): due once the inputs have been steady for 50,000 CLK_AON cycles. -/
def Block.startSequence (b : Block) : Block :=
  match b.pwr.start with
  | .hold t =>
    if t + 50000 ≤ b.clk.aon ∧ ¬ b.pwr.pfLow then
      let b := (b.setf F.RST_STAT_GOOD 0).count F.RST_STAT_BOOTS
      if b.is F.ROLE_STATUS_STRAP_BAD ∨ 3 ≤ b.f F.RST_STAT_FAILS then b.chrysalis
      else ({ b with pwr := { b.pwr with start := .release } }).wakeNext .start
             (releaseOrder.filter (fun d => !domAbsent b.syn.agg d)) id
    else b
  | _ => b

/-- The end of a start's release sequence (R359): SWITCH, or the image of R310, or a wait for one. A commit in Chrysalis has applied its
image already (R363). -/
def Block.released (b : Block) : Block :=
  let b := b.setSeq none
  if b.is F.RST_STAT_CHRYS then { b with pwr := { b.pwr with start := .noImage b.clk.aon } }
  else if b.dom dSTEWARD = 3 ∨ b.dom dSTORE = 3 ∨ b.dom dQUEUE = 3 then b.startFail 4
  else if b.fim.run.isSome then { b with pwr := { b.pwr with start := .running b.clk.aon } }
  else
    let b := b.atStart
    let r := b.startupApply
    if r.1 then { r.2 with pwr := { r.2.pwr with start := .running b.clk.aon } }
    else if r.2.hasCommitted ∧ r.2.hasStore then r.2.startFail 1
    else { r.2 with pwr := { r.2.pwr with start := .noImage b.clk.aon } }

/-- After RST_GAP cycles the next domain in order is requested; after the last, the sequence ends (R350). -/
def Block.domainRelease (b : Block) : Block :=
  match b.pwr.seq with
  | some q =>
    if q.wait = .gap ∧ q.since + atLeast1 (b.f F.RST_GAP_CYCLES) ≤ b.clk.aon then
      match q.kind with
      | .start => b.wakeNext .start q.todo (fun b => b.released)
      | k => b.wakeNext k q.todo (fun b => b.seqEnd k)
    else b
  | none => b

/-- GOOD seconds after an apply with no reset (R360). -/
def Block.startGood (b : Block) : Block :=
  match b.pwr.start with
  | .running t =>
    if t + atLeast1 (b.f F.RST_START_GOOD) * aonSec ≤ b.clk.aon then
      ({ b with pwr := { b.pwr with start := .good } }.setf F.RST_STAT_GOOD 1).setf F.RST_STAT_FAILS 0
    else b
  | _ => b

/-- No image applied within LIMIT seconds by a block whose store holds no committed copy (R360). -/
def Block.startLimit (b : Block) : Block :=
  match b.pwr.start with
  | .noImage t =>
    if b.hasStore ∧ ¬ b.is F.RST_STAT_CHRYS ∧ t + atLeast1 (b.f F.RST_START_LIMIT) * aonSec ≤ b.clk.aon then b.startFail 3 else b
  | _ => b

/-- 1 s after a failed start, a SOFT reset that leaves the count as it stands (R359). -/
def Block.startFailReset (b : Block) : Block :=
  match b.pwr.start with
  | .failed t => if t + aonSec ≤ b.clk.aon then b.reset 5 else b
  | _ => b

/-- The domains named in an RST_UNIT write. -/
def Block.unitDoms (b : Block) (word : Nat) : List Nat :=
  (List.range 12).filter (fun d => d != 0 && bit word d == 1 && !domAbsent b.syn.agg d)

/-- RST_UNIT (R356, R361): with the key, each named domain takes the state of a return from OFF and is left ON; during a
sleep, wake or flush, while reset holds the block, or naming a domain that is not ON, it is refused with UREF (log entry 119). -/
def Block.unitResetWrite (b : Block) (word : Nat) : Block :=
  if bits word 16 16 ≠ 0xA5C3 then b
  else if b.pwr.seq.isSome ∨ b.is F.PWR_STATUS_ASLEEP ∨ b.flushing ∨ b.holding ∨ (b.unitDoms word).any (fun d => !b.on d) then
    b.setf F.RST_STAT_UREF 1
  else (b.unitDoms word).foldl (fun b d => b.returned d) b

/-! Power fail and the wake watcher -/

/-- PF_WARN_N falls (R355): PF_WARN; the units act; a sleep or its entry ends, the domains that the flush needs first. -/
def Block.pfWarn (b : Block) : Block :=
  let b := ({ b with pwr := { b.pwr with pfLow := true } }).setf F.PWR_STATUS_PF 1
  let b := match b.pwr.start with
    | .hold _ => { b with pwr := { b.pwr with start := .hold b.clk.aon } }
    | _ => b
  let b := b.raise Ev.PWR_PF_WARN
  let b := b.pfBegin
  match b.pwr.seq with
  | some q =>
    if q.kind = .entry then
      let b := { b with pwr := { b.pwr with woken := true } }
      if q.wait = .answer then b.rollback q.dom 0 else b
    else if q.kind = .start then b
    else b.setSeq (some { q with todo := b.wakeOrder.filter (fun d => q.todo.contains d) })
  | none => if b.is F.PWR_STATUS_ASLEEP then b.wakeAll .wake else b

/-- PF_WARN_N rises (R355): PF_CLEAR, and R284 applies. -/
def Block.pfClear (b : Block) : Block :=
  let b := ({ b with pwr := { b.pwr with pfLow := false } }).setf F.PWR_STATUS_PF 0
  let b := match b.pwr.start with
    | .hold _ => { b with pwr := { b.pwr with start := .hold b.clk.aon } }
    | _ => b
  (b.raise Ev.PWR_PF_CLEAR).pfEnd

/-- Whether an input is active in its IRQ_IN mode, as the watcher sees it (Table 15-5). -/
def Block.inActive (b : Block) (n : Nat) : Bool :=
  let lv := bit b.irq.inLvl n
  match b.inMode n with
  | 0 => lv == 1
  | 1 => lv == 0
  | 2 => lv == 1
  | _ => lv == 0

/-- PWR_SLEEP.WAKE (R354): acts while ASLEEP = 1. -/
def Block.sleepWake (b : Block) : Block :=
  if b.is F.PWR_STATUS_ASLEEP ∧ b.pwr.seq.isNone then b.wakeAll .wake else b

/-- The domain of an interrupt source's unit. -/
def srcDom (s : Nat) : Nat :=
  if 464 ≤ s ∧ s < 480 then 0
  else match s / 32 with
    | 0 => 2 | 1 => 6 | 2 => 7 | 3 => 8 | 4 => 9 | 5 => 10 | 6 => 9 | 7 => 3 | 8 => 3 | 9 => 4 | 10 => 11 | 11 => 5
    | _ => 1

/-- Whether a watcher source's condition is seen (R340, Table 15-5). -/
def Block.watched (b : Block) (src : Nat) : Bool :=
  if src < 512 then b.pends src && (srcDom src == 0 || b.on (srcDom src))
  else if src < 0x220 then b.inActive (src - 512)
  else if src = 0x220 then b.vsb.seen
  else src == 0x221 && b.pwr.timerHit

/-- A watcher slot fires (R340, R353, R354): its latch bit is set; an entry stops at the end of the step in hand; a sleeping
block wakes; a slot that fires in a rollback is reported when it ends. -/
def Block.watchFire (b : Block) (slot : Nat) : Block :=
  let n := slot % 32
  if b.is (F.PWR_WAKE_SRC_EN.at n) ∧ b.watched (b.f (F.PWR_WAKE_SRC_SRC.at n)) then
    let b := b.setf ⟨0x10880, n, 1, 0⟩ 1
    match b.pwr.seq with
    | some q =>
      match q.kind with
      | .entry => { b with pwr := { b.pwr with woken := true } }
      | .rollback => { b with pwr := { b.pwr with late := true } }
      | _ => b
    | none => if b.is F.PWR_STATUS_ASLEEP then b.wakeAll .wake else b
  else b

/-- PWR_WAKE_TIMER as it reads now: µs left on CLK_AON. -/
def Block.wakeTimer (b : Block) : Nat := b.f F.PWR_WAKE_TIMER_US - (b.clk.aon - b.pwr.timerFrom) / 25

/-- PWR_WAKE_TIMER reaches 0 (R340): source 0x221 is seen in this cycle, and the timer stops. -/
def Block.timerExpire (b : Block) : Block :=
  if b.f F.PWR_WAKE_TIMER_US ≠ 0 ∧ b.wakeTimer = 0 then
    ({ b with pwr := { b.pwr with timerHit := true } }).setf F.PWR_WAKE_TIMER_US 0
  else b

/-- R330: at TIMEOUT the Links unit stops sending heartbeats and the watchdog reset is taken. -/
def Block.wdogTimeout (b : Block) (duty : Nat) : Block :=
  if b.on dSTEWARD ∧ duty < 4 ∧ b.wdogTime ≤ b.silent duty then
    ({ b with fab := { b.fab with hbStopped := true } }).reset 4
  else b

/-! Retained memory -/

/-- The byte of a memory at an address; an unlisted address reads 0. -/
def Memory.byte (m : Memory) (a : Nat) : Byte := SMap.getD m a 0

/-- Write one byte, keeping the canonical form. -/
def Memory.setByte (m : Memory) (a : Nat) (v : Byte) : Memory := SMap.putD m 0 a v

/-- The little-endian word at an address. -/
def Memory.word (m : Memory) (a : Nat) : Nat :=
  (m.byte a).toNat + (m.byte (a + 1)).toNat * 256 + (m.byte (a + 2)).toNat * 65536 + (m.byte (a + 3)).toNat * 16777216

/-- Write bytes from an address on. -/
def Memory.setBytes (m : Memory) (a : Nat) (bs : List Byte) : Memory :=
  match bs with
  | [] => m
  | v :: t => (m.setByte a v).setBytes (a + 1) t

/-- The byte address PWR_RET_ADDR names, below 64 KiB. -/
def Block.retAddr (b : Block) : Nat := 4 * b.f F.PWR_RET_ADDR_WORD % 65536

/-- The word advances by 1 after each access of PWR_RET_DATA, wrapping at 64 KiB (R364). -/
def Block.retAdvance (b : Block) : Block := b.setf F.PWR_RET_ADDR_WORD (b.f F.PWR_RET_ADDR_WORD + 1)

/-- The word PWR_RET_ADDR names: the block's part below 0x4000, whose layout is open (log entry 87), software's above (R364). -/
def Block.retWord (b : Block) (mem : Memory) : Nat := if b.retAddr < 0x4000 then Config.retOwn b.retBlock b.retAddr % 2 ^ 32 else mem.word b.retAddr

/-- RET_DATA_ACCESS (R364): a read answers the addressed word; a write stores it, but below offset 0x4000 it is ignored; the
address advances either way. -/
def execRetDataAccess (m : Master) (wr : Bool) (data : Nat) (s : State) : Host.Outcome State Fault Refusal :=
  s.liftM (fun mem b =>
    if wr then
      (if b.respCode m 0x10304 0xF true data = 0 ∧ 0x4000 ≤ b.retAddr then mem.setBytes b.retAddr (leBytes 4 data) else mem,
       b.write m 0x10304 data Block.retAdvance)
    else (mem, b.read m 0x10304 (fun b => (b.retWord mem, b.retAdvance))))

/-- A write of the software key registers of R359 and R361 is judged like any write. -/
def execSoftReset (m : Master) (key : Nat) (s : State) : Host.Outcome State Fault Refusal :=
  s.lift (fun b => b.write m 0x10104 (key % 65536 * 65536 + 1) (fun b => if key % 65536 = 0xA5C3 then b.reset 5 else b))

/-- SLEEP_GO. -/
def execSleepGo (m : Master) (word : Nat) (s : State) : Host.Outcome State Fault Refusal :=
  s.lift (fun b => b.write m 0x1000C word (fun b => (b.setf F.PWR_SLEEP_WAIT (bits word 8 8)).sleepGo))
/-- DOMAIN_ANSWER. -/
def execDomainAnswer (s : State) : Host.Outcome State Fault Refusal := s.lift Block.domainAnswer
/-- DOMAIN_ANSWER_TIMEOUT. -/
def execDomainAnswerTimeout (s : State) : Host.Outcome State Fault Refusal := s.lift Block.answerTimeout
/-- SWITCH_ACK. -/
def execSwitchAck (d : Nat) (s : State) : Host.Outcome State Fault Refusal := s.lift (fun b => b.switchAck d)
/-- SWITCH_ACK_TIMEOUT. -/
def execSwitchAckTimeout (d : Nat) (s : State) : Host.Outcome State Fault Refusal := s.lift (fun b => b.ackTimeout d)
/-- SLEEP_WAKE: PWR_SLEEP.WAKE while ASLEEP (R354). -/
def execSleepWake (m : Master) (word : Nat) (s : State) : Host.Outcome State Fault Refusal :=
  s.lift (fun b => b.write m 0x1000C word (fun b => (b.setf F.PWR_SLEEP_WAIT (bits word 8 8)).sleepWake))
/-- PF_WARN. -/
def execPfWarn (s : State) : Host.Outcome State Fault Refusal := s.lift Block.pfWarn
/-- PF_CLEAR. -/
def execPfClear (s : State) : Host.Outcome State Fault Refusal := s.lift Block.pfClear
/-- POR_RESET: the retained memory is cleared too (R348, R357). -/
def execPorReset (s : State) : Host.Outcome State Fault Refusal := s.liftM (fun _ b => ([], b.por))
/-- MAIN_RESET. -/
def execMainReset (s : State) : Host.Outcome State Fault Refusal := s.lift (fun b => b.reset 2)
/-- PIN_RESET. -/
def execPinReset (s : State) : Host.Outcome State Fault Refusal := s.lift (fun b => b.reset 3)
/-- WDOG_TIMEOUT. -/
def execWdogTimeout (duty : Nat) (s : State) : Host.Outcome State Fault Refusal := s.lift (fun b => b.wdogTimeout duty)
/-- UNIT_RESET. -/
def execUnitReset (m : Master) (word : Nat) (s : State) : Host.Outcome State Fault Refusal :=
  s.lift (fun b => b.write m 0x10108 word (fun b => b.unitResetWrite word))
/-- START_SEQUENCE. -/
def execStartSequence (s : State) : Host.Outcome State Fault Refusal := s.lift Block.startSequence
/-- DOMAIN_RELEASE. -/
def execDomainRelease (s : State) : Host.Outcome State Fault Refusal := s.lift Block.domainRelease
/-- START_GOOD. -/
def execStartGood (s : State) : Host.Outcome State Fault Refusal := s.lift Block.startGood
/-- START_LIMIT. -/
def execStartLimit (s : State) : Host.Outcome State Fault Refusal := s.lift Block.startLimit
/-- START_FAIL_RESET. -/
def execStartFailReset (s : State) : Host.Outcome State Fault Refusal := s.lift Block.startFailReset
/-- WAKE_WATCH_FIRE. -/
def execWakeWatchFire (slot : Nat) (s : State) : Host.Outcome State Fault Refusal := s.lift (fun b => b.watchFire slot)
/-- WAKE_TIMER_EXPIRE. -/
def execWakeTimerExpire (s : State) : Host.Outcome State Fault Refusal := s.lift Block.timerExpire

end Sys2Proof.Machine
end

