-- ==== Sys2Proof/Machine/Commit.lean ====
section
/-! DEFINITION. The apply of a commit (spec/13_fabric_image.md, R304, R305, R308; spec/16_power_reset.md, R363) and the end of a power-fail
flush (spec/12_cocoon_store.md, R283; spec/16_power_reset.md, R357). -/

namespace Sys2Proof.Machine

/-- The model section of the staged image does not expand (R308). -/
def Block.stagedBad (b : Block) : Bool :=
  match b.stagedModel with
  | some s => (expandModel true s).toOption.isNone
  | none => false

/-- The domains that Chrysalis left OFF are released, and a start begins with the count set to 2 (R363). -/
def Block.leaveChrysalis (b : Block) : Block :=
  let b := ((b.setf F.PWR_STATUS_CHRYS 0).setf F.RST_STAT_CHRYS 0).setf F.RST_STAT_FAILS 2
  let b := (b.setf F.RST_STAT_GOOD 0).count F.RST_STAT_BOOTS
  ({ b with pwr := { b.pwr with start := .release } }).wakeNext .start
    (releaseOrder.filter (fun d => !domAbsent b.syn.agg d && b.dom d == 0)) (fun b => b.released)

/-- The apply of a commit in Chrysalis (R308, R363). A block there on STRAP_BAD stays (R18). -/
def Block.commitChrysalis (b : Block) : Block :=
  if b.syn.agg ∧ b.stagedBad then
    let b : Block := { b with busy := none, fim := { b.fim with commit := none } }
    (b.setFim 2).commitRefuse 0xB
  else
    let b := b.commitApply b.phase true
    if b.is F.ROLE_STATUS_STRAP_BAD then b.setf F.ROLE_STATUS_ROLE 3 else b.leaveChrysalis

/-- IMAGE_APPLY: with nothing running the commit applies now; on a running die it applies at a boundary of its index that is due, whose captures
come after it. An aggregator's boundary is a message (WB_MARK_RECEIVED). -/
def Block.commitNow (b : Block) : Block :=
  match b.fim.commit with
  | none => b
  | some c =>
    if c.applied then b
    else if c.now then (if b.is F.PWR_STATUS_CHRYS then b.commitChrysalis else b.commitApply b.phase)
    else
      match b.dueFire with
      | some r =>
        if b.isBoundary (b.fireCause r) ∧ (c.any ∨ c.idx = r.idx) then
          let b := b.commitApply (b.firePhase r)
          { b with fim := { b.fim with probSkip := true } }
        else b
      | none => b

/-- A reset that waited for the end of a flush is taken (R357). -/
def Block.takeHeld (b : Block) : Block :=
  match b.pwr.heldReset with
  | some k => if b.flushing then b else b.reset k
  | none => b

/-- IMAGE_APPLY. -/
def execImageApply (s : State) : Host.Outcome State Fault Refusal := s.lift (fun b => if b.on dSTEWARD then b.commitNow else b)
/-- PF_FLUSH_DONE. -/
def execPfFlushDone (s : State) : Host.Outcome State Fault Refusal := s.lift (fun b => b.flushDone_.takeHeld)

end Sys2Proof.Machine
end

