-- ==== Sys2Proof/Machine/Views.lean ====
section
/-! DEFINITION. What each register and window reads (spec/18_ports_register_map.md, R391 to R393; R10, R46, R292; the register tables of the
chapters): the fields as stored, and those that the units keep in a form of their own. -/

namespace Sys2Proof.Machine

/-- Put v in bits [lo + w - 1 : lo] of a word. -/
def putBits (x lo w v : Nat) : Nat := x - bits x lo w * 2 ^ lo + v % 2 ^ w * 2 ^ lo

/-- How many bits of the first n are 1. -/
def popCount (n x : Nat) : Nat := (List.range n).foldl (fun a i => a + bit x i) 0

/-- A mask of the indices below n that hold. -/
def maskOf (n : Nat) (p : Nat → Bool) : Nat := (List.range n).foldl (fun a i => if p i then a + 2 ^ i else a) 0

/-- KiB of bytes, rounded up. -/
def kibUp (n : Nat) : Nat := (n + 1023) / 1024

/-- One or zero. -/
def flag (p : Bool) : Nat := if p then 1 else 0

/-! Identity, Antenna, capture, trace -/

/-- Identity (R393). -/
def Block.viewIdentity (b : Block) (off : Nat) : Nat :=
  match off with
  | 0x20 => if b.syn.agg then 64 + 16 * 2 ^ 7 + 4 * 2 ^ 12 + 16 * 2 ^ 16 else 2 ^ 7 + 2 ^ 12 + 12 * 2 ^ 16
  | 0x24 => if b.syn.agg then 0 else putBits (b.stored off) 0 14 b.syn.hostUnits
  | 0x28 => if b.syn.agg then b.syn.mpSize % 128 + b.coc.tgts.length % 256 * 2 ^ 8 + popCount 16 b.syn.nvmPresent * 2 ^ 16 else 0
  | 0x2C => putBits (b.stored off) 0 8 (popCount (if b.syn.agg then 144 else 8) b.syn.klPresent)
  | _ => b.stored off

/-- Antenna. The D build has two asymmetry registers (R58). -/
def Block.viewAntenna (b : Block) (off : Nat) : Nat :=
  match off with
  | 0x1010 => b.phase % 2 ^ 32
  | 0x1014 => if b.syn.agg then 0 else b.stored off
  | 0x1030 => b.wall88 % 2 ^ 32
  | 0x1108 => if b.syn.agg then b.stored off else 0
  | 0x110C => if b.syn.agg then b.stored off else 0
  | _ => b.stored off

/-- Probe and Scales. -/
def Block.viewCapture (b : Block) (off : Nat) : Nat :=
  if off = 0x2004 then bufMask b.prb.drains + bufMask b.prb.mdrains * 4 + b.prb.msgs.length * 16
  else if off = 0x2024 then b.cnt b.selCnt % 2 ^ 32
  else if 0x3C00 ≤ off then b.sclWord ((off - 0x3C00) / 4)
  else b.stored off

/-- Trace. RD and WR are offsets into the buffer. -/
def Block.viewTrace (b : Block) (off : Nat) : Nat :=
  if off = 0x4210 then b.syn.hostUnits
  else if 0x4100 ≤ off ∧ off < 0x4200 then
    match (off - 0x4100) % 64 with
    | 0x1C => (b.tbuf ((off - 0x4100) / 64)).wr
    | 0x20 => (b.tbuf ((off - 0x4100) / 64)).rd
    | _ => b.stored off
  else b.stored off

/-! Swarm, Hawkmoth, Verdict -/

/-- Swarm: a lane's bit reads the OR of its fence sources (R317). -/
def Block.viewSwarm (b : Block) (off : Nat) : Nat :=
  if ¬ b.syn.agg then b.stored off
  else if off = 0x5004 then b.swm.txns.length + b.freeLanes.length * 2 ^ 16 + flag b.isRoot * 2 ^ 25
  else if 0x5100 ≤ off ∧ off < 0x5120 then maskOf 32 (fun i => b.laneFenced (32 * ((off - 0x5100) / 4) + i))
  else b.stored off

/-- Hawkmoth. -/
def Block.viewHawk (b : Block) (off : Nat) : Nat :=
  match off with
  | 0x6004 => b.freeTiles.length + flag b.hwk.active.isSome * 2 ^ 5 + flag (b.syn.agg && b.hwk.staged.isSome) * 2 ^ 6
      + flag b.hwk.expanding.isSome * 2 ^ 7 + b.hwk.queue.length % 16 * 2 ^ 8 + flag (b.hwk.pass.isSome || b.hwk.lpass.isSome) * 2 ^ 12
      + flag (b.hwk.hold != 0) * 2 ^ 13
  | 0x6010 => maskOf (if b.syn.agg then 16 else 1) b.tileFenced
  | _ => b.stored off

/-- Verdict. -/
def Block.viewVerdict (b : Block) (off : Nat) : Nat :=
  if off = 0x7004 then putBits (b.stored off) 0 4 (((b.tariffOf b.openK).map (fun p => p.1)).getD 0) else b.stored off

/-! Links, Monarch, queues -/

/-- KL_PORT_STATUS of the selected port. -/
def Block.portStatus (b : Block) : Nat :=
  let n := b.selPort
  let p := b.port n
  p.state + p.width % 8 * 4 + p.ver % 4 * 2 ^ 5 + p.feat % 16 * 2 ^ 7
    + maskOf 4 (fun i => bit (b.wired n) i == 1 && bit p.excl i == 0) * 2 ^ 11 + maskOf 8 (b.paused n) * 2 ^ 15
    + flag (p.pausing.any (fun x => x.isSome)) * 2 ^ 23

/-- MON_STATUS. -/
def Block.monStatus (b : Block) : Nat :=
  maskOf 8 (fun c => b.kl.ports.keys.any (fun n => (b.heads n).any (fun h => h.cls == c)))
    + maskOf 8 (fun c => ((b.mon.gates[c]?).getD {}).closed) * 2 ^ 8 + maskOf 8 (fun c => (b.staged c).isSome) * 2 ^ 16

/-- Links and Monarch. -/
def Block.viewLinks (b : Block) (off : Nat) : Nat :=
  match off with
  | 0x8008 => if b.selPort < portCount b.syn.agg then b.portStatus else 0
  | 0x9004 => b.monStatus
  | 0x901C => putBits (b.stored off) 3 1 (flag (b.staged (b.f F.MON_CLASS_SEL_CLASS)).isSome)
  | _ => b.stored off

/-- The procedure that QUE_REC_STAT shows: the first that runs. -/
def Block.recStat (b : Block) : Nat :=
  match b.que.procs with
  | p :: _ => p.proc % 16 + p.step % 16 * 2 ^ 4 + p.ctrl % 4 * 2 ^ 8 + p.repoch % 65536 * 2 ^ 16
  | [] => 0

/-- Bytes sent and not accepted, in the D build. -/
def Block.unaccepted (b : Block) : Nat :=
  b.que.queues.foldl (fun a p => a + itemBytes (p.2.items.filter (fun i => i.seq.isSome && i.sent))) 0

/-- Queue. -/
def Block.viewQueue (b : Block) (off : Nat) : Nat :=
  let q := b.qnum (b.f F.QUE_SEL_QUEUE)
  match off with
  | 0xA004 => (if b.syn.agg then 0 else kibUp b.holdUsed) + flag (b.syn.agg && b.inSync) * 2 ^ 16 + flag (b.syn.agg && !b.branch2) * 2 ^ 17
      + flag (b.que.procs != []) * 2 ^ 18
  | 0xA01C => sat 16 (b.queue q).items.length + sat 16 (kibUp (b.occupancy q)) * 2 ^ 16
  | 0xA020 => flag (b.queue q).flushing * 2
  | 0xA034 => match b.que.push with
    | some p => if p.waiting then 16 else 8
    | none => 0
  | 0xA044 => if b.syn.agg then 0 else putBits (b.stored off) 0 16 (sat 16 (kibUp b.unaccepted))
  | 0xA074 => b.recStat
  | 0xA084 => putBits (b.stored off) 5 1 (flag (b.que.injArmed.find (b.f F.QUE_INJ_SEL_SLOT)).isSome)
  | _ => b.stored off

/-! Codec, Store, image -/

/-- Silkworm. -/
def Block.viewCodec (b : Block) (off : Nat) : Nat :=
  match off with
  | 0xB004 => b.slkStatus
  | 0xB010 => maskOf (if b.syn.agg then 4 else 1) b.engineFenced
  | _ => b.stored off

/-- Whether the D build's NOR serves a Cocoon (R289). -/
def Block.norUsed (b : Block) : Bool := !b.syn.agg && decide (0 < b.syn.norMiB) && b.syn.norSfdp

/-- COC_CAP and COC_FREE, in MiB: all that the medium holds, and free LAST space. -/
def Block.cocSpace (b : Block) (free_ : Bool) : Nat :=
  if b.syn.agg then (if free_ then b.coc.lastFree * b.coc.pageKib else b.coc.capKib) / 1024
  else if ¬ b.norUsed then 0
  else
    let a := b.syn.norAreas
    (if free_ then a.2 - (b.coc.nor.filter (fun x => !x.first)).foldl (fun n x => n + x.size) 0 else a.1 + a.2) / 1048576

/-- Store. -/
def Block.viewStore (b : Block) (off : Nat) : Nat :=
  match off with
  | 0xC004 => putBits (putBits (putBits (b.stored off) 3 1 (flag b.flushing)) 4 1 (flag b.coc.op.isSome)) 5 5
      (if b.syn.agg then b.coc.chans.length else 0)
  | 0xC00C => b.cocSpace false
  | 0xC010 => b.cocSpace true
  | 0xC020 => if b.syn.agg then b.pfTime else 0
  | 0xC040 => (lowHigh b.coc.rel).1
  | 0xC044 => b.coc.relLatch
  | 0xC048 => (lowHigh b.coc.nextJ).1
  | 0xC04C => b.coc.newLatch
  | 0xC104 => (lowHigh (b.cursor b.curNum).pos).1
  | 0xC108 => (b.cursor b.curNum).latch
  | 0xC204 => (lowHigh (b.coc.ctr b.ctrSlot)).1
  | 0xC208 => b.coc.ctrLatch
  | _ => b.stored off

/-- Fabric Image. -/
def Block.viewImage (b : Block) (off : Nat) : Nat :=
  match off with
  | 0xD000 => putBits (putBits (putBits (putBits (b.stored off) 3 1 (flag b.fim.actOk)) 4 1 (flag b.fim.prevOk)) 5 1 (flag b.fim.prob))
      6 1 (flag b.hasStore)
  | _ => b.stored off

/-! Integrity, Steward, interrupts -/

/-- Whether a part's software fence is set. -/
def Block.swFenced (b : Block) (kind i : Nat) : Bool :=
  match kind with
  | 0 => bits (b.f (F.SWM_LANE_FENCE_FENCE.at (i / 8))) (4 * (i % 8)) 4 == 15
  | 1 => bit (b.f F.HWK_TILE_FENCE_FENCE) i == 1
  | 2 => bit (b.f F.SLK_ENG_FENCE_FENCE) i == 1
  | 3 => bit (b.f F.INT_SCL_FENCE_FENCE) i == 1
  | _ => false

/-- INT_PART_STAT of the selected part. -/
def Block.partStat (b : Block) : Nat :=
  let k := b.f F.INT_PART_SEL_KIND
  let i := b.f F.INT_PART_SEL_INDEX
  if partCount b.syn.agg b.syn.hostUnits k ≤ i then 0
  else
    let p := b.part k i
    flag (b.swFenced k i) + flag p.test * 2 + flag p.fault * 4 + p.cls % 8 * 8 + sat 8 (b.recentTrans p).length * 2 ^ 6

/-- Integrity. -/
def Block.viewInteg (b : Block) (off : Nat) : Nat :=
  match off with
  | 0xE004 => putBits (b.stored off) 18 4 b.int.confQ.length
  | 0xE024 => b.partStat
  | 0xE030 => if b.syn.agg then 0 else maskOf 32 b.groupFenced
  | 0xE044 => if b.syn.agg then 0
      else putBits (putBits (b.stored off) 13 1 (flag b.shadowOn)) 14 5 ((b.int.samples.filter (fun s => s.asked.isSome)).length)
  | 0xE050 => b.int.rnum
  | _ => b.stored off

/-- The states of the Steward's threads: shed, ready where a descriptor waits or, for thread 4, target 0's line is low (R328, R336), else
waiting. -/
def Block.threads (b : Block) : Nat :=
  (List.range 8).foldl (fun a n =>
    a + (if b.shed n then 3 else if b.threadRuns n ∧ ((b.stw.posts[n]?).getD 0 ≠ 0 ∨ (n = 4 ∧ (b.tgt 0).line)) then 1 else 0) * 4 ^ n) 0

/-- The word of SYN_RESULT. -/
def SynRes.word (r : SynRes) : Nat := r.value % 65536 + r.status % 8 * 2 ^ 16 + flag r.ovf * 2 ^ 19 + flag r.unf * 2 ^ 20

/-- IRQ_SRC_CFG of the selected source. -/
def Block.srcView (b : Block) : Nat :=
  let s := b.f F.IRQ_SRC_SEL_SRC
  let w := putBits (putBits (b.stored 0xF204) 11 1 (flag (b.pends s))) 12 1 (flag (b.active s))
  putBits (putBits w 13 1 (flag (b.guarded s))) 14 2 (min 3 (b.irq.guards.getD s {}).count)

/-- IRQ_STATE of a target. -/
def Block.tgtView (b : Block) (t : Nat) : Nat :=
  let x := b.tgt t
  x.rp % 16 + sat 4 x.stack.length * 2 ^ 4 + flag x.line * 2 ^ 8 + flag (b.eligibles t != [] && !x.line) * 2 ^ 9

/-- Steward, sync and interrupts. SYN_RESULT is the reader's own. -/
def Block.viewSteward (b : Block) (m : Master) (off : Nat) : Nat :=
  if 0xF040 ≤ off ∧ off < 0xF070 then (b.evl.latch[(off - 0xF040) / 4]?).getD 0
  else if 0xF218 ≤ off ∧ off < 0xF258 ∧ off % 16 = 8 then b.tgtView ((off - 0xF218) / 16)
  else
    match off with
    | 0xF004 => putBits (b.stored off) 0 16 b.threads
    | 0xF034 => (b.evl.ring.head?.map (fun e => e.seqno)).getD 0
    | 0xF104 => (b.syn_.results.getD m.num {}).word
    | 0xF204 => b.srcView
    | _ => b.stored off

/-! Power and security -/

/-- The block's backup registers (Table 16-6). -/
def Block.backup (b : Block) (n : Nat) : Nat :=
  match n with
  | 0 => if b.syn.agg then 0 else b.f F.SELF_LDI_INDEX + b.f F.SELF_LDI_BOUND * 2 ^ 20
  | 1 => if b.syn.agg then 0 else b.f F.SELF_EPOCH_EPOCH
  | 2 => b.f F.RST_STAT_FAILS + b.f F.RST_STAT_CCAUSE * 2 ^ 4 + b.f F.RST_STAT_LAST * 2 ^ 8 + b.f F.RST_STAT_BOOTS * 2 ^ 16
  | _ => 0

/-- Power and reset. -/
def Block.viewPower (b : Block) (off : Nat) : Nat :=
  if 0x10200 ≤ off ∧ off < 0x10210 then b.backup ((off - 0x10200) / 4)
  else
    match off with
    | 0x10000 => putBits (b.stored off) 0 24 ((List.range 12).foldl (fun a d => a + b.dom d * 4 ^ d) 0)
    | 0x10884 => b.wakeTimer
    | _ => b.stored off

/-- The mask of masters that hold more than their baseline. -/
def Block.openMasters (b : Block) : Nat :=
  let more (m : Master) : Nat := flag (b.rights m != b.baseRights m || b.partMask m != b.basePart m)
  more .mgmt + more .vsb * 2 + more .test * 4

/-- Security, as the reading master sees it (R369 to R373). -/
def Block.viewSecurity (b : Block) (m : Master) (off : Nat) : Nat :=
  let slot := b.f F.SEC_KEY_SEL_SLOT
  if 0x11010 ≤ off ∧ off < 0x11030 then bits ((b.liveNonce m).getD 0) (8 * (off - 0x11010)) 32
  else
    match off with
    | 0x11000 => flag b.sealed + b.openMasters * 2 + sat 4 (b.sec.of m).fails * 2 ^ 4 + flag (b.lockedOut m) * 2 ^ 8
        + (b.sec.of m).result % 8 * 2 ^ 9
    | 0x11004 => b.rights m + b.partMask m % 256 * 2 ^ 8
    | 0x11074 => slotKeyId b.sec.keys slot
    | 0x11078 => flag (slotPresent b.sec.keys slot) + flag (slotRevoked b.sec.keys slot) * 2 + flag (b.sec.signer == some slot) * 4
    | _ => b.stored off

/-! Windows -/

/-- The cursor window (R281): a 64 KiB page of the loaded record; 0 while a load runs. -/
def Block.cursorWindow (b : Block) (off : Nat) : Nat :=
  let c := b.curNum
  let x := b.cursor c
  if x.load.isSome then 0
  else
    match x.loaded with
    | some r => leAt r.bytes (b.f (F.COC_CUR_CTRL_PAGE.ix c) * 65536 + off) 4
    | none => 0

/-- The trace window (R106). -/
def Block.traceWindow (b : Block) (off : Nat) : Nat :=
  ofLe (readStore (b.tbuf (b.f F.TRC_WIN_SEL_BUF)).mem (b.f F.TRC_WIN_SEL_PAGE * 32768 + off) 4)

/-- The 512 bytes of a unit in the hang-ring window (R110). -/
def HangUnit.page (u : HangUnit) : List Byte := u.header ++ List.replicate 240 0 ++ u.entries

/-- The hang-ring window (R106, R110). -/
def Block.hangWindow (b : Block) (off : Nat) : Nat :=
  let n := 64 * b.f F.TRC_WIN_SEL_HPAGE + off / 512
  if n < b.syn.hostUnits then leAt (b.trc.units.getD n {}).page (off % 512) 4 else 0

/-- What an offset reads (R391, R392), without what reading it changes. -/
def Block.view (b : Block) (m : Master) (off : Nat) : Nat :=
  if absentRegion b.syn.agg off then 0
  else if 0x38000 ≤ off then b.hangWindow (off - 0x38000)
  else if 0x30000 ≤ off then b.traceWindow (off - 0x30000)
  else if 0x20000 ≤ off then b.cursorWindow (off - 0x20000)
  else
    match off / 4096 with
    | 0 => b.viewIdentity off
    | 1 => b.viewAntenna off
    | 2 | 3 => b.viewCapture off
    | 4 => b.viewTrace off
    | 5 => b.viewSwarm off
    | 6 => b.viewHawk off
    | 7 => b.viewVerdict off
    | 8 | 9 => b.viewLinks off
    | 10 => b.viewQueue off
    | 11 => b.viewCodec off
    | 12 => b.viewStore off
    | 13 => b.viewImage off
    | 14 => b.viewInteg off
    | 15 => b.viewSteward m off
    | 16 => b.viewPower off
    | _ => b.viewSecurity m off

end Sys2Proof.Machine
end

