-- ==== Sys2Proof/Machine/Access.lean ====
section
/-! DEFINITION. Accesses of a master to a register or window (spec/00_scope.md, R9 to R12, R395, R396; spec/18_ports_register_map.md, R380 to
R383): what any write does, what any read answers and changes, and the same over VSB (spec/15_steward_interrupts_sideband.md, R343). -/

namespace Sys2Proof.Machine

/-! Writes -/

/-- The command bits of a register that has several (R396, Table 0-11). -/
def cmdBits (off : Nat) : List Nat :=
  match off with
  | 0x104C => [0, 1]
  | 0x4118 | 0x4158 | 0x4198 | 0x41D8 => [2, 3, 4]
  | 0x4200 => [0, 1]
  | 0x5050 => [12, 13, 14]
  | 0x8020 => [0, 1, 2]
  | 0xA034 => [0, 1, 2]
  | 0xC060 => [0, 1]
  | 0xD008 => [2, 3, 4, 5, 6]
  | 0x1000C => [0, 1]
  | 0x11050 => [0, 1, 2, 3]
  | _ => []

/-- Whether a write sets two or more command bits of its register. -/
def manyCmds (off word : Nat) : Bool := decide (2 ≤ ((cmdBits off).filter (fun i => bit word i == 1)).length)

/-- A write of two or more command bits (R396): RW fields take their values, and the event that Table 0-11 names is raised. -/
def Block.manyWrite (b : Block) (off word : Nat) : Block :=
  let b := b.writeFields off word
  match off with
  | 0xA034 => b.raise Ev.QUE_PUSH_BAD
  | 0xC060 => b.raise Ev.COC_OP_REFUSED
  | _ => b

/-- A plain write and what its new values start. -/
def Block.plainWrite (b : Block) (off word : Nat) : Block := Block.regEffects b (b.writeFields off word)

/-- ANTENNA: the offset is software's where there is no time parent (R61); timeouts begin anew (R45, R54). -/
def Block.writeAntenna (b : Block) (off word : Nat) : Block :=
  match off with
  | 0x101C => if b.locked then b else ((b.plainWrite off word).stepTimer).beaconTimer
  | 0x1048 => if b.noParent then b.plainWrite off word else b
  | 0x104C => if bit word 0 = 1 then b.timeStep else if bit word 1 = 1 then b.timeLoad else b
  | 0x1108 | 0x110C => if b.syn.agg then b.plainWrite off word else b
  | 0x1204 => b.launchArm word
  | _ => b.plainWrite off word

/-- PROBE: three words are staged, the fourth applies (R80). -/
def Block.writeProbe (b : Block) (off word : Nat) : Block :=
  match off with
  | 0x2024 => { b with prb := { b.prb with stLo := word % 2 ^ 32 } }
  | 0x2028 => b.cntApply word
  | 0x202C => { b with prb := { b.prb with stX0 := word % 2 ^ 32 } }
  | 0x2030 => { b with prb := { b.prb with stX1 := word % 2 ^ 16 } }
  | _ => b.plainWrite off word

/-- TRACE (R101, R104, R109). -/
def Block.writeTrace (b : Block) (off word : Nat) : Block :=
  let b := b.plainWrite off word
  if off = 0x4200 then
    if bit word 0 = 1 then b.hangFreeze 2 else if bit word 1 = 1 then b.hangUnfreeze (bit word 2 == 1) else b
  else if 0x4100 ≤ off ∧ off < 0x4200 ∧ off % 64 = 0x18 then
    let n := (off - 0x4100) / 64
    if bit word 2 = 1 then b.trcArm n else if bit word 3 = 1 then b.trcStop n else if bit word 4 = 1 then b.trcDump n else b
  else b

/-- SWARM (R153 to R155). -/
def Block.writeSwarm (b : Block) (off word : Nat) : Block :=
  let c := word % 4096
  let b := b.plainWrite off word
  if off = 0x5050 then
    if bit word 12 = 1 then b.launch c
    else if bit word 13 = 1 then b.abort c Block.finTxn
    else if bit word 14 = 1 then ({ b with swm := { b.swm with running := b.swm.running.del c } }).toMirror (.running c [])
    else b
  else if 0x5100 ≤ off ∧ off < 0x5120 then b.lanesGone Block.finTxn
  else b

/-- HAWK and Verdict (R163, R178, R201). -/
def Block.writeHawk (b : Block) (off word : Nat) : Block :=
  match off with
  | 0x600C => if bit word 0 = 1 then b.expandGo else b
  | 0x6010 => b.tileFenceWrite word
  | 0x7218 => b.tariffWrite word
  | _ => b.plainWrite off word

/-- KL_PORT_CFG: a change of EN declares the port down or starts training (R305). -/
def Block.writePortCfg (b : Block) (word : Nat) : Block :=
  let n := b.selPort
  let was := b.is (F.KL_PORT_CFG_EN.ix n)
  let b := b.plainWrite 0x8004 word
  b.onPort n (fun b => b.portEn n was)

/-- LINKS and Monarch. -/
def Block.writeLinks (b : Block) (off word : Nat) : Block :=
  let n := b.selPort
  match off with
  | 0x8004 => b.writePortCfg word
  | 0x8020 => b.onPort n (fun b =>
      if bit word 0 = 1 then b.klRetrain n else if bit word 1 = 1 then b.klDown n else if bit word 2 = 1 then b.klUp n else b)
  | 0x901C => b.shapeCommit word
  | _ => b.plainWrite off word

/-- QUEUE: a queue whose EN becomes 0 is flushed (R235, Table 13-6). -/
def Block.writeQueue (b : Block) (off word : Nat) : Block :=
  let q := b.qnum (b.f F.QUE_SEL_QUEUE)
  match off with
  | 0xA014 =>
    let was := b.is (F.QUE_CFG_EN.ix q)
    let b := b.plainWrite off word
    if was ∧ ¬ b.is (F.QUE_CFG_EN.ix q) then b.flushQueue q else b
  | 0xA020 => if bit word 0 = 1 then b.flushQueue q else b
  | 0xA030 => b.pushData word
  | 0xA034 => b.pushCmd word
  | 0xA084 => b.injArm word
  | _ => b.plainWrite off word

/-- CODEC (R257, R259). -/
def Block.writeCodec (b : Block) (off word : Nat) : Block :=
  match off with
  | 0xB010 => b.engineFence word
  | 0xB024 => if bit word 17 = 1 then (b.plainWrite off word).ctxReset else b.plainWrite off word
  | _ => b.plainWrite off word

/-- STORE (R281, R287, R291). -/
def Block.writeStore (b : Block) (off word : Nat) : Block :=
  match off with
  | 0xC060 => if bit word 0 = 1 then b.clearStart else if bit word 1 = 1 then b.formatStart (bit word 2 == 1) else b
  | 0xC10C =>
    match word % 8 with
    | 0 | 7 => b.plainWrite off word
    | 6 => b.release word
    | c => b.curCommand c word
  | 0xC20C => if bit word 0 = 1 then b.softRaise else b
  | _ => b.plainWrite off word

/-- The image and integrity units. -/
def Block.writeInteg (b : Block) (off word : Nat) : Block :=
  match off with
  | 0xD008 => b.fimCmd word
  | 0xD00C => b.loadWord word
  | 0xE024 => if bit word 14 = 1 then b.unfence else b
  | 0xE030 => if b.syn.agg then b else b.setf F.INT_SCL_FENCE_FENCE word
  | _ => b.plainWrite off word

/-- Steward, sync and interrupts: IRQ_EXT takes writes in the edge modes only (R334); a MODE change follows the input, and only
sources 480 to 511 have a MODE. -/
def Block.writeSteward (b : Block) (m : Master) (off word : Nat) : Block :=
  if 0xF214 ≤ off ∧ off < 0xF254 ∧ off % 16 = 4 then b.eoi ((off - 0xF214) / 16) (word % 512)
  else
    match off with
    | 0xF038 => b.logSelect word
    | 0xF100 => b.synOp (.master m) (bits word 12 3) (word % 4096) (bits word 16 16)
    | 0xF204 =>
      let s := b.f F.IRQ_SRC_SEL_SRC
      if 480 ≤ s then (b.plainWrite off word).extFollow (s - 480) else b.plainWrite off (word &&& 0xFFFFF9FF)
    | 0xF208 => b.plainWrite off (maskOf 32 (fun n => bit word n == 1 && decide (2 ≤ b.inMode n)))
    | _ => b.plainWrite off word

/-- Power and reset: the block's backup registers ignore writes (R364); a write starts the wake timer (R340). -/
def Block.writePower (b : Block) (off word : Nat) : Block :=
  if 0x10200 ≤ off ∧ off < 0x10210 then b
  else
    match off with
    | 0x1000C =>
      let b := b.plainWrite off word
      if bit word 0 = 1 then b.sleepGo else if bit word 1 = 1 then b.sleepWake else b
    | 0x10104 => if bit word 0 = 1 ∧ bits word 16 16 = 0xA5C3 then b.reset 5 else b
    | 0x10108 => b.unitResetWrite word
    | 0x10304 => b.retAdvance
    | 0x10884 => { b.plainWrite off word with pwr := { b.pwr with timerFrom := b.clk.aon, timerHit := false } }
    | _ => b.plainWrite off word

/-- Security (R368, R371, R373). -/
def Block.writeSecurity (b : Block) (m : Master) (off word : Nat) : Block :=
  if 0x11030 ≤ off ∧ off < 0x11050 then
    b.setSec m (fun x => { x with resp := setAt x.resp ((off - 0x11030) / 4) (word % 2 ^ 32) })
  else
    match off with
    | 0x11050 =>
      if bit word 0 = 1 then b.chal m
      else if bit word 1 = 1 then b.respond m word
      else if bit word 2 = 1 then b.password m word
      else if bit word 3 = 1 then b.relock m
      else b
    | 0x11078 => if bit word 3 = 1 then b.revoke (b.f F.SEC_KEY_SEL_SLOT) else b
    | _ => b.plainWrite off word

/-- What an accepted write does (R10, R12, R391, R396): nothing at an offset that the build leaves unassigned, nor in a window. -/
def Block.busWrite (b : Block) (m : Master) (off word : Nat) : Block :=
  if absentRegion b.syn.agg off ∨ (regAt b.syn.agg off).isNone then b
  else if manyCmds off word then b.manyWrite off word
  else
    match off / 4096 with
    | 1 => b.writeAntenna off word
    | 2 => b.writeProbe off word
    | 4 => b.writeTrace off word
    | 5 => b.writeSwarm off word
    | 6 | 7 => b.writeHawk off word
    | 8 | 9 => b.writeLinks off word
    | 10 => b.writeQueue off word
    | 11 => b.writeCodec off word
    | 12 => b.writeStore off word
    | 13 | 14 => b.writeInteg off word
    | 15 => b.writeSteward m off word
    | 16 => b.writePower off word
    | 17 => b.writeSecurity m off word
    | _ => b.plainWrite off word

/-- The W1C bits that the hardware sets in the cycle of the write end set (R11). -/
def Block.hwSet (b : Block) (off hw : Nat) : Block :=
  match regAt b.syn.agg off with
  | some (r, k) =>
    let i := b.selector r.sel
    r.fields.foldl (fun b f => if f.acc = .w1c ∧ bits hw f.lo f.w ≠ 0 then b.setf (f.at r k i) 1 else b) b
  | none => b

/-- A write access to any offset. A revocation that R368 refuses answers DENIED. -/
def Block.regWrite (b : Block) (m : Master) (off strb word hw : Nat) : Block :=
  if off = 0x11078 ∧ bit word 3 = 1 ∧ strb = 0xF then b.keyRevoke m
  else b.write m off word (fun b => if absentRegion b.syn.agg off then b else (b.busWrite m off word).hwSet off hw) strb

/-- The retained memory after a write access (R364): software's part takes the word. -/
def Block.retStore (b : Block) (m : Master) (off strb word : Nat) (mem : Memory) : Memory :=
  if off = 0x10304 ∧ b.respCode m off strb true word = 0 ∧ 0x4000 ≤ b.retAddr then mem.setBytes b.retAddr (leBytes 4 word) else mem

/-! Reads -/

/-- A read clears the RC fields of its register, keeping what the hardware adds in that cycle (R11). -/
def Block.rcClear (b : Block) (off upd : Nat) : Block :=
  match regAt b.syn.agg off with
  | some (r, k) =>
    let i := b.selector r.sel
    r.fields.foldl (fun b f => if f.acc = .rc then b.setf (f.at r k i) (bits upd f.lo f.w) else b) b
  | none => b

/-- What an accepted read answers, and the block after it: reads that latch (R46, R79, R110, R146, R182, R292, R326), claims (R335), the
retained memory (R364), RC fields (R11). -/
def Block.busRead (b : Block) (mem : Memory) (m : Master) (off upd : Nat) : Nat × Block :=
  if absentRegion b.syn.agg off then (0, b)
  else if 0xF210 ≤ off ∧ off < 0xF250 ∧ off % 16 = 0 then b.claimRead ((off - 0xF210) / 16)
  else
    match off with
    | 0x1010 => b.phaseLo
    | 0x1030 => b.timeLo
    | 0x2024 => b.cntRead
    | 0x4208 => b.hangWallLo
    | 0x5010 => b.lastEndRead
    | 0x60A4 => b.rowRead
    | 0xC040 => b.relLo
    | 0xC048 => b.newLo
    | 0xC104 => b.curPosLo
    | 0xC204 => b.mctrLo
    | 0xE050 => b.intLast
    | 0x10304 => (b.retWord mem, b.retAdvance)
    | _ => (b.view m off, b.rcClear off upd)

/-- A read access to any offset. -/
def Block.regRead (b : Block) (mem : Memory) (m : Master) (off strb upd : Nat) : Block :=
  b.read m off (fun b => b.busRead mem m off upd) strb

/-! Meanings -/

/-- REGISTER_WRITE. -/
def execRegisterWrite (m : Master) (off strb data hw : Nat) (s : State) : Host.Outcome State Fault Refusal :=
  s.liftM (fun mem b => (b.retStore m off strb data mem, b.regWrite m off strb data hw))
/-- MULTI_COMMAND_WRITE: a write like any other, whose word sets several command bits. -/
def execMultiCommandWrite (m : Master) (off data : Nat) (s : State) : Host.Outcome State Fault Refusal :=
  s.liftM (fun mem b => (b.retStore m off 0xF data mem, b.regWrite m off 0xF data 0))
/-- RC_FIELD_READ. -/
def execRcFieldRead (m : Master) (off strb upd : Nat) (s : State) : Host.Outcome State Fault Refusal :=
  s.liftM (fun mem b => (mem, b.regRead mem m off strb upd))
/-- PORT_ENABLE_WRITE: KL_PORT_CFG of the selected port. -/
def execPortEnableWrite (m : Master) (word : Nat) (s : State) : Host.Outcome State Fault Refusal :=
  s.lift (fun b => b.write m 0x8004 word (fun b => b.writePortCfg word))
/-- VSB_READ: the access is the VSB master's, and its outcome goes back in a RESP (R343). -/
def execVsbRead (src off : Nat) (s : State) : Host.Outcome State Fault Refusal :=
  s.liftM (fun mem b => (mem, b.vsbTake src (fun b =>
    let b := b.regRead mem .vsb off 0xF 0
    b.vsbRespond src b.rspVsb.code b.rspVsb.data)))
/-- VSB_WRITE. -/
def execVsbWrite (src off value : Nat) (s : State) : Host.Outcome State Fault Refusal :=
  s.liftM (fun mem b => (if b.vsbOn then (b.vsbHeard src).retStore .vsb off 0xF value mem else mem, b.vsbTake src (fun b =>
    let b := b.regWrite .vsb off 0xF value 0
    b.vsbRespond src b.rspVsb.code 0)))

end Sys2Proof.Machine
end

