-- ==== Sys2Proof/Machine/Dispatch.lean ====
section
/-! DEFINITION. The meaning of each command: one arm per constructor, each one call. -/

namespace Sys2Proof.Machine

/-- The effect of a command on everything but the queue. -/
def exec (i : Instr) (s : State) : Host.Outcome State Fault Refusal :=
  match i with
  | .registerWrite m off strb data hw => Sys2Proof.Machine.execRegisterWrite m off strb data hw s
  | .multiCommandWrite m off data => Sys2Proof.Machine.execMultiCommandWrite m off data s
  | .discoverReceived port lai tags fromBuddy latNs => Sys2Proof.Machine.execDiscoverReceived port lai tags fromBuddy latNs s
  | .deadTimeout ldi => Sys2Proof.Machine.execDeadTimeout ldi s
  | .bindRepeat ldi => Sys2Proof.Machine.execBindRepeat ldi s
  | .bindReceived port ldi epoch => Sys2Proof.Machine.execBindReceived port ldi epoch s
  | .bindAckReceived port ldi epoch => Sys2Proof.Machine.execBindAckReceived port ldi epoch s
  | .routeReceived port ldi via => Sys2Proof.Machine.execRouteReceived port ldi via s
  | .unbindReceived port ldi epoch => Sys2Proof.Machine.execUnbindReceived port ldi epoch s
  | .unbindRepeat ldi epoch => Sys2Proof.Machine.execUnbindRepeat ldi epoch s
  | .unbindAckReceived port ldi epoch => Sys2Proof.Machine.execUnbindAckReceived port ldi epoch s
  | .jobStart => Sys2Proof.Machine.execJobStart s
  | .setupVerifyTimeout => Sys2Proof.Machine.execSetupVerifyTimeout s
  | .heartbeatSend => Sys2Proof.Machine.execHeartbeatSend s
  | .heartbeatReceived port lai actingHome => Sys2Proof.Machine.execHeartbeatReceived port lai actingHome s
  | .heartbeatLoss => Sys2Proof.Machine.execHeartbeatLoss s
  | .phaseLoad value stepRise adv => Sys2Proof.Machine.execPhaseLoad value stepRise adv s
  | .stepStrobe adv => Sys2Proof.Machine.execStepStrobe adv s
  | .phaseAdvance adv => Sys2Proof.Machine.execPhaseAdvance adv s
  | .stepTimeout => Sys2Proof.Machine.execStepTimeout s
  | .wingbeatFire => Sys2Proof.Machine.execWingbeatFire s
  | .beaconReceived port ldi epoch step pos idx wall => Sys2Proof.Machine.execBeaconReceived port ldi epoch step pos idx wall s
  | .beaconLost => Sys2Proof.Machine.execBeaconLost s
  | .timeWingbeat => Sys2Proof.Machine.execTimeWingbeat s
  | .syncSend => Sys2Proof.Machine.execSyncSend s
  | .syncReceived port ts tr rpl => Sys2Proof.Machine.execSyncReceived port ts tr rpl s
  | .pdelayReqSend => Sys2Proof.Machine.execPdelayReqSend s
  | .pdelayReqReceived port seq t2 rpl => Sys2Proof.Machine.execPdelayReqReceived port seq t2 rpl s
  | .pdelayRespReceived port seq t2 t3 t4 disturbed => Sys2Proof.Machine.execPdelayRespReceived port seq t2 t3 t4 disturbed s
  | .syncTimeout => Sys2Proof.Machine.execSyncTimeout s
  | .asymMeasure n value => Sys2Proof.Machine.execAsymMeasure n value s
  | .timeStep m => Sys2Proof.Machine.execTimeStep m s
  | .timeLoad m => Sys2Proof.Machine.execTimeLoad m s
  | .epochMarkPeriodic => Sys2Proof.Machine.execEpochMarkPeriodic s
  | .launchArm m word => Sys2Proof.Machine.execLaunchArm m word s
  | .launchFire slot => Sys2Proof.Machine.execLaunchFire slot s
  | .phaseLoRead m => Sys2Proof.Machine.execPhaseLoRead m s
  | .timeLoRead m => Sys2Proof.Machine.execTimeLoRead m s
  | .laneIncrement incs => Sys2Proof.Machine.execLaneIncrement incs s
  | .probeMessage data => Sys2Proof.Machine.execProbeMessage data s
  | .messageApply => Sys2Proof.Machine.execMessageApply s
  | .snapshotDrainDone monitors => Sys2Proof.Machine.execSnapshotDrainDone monitors s
  | .counterRead m => Sys2Proof.Machine.execCounterRead m s
  | .counterApply m word => Sys2Proof.Machine.execCounterApply m word s
  | .laneStuck lane => Sys2Proof.Machine.execLaneStuck lane s
  | .fastWindowEnd => Sys2Proof.Machine.execFastWindowEnd s
  | .scalesConversion code => Sys2Proof.Machine.execScalesConversion code s
  | .wireTestStart codes => Sys2Proof.Machine.execWireTestStart codes s
  | .wireBiasSettled codes => Sys2Proof.Machine.execWireBiasSettled codes s
  | .wireTestDone => Sys2Proof.Machine.execWireTestDone s
  | .scalesTransient level => Sys2Proof.Machine.execScalesTransient level s
  | .traceTick lanes => Sys2Proof.Machine.execTraceTick lanes s
  | .postEnd buf => Sys2Proof.Machine.execPostEnd buf s
  | .traceArm m buf word => Sys2Proof.Machine.execTraceArm m buf word s
  | .traceStop m buf word => Sys2Proof.Machine.execTraceStop m buf word s
  | .traceDump m buf word => Sys2Proof.Machine.execTraceDump m buf word s
  | .contextTag part layer op => Sys2Proof.Machine.execContextTag part layer op s
  | .trcTrigEdge => Sys2Proof.Machine.execTrcTrigEdge s
  | .traceRecordForm buf => Sys2Proof.Machine.execTraceRecordForm buf s
  | .hangEvent slots => Sys2Proof.Machine.execHangEvent slots s
  | .hangFreezePin => Sys2Proof.Machine.execHangFreezePin s
  | .hangFreezeCmd m word => Sys2Proof.Machine.execHangFreezeCmd m word s
  | .hangUnfreeze m word => Sys2Proof.Machine.execHangUnfreeze m word s
  | .hangWallRead m => Sys2Proof.Machine.execHangWallRead m s
  | .contributionReceived port c => Sys2Proof.Machine.execContributionReceived port c s
  | .partialReceived port p => Sys2Proof.Machine.execPartialReceived port p s
  | .wbMarkReceived port step idx wall => Sys2Proof.Machine.execWbMarkReceived port step idx wall s
  | .transactionCutoff tag => Sys2Proof.Machine.execTransactionCutoff tag s
  | .reductionDone tag mis => Sys2Proof.Machine.execReductionDone tag mis s
  | .endReceived port tag code => Sys2Proof.Machine.execEndReceived port tag code s
  | .endGrace tag => Sys2Proof.Machine.execEndGrace tag s
  | .resendReceived port tag => Sys2Proof.Machine.execResendReceived port tag s
  | .startReceived port tag w => Sys2Proof.Machine.execStartReceived port tag w s
  | .swarmLaunch m word => Sys2Proof.Machine.execSwarmLaunch m word s
  | .swarmAbort m word => Sys2Proof.Machine.execSwarmAbort m word s
  | .runningClear m word => Sys2Proof.Machine.execRunningClear m word s
  | .laneFenceWrite m k word => Sys2Proof.Machine.execLaneFenceWrite m k word s
  | .lastEndRead m => Sys2Proof.Machine.execLastEndRead m s
  | .modelExpand m word => Sys2Proof.Machine.execModelExpand m word s
  | .expandDone => Sys2Proof.Machine.execExpandDone s
  | .modelCopyDone => Sys2Proof.Machine.execModelCopyDone s
  | .passRequest ens => Sys2Proof.Machine.execPassRequest ens s
  | .passStart => Sys2Proof.Machine.execPassStart s
  | .batchDone faults => Sys2Proof.Machine.execBatchDone faults s
  | .passDone => Sys2Proof.Machine.execPassDone s
  | .tileFenceWrite m word => Sys2Proof.Machine.execTileFenceWrite m word s
  | .localPassDone faults => Sys2Proof.Machine.execLocalPassDone faults s
  | .rowRead m => Sys2Proof.Machine.execRowRead m s
  | .roundClose step idx => Sys2Proof.Machine.execRoundClose step idx s
  | .supplementEmit => Sys2Proof.Machine.execSupplementEmit s
  | .traySumReceived port ts => Sys2Proof.Machine.execTraySumReceived port ts s
  | .intervalClose => Sys2Proof.Machine.execIntervalClose s
  | .tariffWrite m word => Sys2Proof.Machine.execTariffWrite m word s
  | .laneError port lane => Sys2Proof.Machine.execLaneError port lane s
  | .noFlitTimeout port => Sys2Proof.Machine.execNoFlitTimeout port s
  | .negSend port => Sys2Proof.Machine.execNegSend port s
  | .negReceived port ver feat credits lanes => Sys2Proof.Machine.execNegReceived port ver feat credits lanes s
  | .negAckReceived port ver feat credits width => Sys2Proof.Machine.execNegAckReceived port ver feat credits width s
  | .trainingDone port locked => Sys2Proof.Machine.execTrainingDone port locked s
  | .trainingTimeout port => Sys2Proof.Machine.execTrainingTimeout port s
  | .downFlit port => Sys2Proof.Machine.execDownFlit port s
  | .downRetry port => Sys2Proof.Machine.execDownRetry port s
  | .klRetrain m => Sys2Proof.Machine.execKlRetrain m s
  | .klDown m => Sys2Proof.Machine.execKlDown m s
  | .klUp m => Sys2Proof.Machine.execKlUp m s
  | .portEnableWrite m word => Sys2Proof.Machine.execPortEnableWrite m word s
  | .frameReceived port frame => Sys2Proof.Machine.execFrameReceived port frame s
  | .ackReceived port acks frees => Sys2Proof.Machine.execAckReceived port acks frees s
  | .nakReceived port mask acks frees => Sys2Proof.Machine.execNakReceived port mask acks frees s
  | .replayTimeout port vc => Sys2Proof.Machine.execReplayTimeout port vc s
  | .ackSend port => Sys2Proof.Machine.execAckSend port s
  | .pauseReceived port mask time => Sys2Proof.Machine.execPauseReceived port mask time s
  | .pauseExpire port cls => Sys2Proof.Machine.execPauseExpire port cls s
  | .pauseRepeat port cls => Sys2Proof.Machine.execPauseRepeat port cls s
  | .bulkSchedule port => Sys2Proof.Machine.execBulkSchedule port s
  | .shapeCommit m word => Sys2Proof.Machine.execShapeCommit m word s
  | .shapeApply cls => Sys2Proof.Machine.execShapeApply cls s
  | .gateWindowStart cls => Sys2Proof.Machine.execGateWindowStart cls s
  | .gateWindowEnd cls => Sys2Proof.Machine.execGateWindowEnd cls s
  | .recordReceived port bytes bad => Sys2Proof.Machine.execRecordReceived port bytes bad s
  | .acceptReceived port epoch ldi gap entries => Sys2Proof.Machine.execAcceptReceived port epoch ldi gap entries s
  | .acceptSend ldi => Sys2Proof.Machine.execAcceptSend ldi s
  | .retransmitTimeout stream => Sys2Proof.Machine.execRetransmitTimeout stream s
  | .mirrorReceived update => Sys2Proof.Machine.execMirrorReceived update s
  | .mirrorConfirm key => Sys2Proof.Machine.execMirrorConfirm key s
  | .queueLoss q => Sys2Proof.Machine.execQueueLoss q s
  | .queueFlush m => Sys2Proof.Machine.execQueueFlush m s
  | .flushDone q => Sys2Proof.Machine.execFlushDone q s
  | .pushStart m word => Sys2Proof.Machine.execPushStart m word s
  | .pushData m word => Sys2Proof.Machine.execPushData m word s
  | .pushEnd m => Sys2Proof.Machine.execPushEnd m s
  | .pushAbort m => Sys2Proof.Machine.execPushAbort m s
  | .pushReserved => Sys2Proof.Machine.execPushReserved s
  | .procedureRenew => Sys2Proof.Machine.execProcedureRenew s
  | .procedureTakeover who => Sys2Proof.Machine.execProcedureTakeover who s
  | .injectionArm m word => Sys2Proof.Machine.execInjectionArm m word s
  | .injectionFire slot => Sys2Proof.Machine.execInjectionFire slot s
  | .rehearsalDone slot => Sys2Proof.Machine.execRehearsalDone slot s
  | .jobDone engine checkFail => Sys2Proof.Machine.execJobDone engine checkFail s
  | .jobStop engine => Sys2Proof.Machine.execJobStop engine s
  | .jobResume buf => Sys2Proof.Machine.execJobResume buf s
  | .contextReset m word => Sys2Proof.Machine.execContextReset m word s
  | .engineFenceWrite m word => Sys2Proof.Machine.execEngineFenceWrite m word s
  | .groupClose => Sys2Proof.Machine.execGroupClose s
  | .nandStatus result => Sys2Proof.Machine.execNandStatus result s
  | .targetFailTimeout ch tgt => Sys2Proof.Machine.execTargetFailTimeout ch tgt s
  | .patrolRead ch tgt blk page ladder => Sys2Proof.Machine.execPatrolRead ch tgt blk page ladder s
  | .journalRecoveryDone bad => Sys2Proof.Machine.execJournalRecoveryDone bad s
  | .cocoonReadyTimeout => Sys2Proof.Machine.execCocoonReadyTimeout s
  | .cursorOldest m word => Sys2Proof.Machine.execCursorOldest m word s
  | .cursorNewest m word => Sys2Proof.Machine.execCursorNewest m word s
  | .cursorNext m word => Sys2Proof.Machine.execCursorNext m word s
  | .cursorPrev m word => Sys2Proof.Machine.execCursorPrev m word s
  | .cursorSeek m word => Sys2Proof.Machine.execCursorSeek m word s
  | .cursorRelease m word => Sys2Proof.Machine.execCursorRelease m word s
  | .cursorLoadDone c => Sys2Proof.Machine.execCursorLoadDone c s
  | .relLoRead m => Sys2Proof.Machine.execRelLoRead m s
  | .newLoRead m => Sys2Proof.Machine.execNewLoRead m s
  | .curPosRead m => Sys2Proof.Machine.execCurPosRead m s
  | .mctrRead m => Sys2Proof.Machine.execMctrRead m s
  | .counterRaise m => Sys2Proof.Machine.execCounterRaise m s
  | .counterRaiseDone => Sys2Proof.Machine.execCounterRaiseDone s
  | .cocoonClear m => Sys2Proof.Machine.execCocoonClear m s
  | .cocoonFormat m force => Sys2Proof.Machine.execCocoonFormat m force s
  | .opDone => Sys2Proof.Machine.execOpDone s
  | .norWriteDone => Sys2Proof.Machine.execNorWriteDone s
  | .pfFlushDone => Sys2Proof.Machine.execPfFlushDone s
  | .imageLoad m word => Sys2Proof.Machine.execImageLoad m word s
  | .imageData m word => Sys2Proof.Machine.execImageData m word s
  | .imageAbort m word => Sys2Proof.Machine.execImageAbort m word s
  | .loadComplete dram => Sys2Proof.Machine.execLoadComplete dram s
  | .imageCommit m word => Sys2Proof.Machine.execImageCommit m word s
  | .commitNoBoundary => Sys2Proof.Machine.execCommitNoBoundary s
  | .imageApply => Sys2Proof.Machine.execImageApply s
  | .commitDone => Sys2Proof.Machine.execCommitDone s
  | .imageRollback m word => Sys2Proof.Machine.execImageRollback m word s
  | .imageConfirm m word => Sys2Proof.Machine.execImageConfirm m word s
  | .probationEnd => Sys2Proof.Machine.execProbationEnd s
  | .sensorSample temp vdd => Sys2Proof.Machine.execSensorSample temp vdd s
  | .sramPatrol w => Sys2Proof.Machine.execSramPatrol w s
  | .selftestDue => Sys2Proof.Machine.execSelftestDue s
  | .selftestStart => Sys2Proof.Machine.execSelftestStart s
  | .selftestWaitExpire => Sys2Proof.Machine.execSelftestWaitExpire s
  | .selftestDone pass => Sys2Proof.Machine.execSelftestDone pass s
  | .confirmationStart => Sys2Proof.Machine.execConfirmationStart s
  | .partUnfence m => Sys2Proof.Machine.execPartUnfence m s
  | .sclFenceWrite m word => Sys2Proof.Machine.execSclFenceWrite m word s
  | .shadowOp cls id digest => Sys2Proof.Machine.execShadowOp cls id digest s
  | .shadowRequestTaken => Sys2Proof.Machine.execShadowRequestTaken s
  | .shadowResult tag digest => Sys2Proof.Machine.execShadowResult tag digest s
  | .shadowTimeout tag => Sys2Proof.Machine.execShadowTimeout tag s
  | .shadowTargetMove => Sys2Proof.Machine.execShadowTargetMove s
  | .intLastRead m => Sys2Proof.Machine.execIntLastRead m s
  | .postRecheck => Sys2Proof.Machine.execPostRecheck s
  | .loadWindow ready => Sys2Proof.Machine.execLoadWindow ready s
  | .wdogWarn duty => Sys2Proof.Machine.execWdogWarn duty s
  | .wdogTimeout duty => Sys2Proof.Machine.execWdogTimeout duty s
  | .synRead by_ idx n => Sys2Proof.Machine.execSynRead by_ idx n s
  | .synInc by_ idx n => Sys2Proof.Machine.execSynInc by_ idx n s
  | .synDec by_ idx n => Sys2Proof.Machine.execSynDec by_ idx n s
  | .synTake by_ idx n => Sys2Proof.Machine.execSynTake by_ idx n s
  | .synSet by_ idx n => Sys2Proof.Machine.execSynSet by_ idx n s
  | .synClrf by_ idx n => Sys2Proof.Machine.execSynClrf by_ idx n s
  | .synReservedOp by_ op idx n => Sys2Proof.Machine.execSynReservedOp by_ op idx n s
  | .irqInEdge n level => Sys2Proof.Machine.execIrqInEdge n level s
  | .irqClaim by_ t => Sys2Proof.Machine.execIrqClaim by_ t s
  | .irqEoi by_ t src => Sys2Proof.Machine.execIrqEoi by_ t src s
  | .irqHoldExpire t => Sys2Proof.Machine.execIrqHoldExpire t s
  | .stormGuardEnd src => Sys2Proof.Machine.execStormGuardEnd src s
  | .evtLogRecord => Sys2Proof.Machine.execEvtLogRecord s
  | .logSelect m seqno => Sys2Proof.Machine.execLogSelect m seqno s
  | .wakeWatchFire slot => Sys2Proof.Machine.execWakeWatchFire slot s
  | .wakeTimerExpire => Sys2Proof.Machine.execWakeTimerExpire s
  | .vsbFrameSend frame won acked => Sys2Proof.Machine.execVsbFrameSend frame won acked s
  | .vsbRead src off => Sys2Proof.Machine.execVsbRead src off s
  | .vsbWrite src off value => Sys2Proof.Machine.execVsbWrite src off value s
  | .vsbRespReceived src status value => Sys2Proof.Machine.execVsbRespReceived src status value s
  | .vsbBeaconReceived src ploc role solo => Sys2Proof.Machine.execVsbBeaconReceived src ploc role solo s
  | .vsbProcReceived src proc ldi step repoch => Sys2Proof.Machine.execVsbProcReceived src proc ldi step repoch s
  | .vsbNoackRetry acked => Sys2Proof.Machine.execVsbNoackRetry acked s
  | .vsbRespTimeout acked => Sys2Proof.Machine.execVsbRespTimeout acked s
  | .vsbStuck => Sys2Proof.Machine.execVsbStuck s
  | .vsbSoloBeacon => Sys2Proof.Machine.execVsbSoloBeacon s
  | .sleepGo m word => Sys2Proof.Machine.execSleepGo m word s
  | .domainAnswer => Sys2Proof.Machine.execDomainAnswer s
  | .domainAnswerTimeout => Sys2Proof.Machine.execDomainAnswerTimeout s
  | .switchAck d => Sys2Proof.Machine.execSwitchAck d s
  | .switchAckTimeout d => Sys2Proof.Machine.execSwitchAckTimeout d s
  | .sleepWake m word => Sys2Proof.Machine.execSleepWake m word s
  | .pfWarn => Sys2Proof.Machine.execPfWarn s
  | .pfClear => Sys2Proof.Machine.execPfClear s
  | .porReset => Sys2Proof.Machine.execPorReset s
  | .mainReset => Sys2Proof.Machine.execMainReset s
  | .pinReset => Sys2Proof.Machine.execPinReset s
  | .softReset m key => Sys2Proof.Machine.execSoftReset m key s
  | .unitReset m word => Sys2Proof.Machine.execUnitReset m word s
  | .startSequence => Sys2Proof.Machine.execStartSequence s
  | .domainRelease => Sys2Proof.Machine.execDomainRelease s
  | .startGood => Sys2Proof.Machine.execStartGood s
  | .startLimit => Sys2Proof.Machine.execStartLimit s
  | .startFailReset => Sys2Proof.Machine.execStartFailReset s
  | .retDataAccess m wr data => Sys2Proof.Machine.execRetDataAccess m wr data s
  | .unlockChal m => Sys2Proof.Machine.execUnlockChal m s
  | .unlockRespond m word => Sys2Proof.Machine.execUnlockRespond m word s
  | .unlockPassword m word => Sys2Proof.Machine.execUnlockPassword m word s
  | .unlockRelock m => Sys2Proof.Machine.execUnlockRelock m s
  | .nonceExpire m => Sys2Proof.Machine.execNonceExpire m s
  | .lockoutEnd m => Sys2Proof.Machine.execLockoutEnd m s
  | .keyRevoke m => Sys2Proof.Machine.execKeyRevoke m s
  | .keyPgmDone fail => Sys2Proof.Machine.execKeyPgmDone fail s
  | .testInstruction code => Sys2Proof.Machine.execTestInstruction code s
  | .memoryResponse ch tag addr data chk err held => Sys2Proof.Machine.execMemoryResponse ch tag addr data chk err held s
  | .memoryTimeout ch tag addr held => Sys2Proof.Machine.execMemoryTimeout ch tag addr held s
  | .selfRefreshAck level => Sys2Proof.Machine.execSelfRefreshAck level s
  | .rcFieldRead m off strb upd => Sys2Proof.Machine.execRcFieldRead m off strb upd s
  | .slewAbsorbed => Sys2Proof.Machine.execSlewAbsorbed s
  | .heartbeatWithholdEnd => Sys2Proof.Machine.execHeartbeatWithholdEnd s
  | .guardCountClear src => Sys2Proof.Machine.execGuardCountClear src s
  | .vsbFrameCrcFail => Sys2Proof.Machine.execVsbFrameCrcFail s

end Sys2Proof.Machine
end

