-- ==== Sys2Proof/Machine/Tick.lean ====
section
/-! DEFINITION. One CLK_CORE cycle in which no command comes (log entry 2): time, clocks, what lasts one cycle, what the units do by
themselves. -/

namespace Sys2Proof.Machine

/-- The clocks move on by a cycle of CLK_CORE; CLK_AON follows at 25 MHz (R377). -/
def Clk.next (c : Clk) (coreMHz : Nat) : Clk :=
  let sub := c.sub + 25
  if coreMHz ≤ sub then { core := c.core + 1, aon := c.aon + 1, sub := sub - coreMHz } else { core := c.core + 1, aon := c.aon, sub := sub }

/-- The Probe Bus after a cycle (R70, R82): where no lane was presented in it every lane was 0, so levels and runs are. -/
def Prb.cycleEnd (p : Prb) : Prb :=
  if p.fed then { p with cyc := p.cyc + 1, fed := false } else { p with cyc := p.cyc + 1, high := [], runs := [] }

/-- What lasts one cycle is over: PHR_WB (Table 2-1), a frame seen and the timer's source of the wake watcher (R340), the cycle of the Probe Bus
while PROBE is ON and the cycle of TRACE while TRACE is; the port's first sample is taken (R43). -/
def Block.cycleEnd (b : Block) : Block :=
  { b with pins := { b.pins with phrWb := false }, vsb := { b.vsb with seen := false }, pwr := { b.pwr with timerHit := false },
           prb := if b.on dPROBE then b.prb.cycleEnd else b.prb,
           trc := if b.on dTRACE then { b.trc with cyc := b.trc.cyc + 1 } else b.trc,
           ant := { b.ant with sampled := b.ant.sampled || b.portFollowed } }

/-- An idle cycle: internal time runs (R61), frames that wait start where they may (R208), a clear or format that waits for
MGMT_BUSY goes on (R14), consumers take what they may (R233), interrupt lines
are judged (R336), ANT_STATUS.FIREQ follows the fire queue, raises that wait enter the log (R338), a drift adder's failure is reported (R193). -/
def Block.tick (b : Block) : Block :=
  let b := (b.runTime.linkCycle.opTurn.consume.irqLines).cycleEnd
  (({ b with clk := b.clk.next b.syn.coreMHz }).showFireQ.logCycle).driftReports

end Sys2Proof.Machine
end

