-- ==== Sys2Proof/Machine/Wire.lean ====
section
/-! DEFINITION. The bytes on a link that the spec lays out (spec/09_links_monarch.md, R207, R209, R211, R212; spec/10_queues_delivery.md,
R240): flit headers, frame headers, link-control flits, message codes, ACCEPT. -/

namespace Sys2Proof.Machine

/-! Flit headers (R207) -/

/-- The two bytes of a flit header: KIND, VC and LAST, and their complement. -/
def flitHead (kind vc : Nat) (last : Bool) : List Byte :=
  let x := kind % 4 + vc % 4 * 4 + (if last then 16 else 0)
  leBytes 1 x ++ leBytes 1 (255 - x)

/-- KIND, VC and LAST of a flit header; none is a framing error: the complement test fails, or a value is reserved. -/
def parseFlit (l : List Byte) : Option (Nat × Nat × Bool) :=
  let x := leAt l 0 1
  if leAt l 1 1 ≠ 255 - x ∨ 32 ≤ x ∨ bits x 2 2 = 3 then none else some (bits x 0 2, bits x 2 2, bit x 4 == 1)

/-! Frames (R209) -/

/-- A frame header (Table 9-3). -/
def Frame.head (f : Frame) : List Byte :=
  leBytes 1 f.ftype
    ++ leBytes 1 (f.cls % 8 + (if f.sor then 8 else 0) + (if f.eor then 16 else 0) + (if f.rpl then 32 else 0))
    ++ leBytes 2 f.seq ++ leBytes 2 f.ack ++ leBytes 2 (f.lenb % 2 ^ 13) ++ leBytes 1 (f.ctx % 64) ++ leBytes 7 0

/-- The channel that a FTYPE belongs to: RECORD and MIRROR go on BULK, SWARM on EXPRESS, CONTROL on CONTROL; others are reserved. -/
def ftypeVc (t : Nat) : Option Nat :=
  match t with
  | 1 => some 0
  | 2 => some 1
  | 3 => some 2
  | 4 => some 0
  | _ => none

/-- A received frame header on a channel, with its payload taken as bytes; none acts as a failed CRC: the FTYPE is not the channel's, or a
reserved bit is not 0. -/
def parseHead (vc : Nat) (l : List Byte) : Option Frame :=
  let b1 := leAt l 1 1
  let len := leAt l 6 2
  if ftypeVc (leAt l 0 1) ≠ some vc ∨ 64 ≤ b1 ∨ 2 ^ 13 ≤ len ∨ 64 ≤ leAt l 8 1 ∨ leAt l 9 7 ≠ 0 then none
  else
    some { seq := leAt l 2 2, ftype := leAt l 0 1, ack := leAt l 4 2, cls := bits b1 0 3, sor := bit b1 3 == 1, eor := bit b1 4 == 1,
           rpl := bit b1 5 == 1, ctx := leAt l 8 1, lenb := len, content := .bytes [] }

/-- The bytes of a frame that carries a payload: header, payload, CRC-32C over both, inverted where the frame is stomped (R213), zero-padded to
whole flits of 62 data bytes. -/
def Frame.bytes (f : Frame) (payload : List Byte) : List Byte :=
  let l := f.head ++ payload
  let c := crc32c l
  let all := l ++ leBytes 4 (if f.stomp then 0xFFFFFFFF - c else c)
  all ++ List.replicate (flits payload.length * 62 - all.length) 0

/-! Link-control flits (R211, Table 9-4) -/

/-- LCTYPE. -/
def Lc.code (l : Lc) : Nat :=
  match l with
  | .ack _ _ => 1
  | .nak _ _ _ => 2
  | .pause _ _ => 3
  | .neg _ _ _ _ => 4
  | .negAck _ _ _ _ => 5
  | .down => 6

/-- 16-bit values, little-endian. -/
def words16 (l : List Nat) : List Byte := l.flatMap (leBytes 2)

/-- The fields of a link-control flit, from data byte 1 on. -/
def Lc.fields (l : Lc) : List Byte :=
  match l with
  | .ack a f => leBytes 1 0 ++ words16 a ++ words16 f
  | .nak m a f => leBytes 1 m ++ words16 a ++ words16 f
  | .pause m t => leBytes 1 m ++ leBytes 2 t
  | .neg v f c n => leBytes 1 v ++ leBytes 2 f ++ words16 c ++ leBytes 1 n
  | .negAck v f c w => leBytes 1 v ++ leBytes 2 f ++ words16 c ++ leBytes 1 w
  | .down => []

/-- The 62 data bytes of a link-control flit, its CRC-32C last. -/
def Lc.data (l : Lc) : List Byte :=
  let x := leBytes 1 l.code ++ l.fields
  let y := x ++ List.replicate (58 - x.length) 0
  y ++ leBytes 4 (crc32c y)

/-- Whether received data bytes are a link-control flit; any other is ignored: its check fails, or LCTYPE is reserved. -/
def lcValid (l : List Byte) : Bool :=
  leAt l 58 4 == crc32c (l.take 58) && decide (1 ≤ leAt l 0 1) && decide (leAt l 0 1 ≤ 6)

/-! Control messages -/

/-- The code of a control message (Table 9-5). -/
def Msg.code (m : Msg) : Nat :=
  match m with
  | .heartbeat _ _ => 0x01
  | .sync _ _ _ _ => 0x02
  | .pdelayReq _ _ => 0x03
  | .pdelayResp _ _ _ _ => 0x04
  | .wbMark _ _ _ => 0x05
  | .beacon _ _ _ _ _ _ => 0x06
  | .bind _ _ => 0x07
  | .bindAck _ _ => 0x08
  | .unbind _ _ => 0x09
  | .route _ _ _ => 0x0A
  | .start _ _ => 0x0B
  | .end_ _ _ => 0x0C
  | .resend _ => 0x0D
  | .traySum _ => 0x0E
  | .accept _ _ _ _ => 0x0F
  | .discover _ _ => 0x10
  | .unbindAck _ _ => 0x11

/-- The payload of an ACCEPT (R240, Table 10-3). -/
def acceptBytes (epoch ldi : Nat) (gap : Bool) (es : List AcceptEntry) : List Byte :=
  leBytes 1 0x0F ++ leBytes 1 0 ++ leBytes 2 epoch ++ leBytes 4 (ldi % 2 ^ 20 + es.length % 32 * 2 ^ 20 + (if gap then 2 ^ 25 else 0))
    ++ es.flatMap (fun e => leBytes 2 e.stream ++ leBytes 6 e.seq)

/-- The entries of an ACCEPT, n of them. -/
def parseEntries (n : Nat) (l : List Byte) : List AcceptEntry :=
  match n with
  | 0 => []
  | k + 1 => { stream := leAt l 0 2, seq := leAt l 2 6 } :: parseEntries k (l.drop 8)

/-- The EPOCH, LDI, GAP and entries that the payload of an ACCEPT spells. -/
def parseAccept (l : List Byte) : Option (Nat × Nat × Bool × List AcceptEntry) :=
  let w := leAt l 4 4
  let n := bits w 20 5
  if leAt l 0 1 ≠ 0x0F ∨ leAt l 1 1 ≠ 0 ∨ 2 ^ 26 ≤ w ∨ n = 0 ∨ 23 < n ∨ l.length ≠ 8 + 8 * n then none
  else some (leAt l 2 2, bits w 0 20, bit w 25 == 1, parseEntries n (l.drop 8))

end Sys2Proof.Machine
end

