-- ==== Sys2Proof/WellFormed.lean ====
section
/-! DEFINITION. Well-formed commands: every operand within the width that the spec gives the pin, register or message field it stands
for. The checks are shared: a width, a list's length, the widths of a list's elements, and one per operand type. -/

namespace Sys2Proof

/-- The value fits in w bits. -/
def fits (w n : Nat) : Bool := decide (n < 2 ^ w)

/-- The list has at most k elements. -/
def few {α : Type} (k : Nat) (l : List α) : Bool := decide (l.length ≤ k)

/-- Each element fits in w bits. -/
def allFit (w : Nat) (l : List Nat) : Bool := l.all (fits w)

end Sys2Proof

namespace Sys2Proof.Machine

/-- A contribution (R136): tag 64, LDI 20, EPOCH 16, CAUSE 8 and WALL 64 bits. -/
def Contrib.wf (c : Contrib) : Bool := fits 64 c.tag && fits 20 c.ldi && fits 16 c.epoch && fits 8 c.cause && fits 64 c.wall

/-- A partial (R139): the batch tag, the child's LAI, W, an error code, the count of missing members and the lowest 16 of them. -/
def Partial.wf (p : Partial) : Bool :=
  fits 64 p.tag && fits 16 p.child && fits 64 p.w && fits 8 p.err && fits 32 p.missing && few 16 p.list && allFit 20 p.list

/-- An entry of Table 8-2, by the widths of its fields. -/
def VEntry.wf (e : VEntry) : Bool := fits 8 e.kind && fits 32 e.entity && fits 64 e.metric && fits 8 e.rule

/-- A TRAY_SUM message (R189). -/
def TraySum.wf (x : TraySum) : Bool := fits 16 x.lai && fits 40 x.step && fits 8 x.idx && x.entries.all VEntry.wf

/-- A received frame (Table 9-3): a 2-bit channel, an 8-bit FTYPE, a 3-bit class, 16-bit SEQ and ACK, context below 64, a 13-bit length. -/
def FrameIn.wf (f : FrameIn) : Bool :=
  fits 2 f.vc && fits 8 f.ftype && fits 3 f.cls && fits 16 f.seq && fits 16 f.ack && fits 6 f.ctx && few 8191 f.payload

/-- A VSB frame (Table 15-7): 6-bit addresses, a 4-bit type, at most 48 bytes. -/
def VsbFrame.wf (f : VsbFrame) : Bool := fits 6 f.dest && fits 6 f.src && fits 4 f.typ && few 48 f.payload

/-- A tree fault names a tile below 16 (R176) and an operation of Table 14-5. -/
def TreeFault.wf (x : TreeFault) : Bool := fits 4 x.tile && fits 8 x.op && fits 64 x.exp && fits 64 x.obs

/-- A ladder ends at one of its five steps (R269). -/
def Ladder.wf (x : Ladder) : Bool := decide (1 ≤ x.step) && decide (x.step ≤ 5)

/-- A NAND channel below 16 and a target below 8 (R266). -/
def nandAddr (ch tgt : Nat) : Bool := fits 4 ch && fits 3 tgt

/-- A NAND status names a channel and a target that can exist. -/
def NandResult.wf (x : NandResult) : Bool :=
  match x with
  | .param ch tgt _ => nandAddr ch tgt
  | .program ch tgt _ _ _ => nandAddr ch tgt
  | .erase ch tgt _ _ => nandAddr ch tgt
  | .read ch tgt _ _ l => nandAddr ch tgt && l.wf
  | .counter _ _ => true

/-- What an uncorrectable word held, by the widths of the names it gives. -/
def SramHeld.wf (x : SramHeld) : Bool :=
  match x with
  | .swarm tag => fits 64 tag
  | .model tree => fits 16 tree
  | .row entity => fits 32 entity
  | .drift ch => fits 16 ch
  | .item q _ => fits 16 q
  | .ownerCopy ldi epoch str_ seq _ => fits 20 ldi && fits 16 epoch && fits 16 str_ && fits 48 seq
  | .rwl => true
  | .probe index _ => fits 14 index
  | .txn tag => fits 64 tag
  | .queue q => fits 16 q
  | .fire => true
  | .retained addr => fits 16 addr
  | .other => true

/-- What the SRAM patrol found. -/
def SramWord.wf (x : SramWord) : Bool :=
  match x with
  | .clean => true
  | .corrected => true
  | .uncorr addr what => fits 32 addr && what.wf

/-- A mirror update (R245), by the widths of its names. -/
def Mirror.wf (x : Mirror) : Bool :=
  match x with
  | .record ldi epoch str_ seq _ => fits 20 ldi && fits 16 epoch && fits 16 str_ && fits 48 seq
  | .release ldi epoch str_ seq => fits 20 ldi && fits 16 epoch && fits 16 str_ && fits 48 seq
  | .stream ldi epoch str_ next acc => fits 20 ldi && fits 16 epoch && fits 16 str_ && fits 48 next && fits 48 acc
  | .binding ldi ploc epoch port => fits 20 ldi && fits 32 ploc && fits 16 epoch && fits 8 port
  | .proc num ldi step repoch epoch ploc port =>
    fits 8 num && fits 20 ldi && fits 8 step && fits 64 repoch && fits 16 epoch && fits 32 ploc && fits 8 port
  | .straggler entity count => fits 32 entity && fits 32 count
  | .running coll _ => fits 12 coll
  | .interval _ => true
  | .relay bytes => few 524328 bytes

end Sys2Proof.Machine

namespace Sys2Proof

open Sys2Proof.Machine

/-- The command's operands lie within their widths. -/
def Instr.wf (i : Instr) : Bool :=
  match i with
  | .registerWrite _ off strb data hw => fits 20 off && fits 4 strb && fits 32 data && fits 32 hw
  | .multiCommandWrite _ off data => fits 20 off && fits 32 data
  | .discoverReceived port lai tags _ latNs => fits 8 port && fits 16 lai && few 4 tags && allFit 32 tags && fits 32 latNs
  | .deadTimeout ldi => fits 20 ldi
  | .bindRepeat ldi => fits 20 ldi
  | .bindReceived port ldi epoch => fits 8 port && fits 20 ldi && fits 16 epoch
  | .bindAckReceived port ldi epoch => fits 8 port && fits 20 ldi && fits 16 epoch
  | .routeReceived port ldi via => fits 8 port && fits 20 ldi && fits 16 via.lai && fits 16 via.epoch
  | .unbindReceived port ldi epoch => fits 8 port && fits 20 ldi && fits 16 epoch
  | .unbindRepeat ldi epoch => fits 20 ldi && fits 16 epoch
  | .unbindAckReceived port ldi epoch => fits 8 port && fits 20 ldi && fits 16 epoch
  | .jobStart => true
  | .setupVerifyTimeout => true
  | .heartbeatSend => true
  | .heartbeatReceived port lai _ => fits 8 port && fits 16 lai
  | .heartbeatLoss => true
  | .phaseLoad value _ adv => fits 64 value && fits 16 adv
  | .stepStrobe adv => fits 16 adv
  | .phaseAdvance adv => fits 16 adv
  | .stepTimeout => true
  | .wingbeatFire => true
  | .beaconReceived port ldi epoch step pos idx wall => fits 8 port && fits 20 ldi && fits 16 epoch && fits 40 step && fits 24 pos && fits 8 idx && fits 64 wall
  | .beaconLost => true
  | .timeWingbeat => true
  | .syncSend => true
  | .syncReceived port ts tr _ => fits 8 port && fits 64 ts && fits 64 tr
  | .pdelayReqSend => true
  | .pdelayReqReceived port seq t2 _ => fits 8 port && fits 16 seq && fits 64 t2
  | .pdelayRespReceived port seq t2 t3 t4 _ => fits 8 port && fits 16 seq && fits 64 t2 && fits 64 t3 && fits 64 t4
  | .syncTimeout => true
  | .asymMeasure n value => fits 8 n && fits 16 value
  | .timeStep _ => true
  | .timeLoad _ => true
  | .epochMarkPeriodic => true
  | .launchArm _ word => fits 32 word
  | .launchFire slot => fits 5 slot
  | .phaseLoRead _ => true
  | .timeLoRead _ => true
  | .laneIncrement incs => few 2048 incs && incs.all (fun y => fits 11 y.1 && fits 4 y.2)
  | .probeMessage data => fits 64 data
  | .messageApply => true
  | .snapshotDrainDone _ => true
  | .counterRead _ => true
  | .counterApply _ word => fits 32 word
  | .laneStuck lane => fits 11 lane
  | .fastWindowEnd => true
  | .scalesConversion code => fits 16 code
  | .wireTestStart codes => few 8 codes && allFit 16 codes
  | .wireBiasSettled codes => few 8 codes && allFit 16 codes
  | .wireTestDone => true
  | .scalesTransient _ => true
  | .traceTick lanes => few 64 lanes && lanes.all (fun y => fits 6 y.1 && fits 48 y.2.1 && fits 3 y.2.2)
  | .postEnd buf => fits 2 buf
  | .traceArm _ buf word => fits 2 buf && fits 32 word
  | .traceStop _ buf word => fits 2 buf && fits 32 word
  | .traceDump _ buf word => fits 2 buf && fits 32 word
  | .contextTag part layer op => fits 3 part && fits 16 layer && fits 16 op
  | .trcTrigEdge => true
  | .traceRecordForm buf => fits 2 buf
  | .hangEvent slots => few 4 slots && slots.all (fun y => fits 13 y.1 && fits 16 y.2)
  | .hangFreezePin => true
  | .hangFreezeCmd _ word => fits 32 word
  | .hangUnfreeze _ word => fits 32 word
  | .hangWallRead _ => true
  | .contributionReceived port c => fits 8 port && c.wf
  | .partialReceived port p => fits 8 port && p.wf
  | .wbMarkReceived port step idx wall => fits 8 port && fits 40 step && fits 8 idx && fits 64 wall
  | .transactionCutoff tag => fits 64 tag
  | .reductionDone tag _ => fits 64 tag
  | .endReceived port tag code => fits 8 port && fits 64 tag && fits 8 code
  | .endGrace tag => fits 64 tag
  | .resendReceived port tag => fits 8 port && fits 64 tag
  | .startReceived port tag w => fits 8 port && fits 64 tag && fits 64 w
  | .swarmLaunch _ word => fits 32 word
  | .swarmAbort _ word => fits 32 word
  | .runningClear _ word => fits 32 word
  | .laneFenceWrite _ k word => fits 1 k && fits 32 word
  | .lastEndRead _ => true
  | .modelExpand _ word => fits 32 word
  | .expandDone => true
  | .modelCopyDone => true
  | .passRequest ens => fits 6 ens
  | .passStart => true
  | .batchDone faults => faults.all TreeFault.wf
  | .passDone => true
  | .tileFenceWrite _ word => fits 32 word
  | .localPassDone faults => faults.all TreeFault.wf
  | .rowRead _ => true
  | .roundClose step idx => fits 40 step && fits 8 idx
  | .supplementEmit => true
  | .traySumReceived port ts => fits 8 port && ts.wf
  | .intervalClose => true
  | .tariffWrite _ word => fits 32 word
  | .laneError port lane => fits 8 port && fits 2 lane
  | .noFlitTimeout port => fits 8 port
  | .negSend port => fits 8 port
  | .negReceived port ver feat credits lanes => fits 8 port && fits 8 ver && fits 16 feat && few 3 credits && allFit 16 credits && fits 4 lanes
  | .negAckReceived port ver feat credits width => fits 8 port && fits 8 ver && fits 16 feat && few 3 credits && allFit 16 credits && fits 4 width
  | .trainingDone port locked => fits 8 port && fits 4 locked
  | .trainingTimeout port => fits 8 port
  | .downFlit port => fits 8 port
  | .downRetry port => fits 8 port
  | .klRetrain _ => true
  | .klDown _ => true
  | .klUp _ => true
  | .portEnableWrite _ word => fits 32 word
  | .frameReceived port frame => fits 8 port && frame.wf
  | .ackReceived port acks frees => fits 8 port && few 3 acks && allFit 16 acks && few 3 frees && allFit 16 frees
  | .nakReceived port mask acks frees => fits 8 port && fits 3 mask && few 3 acks && allFit 16 acks && few 3 frees && allFit 16 frees
  | .replayTimeout port vc => fits 8 port && fits 2 vc
  | .ackSend port => fits 8 port
  | .pauseReceived port mask time => fits 8 port && fits 8 mask && fits 16 time
  | .pauseExpire port cls => fits 8 port && fits 3 cls
  | .pauseRepeat port cls => fits 8 port && fits 3 cls
  | .bulkSchedule port => fits 8 port
  | .shapeCommit _ word => fits 32 word
  | .shapeApply cls => fits 3 cls
  | .gateWindowStart cls => fits 3 cls
  | .gateWindowEnd cls => fits 3 cls
  | .recordReceived port bytes bad => fits 8 port && few 524328 bytes && allFit 32 bad
  | .acceptReceived port epoch ldi _ entries => fits 8 port && fits 16 epoch && fits 20 ldi && few 32 entries && entries.all (fun y => fits 16 y.stream && fits 48 y.seq)
  | .acceptSend ldi => fits 20 ldi
  | .retransmitTimeout stream => fits 16 stream
  | .mirrorReceived update => update.wf
  | .mirrorConfirm key => fits 64 key
  | .queueLoss q => fits 16 q
  | .queueFlush _ => true
  | .flushDone q => fits 16 q
  | .pushStart _ word => fits 32 word
  | .pushData _ word => fits 32 word
  | .pushEnd _ => true
  | .pushAbort _ => true
  | .pushReserved => true
  | .procedureRenew => true
  | .procedureTakeover who => fits 2 who
  | .injectionArm _ word => fits 32 word
  | .injectionFire slot => fits 3 slot
  | .rehearsalDone slot => fits 3 slot
  | .jobDone engine _ => fits 3 engine
  | .jobStop engine => fits 3 engine
  | .jobResume buf => fits 2 buf
  | .contextReset _ word => fits 32 word
  | .engineFenceWrite _ word => fits 32 word
  | .groupClose => true
  | .nandStatus result => result.wf
  | .targetFailTimeout ch tgt => fits 4 ch && fits 3 tgt
  | .patrolRead ch tgt blk page ladder => fits 4 ch && fits 3 tgt && fits 32 blk && fits 16 page && ladder.wf
  | .journalRecoveryDone bad => bad.all (fun y => fits 4 y.1 && fits 3 y.2.1 && fits 32 y.2.2)
  | .cocoonReadyTimeout => true
  | .cursorOldest _ word => fits 32 word
  | .cursorNewest _ word => fits 32 word
  | .cursorNext _ word => fits 32 word
  | .cursorPrev _ word => fits 32 word
  | .cursorSeek _ word => fits 32 word
  | .cursorRelease _ word => fits 32 word
  | .cursorLoadDone c => fits 2 c
  | .relLoRead _ => true
  | .newLoRead _ => true
  | .curPosRead _ => true
  | .mctrRead _ => true
  | .counterRaise _ => true
  | .counterRaiseDone => true
  | .cocoonClear _ => true
  | .cocoonFormat _ _ => true
  | .opDone => true
  | .norWriteDone => true
  | .pfFlushDone => true
  | .imageLoad _ word => fits 32 word
  | .imageData _ word => fits 32 word
  | .imageAbort _ word => fits 32 word
  | .loadComplete dram => few 50331648 dram
  | .imageCommit _ word => fits 32 word
  | .commitNoBoundary => true
  | .imageApply => true
  | .commitDone => true
  | .imageRollback _ word => fits 32 word
  | .imageConfirm _ word => fits 32 word
  | .probationEnd => true
  | .sensorSample temp vdd => fits 16 temp && fits 16 vdd
  | .sramPatrol w => w.wf
  | .selftestDue => true
  | .selftestStart => true
  | .selftestWaitExpire => true
  | .selftestDone _ => true
  | .confirmationStart => true
  | .partUnfence _ => true
  | .sclFenceWrite _ word => fits 32 word
  | .shadowOp cls id digest => fits 8 cls && fits 48 id && fits 64 digest
  | .shadowRequestTaken => true
  | .shadowResult tag digest => fits 4 tag && fits 64 digest
  | .shadowTimeout tag => fits 4 tag
  | .shadowTargetMove => true
  | .intLastRead _ => true
  | .postRecheck => true
  | .loadWindow ready => fits 32 ready
  | .wdogWarn duty => fits 3 duty
  | .wdogTimeout duty => fits 3 duty
  | .synRead _ idx n => fits 12 idx && fits 16 n
  | .synInc _ idx n => fits 12 idx && fits 16 n
  | .synDec _ idx n => fits 12 idx && fits 16 n
  | .synTake _ idx n => fits 12 idx && fits 16 n
  | .synSet _ idx n => fits 12 idx && fits 16 n
  | .synClrf _ idx n => fits 12 idx && fits 16 n
  | .synReservedOp _ op idx n => fits 3 op && fits 12 idx && fits 16 n
  | .irqInEdge n _ => fits 5 n
  | .irqClaim _ t => fits 2 t
  | .irqEoi _ t src => fits 2 t && fits 9 src
  | .irqHoldExpire t => fits 2 t
  | .stormGuardEnd src => fits 9 src
  | .evtLogRecord => true
  | .logSelect _ seqno => fits 32 seqno
  | .wakeWatchFire slot => fits 8 slot
  | .wakeTimerExpire => true
  | .vsbFrameSend frame _ _ => frame.wf
  | .vsbRead src off => fits 6 src && fits 32 off
  | .vsbWrite src off value => fits 6 src && fits 32 off && fits 32 value
  | .vsbRespReceived src status value => fits 6 src && fits 8 status && fits 32 value
  | .vsbBeaconReceived src ploc role _ => fits 6 src && fits 32 ploc && fits 2 role
  | .vsbProcReceived src proc ldi step repoch => fits 6 src && fits 8 proc && fits 20 ldi && fits 40 step && fits 64 repoch
  | .vsbNoackRetry _ => true
  | .vsbRespTimeout _ => true
  | .vsbStuck => true
  | .vsbSoloBeacon => true
  | .sleepGo _ word => fits 32 word
  | .domainAnswer => true
  | .domainAnswerTimeout => true
  | .switchAck d => fits 4 d
  | .switchAckTimeout d => fits 4 d
  | .sleepWake _ word => fits 32 word
  | .pfWarn => true
  | .pfClear => true
  | .porReset => true
  | .mainReset => true
  | .pinReset => true
  | .softReset _ key => fits 32 key
  | .unitReset _ word => fits 32 word
  | .startSequence => true
  | .domainRelease => true
  | .startGood => true
  | .startLimit => true
  | .startFailReset => true
  | .retDataAccess _ _ data => fits 32 data
  | .unlockChal _ => true
  | .unlockRespond _ word => fits 32 word
  | .unlockPassword _ word => fits 32 word
  | .unlockRelock _ => true
  | .nonceExpire _ => true
  | .lockoutEnd _ => true
  | .keyRevoke _ => true
  | .keyPgmDone _ => true
  | .testInstruction code => fits 8 code
  | .memoryResponse ch tag addr data chk _ held => fits 3 ch && fits 10 tag && fits 30 addr && few 64 data && fits 32 chk && held.wf
  | .memoryTimeout ch tag addr held => fits 3 ch && fits 10 tag && fits 30 addr && held.wf
  | .selfRefreshAck _ => true
  | .rcFieldRead _ off strb upd => fits 20 off && fits 4 strb && fits 32 upd
  | .slewAbsorbed => true
  | .heartbeatWithholdEnd => true
  | .guardCountClear src => fits 9 src
  | .vsbFrameCrcFail => true

end Sys2Proof
end

