-- ==== Sys2Proof/Safety.lean ====
section
/-! DEFINITION. What claims call a good memory and a good state. -/

namespace Sys2Proof.Machine

/-- Addresses strictly rising, all above lo, and no byte listed that is what an unlisted address reads as (log entry 3). -/
def Memory.above (lo : Nat) (m : Memory) : Bool :=
  match m with
  | [] => true
  | (a, v) :: t => decide (lo ≤ a) && decide (v ≠ 0) && Memory.above (a + 1) t

/-- The canonical form of a memory: addresses strictly rising and no entry 0. -/
def Memory.wf (m : Memory) : Bool := Memory.above 0 m

/-- The canonical form of the retained memory that a port can write: software's part, 0x4000 to 0xFFFF (R364). -/
def Memory.soft (m : Memory) : Bool := Memory.wf m && m.all (fun c => decide (0x4000 ≤ c.1) && decide (c.1 < 0x10000))

/-- What every step keeps: the retained memory stays in its canonical form and inside software's part. -/
abbrev State.Inv (s : State) : Prop := s.mem.soft = true

/-- The commands that wait have operands of their widths. -/
def State.queueOk (s : State) : Bool := s.pending.all Sys2Proof.Instr.wf

/-- The state with its block replaced: the queue and the retained memory stand. -/
def State.put (s : State) (b : Block) : State := { s with b := b }

/-- The block but for its register fields, its event log and its storm guards: what raising an event leaves alone. -/
def Block.noEvents (b : Block) : Block := { b with flds := [], evl := {}, irq := {} }

/-- The block but for what a record on its way into a queue may change: register fields, the event log and storm guards, the queues,
Silkworm, the trace buffers it leaves, the feature table, drift channels with what they find, and a self-test it ends. -/
def Block.noRecords (b : Block) : Block :=
  { b with flds := [], evl := {}, irq := {}, que := {}, slk := {}, trc := {}, hwk := {}, vrd := {}, int := {} }

/-- The 4 KiB region of a register field (R13); the hidden copies of a register stand 2^18 apart. -/
def Fld.region (x : Fld) : Nat := x.off % 2 ^ 18 / 4096

/-- Every register field outside the named regions holds in c what it holds in b. -/
def Block.sameRegs (b c : Block) (rs : List Nat) : Prop := ∀ x : Fld, x.lo < 32 → x.region ∉ rs → c.f x = b.f x

/-- The commands that can change the retained memory: a write of PWR_RET_DATA in any of its forms, the loss of a word that the patrol
finds, a power-on reset (R314, R364, R359). -/
def storesRet (i : Instr) : Bool :=
  match i with
  | .registerWrite .. => true
  | .multiCommandWrite .. => true
  | .vsbWrite .. => true
  | .retDataAccess .. => true
  | .sramPatrol .. => true
  | .porReset => true
  | _ => false

end Sys2Proof.Machine
end

