-- ==== Sys2Proof/Certificates/Slice0/Obligations.lean ====
section
/-! DEFINITION. The statements for the provers, one per `def Obligations.<Name> : Prop`; OBLIGATIONS.json lists them. A clause of the form
`exec c s = .next (s.put b)` gives the whole next state: the queue and the retained memory as before, the block b. -/

open Sys2Proof Sys2Proof.Machine

/-- For every command c, every rest of the queue and every state s: the step of s with c in front of the rest is the execution of c on s with that rest as its queue (the model's order, log entry 1). -/
def Obligations.StepRunsFront : Prop :=
  ∀ (c : Instr) (rest : List Instr) (s : State),
    step { s with pending := c :: rest } = exec c { s with pending := rest }

/-- The model's choice (log entry 2): with an empty queue a step lets one cycle pass. The cycle's block is that of `Block.tick`; in the D build, where no consumer takes items by itself, CLK_CORE has then counted one cycle more, CLK_AON one or none, and the retained memory, the key store, the Fabric Image state and the sync counters stand. -/
def Obligations.IdleStep : Prop :=
  (∀ (s : State),
    s.pending = [] →
    step s = .next (s.put s.b.tick)) ∧
  (∀ (s : State),
    s.pending = [] →
    s.b.syn.agg = false →
    ∃ t : State, step s = .next t ∧ t.b.clk.core = s.b.clk.core + 1 ∧ (t.b.clk.aon = s.b.clk.aon ∨ t.b.clk.aon = s.b.clk.aon + 1) ∧ t.mem = s.mem ∧ t.pending = [] ∧ t.b.sec = s.b.sec ∧ t.b.fim = s.b.fim ∧ t.b.syn_ = s.b.syn_)

/-- The state at reset: no command waits, the retained memory is empty and in its canonical form (the invariant `State.Inv`), every register field but the strapped VSB address reads its reset value, every domain but AON is OFF, and each master is in lockout (R347, R348, R359, R372). That the machine at reset is the D build and what the straps hold are choices (log entry 3). -/
def Obligations.ResetState : Prop :=
  (State.reset.pending = [] ∧ State.reset.mem = [] ∧ State.reset.Inv) ∧
  (∀ (x : Fld),
    x.key ≠ 0xF084 * 32 →
    State.reset.b.f x = x.rst) ∧
  (∀ (d : Nat),
    1 ≤ d →
    d ≤ 11 →
    State.reset.b.dom d = 0 ∧ State.reset.b.on d = false) ∧
  (∀ m : Master, State.reset.b.lockedOut m = true)

/-- In any state whose retained memory is in its canonical form and lists software's part alone, 0x4000 to 0xFFFF, a step leaves it so (R364: the block's part is never written through the port). -/
def Obligations.StepKeepsInv : Prop :=
  ∀ (s t : State),
    s.Inv →
    step s = .next t →
    t.Inv

/-- No command touches the queue of those that wait. Of all commands only those of `storesRet` can change the retained memory; of these a write through a port changes at most the four bytes at the address that PWR_RET_ADDR names, and nothing where the register written is another, and a word lost in the patrol at most its eight bytes (R314, R364). -/
def Obligations.MemoryFrame : Prop :=
  (∀ (i : Instr) (s t : State),
    exec i s = .next t →
    t.pending = s.pending ∧ (storesRet i = false → t.mem = s.mem)) ∧
  (∀ (s : State) (m : Master) (off strb data hw : Nat),
    off ≠ 0x10304 →
    ∃ t : State, exec (.registerWrite m off strb data hw) s = .next t ∧ t.mem = s.mem) ∧
  (∀ (s : State) (m : Master) (off strb data hw a : Nat),
    a < s.b.retAddr ∨ s.b.retAddr + 4 ≤ a →
    ∃ t : State, exec (.registerWrite m off strb data hw) s = .next t ∧ t.mem.byte a = s.mem.byte a) ∧
  (∀ (s : State) (m : Master) (off data a : Nat),
    a < s.b.retAddr ∨ s.b.retAddr + 4 ≤ a →
    ∃ t : State, exec (.multiCommandWrite m off data) s = .next t ∧ t.mem.byte a = s.mem.byte a) ∧
  (∀ (s : State) (src off value a : Nat),
    a < s.b.retAddr ∨ s.b.retAddr + 4 ≤ a →
    ∃ t : State, exec (.vsbWrite src off value) s = .next t ∧ t.mem.byte a = s.mem.byte a) ∧
  (∀ (s : State) (m : Master) (wr : Bool) (data a : Nat),
    a < s.b.retAddr ∨ s.b.retAddr + 4 ≤ a →
    ∃ t : State, exec (.retDataAccess m wr data) s = .next t ∧ t.mem.byte a = s.mem.byte a) ∧
  (∀ (s : State) (addr where_ a : Nat),
    a < where_ % 65536 / 8 * 8 ∨ where_ % 65536 / 8 * 8 + 8 ≤ a →
    ∃ t : State, exec (.sramPatrol (.uncorr addr (.retained where_))) s = .next t ∧ t.mem.byte a = s.mem.byte a)

/-- R9: whatever a read of the management port answers fits in 32 bits; a narrower or misaligned access is refused (a response code other than OK) and leaves the block as it was but for the response. -/
def Obligations.AccessWidth : Prop :=
  (∀ (s t : State) (off strb upd : Nat),
    exec (.rcFieldRead .mgmt off strb upd) s = .next t →
    t.b.rspMgmt.data < 2 ^ 32) ∧
  (∀ (s : State) (off strb data hw : Nat),
    strb ≠ 0xF ∨ off % 4 ≠ 0 →
    ∃ code : Nat, code ≠ 0 ∧ exec (.registerWrite .mgmt off strb data hw) s = .next (s.put (s.b.answer .mgmt code 0))) ∧
  (∀ (s : State) (off strb upd : Nat),
    strb ≠ 0xF ∨ off % 4 ≠ 0 →
    ∃ code : Nat, code ≠ 0 ∧ exec (.rcFieldRead .mgmt off strb upd) s = .next (s.put (s.b.answer .mgmt code 0)))

/-- R69: in the aggregator build an accepted read in the Probe region or the Scales region answers 0 and an accepted write changes nothing, and no command of the Probe Bus, the counters, the Probe Message port, the monitors or the Scales changes anything. -/
def Obligations.NoProbesInAggregators : Prop :=
  (∀ (s : State) (m : Master) (off upd : Nat),
    s.b.syn.agg = true →
    0x2000 ≤ off →
    off < 0x4000 →
    s.b.respCode m off 0xF false 0 = 0 →
    exec (.rcFieldRead m off 0xF upd) s = .next (s.put (s.b.answer m 0 0))) ∧
  (∀ (s : State) (m : Master) (off data hw : Nat),
    s.b.syn.agg = true →
    0x2000 ≤ off →
    off < 0x4000 →
    s.b.respCode m off 0xF true data = 0 →
    exec (.registerWrite m off 0xF data hw) s = .next (s.put (s.b.answer m 0 0))) ∧
  (∀ (s : State) (m : Master) (word : Nat),
    s.b.syn.agg = true →
    s.b.respCode m 0x2024 0xF false 0 = 0 →
    s.b.respCode m 0x2028 0xF true word = 0 →
    (exec (.counterRead m) s = .next (s.put (s.b.answer m 0 0))) ∧ (exec (.counterApply m word) s = .next (s.put (s.b.answer m 0 0)))) ∧
  (∀ (s : State) (incs : List (Nat × Nat)) (data lane code : Nat) (codes : List Nat) (monitors level : Bool),
    s.b.syn.agg = true →
    (exec (.laneIncrement incs) s = .next (s.put (s.b))) ∧ (exec (.probeMessage data) s = .next (s.put (s.b))) ∧ (exec (.messageApply) s = .next (s.put (s.b))) ∧ (exec (.snapshotDrainDone monitors) s = .next (s.put (s.b))) ∧ (exec (.laneStuck lane) s = .next (s.put (s.b))) ∧ (exec (.fastWindowEnd) s = .next (s.put (s.b))) ∧ (exec (.scalesConversion code) s = .next (s.put (s.b))) ∧ (exec (.wireTestStart codes) s = .next (s.put (s.b))) ∧ (exec (.wireBiasSettled codes) s = .next (s.put (s.b))) ∧ (exec (.wireTestDone) s = .next (s.put (s.b))) ∧ (exec (.scalesTransient level) s = .next (s.put (s.b))))

/-- R73: when the head of the message queue is applied, a message with a reserved OP (3 to 15), or an MSAMPLE with a non-zero INDEX[59:56], has no effect but the count in PRB_MSG_STATS.BAD and MSG_BAD; a CADD to a high cell adds its VALUE to that cell and changes no other; a CADD to a low cell adds to it and carries into its high cell. -/
def Obligations.ProbeMessageEffects : Prop :=
  (∀ (s : State) (d due : Nat) (rest : List (Nat × Nat)),
    s.b.syn.agg = false →
    s.b.on dPROBE = true →
    s.b.prb.msgs = (d, due) :: rest →
    due ≤ s.b.clk.core →
    drainOk s.b.prb.applied s.b.clk.core = true →
    3 ≤ d / 2 ^ 60 ∨ (d / 2 ^ 60 = 2 ∧ bits d 56 4 ≠ 0) →
    ∀ c : Block, c = ({ s.b with prb := { s.b.prb with msgs := rest, applied := (s.b.clk.core :: s.b.prb.applied).take 2 } }) →
    exec (.messageApply) s = .next (s.put ((c.count F.PRB_MSG_STATS_BAD).raise Ev.PRB_MSG_BAD))) ∧
  (∀ (s : State) (d due n : Nat) (rest : List (Nat × Nat)),
    s.b.syn.agg = false →
    s.b.on dPROBE = true →
    s.b.prb.msgs = (d, due) :: rest →
    due ≤ s.b.clk.core →
    drainOk s.b.prb.applied s.b.clk.core = true →
    d / 2 ^ 60 = 1 →
    n = bits d 46 14 →
    s.b.highCell n = true →
    ∃ t : State, exec (.messageApply) s = .next t ∧ (t.b.cnt n = (s.b.cnt n + d % 2 ^ 40) % 2 ^ 48 ∧ (∀ j : Nat, j ≠ n → t.b.cnt j = s.b.cnt j))) ∧
  (∀ (s : State) (d due n : Nat) (rest : List (Nat × Nat)),
    s.b.syn.agg = false →
    s.b.on dPROBE = true →
    s.b.prb.msgs = (d, due) :: rest →
    due ≤ s.b.clk.core →
    drainOk s.b.prb.applied s.b.clk.core = true →
    d / 2 ^ 60 = 1 →
    n = bits d 46 14 →
    s.b.lowCell n = true →
    ∃ t : State, exec (.messageApply) s = .next t ∧ (t.b.cnt n = (s.b.cnt n + d % 2 ^ 40) % 2 ^ 48 ∧ t.b.cnt (n + 1) = (s.b.cnt (n + 1) + (s.b.cnt n + d % 2 ^ 40) / 2 ^ 48) % 2 ^ 48 ∧ (∀ j : Nat, j ≠ n → j ≠ n + 1 → t.b.cnt j = s.b.cnt j)))

/-- R42: in the aggregator build no command of the Phase Reference port changes anything, a read of ANT_PHASE_LO or ANT_PHASE_HI answers 0, ANT_CTRL.PHSRC has no part in where the phase comes from, and a slot armed for a phase never fires. -/
def Obligations.NoPhaseInAggregators : Prop :=
  (∀ (s : State) (value adv : Nat) (rise : Bool),
    s.b.syn.agg = true →
    (exec (.phaseLoad value rise adv) s = .next (s.put (s.b))) ∧ (exec (.stepStrobe adv) s = .next (s.put (s.b))) ∧ (exec (.phaseAdvance adv) s = .next (s.put (s.b))) ∧ (exec (.stepTimeout) s = .next (s.put (s.b)))) ∧
  (∀ (s : State) (m : Master),
    s.b.syn.agg = true →
    s.b.respCode m 0x1010 0xF false 0 = 0 →
    exec (.phaseLoRead m) s = .next (s.put ((s.b.setf F.ANT_PHASE_HI_PHASE_HI 0).answer m 0 0))) ∧
  (∀ (s : State) (m : Master) (upd : Nat),
    s.b.syn.agg = true →
    s.b.respCode m 0x1014 0xF false 0 = 0 →
    exec (.rcFieldRead m 0x1014 0xF upd) s = .next (s.put (s.b.answer m 0 0))) ∧
  (∀ (b : Block) (v : Nat),
    b.syn.agg = true →
    (b.setf F.ANT_CTRL_PHSRC v).phsrc = b.phsrc ∧ b.phase = 0 ∧ b.portFollowed = false) ∧
  (∀ (s : State) (n : Nat) (l : Launch),
    s.b.syn.agg = true →
    s.b.ant.launches.find (n % 32) = some l →
    l.kind = 1 →
    exec (.launchFire n) s = .next (s.put (s.b)))

/-- For every record formed by the block whose fields fit the header of Table 10-1 and whose payload is a whole number of 8-byte words below 2^16, and every SEQ of 48 bits: the header check of its bytes holds, its reserved bits are 0, and the record and the SEQ read back are those it was laid out from, with every field at every value the header admits (R227, R229). -/
def Obligations.RecordRoundTrip : Prop :=
  ∀ (r : Rec) (seq : Nat),
    r.raw = none →
    r.typ < 2 ^ 8 →
    r.fmt < 2 ^ 4 →
    r.flags < 2 ^ 4 →
    r.stream < 2 ^ 16 →
    r.epoch < 2 ^ 16 →
    r.ldi < 2 ^ 20 →
    r.sev < 2 ^ 3 →
    r.cls < 2 ^ 3 →
    r.phase < 2 ^ 64 →
    r.wall < 2 ^ 64 →
    r.bytes.length % 8 = 0 →
    r.bytes.length < 8 * 2 ^ 16 →
    seq < 2 ^ 48 →
    parseRec (r.whole seq) = some (r, seq)

/-- The frame of the control commands. Each leaves the retained memory and every part of the block but its own unit (the sync counters; the unlock state and the free-value counter; the interrupt controller; the Steward's posts and windows), the responses of the masters, the event log and the storm guards; of the register fields it leaves every one outside the regions of its unit and of the two that an event or a DENIED access writes (0xF, 0x11). -/
def Obligations.ControlFrames : Prop :=
  (∀ (who : Agent) (op n k : Nat) (i : Instr) (s t : State),
    i ∈ [Instr.synRead who n k, .synInc who n k, .synDec who n k, .synTake who n k, .synSet who n k, .synClrf who n k, .synReservedOp who op n k] →
    exec i s = .next t →
    t.mem = s.mem ∧ s.b.sameRegs t.b [0xF, 0x11] ∧ ({ t.b.noEvents with syn_ := s.b.syn_, rspMgmt := s.b.rspMgmt, rspVsb := s.b.rspVsb, rspTest := s.b.rspTest } : Block) = s.b.noEvents) ∧
  (∀ (m : Master) (n : Nat) (fail : Bool) (i : Instr) (s t : State),
    i ∈ [Instr.unlockChal m, .unlockRespond m n, .unlockPassword m n, .unlockRelock m, .nonceExpire m, .lockoutEnd m, .keyRevoke m, .keyPgmDone fail, .testInstruction n] →
    exec i s = .next t →
    t.mem = s.mem ∧ s.b.sameRegs t.b [0xF, 0x11] ∧ ({ t.b.noEvents with sec := s.b.sec, freeN := s.b.freeN, rspMgmt := s.b.rspMgmt, rspVsb := s.b.rspVsb, rspTest := s.b.rspTest } : Block) = s.b.noEvents) ∧
  (∀ (who : Agent) (n src : Nat) (level : Bool) (i : Instr) (s t : State),
    i ∈ [Instr.irqInEdge n level, .irqClaim who n, .irqEoi who n src, .irqHoldExpire n, .stormGuardEnd src, .guardCountClear src] →
    exec i s = .next t →
    t.mem = s.mem ∧ s.b.sameRegs t.b [0xF, 0x11] ∧ ({ t.b.noEvents with rspMgmt := s.b.rspMgmt, rspVsb := s.b.rspVsb, rspTest := s.b.rspTest } : Block) = s.b.noEvents) ∧
  (∀ (n : Nat) (i : Instr) (s t : State),
    i ∈ [Instr.postRecheck, .loadWindow n, .wdogWarn n] →
    exec i s = .next t →
    t.mem = s.mem ∧ s.b.sameRegs t.b [0xF] ∧ ({ t.b.noEvents with stw := s.b.stw } : Block) = s.b.noEvents)

/-- The frame of four groups of unit commands. Each leaves the retained memory and every part of the block but its own unit (Probe Bus and counters; Scales and the monitors they feed; Monarch; the journal's cursors and latches), the responses of the masters, the event log and the storm guards; of the register fields it leaves every one outside its unit's region and those that an event or a DENIED access writes (0xF, 0x11). -/
def Obligations.UnitFrames : Prop :=
  (∀ (m : Master) (incs : List (Nat × Nat)) (n : Nat) (i : Instr) (s t : State),
    i ∈ [Instr.laneIncrement incs, .probeMessage n, .messageApply, .laneStuck n, .fastWindowEnd, .counterRead m, .counterApply m n] →
    exec i s = .next t →
    t.mem = s.mem ∧ s.b.sameRegs t.b [2, 0xF, 0x11] ∧ ({ t.b.noEvents with prb := s.b.prb, rspMgmt := s.b.rspMgmt, rspVsb := s.b.rspVsb, rspTest := s.b.rspTest } : Block) = s.b.noEvents) ∧
  (∀ (n : Nat) (level : Bool) (i : Instr) (s t : State),
    i ∈ [Instr.scalesConversion n, .scalesTransient level] →
    exec i s = .next t →
    t.mem = s.mem ∧ s.b.sameRegs t.b [3, 0xF] ∧ ({ t.b.noEvents with scl := s.b.scl, prb := s.b.prb } : Block) = s.b.noEvents) ∧
  (∀ (m : Master) (n : Nat) (i : Instr) (s t : State),
    i ∈ [Instr.shapeCommit m n, .shapeApply n, .gateWindowStart n, .gateWindowEnd n] →
    exec i s = .next t →
    t.mem = s.mem ∧ s.b.sameRegs t.b [9, 0xF, 0x11] ∧ ({ t.b.noEvents with mon := s.b.mon, rspMgmt := s.b.rspMgmt, rspVsb := s.b.rspVsb, rspTest := s.b.rspTest } : Block) = s.b.noEvents) ∧
  (∀ (m : Master) (n : Nat) (i : Instr) (s t : State),
    i ∈ [Instr.cursorOldest m n, .cursorNewest m n, .cursorNext m n, .cursorPrev m n, .cursorSeek m n, .cursorLoadDone n, .relLoRead m, .newLoRead m, .curPosRead m, .mctrRead m] →
    exec i s = .next t →
    t.mem = s.mem ∧ s.b.sameRegs t.b [0xC, 0xF, 0x11] ∧ ({ t.b.noEvents with coc := s.b.coc, rspMgmt := s.b.rspMgmt, rspVsb := s.b.rspVsb, rspTest := s.b.rspTest } : Block) = s.b.noEvents)

/-- An aggregator with its PLOC set compares its buddy's domain tags and shows SHARED_DOMAIN; from above it judges the latency, passes discovery on and answers; a standby root passes discovery on below and answers its buddy; a job start waits for a rebind in progress; one with the topology, power and links of the set-up unchanged here is warm, where every other aggregator kept its power too, which no block sees (a free value, log entry 131): it asks each bound LDI again; any other is cold: ports are learned afresh; 2 ms after a warm start the LDIs that have not answered are declared dead and the set-up is ready; a route announced from below is kept by LDI with the epoch of its binding and passed on above (R25, R30, R33, R37). -/
def Obligations.DiscoveryAndSetup : Prop :=
  (∀ (s : State) (port lai lat : Nat) (tags : List Nat),
    ∀ u : Block, u = (s.b.unstage port 2) →
    u.syn.agg = true →
    u.f F.SELF_PLOC_PLOC ≠ 0xFFFFFFFF →
    u.fab.topo.isStandby = false →
    exec (.discoverReceived port lai tags true lat) s = .next (s.put (({ u with fab := { u.fab with nbr := u.fab.nbr.put lai port } }).setb F.KL_SETUP_STATUS_SHARED_DOMAIN (sharedTag tags u.fab.topo.tags)))) ∧
  (∀ (s : State) (port lai lat : Nat) (tags : List Nat),
    ∀ u : Block, u = (s.b.unstage port 2) →
    u.syn.agg = true →
    u.f F.SELF_PLOC_PLOC ≠ 0xFFFFFFFF →
    u.fab.topo.isStandby = true →
    ∀ c : Block, c = (({ u with fab := { u.fab with nbr := u.fab.nbr.put lai port } }).setb F.KL_SETUP_STATUS_SHARED_DOMAIN (sharedTag tags u.fab.topo.tags)) →
    exec (.discoverReceived port lai tags true lat) s = .next (s.put ((c.sendAll c.downLinks (.discover u.selfLai u.fab.topo.tags)).sendMsg port (.discover u.selfLai u.fab.topo.tags)))) ∧
  (∀ (s : State) (lai lat : Nat) (tags : List Nat),
    ∀ u : Block, u = (s.b.unstage 128 2) →
    u.syn.agg = true →
    u.f F.SELF_PLOC_PLOC ≠ 0xFFFFFFFF →
    ∀ c : Block, c = ({ u with fab := { u.fab with nbr := u.fab.nbr.put lai 128 } }) →
    ∀ d : Block, d = (c.latencyCheck 128 lat) →
    exec (.discoverReceived 128 lai tags false lat) s = .next (s.put ((d.sendAll (d.allLinks.filter (fun n => decide (n < 128 ∨ 130 ≤ n))) (.discover c.selfLai c.fab.topo.tags)).sendMsg 128 (.discover c.selfLai c.fab.topo.tags)))) ∧
  (∀ (s : State),
    s.b.syn.agg = true →
    s.b.on dLINKS = true →
    s.b.f F.ROLE_STATUS_ROLE ≠ 3 →
    s.b.f F.KL_SETUP_STATUS_STATE ≠ 3 →
    s.b.fab.topo.isRoot = false →
    s.b.fab.rebinds = [] →
    ∀ binds : SMap Bind, binds = (List.map (fun (p : Nat × Bind) => (p.1, { p.2 with port := none })) s.b.fab.binds) →
    ∀ c : Block, c = (s.b.setb F.KL_SETUP_STATUS_WARM false) →
    exec (.jobStart) s = .next (s.put (({ c with fab := { c.fab with verifyFrom := none, nbr := [], binds := binds } }).setf F.KL_SETUP_STATUS_STATE 1))) ∧
  (∀ (s : State),
    s.b.syn.agg = true →
    s.b.on dLINKS = true →
    s.b.f F.ROLE_STATUS_ROLE ≠ 3 →
    s.b.fab.rebinds ≠ [] →
    exec (.jobStart) s = .next (s.put ({ s.b with fab := { s.b.fab with jobWaits := true } }))) ∧
  (∀ (s : State),
    s.b.syn.agg = true →
    s.b.on dLINKS = true →
    s.b.f F.ROLE_STATUS_ROLE ≠ 3 →
    s.b.fab.rebinds = [] →
    s.b.f F.KL_SETUP_STATUS_STATE = 3 →
    s.b.fab.setupDigest = s.b.fab.topoDigest →
    s.b.fab.powerLost = false →
    ((List.range 132).filter (fun n => s.b.is (F.KL_PORT_CFG_EN.ix n))).all (fun n => (s.b.port n).state == 2) = true →
    ∃ warm : Bool, exec (.jobStart) s = .next (s.put (s.b.fresh.2.setUp warm))) ∧
  (∀ (s : State) (since : Nat),
    s.b.fab.verifyFrom = some since →
    since + s.b.us 2000 ≤ s.b.clk.core →
    ∀ dead : SMap Bind, dead = (s.b.fab.binds.filter (fun p => s.b.actingHome p.1 && p.2.epoch != 0 && p.2.alive && decide (p.2.heard < since))) →
    ∀ c : Block, c = ((({ s.b with fab := { s.b.fab with verifyFrom := none } }).setf F.KL_SETUP_STATUS_MISSING (sat 16 dead.length)).setf F.KL_SETUP_STATUS_STATE 3) →
    exec (.setupVerifyTimeout) s = .next (s.put (dead.foldl (fun b p => b.declareDead p.1) c))) ∧
  (∀ (s : State) (port ldi : Nat) (via : Route),
    ∀ u : Block, u = (s.b.unstage port 2) →
    u.syn.agg = true →
    u.isT = false →
    ∀ c : Block, c = ({ u with fab := { u.fab with routes := u.fab.routes.put ldi (((u.fab.nbr.find? (fun p => p.2 == port)).map (fun p => p.1)).getD via.lai), routeEpochs := u.fab.routeEpochs.put ldi via.epoch } }) →
    c.isRoot = false →
    exec (.routeReceived port ldi via) s = .next (s.put (c.sendAll [128, 129] (.route ldi c.selfLai via.epoch))))

/-- A D-role with its PLOC set takes a BIND when unbound, answers a repeated one, and gives up its old binding first when it is another; UNBIND ends its binding and is answered; the acting home declares an LDI dead after the dead timeout and starts a rebind, repeats BIND and UNBIND until they are answered, and on BIND_ACK binds the port and announces the route with the epoch; a unit that answers UNBIND joins the spare pool; a contribution that fails the test of R28 is quarantined and its sender is told to unbind (R28, R32, R33, R35, R247, R397). -/
def Obligations.BindingAndRebind : Prop :=
  (∀ (s : State) (port ldi epoch : Nat),
    ∀ u : Block, u = (s.b.unstage port 2) →
    u.syn.agg = false →
    epoch ≠ 0 →
    u.f F.SELF_PLOC_PLOC ≠ 0xFFFFFFFF →
    u.is F.SELF_LDI_BOUND = false →
    exec (.bindReceived port ldi epoch) s = .next (s.put ((((({ u with que := { u.que with streams := [] }, fab := { u.fab with released := false } }).setf F.SELF_LDI_INDEX ldi).setf F.SELF_LDI_BOUND 1).setf F.SELF_EPOCH_EPOCH epoch).sendMsg port (.bindAck ldi epoch)))) ∧
  (∀ (s : State) (port ldi epoch : Nat),
    ∀ u : Block, u = (s.b.unstage port 2) →
    u.syn.agg = false →
    epoch ≠ 0 →
    u.f F.SELF_PLOC_PLOC ≠ 0xFFFFFFFF →
    u.is F.SELF_LDI_BOUND = true →
    u.f F.SELF_LDI_INDEX = ldi →
    u.f F.SELF_EPOCH_EPOCH = epoch →
    exec (.bindReceived port ldi epoch) s = .next (s.put (u.sendMsg port (.bindAck ldi epoch)))) ∧
  (∀ (s : State) (port ldi epoch : Nat),
    ∀ u : Block, u = (s.b.unstage port 2) →
    u.syn.agg = false →
    epoch ≠ 0 →
    u.f F.SELF_PLOC_PLOC ≠ 0xFFFFFFFF →
    u.is F.SELF_LDI_BOUND = true →
    u.f F.SELF_EPOCH_EPOCH ≠ epoch →
    ∀ c : Block, c = (u.dropHold) →
    exec (.bindReceived port ldi epoch) s = .next (s.put ((((({ c with que := { c.que with streams := [] }, fab := { c.fab with released := false } }).setf F.SELF_LDI_INDEX ldi).setf F.SELF_LDI_BOUND 1).setf F.SELF_EPOCH_EPOCH epoch).sendMsg port (.bindAck ldi epoch)))) ∧
  (∀ (s : State) (port ldi epoch : Nat),
    ∀ u : Block, u = (s.b.unstage port 2) →
    u.syn.agg = false →
    exec (.unbindReceived port ldi epoch) s = .next (s.put ((({ u with que := { u.que with queues := [], streams := [], push := none }, slk := { u.slk with jobs := [] }, mon := { u.mon with launched := [] }, fab := { u.fab with released := true } }).setf F.SELF_LDI_BOUND 0).sendMsg port (.unbindAck ldi epoch)))) ∧
  (∀ (s : State) (ldi : Nat),
    s.b.actingHome ldi = true →
    s.b.fab.rejoining = false →
    s.b.fab.rebinds.any (fun r => r.ldi == ldi) = false →
    ∀ x : Bind, x = (s.b.fab.binds.getD ldi {}) →
    x.epoch ≠ 0 →
    x.alive = true →
    s.b.wbPeriod ≠ 0 →
    x.heard + s.b.fab.topo.deadPeriods * s.b.wbPeriod ≤ s.b.clk.core →
    exec (.deadTimeout ldi) s = .next (s.put (({ s.b with fab := { s.b.fab with binds := s.b.fab.binds.upd ldi {} (fun y => { y with alive := false }) } }).startRebind ldi))) ∧
  (∀ (s : State) (ldi : Nat) (r : Rebind),
    s.b.fab.rebinds.find? (fun x => x.ldi == ldi && x.step == 2) = some r →
    exec (.bindRepeat ldi) s = .next (s.put (s.b.sendMsg r.port (.bind r.ldi r.epoch)))) ∧
  (∀ (s : State) (port ldi epoch : Nat) (r : Rebind),
    ∀ u : Block, u = (s.b.unstage port 2) →
    u.fab.rebinds.find? (fun x => x.ldi == ldi && x.step == 2 && x.epoch == epoch) = some r →
    ∀ a : Block, a = ({ u with fab := { u.fab with rebinds := u.fab.rebinds.filter (fun x => x.ldi != ldi), pendingMembers := u.fab.pendingMembers ++ [ldi] } }) →
    ∀ c : Block, c = (a.updBind ldi (fun x => { x with port := some port, learned := a.arrivalUi, heard := a.clk.core })) →
    ∀ d : Block, d = ((c.markStep 1 ldi 3).markStep 1 ldi 4) →
    exec (.bindAckReceived port ldi epoch) s = .next (s.put (((((d.sendAll [128, 129] (.route ldi c.selfLai epoch)).markStep 1 ldi 5).clearDie ldi).endProc 1 ldi).setupCheck.setupResume))) ∧
  (∀ (s : State) (ldi epoch port : Nat),
    s.b.fab.unbinds = [(ldi, epoch, port)] →
    exec (.unbindRepeat ldi epoch) s = .next (s.put (s.b.sendMsg port (.unbind ldi epoch)))) ∧
  (∀ (s : State) (port ldi epoch : Nat),
    ∀ u : Block, u = (s.b.unstage port 2) →
    u.fab.unbinds = [(ldi, epoch, port)] →
    exec (.unbindAckReceived port ldi epoch) s = .next (s.put (((({ u with fab := { u.fab with unbinds := [] } }).joinPool port ldi epoch).markStep 5 ldi 1).endProc 5 ldi))) ∧
  (∀ (s : State) (port : Nat) (x : Contrib),
    ∀ u : Block, u = (s.b.unstage port 1) →
    u.syn.agg = true →
    u.binding x.ldi x.epoch = false →
    exec (.contributionReceived port x) s = .next (s.put ((u.quarantineUnit x).startUnbind port x.ldi x.epoch))) ∧
  (∀ (s : State) (port : Nat) (x : Contrib) (v : Block),
    ∀ u : Block, u = (s.b.unstage port 1) →
    u.syn.agg = true →
    u.binding x.ldi x.epoch = true →
    u.learn port x.ldi = (true, v) →
    (v.takeContrib x).1 = false →
    exec (.contributionReceived port x) s = .next (s.put ((v.takeContrib x).2.openedSince v.tags)))

/-- An aggregator that runs sends a heartbeat on every link each 100 us unless it is muted; one heard on a D-role's link A keeps its A path; a D-role whose link A has trained and that has heard none for L moves to its B path at once; an aggregator that has lost its parent moves to U1 at the next boundary, at once while its time is not valid, and one that has lost its buddy starts to take its place; an aggregator withheld after a loss of power rejoins when the time is over (R22, R23, R40, R41, R285). -/
def Obligations.HeartbeatsAndPaths : Prop :=
  (∀ (s : State),
    s.b.syn.agg = true →
    s.b.on dLINKS = true →
    s.b.fab.hbSent + s.b.us 100 ≤ s.b.clk.core →
    s.b.f F.ROLE_STATUS_ROLE ≠ 3 →
    ∀ c : Block, c = ({ s.b with fab := { s.b.fab with hbSent := s.b.clk.core } }) →
    c.hbMuted = false →
    exec (.heartbeatSend) s = .next (s.put (c.sendAll c.allLinks (.heartbeat c.selfLai c.fab.takeOver)))) ∧
  (∀ (s : State) (lai since : Nat) (acting : Bool),
    ∀ u : Block, u = (s.b.unstage 0 2) →
    u.syn.agg = false →
    lai = u.fab.topo.parent →
    u.fab.hbLast = some since →
    u.clk.core < since + u.lossTime →
    ∀ c : Block, c = (({ u with fab := { u.fab with hbLast := some u.clk.core } }).returnNow) →
    exec (.heartbeatReceived 0 lai acting) s = .next (s.put (c.setupCheck))) ∧
  (∀ (s : State) (lai : Nat) (acting : Bool),
    ∀ u : Block, u = (s.b.unstage 0 2) →
    u.syn.agg = false →
    lai = u.fab.topo.parent →
    u.fab.hbLast = none →
    ∀ c : Block, c = (({ u with fab := { u.fab with hbFrom := some u.clk.core, hbLast := some u.clk.core } }).returnNow) →
    exec (.heartbeatReceived 0 lai acting) s = .next (s.put (c.setupCheck))) ∧
  (∀ (s : State) (lai : Nat) (acting : Bool),
    ∀ u : Block, u = (s.b.unstage 128 2) →
    u.syn.agg = true →
    lai = u.fab.topo.parent →
    exec (.heartbeatReceived 128 lai acting) s = .next (s.put (({ u with fab := { u.fab with nbr := u.fab.nbr.put lai 128, parentLast := u.clk.core, parentLost := false } } : Block).setupCheck))) ∧
  (∀ (s : State) (since : Nat),
    s.b.on dLINKS = true →
    s.b.syn.agg = false →
    (s.b.port 0).live = true →
    s.b.fab.hbLast.getD s.b.fab.parentLast = since →
    since + s.b.lossTime ≤ s.b.clk.core →
    ∀ c : Block, c = ({ s.b with fab := { s.b.fab with hbFrom := none, hbLast := none, parentLast := s.b.clk.core } }) →
    c.parentPort ≠ some 0 →
    exec (.heartbeatLoss) s = .next (s.put (c.moveToB))) ∧
  (∀ (s : State),
    s.b.on dLINKS = true →
    s.b.syn.agg = true →
    s.b.fab.parentLost = false →
    s.b.fab.topo.isRoot = false →
    s.b.fab.parentLast + s.b.lossTime ≤ s.b.clk.core →
    s.b.fab.buddyLost = true →
    s.b.is F.ANT_STATUS_TIME_VALID = true →
    s.b.parentPort ≠ some 128 →
    exec (.heartbeatLoss) s = .next (s.put ({ s.b with fab := { s.b.fab with parentLost := true, toU1 := !s.b.fab.onU1 } }))) ∧
  (∀ (s : State),
    s.b.on dLINKS = true →
    s.b.syn.agg = true →
    s.b.fab.parentLost = false →
    s.b.fab.topo.isRoot = false →
    s.b.fab.parentLast + s.b.lossTime ≤ s.b.clk.core →
    s.b.fab.buddyLost = true →
    s.b.is F.ANT_STATUS_TIME_VALID = false →
    s.b.parentPort ≠ some 128 →
    ∀ c : Block, c = ({ s.b with fab := { s.b.fab with parentLost := true, toU1 := !s.b.fab.onU1 } }) →
    exec (.heartbeatLoss) s = .next (s.put c.goU1)) ∧
  (∀ (s : State),
    s.b.on dLINKS = true →
    s.b.syn.agg = true →
    s.b.fab.parentLost = true →
    s.b.fab.buddyLost = false →
    s.b.fab.buddyLast + s.b.lossTime ≤ s.b.clk.core →
    s.b.fab.buddySynced = true →
    exec (.heartbeatLoss) s = .next (s.put (({ s.b with fab := { s.b.fab with buddyLost := true } }).startProc 2 0))) ∧
  (∀ (s : State) (u : Nat),
    s.b.fab.withheld = some u →
    u ≤ s.b.clk.core →
    exec (.heartbeatWithholdEnd) s = .next (s.put (s.b.startRejoin false))) ∧
  (∀ (s : State) (port locked : Nat),
    s.b.on dLINKS = true →
    port < portCount s.b.syn.agg →
    (s.b.port port).state = 1 →
    (s.b.port port).agreed = true →
    (s.b.port port).negFail = false →
    chooseWidth (pop4 (s.b.wired port &&& locked &&& (15 - (s.b.port port).excl % 16))) (s.b.f (F.KL_PORT_CFG_MAXW.ix port)) (bit (s.b.port port).feat 0 == 1) ≠ 0 →
    ∀ c : Block, c = (s.b.trainingDone port locked) →
    exec (.trainingDone port locked) s = .next (s.put (c.portUp port s.b.mirrorUp)))

/-- When it is due, each of these answers a next state with its own effect: SYNC to the time children every 32 us while time is valid, a peer-delay request every 1 ms to the parent and its answer, the exchange kept among the last 8, HOLDOVER after 128 us without SYNC, INTERNAL stored each 1 ms and while the port trains, a periodic epoch marker each 2^20 s, the last of a slew marked, which the next cycle absorbs whole (R57 to R60, R62). -/
def Obligations.TimeMessagesAndTimers : Prop :=
  (∀ (s : State),
    s.b.on dANTENNA = true →
    s.b.timeValid = true →
    s.b.ant.sentAt + s.b.us 32 ≤ s.b.clk.core →
    exec (.syncSend) s = .next (s.put (s.b.childPorts.foldl (fun b n => b.sendMsg n (.sync 0 b.stampUi (b.f F.ANT_RATE_RATE) b.timeValid)) { s.b with ant := { s.b.ant with sentAt := s.b.clk.core } }))) ∧
  (∀ (s : State) (n : Nat),
    s.b.parentPort = some n →
    s.b.on dANTENNA = true →
    s.b.ant.reqAt + s.b.us 1000 ≤ s.b.clk.core →
    (s.b.port n).state = 2 →
    exec (.pdelayReqSend) s = .next (s.put (({ s.b with ant := { s.b.ant with reqAt := s.b.clk.core, exSeq := s.b.ant.exSeq + 1, exOut := some (s.b.ant.exSeq + 1, s.b.stampUi) } }).sendMsg n (.pdelayReq (s.b.ant.exSeq + 1) s.b.stampUi)))) ∧
  (∀ (s : State) (port seq t2 : Nat),
    ∀ u : Block, u = (s.b.unstage port 2) →
    u.on dANTENNA = true →
    exec (.pdelayReqReceived port seq t2 false) s = .next (s.put (u.sendMsg port (.pdelayResp seq 0 t2 u.stampUi)))) ∧
  (∀ (s : State) (port seq t1 t2 t3 t4 : Nat),
    ∀ u : Block, u = (s.b.unstage port 2) →
    u.on dANTENNA = true →
    u.parentPort = some port →
    u.ant.exOut = some (seq, t1) →
    exec (.pdelayRespReceived port seq t2 t3 t4 false) s = .next (s.put ({ u with ant := { u.ant with exOut := none, exch := ((((t4 : Int) - t1) - ((t3 : Int) - t2)) :: u.ant.exch).take 8 } }))) ∧
  (∀ (s : State),
    s.b.on dANTENNA = true →
    s.b.noParent = false →
    s.b.ant.syncAt + s.b.us 128 ≤ s.b.clk.core →
    exec (.syncTimeout) s = .next (s.put (s.b.setf F.ANT_STATUS_HOLDOVER 1))) ∧
  (∀ (s : State) (n v : Nat),
    s.b.on dANTENNA = true →
    n < 2 →
    (s.b.ant.asymAt[n]?).getD 0 + s.b.us 1000 ≤ s.b.clk.core ∨ s.b.asymTrains n = true →
    exec (.asymMeasure n v) s = .next (s.put (({ s.b with ant := { s.b.ant with asymAt := setAt s.b.ant.asymAt n s.b.clk.core } }).setf (F.ANT_ASYM_INTERNAL.at n) v))) ∧
  (∀ (s : State),
    s.b.on dANTENNA = true →
    s.b.ant.epochMark ≠ s.b.seconds / 2 ^ 20 →
    ∀ c : Block, c = ({ s.b with ant := { s.b.ant with epochMark := s.b.seconds / 2 ^ 20 } }) →
    exec (.epochMarkPeriodic) s = .next (s.put (c.emitRow 4 0x01 3 0 0 (leBytes 6 (c.seconds % 2 ^ 48) ++ leBytes 1 3 ++ leBytes 1 0 ++ leBytes 8 0)))) ∧
  (∀ (s : State),
    s.b.on dANTENNA = true →
    s.b.ant.slew.natAbs ≤ 2 ^ 40 →
    exec (.slewAbsorbed) s = .next (s.put ({ s.b with ant := { s.b.ant with slewEnd := true } }))) ∧
  (∀ (b : Block),
    b.on dANTENNA = true →
    b.ant.slewEnd = true →
    b.ant.slew ≠ 0 →
    b.ant.slew.natAbs ≤ 2 ^ 40 →
    ∀ c : Block, c = (b.addFine (1000 * (((2 ^ 40 : Nat) : Int) + signed 32 (b.f F.ANT_RATE_RATE)))) →
    b.runTime = ({ c with ant := { c.ant with slew := 0, slewEnd := false } }).addFine b.ant.slew)

/-- With an exchange kept, a SYNC forms the offset, shows it in ANT_OFFSET, and: the first is a step that sets TIME_VALID, one within ANT_JUMP.THRESH becomes the slew and clears HOLDOVER, one above sets HOLDOVER and raises JUMP_REFUSED; with none kept it is discarded, but that it came counts for R60 (log entry 30) (R58 to R60). The rounding of an offset that is not whole is log entry 21's free value. -/
def Obligations.SyncGivesOffset : Prop :=
  (∀ (s : State) (port ts tr : Nat),
    ∀ u : Block, u = (s.b.unstage port 2) →
    u.on dANTENNA = true →
    u.parentPort = some port →
    u.ant.exch = [] →
    exec (.syncReceived port ts tr false) s = .next (s.put ({ u with ant := { u.ant with syncAt := u.clk.core } }))) ∧
  (∀ (s : State) (port ts tr : Nat),
    ∀ u : Block, u = (s.b.unstage port 2) →
    u.on dANTENNA = true →
    u.parentPort = some port →
    u.ant.exch ≠ [] →
    ∀ th : Int, th = (theta ts tr u.ant.exch (u.asym port) (Config.free u.freeN)) →
    exec (.syncReceived port ts tr false) s = .next (s.put ((({ u with freeN := u.freeN + 1, ant := { u.ant with syncAt := u.clk.core } } : Block).setf F.ANT_OFFSET_OFFSET (satSigned 32 th)).applyTheta th))) ∧
  (∀ (b : Block) (th : Int),
    b.timeValid = false →
    b.applyTheta th = (b.addFine (th * (b.sixteenth : Int))).jumped b.wall 0 0 true) ∧
  (∀ (b : Block) (th : Int),
    b.timeValid = true →
    (th.natAbs : Int) ≤ b.jumpLimit →
    b.applyTheta th = ({ b with ant := { b.ant with slew := th * (b.sixteenth : Int), slewEnd := false } }).setf F.ANT_STATUS_HOLDOVER 0) ∧
  (∀ (b : Block) (th : Int),
    b.timeValid = true →
    b.jumpLimit < (th.natAbs : Int) →
    b.applyTheta th = (b.setf F.ANT_STATUS_HOLDOVER 1).raise Ev.ANT_JUMP_REFUSED)

/-- When the port answers OK, STEP adds ANT_OFFSET to internal time and LOAD at the root replaces it, and both end a running slew; elsewhere LOAD changes nothing. A read of ANT_TIME_LO or ANT_PHASE_LO answers the low word and latches the others in the same cycle (R46, R62). -/
def Obligations.TimeStepLoadAndReads : Prop :=
  (∀ (s : State) (m : Master),
    s.b.respCode m 0x104C 0xF true 1 = 0 →
    ∃ t : State, exec (.timeStep m) s = .next t ∧ t.b.ant.fine = (((s.b.ant.fine : Int) + s.b.offset * (s.b.sixteenth : Int)) % (s.b.fineMod : Int)).toNat ∧ t.b.ant.slew = 0 ∧ t.mem = s.mem) ∧
  (∀ (s : State) (m : Master),
    s.b.respCode m 0x104C 0xF true 2 = 0 →
    s.b.noParent = true →
    ∃ t : State, exec (.timeLoad m) s = .next t ∧ t.b.ant.fine = s.b.timeSet * (s.b.syn.coreMHz * 10 ^ 9) ∧ t.b.ant.slew = 0 ∧ t.mem = s.mem) ∧
  (∀ (s : State) (m : Master),
    s.b.respCode m 0x104C 0xF true 2 = 0 →
    s.b.noParent = false →
    exec (.timeLoad m) s = .next (s.put (s.b.answer m 0 0))) ∧
  (∀ (s : State) (m : Master),
    s.b.respCode m 0x1030 0xF false 0 = 0 →
    exec (.timeLoRead m) s = .next (s.put ((((s.b.setf F.ANT_TIME_MID_FRAC_HI (bits s.b.wall88 32 8)).setf F.ANT_TIME_MID_SEC_LO (bits s.b.wall88 40 24)).setf F.ANT_TIME_HI_SEC_HI (bits s.b.wall88 64 24)).answer m 0 (s.b.wall88 % 2 ^ 32)))) ∧
  (∀ (s : State) (m : Master),
    s.b.respCode m 0x1010 0xF false 0 = 0 →
    exec (.phaseLoRead m) s = .next (s.put ((s.b.setf F.ANT_PHASE_HI_PHASE_HI (bits s.b.phase 32 32)).answer m 0 (s.b.phase % 2 ^ 32))))

/-- While the port is followed and its edge detector is loaded: a load above the present phase is taken, one that is not is refused with SET_REFUSED, and other inputs of the cycle raise SET_COLLIDE; an advance crosses the enabled entries in index order and adds to the fraction, and units presented while it is held at 0xFF_FFFF are counted in ANT_OVERRUN; a strobe restarts the timeout, queues the catch-up fires of the old step and then those of position 0 in the next step, at fraction 0 (R44, R45). -/
def Obligations.PhasePortCycle : Prop :=
  (∀ (s : State) (v : Nat),
    s.b.portFollowed = true →
    s.b.ant.sampled = true →
    s.b.phase < v % 2 ^ 64 →
    exec (.phaseLoad v false 0) s = .next (s.put ({ s.b with ant := { s.b.ant with step := v % 2 ^ 64 / 2 ^ 24, frac := v % 2 ^ 64 % 2 ^ 24 } }))) ∧
  (∀ (s : State) (v : Nat),
    s.b.portFollowed = true →
    s.b.ant.sampled = true →
    v % 2 ^ 64 ≤ s.b.phase →
    exec (.phaseLoad v false 0) s = .next (s.put (s.b.raise Ev.ANT_SET_REFUSED))) ∧
  (∀ (s : State) (v adv : Nat),
    s.b.portFollowed = true →
    s.b.ant.sampled = true →
    s.b.phase < v % 2 ^ 64 →
    adv % 65536 ≠ 0 →
    exec (.phaseLoad v false adv) s = .next (s.put (({ s.b with ant := { s.b.ant with step := v % 2 ^ 64 / 2 ^ 24, frac := v % 2 ^ 64 % 2 ^ 24 } }).raise Ev.ANT_SET_COLLIDE))) ∧
  (∀ (s : State) (adv : Nat),
    s.b.portFollowed = true →
    s.b.ant.sampled = true →
    s.b.ant.frac + adv % 65536 ≤ maxFrac →
    ∀ c : Block, c = ((s.b.entries (fun p => decide (s.b.ant.frac < p) && decide (p ≤ s.b.ant.frac + adv % 65536))).foldl (fun b i => b.cross b.ant.step 0 i) s.b) →
    exec (.phaseAdvance adv) s = .next (s.put ({ c with ant := { c.ant with frac := s.b.ant.frac + adv % 65536 } }))) ∧
  (∀ (s : State) (adv : Nat),
    s.b.portFollowed = true →
    s.b.ant.sampled = true →
    s.b.ant.frac = maxFrac →
    s.b.ant.clamped = true →
    adv % 65536 ≠ 0 →
    exec (.phaseAdvance adv) s = .next (s.put (s.b.count F.ANT_OVERRUN_UNITS (adv % 65536)))) ∧
  (∀ (s : State) (adv : Nat),
    s.b.portFollowed = true →
    s.b.ant.sampled = true →
    ∀ b : Block, b = ({ s.b with ant := { s.b.ant with stepFrom := s.b.clk.aon, stepHit := false } }) →
    ∀ c : Block, c = ((b.entries (fun p => decide (b.ant.frac < p))).foldl (fun b i => b.cross b.ant.step 2 i) b) →
    c.ant.step + 1 < 2 ^ 40 →
    ∀ d : Block, d = (({ c with ant := { c.ant with step := c.ant.step + 1, frac := 0 } }).setClamped false) →
    exec (.stepStrobe adv) s = .next (s.put (((d.entries (fun p => p == 0)).foldl (fun b i => b.cross (c.ant.step + 1) 0 i) d).advance adv)))

/-- STEP_TIMEOUT and BEACON_LOST are raised once when their timers pass the limit; a follower of its source takes the phase of a beacon above its own and queues a fire of cause BEACON under the beacon's index, and drops one that is not with BEACON_STALE; an aggregator that knows the source's current epoch passes its beacon to the ports of the followers listed for that source, back on the port it came by only at a T-role, and drops one of another epoch (R45, R53, R54). -/
def Obligations.AntennaTimeoutsAndBeacons : Prop :=
  (∀ (s : State),
    s.b.portFollowed = true →
    s.b.f F.ANT_TIMEOUTS_STEP ≠ 0 →
    s.b.ant.stepHit = false →
    s.b.ant.stepFrom + aonUs (100 * s.b.f F.ANT_TIMEOUTS_STEP) ≤ s.b.clk.aon →
    ∀ c : Block, c = (({ s.b with ant := { s.b.ant with stepHit := true } }).raise Ev.ANT_STEP_TIMEOUT) →
    c.is F.TRC_HANG_CTRL_ON_STEP = false →
    exec (.stepTimeout) s = .next (s.put (c))) ∧
  (∀ (s : State),
    s.b.syn.agg = false →
    s.b.on dANTENNA = true →
    s.b.phsrc = 1 →
    s.b.f F.ANT_TIMEOUTS_BEACON ≠ 0 →
    s.b.ant.bcnHit = false →
    s.b.ant.bcnFrom + aonUs (100 * s.b.f F.ANT_TIMEOUTS_BEACON) ≤ s.b.clk.aon →
    exec (.beaconLost) s = .next (s.put (({ s.b with ant := { s.b.ant with bcnHit := true } }).raise Ev.ANT_BEACON_LOST))) ∧
  (∀ (s : State) (port ldi epoch step pos idx wall : Nat),
    ∀ u : Block, u = (s.b.unstage port 2) →
    u.syn.agg = false →
    u.on dANTENNA = true →
    u.phsrc = 1 →
    ldi = u.f F.ANT_BEACON_SRC_LDI →
    u.phase < phaseOf step pos →
    ∀ c : Block, c = ({ u with ant := { u.ant with bcnFrom := u.clk.aon, bcnHit := false, step := step % 2 ^ 40, frac := pos % 2 ^ 24 } }) →
    exec (.beaconReceived port ldi epoch step pos idx wall) s = .next (s.put (c.enqueue { step := step % 2 ^ 40, pos := pos % 2 ^ 24, idx := idx % 256, cause := 4, acts := c.entryActs (idx % 256), srcWall := wall, due := c.clk.core }))) ∧
  (∀ (s : State) (port ldi epoch step pos idx wall : Nat),
    ∀ u : Block, u = (s.b.unstage port 2) →
    u.syn.agg = false →
    u.on dANTENNA = true →
    u.phsrc = 1 →
    ldi = u.f F.ANT_BEACON_SRC_LDI →
    phaseOf step pos ≤ u.phase →
    exec (.beaconReceived port ldi epoch step pos idx wall) s = .next (s.put (u.beaconTimer.raise Ev.ANT_BEACON_STALE))) ∧
  (∀ (s : State) (port ldi epoch step pos idx wall : Nat),
    ∀ u : Block, u = (s.b.unstage port 2) →
    u.syn.agg = true →
    u.isT = false →
    u.fab.routeEpochs.find ldi = some epoch →
    exec (.beaconReceived port ldi epoch step pos idx wall) s = .next (s.put (u.sendAll (((u.fab.topo.beacons.filter (fun p => p.1 == ldi)).map (fun p => p.2)).filter (fun n => n != port)) (.beacon ldi epoch step pos idx wall)))) ∧
  (∀ (s : State) (port ldi epoch cur step pos idx wall : Nat),
    ∀ u : Block, u = (s.b.unstage port 2) →
    u.syn.agg = true →
    u.isT = false →
    u.fab.routeEpochs.find ldi = some cur →
    cur ≠ epoch →
    exec (.beaconReceived port ldi epoch step pos idx wall) s = .next (s.put u)) ∧
  (∀ (s : State) (port ldi epoch step pos idx wall : Nat),
    ∀ u : Block, u = (s.b.unstage port 2) →
    u.syn.agg = true →
    u.isT = true →
    port < 128 →
    (u.fab.binds.getD ldi {}).epoch ≠ 0 →
    u.binding ldi epoch = true →
    exec (.beaconReceived port ldi epoch step pos idx wall) s = .next (s.put (u.sendAll ((u.fab.topo.beacons.filter (fun p => p.1 == ldi)).map (fun p => p.2)) (.beacon ldi epoch step pos idx wall))))

/-- The head request that is due leaves the queue, is DEFERRED when it is a crossing that fires late, drives PHR_WB with its index, and brings the boundary, then captures, then messages; a time wingbeat whose instant is reached is queued under ANT_TWB_ACT.IDX with its count as the step; an aggregator takes the first WB_MARK of a (step, index) from a child as its boundary and forwards it on both uplinks, and drops later copies (R49 to R51, R55). -/
def Obligations.FiresAndMarks : Prop :=
  (∀ (s : State) (r : FireReq),
    s.b.dueFire = some r →
    ∀ cause : Nat, cause = (if r.cause = 0 ∧ r.due < s.b.clk.core then 1 else r.cause) →
    ∀ bound : Bool, bound = (s.b.isBoundary cause) →
    ∀ x : FireReq, x = ({ r with cause := cause, pos := if cause = 5 then s.b.ant.frac else r.pos }) →
    ∀ a : Block, a = (s.b.raiseIf (cause == 1) Ev.ANT_DEFERRED) →
    ∀ c : Block, c = ({ a with ant := { a.ant with fireQ := a.ant.fireQ.drop 1, lastFire := some a.clk.core, desc := some x }, pins := { a.pins with phrWb := true, phrWbIdx := x.idx } }) →
    ∀ d : Block, d = (if bound then c.dieBoundary x.idx (s.b.firePhase r) else c) →
    ∀ e : Block, e = (((d.captures d x cause (s.b.firePhase r)).trcFired x.idx).fireSends x cause bound) →
    exec (.wingbeatFire) s = .next (s.put ((if bound then e.monBoundary x.idx else e).showFireQ))) ∧
  (∀ (s : State),
    s.b.syn.agg = false →
    s.b.on dANTENNA = true →
    s.b.is F.ANT_CTRL_TWB_EN = true →
    s.b.timeValid = true →
    ∀ per : Nat, per = (max 1 (s.b.f F.ANT_TWB_PERIOD_PERIOD)) →
    ∀ u : Nat, u = ((s.b.ant.twbFrom / per + 1) * per) →
    u ≤ s.b.nowUs →
    ∀ c : Block, c = ({ s.b with ant := { s.b.ant with twbFrom := u } }) →
    exec (.timeWingbeat) s = .next (s.put (c.enqueue { step := u / per % 2 ^ 40, pos := c.ant.frac, idx := c.f F.ANT_TWB_ACT_IDX, cause := 5, acts := c.f F.ANT_TWB_ACT_FREEZE + 2 * c.f F.ANT_TWB_ACT_MON + 4 * c.f F.ANT_TWB_ACT_SCL + 8 * c.f F.ANT_TWB_ACT_SWM, due := c.clk.core }))) ∧
  (∀ (s : State) (port step idx wall : Nat),
    ∀ u : Block, u = (s.b.unstage port 2) →
    u.syn.agg = true →
    port < 128 →
    u.f F.ROLE_STATUS_ROLE ≠ 3 →
    u.fab.marks.contains (step % 2 ^ 40, idx % 256) = false →
    ∀ c : Block, c = ({ u with fab := { u.fab with marks := (step % 2 ^ 40, idx % 256) :: u.fab.marks.filter (fun x => keepMark (step % 2 ^ 40) x.1) } }) →
    ∀ d : Block, d = (c.dieBoundary (idx % 256) (u.wbPhase (step % 2 ^ 40) (idx % 256))) →
    ∀ e : Block, e = (if d.isRoot then d else d.sendAll [128, 129] (.wbMark (step % 2 ^ 40) (idx % 256) wall)) →
    exec (.wbMarkReceived port step idx wall) s = .next (s.put ((((e.openWingbeat (step % 2 ^ 40) (idx % 256) wall).openedSince e.tags).passTriggers (idx % 256) (u.wbPhase (step % 2 ^ 40) (idx % 256))).monBoundary (idx % 256)))) ∧
  (∀ (s : State) (port step idx wall : Nat),
    (s.b.unstage port 2).fab.marks.contains (step % 2 ^ 40, idx % 256) = true →
    exec (.wbMarkReceived port step idx wall) s = .next (s.put (s.b.unstage port 2))) ∧
  (∀ (b : Block) (r : FireReq) (cause : Nat) (bound : Bool),
    b.fab.released = false →
    bound = true →
    r.bcn = true →
    cause ≤ 2 →
    ∀ c : Block, c = (b.sendMsg b.upPort (.wbMark r.step r.idx b.wall)) →
    b.fireSends r cause bound = c.sendMsg c.upPort (.beacon c.selfLdi c.selfEpoch r.step r.pos r.idx c.wall))

/-- A write of ANT_LAUNCH_CFG with ARM that the port answers OK arms the slot with the kind, queue and 64-bit trigger its registers hold, late where the trigger is already reached; a slot whose trigger is reached and whose queue is in no flush fires: it disarms and the head item that waits passes to Monarch, or EMPTY is set and LAUNCH_EMPTY raised where none waits; a late one raises LAUNCH_LATE (R65, R66). -/
def Obligations.LaunchSlots : Prop :=
  (∀ (s : State) (m : Master) (word : Nat),
    ∀ w : Nat, w = (setBit word 18 1) →
    s.b.respCode m 0x1204 0xF true w = 0 →
    bit w 18 = 1 →
    ∀ b : Block, b = (s.b.writeFields 0x1204 w) →
    ∀ n : Nat, n = (b.f F.ANT_LAUNCH_SEL_SLOT) →
    ∀ l : Launch, l = ({ kind := b.f (F.ANT_LAUNCH_CFG_KIND.ix n), queue := b.f (F.ANT_LAUNCH_CFG_QUEUE.ix n), trig := b.f (F.ANT_LAUNCH_AT_LO_AT_LO.ix n) + 2 ^ 32 * b.f (F.ANT_LAUNCH_AT_HI_AT_HI.ix n) }) →
    exec (.launchArm m word) s = .next (s.put ((((({ b with ant := { b.ant with launches := b.ant.launches.put n { l with late := b.launchReached l } } }).setf (F.ANT_LAUNCH_CFG_ARMED.ix n) 1).setf (F.ANT_LAUNCH_CFG_LATE.ix n) 0).setf (F.ANT_LAUNCH_CFG_EMPTY.ix n) 0).answer m 0 0))) ∧
  (∀ (s : State) (slot : Nat) (l : Launch) (i : Item),
    s.b.ant.launches.find (slot % 32) = some l →
    ∀ q : Nat, q = (s.b.qnum l.queue) →
    s.b.on dANTENNA = true →
    s.b.launchReached l = true →
    (s.b.queue q).flushing = false →
    l.late = false →
    ∀ c : Block, c = (({ s.b with ant := { s.b.ant with launches := s.b.ant.launches.del (slot % 32) } }).setf (F.ANT_LAUNCH_CFG_ARMED.ix (slot % 32)) 0) →
    (c.queue q).items.find? (fun i => i.seq.isNone && !c.mon.launched.contains (q, i.num)) = some i →
    exec (.launchFire slot) s = .next (s.put ({ c with mon := { c.mon with launched := c.mon.launched ++ [(q, i.num)] } }))) ∧
  (∀ (s : State) (slot : Nat) (l : Launch),
    s.b.ant.launches.find (slot % 32) = some l →
    ∀ q : Nat, q = (s.b.qnum l.queue) →
    s.b.on dANTENNA = true →
    s.b.launchReached l = true →
    (s.b.queue q).flushing = false →
    l.late = true →
    ∀ c : Block, c = (((({ s.b with ant := { s.b.ant with launches := s.b.ant.launches.del (slot % 32) } }).setf (F.ANT_LAUNCH_CFG_ARMED.ix (slot % 32)) 0).setf (F.ANT_LAUNCH_CFG_LATE.ix (slot % 32)) 1).raise Ev.ANT_LAUNCH_LATE) →
    (c.queue q).items.find? (fun i => i.seq.isNone && !c.mon.launched.contains (q, i.num)) = none →
    exec (.launchFire slot) s = .next (s.put ((c.setf (F.ANT_LAUNCH_CFG_EMPTY.ix (slot % 32)) 1).raise Ev.ANT_LAUNCH_EMPTY)))

/-- In the D build with PROBE on and the bus enabled, a cycle of the Probe Bus judges a window of 64 cycles that has ended, notes which lanes are high, ends the run of each lane that presents nothing and gives each presented lane its cycle; a message is taken behind the others while the queue has room, due 3 cycles on when it was empty; a stalled cycle is counted in units of 1,024; the head message is applied when it is due and the drain rate allows it: an ADD adds its 40-bit amount to its counter, an unknown type counts BAD and raises MSG_BAD (R71 to R74). -/
def Obligations.ProbeBusAndMessages : Prop :=
  (∀ (s : State) (n v : Nat),
    s.b.syn.agg = false →
    s.b.on dPROBE = true →
    s.b.is F.PRB_CTRL_EN = true →
    n < 2048 →
    v < 16 →
    ∀ a : Block, a = ({ s.b with prb := { s.b.prb with cyc := if s.b.prb.fed then s.b.prb.cyc + 1 else s.b.prb.cyc, fed := true } }) →
    ∀ u : Block, u = (a.fastWindow) →
    exec (.laneIncrement [(n, v)]) s = .next (s.put (({ u with prb := { u.prb with high := if v % 2 = 1 then [n] else [], runs := u.prb.runs.filter (fun p => n == p.1) } }).laneCycle n v (u.prb.high.contains n)))) ∧
  (∀ (s : State) (data : Nat),
    s.b.syn.agg = false →
    s.b.on dPROBE = true →
    s.b.is F.PRB_CTRL_EN = true →
    s.b.prb.msgs.length < 256 →
    exec (.probeMessage data) s = .next (s.put ({ s.b with prb := { s.b.prb with msgs := s.b.prb.msgs ++ [(data % 2 ^ 64, if s.b.prb.msgs = [] then s.b.clk.core + 3 else s.b.clk.core)] } }))) ∧
  (∀ (s : State) (data : Nat),
    s.b.syn.agg = false →
    s.b.on dPROBE = true →
    256 ≤ s.b.prb.msgs.length →
    exec (.probeMessage data) s = .next (s.put (({ s.b with prb := { s.b.prb with stall := (s.b.prb.stall + 1) % 1024 } }).count F.PRB_MSG_STATS_STALL ((s.b.prb.stall + 1) / 1024)))) ∧
  (∀ (s : State) (d due : Nat) (rest : List (Nat × Nat)),
    s.b.syn.agg = false →
    s.b.on dPROBE = true →
    s.b.prb.msgs = (d, due) :: rest →
    due ≤ s.b.clk.core →
    drainOk s.b.prb.applied s.b.clk.core = true →
    d / 2 ^ 60 = 1 →
    ∀ c : Block, c = ({ s.b with prb := { s.b.prb with msgs := rest, applied := (s.b.clk.core :: s.b.prb.applied).take 2 } }) →
    exec (.messageApply) s = .next (s.put (c.addCnt (bits d 46 14) (d % 2 ^ 40)))) ∧
  (∀ (s : State) (d due : Nat) (rest : List (Nat × Nat)),
    s.b.syn.agg = false →
    s.b.on dPROBE = true →
    s.b.prb.msgs = (d, due) :: rest →
    due ≤ s.b.clk.core →
    drainOk s.b.prb.applied s.b.clk.core = true →
    3 ≤ d / 2 ^ 60 →
    ∀ c : Block, c = ({ s.b with prb := { s.b.prb with msgs := rest, applied := (s.b.clk.core :: s.b.prb.applied).take 2 } }) →
    exec (.messageApply) s = .next (s.put ((c.count F.PRB_MSG_STATS_BAD).raise Ev.PRB_MSG_BAD)))

/-- A read of PRB_CNT_LO that the port answers OK shows the low word of the selected counter and latches the rest, with the high cell of a chained pair; a write of PRB_CNT_HI applies the staged value and marks its bank written; a drain that has ended frees its buffer and offers its records in order, but discards one that a flush found being written, which ends the flush; a watched lane whose run reaches STUCK x 1,024 cycles is flagged, may be fenced, and starts afresh; the end of a window of 64 cycles clears its edges (R76, R79, R80, R82). -/
def Obligations.CountersAndSnapshots : Prop :=
  (∀ (s : State) (m : Master),
    s.b.respCode m 0x2024 0xF false 0 = 0 →
    s.b.syn.agg = false →
    ∀ i : Nat, i = (s.b.f F.PRB_CNT_SEL_INDEX) →
    ∀ h : Nat, h = (if s.b.lowCell i then s.b.cnt (i + 1) else 0) →
    exec (.counterRead m) s = .next (s.put ((((s.b.setf F.PRB_CNT_HI_CNT_HI (s.b.cnt i / 2 ^ 32)).setf F.PRB_CNT_X0_HIGH_LO h).setf F.PRB_CNT_X1_HIGH_HI (h / 2 ^ 32)).answer m 0 (s.b.cnt i % 2 ^ 32)))) ∧
  (∀ (s : State) (m : Master) (word : Nat),
    s.b.respCode m 0x2028 0xF true word = 0 →
    s.b.syn.agg = false →
    ∀ i : Nat, i = (s.b.f F.PRB_CNT_SEL_INDEX) →
    s.b.lowCell i = false →
    exec (.counterApply m word) s = .next (s.put ({ s.b with prb := { s.b.prb with cnt := s.b.prb.cnt.putD 0 i ((s.b.prb.stLo + word % 2 ^ 16 * 2 ^ 32) % 2 ^ 48), written := setBit s.b.prb.written (i / 2048) 1, wrote := i :: s.b.prb.wrote } }.answer m 0 0))) ∧
  (∀ (s : State) (d : Drain) (rest : List Drain),
    s.b.syn.agg = false →
    s.b.on dPROBE = true →
    s.b.prb.drains = d :: rest →
    d.start + d.per * d.recs.length ≤ s.b.clk.core →
    d.given = 0 →
    d.doomed = none →
    exec (.snapshotDrainDone false) s = .next (s.put (d.recs.foldl (fun b r => b.arrive (s.b.rdestQ 0) r) { s.b with prb := { s.b.prb with drains := rest } }))) ∧
  (∀ (s : State) (d : Drain) (rest : List Drain),
    s.b.syn.agg = false →
    s.b.on dPROBE = true →
    s.b.prb.mdrains = d :: rest →
    d.start + d.per * d.recs.length ≤ s.b.clk.core →
    d.given = 0 →
    d.doomed = none →
    exec (.snapshotDrainDone true) s = .next (s.put (d.recs.foldl (fun b r => b.arrive (s.b.rdestQ 1) r) { s.b with prb := { s.b.prb with mdrains := rest } }))) ∧
  (∀ (s : State) (d : Drain) (rest : List Drain) (r : Rec),
    s.b.syn.agg = false →
    s.b.on dPROBE = true →
    s.b.prb.drains = d :: rest →
    d.start + d.per * d.recs.length ≤ s.b.clk.core →
    d.recs = [r] →
    d.given = 0 →
    d.doomed = some 0 →
    ∀ c : Block, c = ({ s.b with prb := { s.b.prb with drains := rest } }) →
    ∀ q : Nat, q = (c.qnum (c.rdestQ 0)) →
    exec (.snapshotDrainDone false) s = .next (s.put ((c.count (F.QUE_DROPS_FLUSHED.ix q)).setQueue q { c.queue q with flushing := false }))) ∧
  (∀ (s : State) (lane : Nat),
    s.b.syn.agg = false →
    s.b.on dPROBE = true →
    ∀ n : Nat, n = (lane % 2048) →
    ∀ k : Nat, k = (s.b.f F.PRB_GUARD_STUCK) →
    k ≠ 0 →
    s.b.lane F.PRB_LANE_CFG_WATCH_STUCK n = 1 →
    s.b.lane F.PRB_LANE_CFG_MODE n < 2 →
    k * 1024 ≤ (s.b.prb.runs.getD n {}).run →
    exec (.laneStuck lane) s = .next (s.put ((({ s.b with prb := { s.b.prb with runs := s.b.prb.runs.del n } }).laneFlag F.PRB_LANE_CFG_STUCK Ev.PRB_STUCK n).autofence n))) ∧
  (∀ (s : State),
    s.b.syn.agg = false →
    s.b.on dPROBE = true →
    s.b.prb.window < s.b.prb.cyc / 64 →
    ∃ t : State, exec (.fastWindowEnd) s = .next t ∧ t.b.prb = { s.b.prb with edges := [], window := s.b.prb.cyc / 64 } ∧ t.mem = s.mem)

/-- A due conversion moves to the next scan slot and converts its channel; a due wire test converts its group's channels with the bias off and waits for the settled step, which converts them with it on; the done step discards the test with TEST_ABORT, or keeps its result as the candidate, or confirms and stores a second like result; a rise of SCL_TRANSIENT raises TRANSIENT, a fall starts the hold (R85, R87 to R89). -/
def Obligations.ScalesAndWireTest : Prop :=
  (∀ (s : State) (code : Nat),
    s.b.syn.agg = false →
    s.b.on dSCALES = true →
    s.b.scanLen ≠ 0 →
    s.b.scl.last = none →
    ∀ n : Nat, n = (s.b.scl.slot % s.b.scanLen) →
    ∀ ch : Nat, ch = (s.b.f (scanFld n)) →
    ∀ c : Block, c = ({ s.b with scl := { s.b.scl with slot := (n + 1) % s.b.scanLen, last := some s.b.clk.aon } }) →
    c.testing ch = false →
    c.groupFenced (ch / 8) = false →
    exec (.scalesConversion code) s = .next (s.put (c.convert ch (code % 65536) false))) ∧
  (∀ (s : State) (codes : List Nat) (gl : Bool) (d : Block),
    s.b.syn.agg = false →
    s.b.on dSCALES = true →
    s.b.is F.SCL_CTRL_WIRE_EN = true →
    s.b.scl.wire = none →
    s.b.scl.wireAt + aonUs (1000 * atLeast1 (s.b.f F.SCL_WIRE_PERIOD)) ≤ s.b.clk.aon →
    ∀ g : Nat, g = (s.b.scl.group) →
    ∀ c : Block, c = (({ s.b with scl := { s.b.scl with wireAt := s.b.clk.aon } }).abandonTest 3 g) →
    c.groupFenced g = false →
    c.wireCodes (c.wireChans g) codes = (gl, d) →
    exec (.wireTestStart codes) s = .next (s.put (({ d with scl := { d.scl with wire := some { group := g, since := d.clk.aon, off := codes.map (· % 65536), abort := gl || d.scl.transient } } }).showWire))) ∧
  (∀ (s : State) (codes : List Nat) (w : Wire) (gl : Bool) (d : Block),
    s.b.syn.agg = false →
    s.b.on dSCALES = true →
    s.b.scl.wire = some w →
    w.step = 1 →
    w.since + s.b.settle ≤ s.b.clk.aon →
    s.b.wireCodes (s.b.wireChans w.group) codes = (gl, d) →
    exec (.wireBiasSettled codes) s = .next (s.put ({ d with scl := { d.scl with wire := some { w with step := 2, since := d.clk.aon, on := codes.map (· % 65536), abort := w.abort || gl } } }))) ∧
  (∀ (s : State) (w : Wire),
    s.b.syn.agg = false →
    s.b.on dSCALES = true →
    s.b.scl.wire = some w →
    w.step = 2 →
    w.since + s.b.settle ≤ s.b.clk.aon →
    w.abort = true →
    exec (.wireTestDone) s = .next (s.put ((({ s.b with scl := { s.b.scl with wire := none } }).raise Ev.SCL_TEST_ABORT).showWire))) ∧
  (∀ (s : State) (w : Wire),
    s.b.syn.agg = false →
    s.b.on dSCALES = true →
    s.b.scl.wire = some w →
    w.step = 2 →
    w.since + s.b.settle ≤ s.b.clk.aon →
    w.abort = false →
    s.b.scl.transient = false →
    ∀ r : WireResult, r = (wireResult ((s.b.wireChans w.group).zip ((w.on ++ List.replicate 8 0).zipWith (fun (x y : Nat) => (x : Int) - (y : Int)) (w.off ++ List.replicate 8 0))) (signed 16 (s.b.f F.SCL_WIRE_LIM_HI)) (signed 16 (s.b.f F.SCL_WIRE_LIM_LO))) →
    ∀ c : Block, c = ({ s.b with scl := { s.b.scl with wire := none } }) →
    r ≠ c.standing w.group →
    s.b.scl.cand ≠ some r →
    exec (.wireTestDone) s = .next (s.put (({ c with scl := { c.scl with cand := some r } }).showWire))) ∧
  (∀ (s : State) (w : Wire) (r : WireResult),
    s.b.syn.agg = false →
    s.b.on dSCALES = true →
    s.b.scl.wire = some w →
    w.step = 2 →
    w.since + s.b.settle ≤ s.b.clk.aon →
    w.abort = false →
    s.b.scl.transient = false →
    r = wireResult ((s.b.wireChans w.group).zip ((w.on ++ List.replicate 8 0).zipWith (fun (x y : Nat) => (x : Int) - (y : Int)) (w.off ++ List.replicate 8 0))) (signed 16 (s.b.f F.SCL_WIRE_LIM_HI)) (signed 16 (s.b.f F.SCL_WIRE_LIM_LO)) →
    ∀ c : Block, c = ({ s.b with scl := { s.b.scl with wire := none } }) →
    r ≠ c.standing w.group →
    s.b.scl.cand = some r →
    exec (.wireTestDone) s = .next (s.put ((({ c with scl := { c.scl with cand := none, group := (w.group + 1) % 32 } }).storeWire w.group r).showWire))) ∧
  (∀ (s : State),
    s.b.syn.agg = false →
    s.b.on dSCALES = true →
    s.b.scl.transient = false →
    s.b.scl.wire = none →
    exec (.scalesTransient true) s = .next (s.put (({ s.b with scl := { s.b.scl with transient := true } }).raise Ev.SCL_TRANSIENT))) ∧
  (∀ (s : State),
    s.b.syn.agg = false →
    s.b.scl.transient = true →
    exec (.scalesTransient false) s = .next (s.put ({ s.b with scl := { s.b.scl with transient := false, fellAt := some s.b.clk.aon } })))

/-- A due tick ends a POST that is over, judges and writes the four buffers in order, counts itself, and sets when the next is due; POST ends when its ticks have passed, at ARMED or OFF with a TRIG packet of cause 0x0E; ARM moves OFF to ARMED with a TRIG packet whose cause no rule gives (a free value, log entry 34), STOP asks for OFF at the next tick, DUMP marks a RING buffer in OFF that holds packets for one drain; a context tag becomes its partition's context; a rising TRC_TRIG is held for the tick; trace DMA forms a record from whole packets that wait, unless the record would meet a full queue that waits (R93, R96, R101, R104, R105). -/
def Obligations.TraceBuffers : Prop :=
  (∀ (s : State) (lanes : List (Nat × Nat × Nat)),
    s.b.on dTRACE = true →
    s.b.is F.TRC_CTRL_EN = true →
    s.b.trc.nextAt ≤ s.b.trc.cyc →
    ∀ c : Block, c = ([0, 1, 2, 3].foldl (fun b k => (b.postEnd k).tickBuf s.b.trc.ticks lanes k) s.b) →
    exec (.traceTick lanes) s = .next (s.put (({ c with trc := { c.trc with ticks := s.b.trc.ticks + 1, nextAt := c.trc.nextAt + c.tickPeriod * ((c.trc.cyc - c.trc.nextAt) / c.tickPeriod + 1), trig := false } }).setf F.TRC_STATUS_TICK (s.b.trc.ticks % 2 ^ 32)))) ∧
  (∀ (s : State) (k : Nat),
    k < 4 →
    s.b.on dTRACE = true →
    s.b.trcState k = 3 →
    (s.b.tbuf k).entered + s.b.bf F.TRC_BUF_CMD_POST k < s.b.trc.ticks →
    s.b.bf F.TRC_BUF_TRIG_REARM k ≠ 1 →
    (s.b.tbuf k).ended = none →
    exec (.postEnd k) s = .next (s.put ((s.b.setTbuf k { s.b.tbuf k with trigs := (s.b.tbuf k).trigs ++ [(0, 0xE)], ended := none, stop := false }).setTrcState k 0))) ∧
  (∀ (s : State) (k : Nat),
    k < 4 →
    s.b.on dTRACE = true →
    s.b.trcState k = 3 →
    (s.b.tbuf k).entered + s.b.bf F.TRC_BUF_CMD_POST k < s.b.trc.ticks →
    s.b.bf F.TRC_BUF_TRIG_REARM k = 1 →
    (s.b.tbuf k).ended = none →
    exec (.postEnd k) s = .next (s.put ((s.b.setTbuf k { s.b.tbuf k with trigs := (s.b.tbuf k).trigs ++ [(1, 0xE)], ended := none }).setTrcState k 1))) ∧
  (∀ (s : State) (k st : Nat),
    k < 4 →
    s.b.on dTRACE = true →
    s.b.trcState k = 3 →
    (s.b.tbuf k).ended = some st →
    exec (.postEnd k) s = .next (s.put ((s.b.setTbuf k { s.b.tbuf k with ended := none, stop := (s.b.tbuf k).stop && st != 0 }).setTrcState k st))) ∧
  (∀ (s : State) (m : Master) (k word : Nat),
    k < 4 →
    ∀ w : Nat, w = (word / 65536 % 65536 * 65536 + 4) →
    s.b.respCode m (0x4118 + 64 * k) 0xF true w = 0 →
    s.b.syn.agg = false →
    ∀ c : Block, c = (s.b.writeFields (0x4118 + 64 * k) w) →
    c.trcState k = 0 →
    ∃ cause : Nat, exec (.traceArm m k word) s = .next (s.put (((c.setTbuf k { c.tbuf k with trigs := (c.tbuf k).trigs ++ [(1, cause)], stop := false, dump := false }).setTrcState k 1).answer m 0 0))) ∧
  (∀ (s : State) (m : Master) (k word : Nat),
    k < 4 →
    ∀ w : Nat, w = (word / 65536 % 65536 * 65536 + 8) →
    s.b.respCode m (0x4118 + 64 * k) 0xF true w = 0 →
    s.b.syn.agg = false →
    ∀ c : Block, c = (s.b.writeFields (0x4118 + 64 * k) w) →
    c.trcState k ≠ 0 →
    exec (.traceStop m k word) s = .next (s.put ((c.setTbuf k { c.tbuf k with stop := true }).answer m 0 0))) ∧
  (∀ (s : State) (m : Master) (k word : Nat),
    k < 4 →
    ∀ w : Nat, w = (word / 65536 % 65536 * 65536 + 16) →
    s.b.respCode m (0x4118 + 64 * k) 0xF true w = 0 →
    s.b.syn.agg = false →
    ∀ c : Block, c = (s.b.writeFields (0x4118 + 64 * k) w) →
    c.trcState k = 0 →
    c.bf F.TRC_BUF_CFG_MODE k = 1 →
    (c.tbuf k).taken < (c.tbuf k).pkts.length →
    exec (.traceDump m k word) s = .next (s.put ((c.setTbuf k { c.tbuf k with dump := true }).answer m 0 0))) ∧
  (∀ (s : State) (p layer op : Nat),
    s.b.on dTRACE = true →
    ∃ t : State, exec (.contextTag p layer op) s = .next t ∧ t.b.trc.ctx.getD (p % 8) (0, 0) = (layer % 65536, op % 65536) ∧ t.mem = s.mem) ∧
  (∀ (s : State),
    s.b.on dTRACE = true →
    exec (.trcTrigEdge) s = .next (s.put ({ s.b with trc := { s.b.trc with trig := true } }))) ∧
  (∀ (s : State) (k : Nat),
    k < 4 →
    ∀ t0 : TrcBuf, t0 = (s.b.tbuf k) →
    ∀ rest : List (Nat × Nat), rest = (t0.pkts.drop t0.taken) →
    s.b.on dTRACE = true →
    rest ≠ [] →
    s.b.bf F.TRC_BUF_CFG_MODE k ≠ 1 →
    s.b.trcState k = 0 →
    ∀ skip : Nat, skip = (((t0.pkts.take t0.taken).map (fun p => p.1)).foldl (· + ·) 0) →
    ∀ f : Nat × Nat, f = (fitPkts rest ((s.b.bf F.TRC_BUF_CFG_CHUNK k + 1) * 1024)) →
    ∀ q : Nat, q = (s.b.bf F.TRC_BUF_QUEUE_QUEUE k) →
    ∀ r : Rec, r = (s.b.form q (s.b.bf F.TRC_BUF_QUEUE_STREAM k) 0x13 0 0 0 (leBytes 3 k ++ leBytes 5 (t0.total + skip) ++ readStore t0.mem (t0.rd + skip) f.2 ++ List.replicate ((8 - f.2 % 8) % 8) 0)) →
    (s.b.goesDirect (s.b.qnum q) r k && s.b.traceWaits (s.b.qnum q) r) = false →
    exec (.traceRecordForm k) s = .next (s.put ((s.b.setTbuf k { t0 with taken := t0.taken + f.1, dump := t0.dump && decide (f.1 < rest.length) }).arrive q r (some k) f.1))) ∧
  (∀ (s : State) (k : Nat),
    k < 4 →
    ∀ t0 : TrcBuf, t0 = (s.b.tbuf k) →
    ∀ rest : List (Nat × Nat), rest = (t0.pkts.drop t0.taken) →
    s.b.on dTRACE = true →
    rest ≠ [] →
    s.b.bf F.TRC_BUF_CFG_MODE k ≠ 1 →
    s.b.trcState k = 0 →
    ∀ skip : Nat, skip = (((t0.pkts.take t0.taken).map (fun p => p.1)).foldl (· + ·) 0) →
    ∀ f : Nat × Nat, f = (fitPkts rest ((s.b.bf F.TRC_BUF_CFG_CHUNK k + 1) * 1024)) →
    ∀ q : Nat, q = (s.b.bf F.TRC_BUF_QUEUE_QUEUE k) →
    ∀ r : Rec, r = (s.b.form q (s.b.bf F.TRC_BUF_QUEUE_STREAM k) 0x13 0 0 0 (leBytes 3 k ++ leBytes 5 (t0.total + skip) ++ readStore t0.mem (t0.rd + skip) f.2 ++ List.replicate ((8 - f.2 % 8) % 8) 0)) →
    (s.b.goesDirect (s.b.qnum q) r k && s.b.traceWaits (s.b.qnum q) r) = true →
    exec (.traceRecordForm k) s = .next (s.put (s.b.raiseIf (! s.b.holdRoom s.b.holdUsed (r.size + s.b.lossBytes (s.b.qnum q)) r.sev) Ev.QUE_HOLD_FULL)))

/-- While the rings run an event of a unit the host has is stored in its ring, one of an absent unit counts BADUNIT, frozen or not; while they are frozen one of a unit the host has is counted in units of 256. A freeze by the pin or by software, once, notes the time and the cause and raises FROZEN; UNFREEZE lets the rings run, emptied where CLEAR comes with it; a read of TRC_HANG_WALL_LO latches the high word of the freeze's time (R107 to R110). -/
def Obligations.HangRings : Prop :=
  (∀ (s : State) (u code : Nat),
    s.b.on dTRACE = true →
    s.b.is F.TRC_HANG_STATUS_FROZEN = false →
    u < 8192 →
    u < s.b.syn.hostUnits →
    exec (.hangEvent [(u, code)]) s = .next (s.put ({ s.b with trc := { s.b.trc with units := s.b.trc.units.put u ((s.b.trc.units.getD u {}).store code s.b.hangB s.b.wall) } }))) ∧
  (∀ (s : State) (u code : Nat),
    s.b.on dTRACE = true →
    s.b.syn.hostUnits ≤ u % 8192 →
    exec (.hangEvent [(u, code)]) s = .next (s.put (s.b.count F.TRC_HANG_STATUS_BADUNIT))) ∧
  (∀ (s : State) (u code : Nat),
    s.b.on dTRACE = true →
    s.b.is F.TRC_HANG_STATUS_FROZEN = true →
    u % 8192 < s.b.syn.hostUnits →
    exec (.hangEvent [(u, code)]) s = .next (s.put (({ s.b with trc := { s.b.trc with discard := (s.b.trc.discard + 1) % 256 } }).count F.TRC_HANG_STATUS_DISCARDED ((s.b.trc.discard + 1) / 256)))) ∧
  (∀ (s : State),
    s.b.on dTRACE = true →
    s.b.is F.TRC_HANG_STATUS_FROZEN = false →
    ∀ c : Block, c = (((((({ s.b with trc := { s.b.trc with freezeWall := s.b.wall } }).setf F.TRC_HANG_STATUS_FROZEN 1).setf F.TRC_HANG_STATUS_CAUSE 1).setf F.TRC_HANG_WALL_LO_LO s.b.wall).raise Ev.TRC_FROZEN [(1, 8)])) →
    c.is F.TRC_HANG_CTRL_DUMP = false →
    exec (.hangFreezePin) s = .next (s.put (c))) ∧
  (∀ (s : State) (m : Master) (word : Nat),
    ∀ w : Nat, w = (word / 8 % 4 * 8 + 1) →
    s.b.respCode m 0x4200 0xF true w = 0 →
    s.b.syn.agg = false →
    ∀ a : Block, a = (s.b.writeFields 0x4200 w) →
    a.on dTRACE = true →
    a.is F.TRC_HANG_STATUS_FROZEN = false →
    ∀ c : Block, c = (((((({ a with trc := { a.trc with freezeWall := a.wall } }).setf F.TRC_HANG_STATUS_FROZEN 1).setf F.TRC_HANG_STATUS_CAUSE 2).setf F.TRC_HANG_WALL_LO_LO a.wall).raise Ev.TRC_FROZEN [(2, 8)])) →
    c.is F.TRC_HANG_CTRL_DUMP = false →
    exec (.hangFreezeCmd m word) s = .next (s.put (c.answer m 0 0))) ∧
  (∀ (s : State) (m : Master) (word : Nat),
    ∀ w : Nat, w = (word / 4 % 8 * 4 + 2) →
    s.b.respCode m 0x4200 0xF true w = 0 →
    s.b.syn.agg = false →
    ∀ a : Block, a = (s.b.writeFields 0x4200 w) →
    bit w 2 = 1 →
    exec (.hangUnfreeze m word) s = .next (s.put (({ (a.setf F.TRC_HANG_STATUS_FROZEN 0).setf F.TRC_HANG_STATUS_CAUSE 0 with trc := { a.trc with units := [] } } : Block).answer m 0 0))) ∧
  (∀ (s : State) (m : Master),
    s.b.respCode m 0x4208 0xF false 0 = 0 →
    exec (.hangWallRead m) s = .next (s.put ((s.b.setf F.TRC_HANG_WALL_HI_HI (s.b.trc.freezeWall / 2 ^ 32)).answer m 0 (s.b.f F.TRC_HANG_WALL_LO_LO))))

/-- A lane error is counted, and past KL_DEGRADE.TH within WIN it excludes its lane, raises DEGRADED and retrains the port; 1 us without a flit retrains it; an attempt not ACTIVE within KL_TIMERS.DOWN declares the port down, and a port down tries again every DOWN unless software took it down; RETRAIN brings every lane back, DOWN sends the flit and takes the port down until UP (R214, R215). -/
def Obligations.LinkTraining : Prop :=
  (∀ (s : State) (port lane : Nat),
    s.b.on dLINKS = true →
    port < portCount s.b.syn.agg →
    (s.b.port port).state ≠ 2 →
    exec (.laneError port lane) s = .next (s.put (s.b.count ((laneErrFld (lane % 4)).ix port)))) ∧
  (∀ (s : State) (port lane : Nat),
    s.b.on dLINKS = true →
    port < portCount s.b.syn.agg →
    ∀ c : Block, c = (s.b.count ((laneErrFld (lane % 4)).ix port)) →
    (c.port port).state = 2 →
    ∀ errs : List (Nat × Nat), errs = ((lane % 4, c.clk.core) :: c.recentErrs (c.port port).laneErrs) →
    (errs.filter (fun e => e.1 == lane % 4)).length ≤ atLeast1 (c.f F.KL_DEGRADE_TH) →
    exec (.laneError port lane) s = .next (s.put (c.setPort port { c.port port with laneErrs := errs }))) ∧
  (∀ (s : State) (port lane : Nat),
    s.b.on dLINKS = true →
    port < portCount s.b.syn.agg →
    ∀ c : Block, c = (s.b.count ((laneErrFld (lane % 4)).ix port)) →
    (c.port port).state = 2 →
    atLeast1 (c.f F.KL_DEGRADE_TH) < (((lane % 4, c.clk.core) :: c.recentErrs (c.port port).laneErrs).filter (fun e => e.1 == lane % 4)).length →
    ∀ d : Block, d = ((c.setPort port { c.port port with excl := setBit (c.port port).excl (lane % 4) 1 }).raise Ev.KL_DEGRADED [(port, 8), (lane % 4, 16)]) →
    (d.port port).state = 2 →
    exec (.laneError port lane) s = .next (s.put ((d.setPort port { (d.port port).attempt 3 d.clk.core with laneErrs := [] }).raise Ev.KL_RETRAIN [(port, 8)]))) ∧
  (∀ (s : State) (port : Nat),
    s.b.on dLINKS = true →
    port < portCount s.b.syn.agg →
    (s.b.port port).state = 2 →
    (s.b.port port).lastFlit + s.b.us 1 ≤ s.b.clk.core →
    exec (.noFlitTimeout port) s = .next (s.put ((s.b.setPort port { (s.b.port port).attempt 3 s.b.clk.core with laneErrs := [] }).raise Ev.KL_RETRAIN [(port, 8)]))) ∧
  (∀ (s : State) (port : Nat),
    s.b.on dLINKS = true →
    port < portCount s.b.syn.agg →
    (s.b.port port).state = 1 ∨ (s.b.port port).state = 3 →
    (s.b.port port).since + s.b.us (100 * atLeast1 (s.b.f F.KL_TIMERS_DOWN)) ≤ s.b.clk.core →
    exec (.trainingTimeout port) s = .next (s.put (s.b.declareDown port false))) ∧
  (∀ (s : State) (port : Nat),
    s.b.on dLINKS = true →
    port < portCount s.b.syn.agg →
    (s.b.port port).state = 1 ∨ (s.b.port port).state = 3 →
    s.b.clk.core < (s.b.port port).since + s.b.us (100 * atLeast1 (s.b.f F.KL_TIMERS_DOWN)) →
    exec (.trainingTimeout port) s = .next (s.put (s.b))) ∧
  (∀ (s : State),
    s.b.on dLINKS = true →
    s.b.syn.agg = false →
    (s.b.port 0).state ≠ 0 →
    ∀ c : Block, c = (s.b.setPort 0 { excl := (s.b.port 0).excl, since := s.b.clk.core, swDown := false, declared := true }) →
    ∀ d : Block, d = ({ c with mon := { c.mon with ports := c.mon.ports.upd 0 {} MonPort.clear } }) →
    ∀ e : Block, e = ((if d.upPort = 0 then d.rewind else d).raise Ev.KL_DOWN [(0, 8)]) →
    ∀ g : Block, g = (if s.b.parentPort = some 0 then e.parentLost.dropExchanges else e) →
    g.syn.agg = false →
    ∀ h : Block, h = (g.setPort 1 { g.port 1 with express := (g.port 1).express.unstomp, control := (g.port 1).control.unstomp }) →
    exec (.downFlit 0) s = .next (s.put (({ h with fab := { h.fab with hbFrom := none, hbLast := none } }).moveToB))) ∧
  (∀ (s : State) (port : Nat),
    s.b.on dLINKS = true →
    port < portCount s.b.syn.agg →
    (s.b.port port).state = 0 →
    exec (.downFlit port) s = .next (s.put (s.b.setPort port { s.b.port port with swDown := (s.b.port port).swDown || false }))) ∧
  (∀ (s : State) (port : Nat),
    s.b.on dLINKS = true →
    port < portCount s.b.syn.agg →
    (s.b.port port).state = 0 →
    (s.b.port port).swDown = false →
    (s.b.port port).since + s.b.us (100 * atLeast1 (s.b.f F.KL_TIMERS_DOWN)) ≤ s.b.clk.core →
    s.b.is (F.KL_PORT_CFG_EN.ix port) = true →
    s.b.wired port ≠ 0 →
    exec (.downRetry port) s = .next (s.put (s.b.setPort port ((s.b.port port).attempt 1 s.b.clk.core)))) ∧
  (∀ (s : State) (m : Master),
    s.b.respCode m 0x8020 0xF true 1 = 0 →
    ∀ c : Block, c = (s.b) →
    c.on dLINKS = true →
    c.f F.KL_PORT_SEL_PORT < portCount c.syn.agg →
    (c.port (c.f F.KL_PORT_SEL_PORT)).state = 2 →
    ∀ p : Port, p = (c.port (c.f F.KL_PORT_SEL_PORT)) →
    ∀ d : Block, d = (c.setPort (c.f F.KL_PORT_SEL_PORT) { p with excl := 0 }) →
    (d.port (c.f F.KL_PORT_SEL_PORT)).state = 2 →
    exec (.klRetrain m) s = .next (s.put (((d.setPort (c.f F.KL_PORT_SEL_PORT) { ({ p with excl := 0 } : Port).attempt 3 d.clk.core with laneErrs := [] }).raise Ev.KL_RETRAIN [(c.f F.KL_PORT_SEL_PORT, 8)]).answer m 0 0))) ∧
  (∀ (s : State) (m : Master),
    s.b.respCode m 0x8020 0xF true 2 = 0 →
    ∀ c : Block, c = (s.b) →
    c.on dLINKS = true →
    c.f F.KL_PORT_SEL_PORT < portCount c.syn.agg →
    exec (.klDown m) s = .next (s.put (((c.sendLc (c.f F.KL_PORT_SEL_PORT) .down).declareDown (c.f F.KL_PORT_SEL_PORT) true).answer m 0 0))) ∧
  (∀ (s : State) (m : Master),
    s.b.respCode m 0x8020 0xF true 4 = 0 →
    ∀ c : Block, c = (s.b) →
    c.on dLINKS = true →
    ∀ port : Nat, port = (c.f F.KL_PORT_SEL_PORT) →
    port < portCount c.syn.agg →
    (c.port port).state = 0 →
    c.is (F.KL_PORT_CFG_EN.ix port) = true →
    c.wired port ≠ 0 →
    exec (.klUp m) s = .next (s.put ((c.setPort port ((c.port port).attempt 1 c.clk.core)).answer m 0 0)))

/-- NEG goes out every 500 ns with this end's credits until the partner agrees; an offer below 0x10 fails the attempt with NEG_FAIL; else the lower version is taken with the features both offer and the version allows, NEG_ACK answers with them, the width and this end's credits, and VER_LOW is raised once below MINVER; a NEG_ACK that agrees completes the exchange, another, or one in a failed attempt, changes nothing (R216). -/
def Obligations.LinkNegotiation : Prop :=
  (∀ (s : State) (port : Nat),
    s.b.on dLINKS = true →
    port < portCount s.b.syn.agg →
    (s.b.port port).state = 1 →
    (s.b.port port).agreed = false →
    (s.b.port port).negFail = false →
    (s.b.port port).negSent = none →
    ∀ c : Block, c = (s.b.setPort port { s.b.port port with negSent := some s.b.clk.core }) →
    exec (.negSend port) s = .next (s.put (c.sendLc port (.neg (verCode (c.maxVer port)) 15 [512, 128, 16] (c.wired port))))) ∧
  (∀ (s : State) (port t : Nat),
    s.b.on dLINKS = true →
    port < portCount s.b.syn.agg →
    (s.b.port port).negSent = some t →
    s.b.clk.core < t + s.b.ns 500 →
    exec (.negSend port) s = .next (s.put (s.b))) ∧
  (∀ (s : State) (port ver feat lanes : Nat) (credits : List Nat),
    s.b.on dLINKS = true →
    port < portCount s.b.syn.agg →
    (s.b.port port).state = 1 ∨ (s.b.port port).state = 3 →
    (s.b.port port).negFail = false →
    ver < 0x10 →
    exec (.negReceived port ver feat credits lanes) s = .next (s.put ((s.b.setPort port { s.b.port port with negFail := true }).raise Ev.KL_NEG_FAIL [(port, 8)]))) ∧
  (∀ (s : State) (port ver feat lanes : Nat) (credits : List Nat),
    s.b.on dLINKS = true →
    port < portCount s.b.syn.agg →
    (s.b.port port).state = 1 →
    (s.b.port port).negFail = false →
    0x10 ≤ ver →
    ∀ v : Nat, v = (min (min 2 (s.b.f (F.KL_PORT_CFG_MAXVER.ix port))) (if 0x20 ≤ ver then 2 else if 0x11 ≤ ver then 1 else 0)) →
    ∀ ft : Nat, ft = (15 &&& feat &&& (if v = 2 then 15 else if v = 1 then 3 else 0)) →
    min 2 (s.b.f (F.KL_PORT_CFG_MINVER.ix port)) ≤ v →
    ∀ c : Block, c = (s.b.setPort port { ((s.b.port port).setCredits credits) with ver := v, feat := ft, offered := true }) →
    exec (.negReceived port ver feat credits lanes) s = .next (s.put (c.sendLc port (.negAck (if v = 2 then 0x20 else if v = 1 then 0x11 else 0x10) ft [512, 128, 16] (c.negWidth port ft lanes))))) ∧
  (∀ (s : State) (port ver feat width : Nat) (credits : List Nat),
    s.b.on dLINKS = true →
    port < portCount s.b.syn.agg →
    (s.b.port port).state = 1 ∨ (s.b.port port).state = 3 →
    (s.b.port port).negFail = false →
    (s.b.port port).offered = true →
    verLevel ver = (s.b.port port).ver →
    feat = (s.b.port port).feat →
    exec (.negAckReceived port ver feat credits width) s = .next (s.put (s.b.setPort port { s.b.port port with agreed := true }))) ∧
  (∀ (s : State) (port ver feat width : Nat) (credits : List Nat),
    s.b.on dLINKS = true →
    port < portCount s.b.syn.agg →
    (s.b.port port).negFail = true →
    exec (.negAckReceived port ver feat credits width) s = .next (s.put (s.b))) ∧
  (∀ (s : State) (port ver feat width : Nat) (credits : List Nat),
    s.b.on dLINKS = true →
    port < portCount s.b.syn.agg →
    feat ≠ (s.b.port port).feat →
    exec (.negAckReceived port ver feat credits width) s = .next (s.put (s.b)))

/-- On an ACTIVE port: a stomped frame is discarded and its flits are freed; a frame that fails its check, or whose header its channel does not carry, frees its flits, goes out stomped where it was passed on, is counted and, once, asked for again; a framing error loses the frame in progress on each channel, which on a reserved channel are a free value; a frame with the expected SEQ is taken; a duplicate only frees its flits and has the ACK sent again; a frame beyond asks for a replay, once; ACK fields free held frames and credit, a NAK replays the channels it names; held frames not freed for KL_TIMERS.REPLAY are replayed and counted, the eighth time in a row with REPLAY_LIMIT and a retrain; an ACK goes out ACK_INT after a delivery (R217, R218). A PAUSE on an ACTIVE port sets the timers of the classes it names, all eight without CLASS_PAUSE, a time of 0 clearing them, and raises PAUSE_RX; a timer that has lapsed is cleared, one that runs is left; a pause this block holds is repeated every half TIME while its staging is above LOW, and ended with time 0 when it is not (R219, R220). A flit header, and a frame header with every field at every value it admits, read back what they were laid out from (R207, R209). -/
def Obligations.LinkFramesAndReplay : Prop :=
  (∀ (s : State) (port : Nat) (f : FrameIn),
    s.b.on dLINKS = true →
    port < portCount s.b.syn.agg →
    (s.b.port port).state = 2 →
    f.vc < 3 →
    s.b.que.corrupt = none →
    f.check = .stomped →
    ∀ u : Block, u = (s.b.setPort port { s.b.port port with lastFlit := s.b.clk.core }) →
    exec (.frameReceived port f) s = .next (s.put (u.setPort port ((u.port port).setChan f.vc { (u.port port).chan f.vc with freed := ((u.port port).chan f.vc).freed + (20 + f.payload.length + 61) / 62 })))) ∧
  (∀ (s : State) (port : Nat) (f : FrameIn),
    s.b.on dLINKS = true →
    port < portCount s.b.syn.agg →
    (s.b.port port).state = 2 →
    f.vc < 3 →
    s.b.que.corrupt = none →
    f.check = .bad →
    ∀ u : Block, u = ((s.b.setPort port { s.b.port port with lastFlit := s.b.clk.core }).stompOn port f) →
    ∀ c : Block, c = ((u.setPort port ((u.port port).setChan f.vc { (u.port port).chan f.vc with freed := ((u.port port).chan f.vc).freed + (20 + f.payload.length + 61) / 62 })).count (F.KL_PORT_ERR_CRC.ix port)) →
    ∀ p : Port, p = (c.port port) →
    (p.chan f.vc).nakSent = false →
    exec (.frameReceived port f) s = .next (s.put ((c.setPort port (p.setChan f.vc { p.chan f.vc with nakSent := true })).sendLc port (.nak (2 ^ f.vc) p.ackFields.1 p.ackFields.2)))) ∧
  (∀ (s : State) (port : Nat) (f : FrameIn),
    s.b.on dLINKS = true →
    port < portCount s.b.syn.agg →
    (s.b.port port).state = 2 →
    f.vc < 3 →
    s.b.que.corrupt = none →
    f.check = .good →
    f.proper = false →
    ∀ u : Block, u = ((s.b.setPort port { s.b.port port with lastFlit := s.b.clk.core }).stompOn port f) →
    ∀ c : Block, c = ((u.setPort port ((u.port port).setChan f.vc { (u.port port).chan f.vc with freed := ((u.port port).chan f.vc).freed + (20 + f.payload.length + 61) / 62 })).count (F.KL_PORT_ERR_CRC.ix port)) →
    ∀ p : Port, p = (c.port port) →
    (p.chan f.vc).nakSent = false →
    exec (.frameReceived port f) s = .next (s.put ((c.setPort port (p.setChan f.vc { p.chan f.vc with nakSent := true })).sendLc port (.nak (2 ^ f.vc) p.ackFields.1 p.ackFields.2)))) ∧
  (∀ (s : State) (port : Nat) (f : FrameIn),
    s.b.on dLINKS = true →
    port < portCount s.b.syn.agg →
    (s.b.port port).state = 2 →
    f.vc = 0 →
    s.b.que.corrupt = some port →
    f.check = .good →
    ∀ u : Block, u = (({ s.b with que := { s.b.que with corrupt := none } }).setPort port { s.b.port port with lastFlit := s.b.clk.core }) →
    ∀ c : Block, c = ((u.setPort port { u.port port with bulk := { (u.port port).bulk with freed := (u.port port).bulk.freed + (20 + f.payload.length + 61) / 62 } }).count (F.KL_PORT_ERR_CRC.ix port)) →
    (c.port port).bulk.nakSent = true →
    exec (.frameReceived port f) s = .next (s.put (c))) ∧
  (∀ (s : State) (port mask : Nat) (f : FrameIn),
    s.b.on dLINKS = true →
    port < portCount s.b.syn.agg →
    (s.b.port port).state = 2 →
    f.vc < 3 →
    s.b.que.corrupt = none →
    f.check = .framing mask →
    ∀ u : Block, u = (s.b.setPort port { s.b.port port with lastFlit := s.b.clk.core }) →
    exec (.frameReceived port f) s = .next (s.put ([0, 1, 2].foldl (fun b vc => if bit mask vc = 1 then (b.count (F.KL_PORT_ERR_CRC.ix port)).sendNak port vc else b) u))) ∧
  (∀ (s : State) (port : Nat) (f : FrameIn),
    s.b.on dLINKS = true →
    port < portCount s.b.syn.agg →
    (s.b.port port).state = 2 →
    3 ≤ f.vc →
    ∃ mask : Nat, mask < 8 ∧ exec (.frameReceived port f) s = .next (s.put (s.b.fresh.2.framing port mask))) ∧
  (∀ (s : State) (port : Nat) (f : FrameIn),
    s.b.on dLINKS = true →
    port < portCount s.b.syn.agg →
    (s.b.port port).state = 2 →
    f.vc < 3 →
    s.b.que.corrupt = none →
    f.check = .good →
    f.proper = true →
    ∀ c : Block, c = ((s.b.setPort port { s.b.port port with lastFlit := s.b.clk.core }).applyAck port f.vc (f.ack % 65536)) →
    ∀ p : Port, p = (c.port port) →
    ∀ h : Chan, h = (p.chan f.vc) →
    f.seq = h.expect →
    f.eor = false →
    s.b.syn.agg = true →
    ∀ whole : List Byte, whole = ((if f.sor then [] else (h.rx.getD f.ctx (0, [])).2) ++ f.payload) →
    ∀ d : Block, d = (c.setPort port (p.setChan f.vc { h with expect := (h.expect + 1) % 65536, nakSent := false, freed := h.freed + (20 + f.payload.length + 61) / 62, ackDue := some (h.ackDue.getD c.clk.core), rx := h.rx.put f.ctx (f.cls, whole) })) →
    d.syn.agg = true →
    exec (.frameReceived port f) s = .next (s.put (if f.vc = 0 then d.pauseCheck f.cls else d))) ∧
  (∀ (s : State) (port : Nat) (f : FrameIn),
    s.b.on dLINKS = true →
    port < portCount s.b.syn.agg →
    (s.b.port port).state = 2 →
    f.vc < 3 →
    s.b.que.corrupt = none →
    f.check = .good →
    f.proper = true →
    ∀ c : Block, c = ((s.b.setPort port { s.b.port port with lastFlit := s.b.clk.core }).applyAck port f.vc (f.ack % 65536)) →
    ∀ h : Chan, h = ((c.port port).chan f.vc) →
    f.seq ≠ h.expect →
    before16 f.seq h.expect = true →
    ∀ d : Block, d = (c.setPort port ((c.port port).setChan f.vc { h with freed := h.freed + (20 + f.payload.length + 61) / 62 })) →
    exec (.frameReceived port f) s = .next (s.put (d.setPort port ((d.port port).setChan f.vc { (d.port port).chan f.vc with ackDue := some (h.ackDue.getD d.clk.core) })))) ∧
  (∀ (s : State) (port : Nat) (acks frees : List Nat),
    s.b.on dLINKS = true →
    port < portCount s.b.syn.agg →
    (s.b.port port).state = 2 →
    exec (.ackReceived port acks frees) s = .next (s.put (s.b.takeAcks port acks frees))) ∧
  (∀ (s : State) (port mask : Nat) (acks frees : List Nat),
    s.b.on dLINKS = true →
    port < portCount s.b.syn.agg →
    (s.b.port port).state = 2 →
    exec (.nakReceived port mask acks frees) s = .next (s.put ([0, 1, 2].foldl (fun b vc => if bit mask vc = 1 then b.replay port vc else b) (s.b.takeAcks port acks frees)))) ∧
  (∀ (s : State) (port vc : Nat),
    s.b.on dLINKS = true →
    port < portCount s.b.syn.agg →
    (s.b.port port).state = 2 →
    vc < 3 →
    ∀ h : Chan, h = ((s.b.port port).chan vc) →
    h.held ≠ [] →
    h.baseAt + s.b.us (atLeast1 (s.b.f F.KL_TIMERS_REPLAY)) ≤ s.b.clk.core →
    h.replays + 1 ≠ 8 →
    ∀ held : List Frame, held = (h.held.map (fun f => { f with rpl := true, ack := h.expect })) →
    exec (.replayTimeout port vc) s = .next (s.put ((s.b.setPort port (((s.b.port port).setChan vc { h with held := held, again := held.filter (fun f => !f.stomp), baseAt := s.b.clk.core, replays := h.replays + 1 }).startNext vc s.b.clk.core s.b.stampUi s.b.syn.coreMHz)).count (F.KL_PORT_ERR_REPLAY.ix port)))) ∧
  (∀ (s : State) (port : Nat) (t : Nat),
    s.b.on dLINKS = true →
    port < portCount s.b.syn.agg →
    ∀ p : Port, p = (s.b.port port) →
    p.state = 2 →
    p.bulk.ackDue = some t →
    t + s.b.ns (16 * atLeast1 (s.b.f F.KL_TIMERS_ACK_INT)) ≤ s.b.clk.core →
    exec (.ackSend port) s = .next (s.put ((s.b.setPort port { p with bulk := { p.bulk with ackDue := none }, express := { p.express with ackDue := none }, control := { p.control with ackDue := none } }).sendLc port (.ack [p.bulk.expect, p.express.expect, p.control.expect] [p.bulk.freed % 65536, p.express.freed % 65536, p.control.freed % 65536])))) ∧
  (∀ (s : State) (port mask time : Nat),
    s.b.on dLINKS = true →
    port < portCount s.b.syn.agg →
    (s.b.port port).state = 2 →
    ∀ e : Nat, e = (if time % 65536 = 0 then 0 else s.b.clk.core + s.b.ns (16 * (time % 65536))) →
    ∀ m : Nat, m = (if bit (s.b.port port).feat 1 = 1 then mask else 0xFF) →
    ∀ ps : List Nat, ps = ((List.range 8).map (fun c => if bit m c = 1 then e else ((s.b.port port).pauses[c]?).getD 0)) →
    exec (.pauseReceived port mask time) s = .next (s.put ((s.b.setPort port { s.b.port port with pauses := ps, lastFlit := s.b.clk.core }).raise Ev.KL_PAUSE_RX [(port, 8)]))) ∧
  (∀ (s : State) (port cls : Nat),
    s.b.on dLINKS = true →
    port < portCount s.b.syn.agg →
    ((s.b.port port).pauses[cls % 8]?).getD 0 ≤ s.b.clk.core →
    exec (.pauseExpire port cls) s = .next (s.put (s.b.setPort port { s.b.port port with pauses := setAt (s.b.port port).pauses (cls % 8) 0 }))) ∧
  (∀ (s : State) (port cls : Nat),
    s.b.on dLINKS = true →
    port < portCount s.b.syn.agg →
    s.b.clk.core < ((s.b.port port).pauses[cls % 8]?).getD 0 →
    exec (.pauseExpire port cls) s = .next (s.put (s.b))) ∧
  (∀ (s : State) (port cls t : Nat),
    s.b.on dLINKS = true →
    port < portCount s.b.syn.agg →
    ∀ p : Port, p = (s.b.port port) →
    (p.pausing[cls % 8]?).getD none = some t →
    t + s.b.ns (512 * atLeast1 (s.b.f F.KL_PAUSE_CFG_TIME)) ≤ s.b.clk.core →
    s.b.f F.KL_PAUSE_CFG_LOW * 1024 < s.b.staging (cls % 8) →
    exec (.pauseRepeat port cls) s = .next (s.put ((s.b.setPort port { p with pausing := setAt p.pausing (cls % 8) (some s.b.clk.core) }).sendLc port (.pause (classMask (cls % 8)) (64 * atLeast1 (s.b.f F.KL_PAUSE_CFG_TIME)))))) ∧
  (∀ (s : State) (port cls t : Nat),
    s.b.on dLINKS = true →
    port < portCount s.b.syn.agg →
    ∀ p : Port, p = (s.b.port port) →
    (p.pausing[cls % 8]?).getD none = some t →
    t + s.b.ns (512 * atLeast1 (s.b.f F.KL_PAUSE_CFG_TIME)) ≤ s.b.clk.core →
    s.b.staging (cls % 8) ≤ s.b.f F.KL_PAUSE_CFG_LOW * 1024 →
    exec (.pauseRepeat port cls) s = .next (s.put ((s.b.setPort port { p with pausing := setAt p.pausing (cls % 8) none }).sendLc port (.pause (classMask (cls % 8)) 0)))) ∧
  (∀ (kind vc : Nat) (last : Bool),
    kind < 4 →
    vc < 3 →
    parseFlit (flitHead kind vc last) = some (kind, vc, last)) ∧
  (∀ (f : Frame) (vc : Nat),
    ftypeVc f.ftype = some vc →
    f.cls < 8 →
    f.seq < 2 ^ 16 →
    f.ack < 2 ^ 16 →
    f.lenb < 2 ^ 13 →
    f.ctx < 64 →
    parseHead vc f.head = some { seq := f.seq, ftype := f.ftype, ack := f.ack, cls := f.cls, sor := f.sor, eor := f.eor, rpl := f.rpl, ctx := f.ctx, lenb := f.lenb, content := .bytes [] })

/-- Nothing is scheduled with MON_CTRL.EN clear or where the port cannot start a frame: it is not ACTIVE, its wire is taken or a replay stands before it; else queues and classes are tagged, and where no class has a frame that may start only the tags are kept; where one has, the class chosen is charged and its frame is sent, of an item or of the frames that pass through (R221, R222, R225). COMMIT stages the rate, the burst and the mode of the class selected in place of a pending change; a staged change applies at once or while the class is idle as its mode says: the values in force, each bucket of the class cut to the new burst, and SHAPE_APPLIED; one that waits for a boundary, or for its class to be idle, changes nothing; MON_STATUS shows a gate that closes and one that opens (R223, R224). -/
def Obligations.MonarchChoice : Prop :=
  (∀ (s : State) (port : Nat),
    s.b.is F.MON_CTRL_EN = false ∨ s.b.canStart port = false →
    exec (.bulkSchedule port) s = .next (s.put (s.b))) ∧
  (∀ (s : State) (port : Nat),
    s.b.on dLINKS = true →
    port < portCount s.b.syn.agg →
    s.b.is F.MON_CTRL_EN = true →
    (s.b.port port).state = 2 →
    (s.b.port port).bulk.idle = true →
    (s.b.port port).free 0 s.b.clk.core = true →
    ∀ c : Block, c = (s.b.noteIdle) →
    ∀ p : MonPort, p = (c.tagClasses port (c.tagQueues port (c.monPort port))) →
    c.chooseClass port p = none →
    exec (.bulkSchedule port) s = .next (s.put ({ c with mon := { c.mon with ports := c.mon.ports.put port p } }))) ∧
  (∀ (s : State) (port cls : Nat) (h : MonHead),
    s.b.on dLINKS = true →
    port < portCount s.b.syn.agg →
    s.b.is F.MON_CTRL_EN = true →
    (s.b.port port).state = 2 →
    (s.b.port port).bulk.idle = true →
    (s.b.port port).free 0 s.b.clk.core = true →
    ∀ c : Block, c = (s.b.noteIdle) →
    ∀ p : MonPort, p = (c.tagClasses port (c.tagQueues port (c.monPort port))) →
    c.chooseClass port p = some (cls, h) →
    h.item = none →
    exec (.bulkSchedule port) s = .next (s.put (((c.setMonPort port (c.charge port cls h p)).started cls).sendFwd port))) ∧
  (∀ (s : State) (port cls n : Nat) (h : MonHead),
    s.b.on dLINKS = true →
    port < portCount s.b.syn.agg →
    s.b.is F.MON_CTRL_EN = true →
    (s.b.port port).state = 2 →
    (s.b.port port).bulk.idle = true →
    (s.b.port port).free 0 s.b.clk.core = true →
    ∀ c : Block, c = (s.b.noteIdle) →
    ∀ p : MonPort, p = (c.tagClasses port (c.tagQueues port (c.monPort port))) →
    c.chooseClass port p = some (cls, h) →
    h.item = some n →
    exec (.bulkSchedule port) s = .next (s.put (((c.setMonPort port (c.charge port cls h p)).started cls).sendItem port h.q n h.len))) ∧
  (∀ (s : State) (m : Master) (word : Nat),
    s.b.respCode m 0x901C 0xF true word = 0 →
    bit word 2 = 1 →
    ∀ c : Block, c = (s.b.writeFields 0x901C word) →
    ∀ k : Nat, k = (c.f F.MON_CLASS_SEL_CLASS) →
    exec (.shapeCommit m word) s = .next (s.put (({ c with mon := { c.mon with staged := setAt c.mon.staged k (some { rate := c.f (F.MON_SHAPE_RATE.ix k), burst := c.f (F.MON_SHAPE_BURST.ix k), mode := bits word 0 2 }) } }).answer m 0 0))) ∧
  (∀ (s : State) (cls : Nat) (x : Shape),
    s.b.on dLINKS = true →
    s.b.staged (cls % 8) = some x →
    x.mode = 1 →
    exec (.shapeApply cls) s = .next (s.put (s.b))) ∧
  (∀ (s : State) (cls : Nat) (x : Shape),
    s.b.on dLINKS = true →
    s.b.staged (cls % 8) = some x →
    x.mode ≠ 1 →
    x.mode ≠ 2 →
    ∀ k : Nat, k = (cls % 8) →
    ∀ old : List (Nat × Int), old = ((List.range (portCount s.b.syn.agg)).map (fun n => (n, s.b.tokens n k))) →
    ∀ c : Block, c = ((s.b.setf (F.MON_SHAPE_ACT_RATE.ix k) x.rate).setf (F.MON_SHAPE_ACT_BURST.ix k) x.burst) →
    ∀ d : Block, d = (old.foldl (fun (b : Block) y => b.setMonPort y.1 ((b.monPort y.1).updC k (fun z => { z with tokens := min y.2 ((b.burst k : Nat) : Int), at_ := b.clk.aon }))) c) →
    exec (.shapeApply cls) s = .next (s.put (({ d with mon := { d.mon with staged := setAt d.mon.staged k none } }).raise Ev.MON_SHAPE_APPLIED [(k, 8)]))) ∧
  (∀ (s : State) (cls : Nat) (x : Shape),
    s.b.on dLINKS = true →
    s.b.staged (cls % 8) = some x →
    x.mode = 2 →
    s.b.shapeIdle (cls % 8) = true →
    ∀ k : Nat, k = (cls % 8) →
    ∀ old : List (Nat × Int), old = ((List.range (portCount s.b.syn.agg)).map (fun n => (n, s.b.tokens n k))) →
    ∀ c : Block, c = ((s.b.setf (F.MON_SHAPE_ACT_RATE.ix k) x.rate).setf (F.MON_SHAPE_ACT_BURST.ix k) x.burst) →
    ∀ d : Block, d = (old.foldl (fun (b : Block) y => b.setMonPort y.1 ((b.monPort y.1).updC k (fun z => { z with tokens := min y.2 ((b.burst k : Nat) : Int), at_ := b.clk.aon }))) c) →
    exec (.shapeApply cls) s = .next (s.put (({ d with mon := { d.mon with staged := setAt d.mon.staged k none } }).raise Ev.MON_SHAPE_APPLIED [(k, 8)]))) ∧
  (∀ (s : State) (cls : Nat) (x : Shape),
    s.b.on dLINKS = true →
    s.b.staged (cls % 8) = some x →
    x.mode = 2 →
    s.b.shapeIdle (cls % 8) = false →
    exec (.shapeApply cls) s = .next (s.put (s.b))) ∧
  (∀ (s : State) (cls st en : Nat),
    s.b.on dLINKS = true →
    s.b.is F.ANT_STATUS_TIME_VALID = true →
    ∀ g : Gate, g = ((s.b.mon.gates[cls % 8]?).getD {}) →
    g.window = some (st, en) →
    st ≤ s.b.clk.core →
    s.b.clk.core < en →
    exec (.gateWindowStart cls) s = .next (s.put ({ s.b with mon := { s.b.mon with gates := setAt s.b.mon.gates (cls % 8) { g with closed := true } } }))) ∧
  (∀ (s : State) (cls st en : Nat),
    s.b.on dLINKS = true →
    s.b.is F.ANT_STATUS_TIME_VALID = true →
    ∀ g : Gate, g = ((s.b.mon.gates[cls % 8]?).getD {}) →
    g.window = some (st, en) →
    en ≤ s.b.clk.core →
    exec (.gateWindowEnd cls) s = .next (s.put ({ s.b with mon := { s.b.mon with gates := setAt s.b.mon.gates (cls % 8) { g with closed := false } } })))

/-- A record whose header check fails or whose reserved bits are not 0 is discarded, counted and raises HDR_BAD; one that parses is judged by its binding; a D-role takes none. At the owner a duplicate is counted and answered with the accepted value at once, one already held changes nothing, one beyond the next is counted, answered with GAP and raises GAP, and the next in line is held; a host's report makes its finding when it first arrives, whatever its turn (R196). The adders of the drift channels named fail their check for the channel's next sample, and their reports go out (R193, log entry 149). A mirrored update is kept and counted as confirmed; a relayed record is judged as one received (R28, R229, R237, R241, R245). -/
def Obligations.RecordsReceived : Prop :=
  (∀ (s : State) (port : Nat) (bytes : List Byte) (bad : List Nat),
    ∀ u : Block, u = (({ s.b with vrd := { s.b.vrd with driftBad := s.b.vrd.driftBad ++ bad } }).unstage port 0) →
    u.syn.agg = true →
    u.on dQUEUE = true →
    u.is F.QUE_CTRL_EN = true →
    parseRec bytes = none →
    exec (.recordReceived port bytes bad) s = .next (s.put (((u.count F.QUE_ACC_STAT_HDRBAD).raise Ev.QUE_HDR_BAD).driftReports))) ∧
  (∀ (s : State) (port seq : Nat) (bytes : List Byte) (bad : List Nat) (r : Rec),
    ∀ u : Block, u = (({ s.b with vrd := { s.b.vrd with driftBad := s.b.vrd.driftBad ++ bad } }).unstage port 0) →
    u.syn.agg = true →
    u.on dQUEUE = true →
    u.is F.QUE_CTRL_EN = true →
    u.isT = true →
    parseRec bytes = some (r, seq) →
    r.epoch ≠ 0 →
    u.binding r.ldi r.epoch = false →
    exec (.recordReceived port bytes bad) s = .next (s.put (((u.quarantine { r with raw := none } bytes).startUnbind port r.ldi r.epoch).driftReports))) ∧
  (∀ (s : State) (port : Nat) (bytes : List Byte) (bad : List Nat),
    ∀ u : Block, u = (({ s.b with vrd := { s.b.vrd with driftBad := s.b.vrd.driftBad ++ bad } }).unstage port 0) →
    u.syn.agg = false →
    exec (.recordReceived port bytes bad) s = .next (s.put ((u).driftReports))) ∧
  (∀ (b : Block) (r : Rec) (seq : Nat) (bytes : List Byte),
    b.coc.flush = false →
    before48 seq (b.key r.ldi r.epoch r.stream).acc = true →
    ∀ c : Block, c = (b.count F.QUE_ACC_STAT_DUP) →
    b.ownRecord r seq bytes = c.sendAccept r.ldi r.epoch false [{ stream := r.stream, seq := ((c.key r.ldi r.epoch r.stream).sure + 2 ^ 48 - 1) % 2 ^ 48 }]) ∧
  (∀ (b : Block) (r : Rec) (seq : Nat) (bytes : List Byte),
    b.coc.flush = false →
    before48 seq (b.key r.ldi r.epoch r.stream).acc = false →
    before48 seq (b.key r.ldi r.epoch r.stream).next = true →
    b.ownRecord r seq bytes = b) ∧
  (∀ (b : Block) (r : Rec) (seq : Nat) (bytes : List Byte),
    before48 seq (b.key r.ldi r.epoch r.stream).acc = false →
    before48 seq (b.key r.ldi r.epoch r.stream).next = false →
    seq ≠ (b.key r.ldi r.epoch r.stream).next →
    ∀ a : Block, a = (b.reportArrived r seq) →
    a.coc.flush = false →
    ∀ c : Block, c = (a.count F.QUE_ACC_STAT_GAP) →
    b.ownRecord r seq bytes = (c.sendAccept r.ldi r.epoch true [{ stream := r.stream, seq := ((c.key r.ldi r.epoch r.stream).sure + 2 ^ 48 - 1) % 2 ^ 48 }]).raise Ev.QUE_GAP [(r.ldi, 20), (r.epoch, 16), (r.stream, 16)]) ∧
  (∀ (b : Block) (r : Rec) (bytes : List Byte),
    ∀ k : OwnKey, k = (b.key r.ldi r.epoch r.stream) →
    before48 k.next k.acc = false →
    before48 k.next k.next = false →
    ∀ a : Block, a = (b.reportArrived r k.next) →
    a.coc.flush = false →
    ∀ c : Block, c = ({ a with vrd := { a.vrd with found := a.vrd.found.filter (fun x => x != (r.ldi, r.epoch, r.stream, k.next)) } }) →
    b.ownRecord r k.next bytes = c.hold r.ldi r.epoch r.stream k.next r.sev bytes) ∧
  (∀ (b : Block) (r : Rec) (seq : Nat),
    r.typ ≠ 0x60 →
    b.reportArrived r seq = b) ∧
  (∀ (b : Block) (r : Rec) (seq : Nat),
    r.typ = 0x60 →
    b.vrd.found.contains (r.ldi, r.epoch, r.stream, seq) = false →
    ∀ c : Block, c = ({ b with vrd := { b.vrd with found := (r.ldi, r.epoch, r.stream, seq) :: b.vrd.found } }) →
    b.reportArrived r seq = c.corrupt r.ldi r.bytes) ∧
  (∀ (s : State) (ldi epoch stream next acc : Nat),
    s.b.syn.agg = true →
    s.b.mirrorUp = true →
    epoch ≠ 0 →
    ∀ c : Block, c = (s.b.unstage (if (s.b.port 130).state = 2 then 130 else 131) 0) →
    ∀ l : List Mirror, l = ((c.que.mirror.filter (fun x => match x with | .stream a b d _ _ => !(a == ldi && b == epoch && d == stream) | _ => true)) ++ [.stream ldi epoch stream next acc]) →
    exec (.mirrorReceived (.stream ldi epoch stream next acc)) s = .next (s.put ({ c with que := { c.que with mirror := l, confirmed := c.que.confirmed + 1 } }))) ∧
  (∀ (s : State) (bytes : List Byte) (r : Rec) (seq : Nat),
    s.b.syn.agg = true →
    s.b.mirrorUp = true →
    parseRec bytes = some (r, seq) →
    ∀ port : Nat, port = (if (s.b.port 130).state = 2 then 130 else 131) →
    ∀ c : Block, c = (s.b.unstage port 0) →
    exec (.mirrorReceived (.relay bytes)) s = .next (s.put (({ c with que := { c.que with confirmed := c.que.confirmed + 1 } }).judgeRecord port r seq bytes true)))

/-- A D-role ignores an ACCEPT that does not name its binding and takes each entry of one that does; an aggregator passes it back the way the record came; an ACCEPT not yet due is not sent; a stream with a record unaccepted for RTO without progress is sent again, one without changes nothing (R237, R241); an ACCEPT of 1 to 23 entries reads back what its bytes were laid out from (R240). -/
def Obligations.AcceptAndRetransmit : Prop :=
  (∀ (s : State) (port epoch ldi : Nat) (gap : Bool) (es : List AcceptEntry),
    ∀ u : Block, u = (s.b.unstage port 2) →
    u.syn.agg = false →
    epoch ≠ u.f F.SELF_EPOCH_EPOCH →
    exec (.acceptReceived port epoch ldi gap es) s = .next (s.put (u))) ∧
  (∀ (s : State) (port epoch ldi : Nat) (gap : Bool) (es : List AcceptEntry),
    ∀ u : Block, u = (s.b.unstage port 2) →
    u.syn.agg = false →
    u.on dQUEUE = true →
    u.is F.SELF_LDI_BOUND = true →
    epoch = u.f F.SELF_EPOCH_EPOCH →
    ldi = u.f F.SELF_LDI_INDEX →
    exec (.acceptReceived port epoch ldi gap es) s = .next (s.put (es.foldl (fun b e => b.acceptEntry gap e) u))) ∧
  (∀ (b : Block) (e : AcceptEntry),
    ∀ st : StreamSt, st = (b.que.streams.getD e.stream {}) →
    ∀ top : Nat, top = ((e.seq + 1) % 2 ^ 48) →
    before48 st.acc top = true →
    ∀ keep : Item → Bool, keep = (fun i => !(i.body.stream == e.stream && (match i.seq with | some s => before48 s top | none => false))) →
    ∀ qs : SMap QueSt, qs = (b.que.queues.map (fun q => (q.1, { q.2 with items := q.2.items.filter keep }))) →
    b.acceptEntry false e = { b with que := { b.que with queues := qs, streams := b.que.streams.put e.stream { st with acc := top, progress := b.clk.core } } }) ∧
  (∀ (b : Block) (e : AcceptEntry),
    before48 (StreamSt.acc (b.que.streams.getD e.stream {})) ((e.seq + 1) % 2 ^ 48) = false →
    b.acceptEntry false e = b) ∧
  (∀ (s : State) (port p epoch ldi : Nat) (gap : Bool) (es : List AcceptEntry),
    ∀ u : Block, u = (s.b.unstage port 2) →
    u.syn.agg = true →
    u.fab.via.find ldi = some p →
    p ≠ port →
    exec (.acceptReceived port epoch ldi gap es) s = .next (s.put (u.sendMsg p (.accept epoch ldi gap es)))) ∧
  (∀ (s : State) (ldi : Nat) (k : OwnKey),
    s.b.syn.agg = true →
    s.b.on dQUEUE = true →
    k.dueSince = some 0 →
    s.b.ns (100 * s.b.f F.QUE_ACC_CFG_COALESCE) ≤ s.b.clk.core →
    s.b.toReport ldi = [k] →
    ∀ c : Block, c = (s.b.setKey { k with reported := k.sure, dueSince := if k.sure = k.acc then none else some s.b.clk.core }) →
    exec (.acceptSend ldi) s = .next (s.put (c.sendAccept ldi k.epoch false [{ stream := k.stream, seq := (k.sure + 2 ^ 48 - 1) % 2 ^ 48 }]))) ∧
  (∀ (s : State) (ldi : Nat),
    s.b.syn.agg = true →
    s.b.on dQUEUE = true →
    s.b.toReport ldi = [] →
    exec (.acceptSend ldi) s = .next (s.put (s.b))) ∧
  (∀ (s : State) (stream : Nat),
    s.b.syn.agg = false →
    s.b.on dQUEUE = true →
    s.b.outstanding stream = true →
    StreamSt.progress (s.b.que.streams.getD stream {}) + s.b.us (atLeast1 (s.b.f F.QUE_HOLD_CFG_RTO)) ≤ s.b.clk.core →
    ∀ mine : Item → Bool, mine = (fun i => i.body.stream == stream && i.seq.isSome && i.sent) →
    ∀ n : Nat, n = (s.b.que.queues.foldl (fun a q => a + (q.2.items.filter mine).length) 0) →
    ∀ qs : SMap QueSt, qs = (s.b.que.queues.map (fun q => (q.1, { q.2 with items := q.2.items.map (fun i => if mine i then { i with sent := false, off := 0, ctx := none } else i) }))) →
    exec (.retransmitTimeout stream) s = .next (s.put (({ s.b with que := { s.b.que with queues := qs, streams := s.b.que.streams.put stream { s.b.que.streams.getD stream {} with progress := s.b.clk.core } } }).count F.QUE_HOLD_STAT_RETX n))) ∧
  (∀ (s : State) (stream : Nat),
    s.b.outstanding stream = false →
    exec (.retransmitTimeout stream) s = .next (s.put (s.b))) ∧
  (∀ (epoch ldi : Nat) (gap : Bool) (es : List AcceptEntry),
    epoch < 2 ^ 16 →
    ldi < 2 ^ 20 →
    es ≠ [] →
    es.length ≤ 23 →
    es.all (fun e => decide (e.stream < 2 ^ 16) && decide (e.seq < 2 ^ 48)) = true →
    parseAccept (acceptBytes epoch ldi gap es) = some (epoch, ldi, gap, es))

/-- A queue with room after drops takes a QUE_LOSS record; FLUSH discards and counts every item without a SEQ, after the records that drains have formed have entered, and FLUSHING stays until a push and a drain's record in progress are gone; a START takes its room, is dropped where the queue takes none or by its policy, or waits; a word is appended while the push is open and is PUSH_BAD otherwise; END puts the item in its queue or discards it with PUSH_BAD, ABORT withdraws a waiting push and discards an open one with PUSH_BAD; a waiting push opens when the room appears, and is dropped where its queue has come to take no item (R234, R235, R236). -/
def Obligations.FlushAndPush : Prop :=
  (∀ (s : State) (q : Nat) (l : Loss),
    ∀ k : Nat, k = (s.b.qnum q) →
    ∀ x : QueSt, x = (s.b.queue k) →
    x.loss = some l →
    s.b.takes k = true →
    s.b.room k 88 l.sev = true →
    exec (.queueLoss q) s = .next (s.put ((s.b.setQueue k { x with loss := none }).append k (s.b.lossRec k l 0 0) true))) ∧
  (∀ (s : State) (m : Master),
    s.b.respCode m 0xA020 0xF true 1 = 0 →
    ∀ q : Nat, q = (s.b.qnum (s.b.f F.QUE_SEL_QUEUE)) →
    (s.b.queue q).flushing = false →
    ∀ d : Block, d = (((s.b.cutDrains).doomDrain q false).doomDrain q true) →
    d.que.push = none →
    ∀ gone : List Item, gone = ((d.queue q).items.filter (fun i => i.seq.isNone)) →
    ∀ kept : List Item, kept = ((d.queue q).items.filter (fun i => i.seq.isSome)) →
    ∀ c : Block, c = ((d.setQueue q { d.queue q with items := kept, flushing := d.drainDoomed q false || d.drainDoomed q true }).count (F.QUE_DROPS_FLUSHED.ix q) gone.length) →
    ∀ launched : List (Nat × Nat), launched = (c.mon.launched.filter (fun l => !(gone.any (fun i => i.num == l.2)))) →
    exec (.queueFlush m) s = .next (s.put (({ c with mon := { c.mon with launched := launched } }).answer m 0 0))) ∧
  (∀ (s : State) (q : Nat),
    (s.b.queue (s.b.qnum q)).flushing = true →
    s.b.que.push = none →
    s.b.drainDoomed (s.b.qnum q) false = false →
    s.b.drainDoomed (s.b.qnum q) true = false →
    exec (.flushDone q) s = .next (s.put (s.b.setQueue (s.b.qnum q) { s.b.queue (s.b.qnum q) with flushing := false }))) ∧
  (∀ (s : State) (m : Master) (word : Nat),
    s.b.respCode m 0xA034 0xF true word = 0 →
    word % 8 = 1 →
    s.b.que.push = none →
    ∀ q : Nat, q = (s.b.qnum (s.b.f F.QUE_SEL_QUEUE)) →
    ∀ len : Nat, len = (bits word 16 16) →
    ∀ sev : Nat, sev = (bits word 5 3) →
    s.b.takes q = true →
    4 * (12 + 2 * len) ≤ s.b.capacity q →
    s.b.holdRoom s.b.holdUsed (4 * (12 + 2 * len)) sev = true →
    s.b.room q (4 * (12 + 2 * len)) sev = true →
    exec (.pushStart m word) s = .next (s.put (({ s.b with que := { s.b.que with push := some { queue := q, len := len, sev := sev } } }).answer m 0 0))) ∧
  (∀ (s : State) (m : Master) (word : Nat),
    s.b.respCode m 0xA034 0xF true word = 0 →
    word % 8 = 1 →
    s.b.que.push = none →
    ∀ q : Nat, q = (s.b.qnum (s.b.f F.QUE_SEL_QUEUE)) →
    s.b.takes q = false →
    exec (.pushStart m word) s = .next (s.put ((s.b.dropBytes q (4 * (12 + 2 * bits word 16 16)) s.b.phase (bits word 5 3)).answer m 0 0))) ∧
  (∀ (s : State) (m : Master) (word : Nat),
    s.b.respCode m 0xA034 0xF true word = 0 →
    word % 8 ≠ 0 →
    word % 8 ≠ 1 →
    word % 8 ≠ 2 →
    word % 8 ≠ 4 →
    exec (.pushStart m word) s = .next (s.put ((s.b.raise Ev.QUE_PUSH_BAD).answer m 0 0))) ∧
  (∀ (s : State) (m : Master) (word : Nat) (p : Push),
    s.b.respCode m 0xA030 0xF true word = 0 →
    s.b.que.push = some p →
    p.waiting = false →
    exec (.pushData m word) s = .next (s.put (({ s.b with que := { s.b.que with push := some { p with words := (p.words ++ [word % 2 ^ 32]).take (13 + 2 * p.len) } } }).answer m 0 0))) ∧
  (∀ (s : State) (m : Master) (word : Nat),
    s.b.respCode m 0xA030 0xF true word = 0 →
    s.b.que.push = none →
    exec (.pushData m word) s = .next (s.put ((s.b.raise Ev.QUE_PUSH_BAD).answer m 0 0))) ∧
  (∀ (s : State) (m : Master) (p : Push) (r : Rec),
    s.b.respCode m 0xA034 0xF true 2 = 0 →
    s.b.que.push = some p →
    p.waiting = false →
    p.doomed = false →
    ∀ c : Block, c = ({ s.b with que := { s.b.que with push := none } }) →
    c.pushRec p = some r →
    exec (.pushEnd m) s = .next (s.put ((c.pushEnter p r).answer m 0 0))) ∧
  (∀ (s : State) (m : Master) (p : Push),
    s.b.respCode m 0xA034 0xF true 2 = 0 →
    s.b.que.push = some p →
    p.waiting = false →
    p.doomed = false →
    ∀ c : Block, c = ({ s.b with que := { s.b.que with push := none } }) →
    p.words.length ≠ 12 + 2 * p.len →
    exec (.pushEnd m) s = .next (s.put ((c.raise Ev.QUE_PUSH_BAD).answer m 0 0))) ∧
  (∀ (s : State) (m : Master) (p : Push),
    s.b.respCode m 0xA034 0xF true 4 = 0 →
    s.b.que.push = some p →
    p.waiting = true →
    exec (.pushAbort m) s = .next (s.put (({ s.b with que := { s.b.que with push := none } }).answer m 0 0))) ∧
  (∀ (s : State) (m : Master) (p : Push),
    s.b.respCode m 0xA034 0xF true 4 = 0 →
    s.b.que.push = some p →
    p.waiting = false →
    ∀ c : Block, c = ({ s.b with que := { s.b.que with push := none } }) →
    exec (.pushAbort m) s = .next (s.put (((c.flushDone p.queue).raise Ev.QUE_PUSH_BAD).answer m 0 0))) ∧
  (∀ (s : State) (p : Push),
    s.b.que.push = some p →
    p.waiting = true →
    s.b.takes p.queue = true →
    s.b.room p.queue (4 * (12 + 2 * p.len)) p.sev = true →
    exec (.pushReserved) s = .next (s.put ({ s.b with que := { s.b.que with push := some { p with waiting := false } } }))) ∧
  (∀ (s : State) (p : Push),
    s.b.que.push = some p →
    p.waiting = true →
    s.b.takes p.queue = false →
    ∀ c : Block, c = ({ s.b with que := { s.b.que with push := none } }) →
    exec (.pushReserved) s = .next (s.put (c.dropBytes p.queue (4 * (12 + 2 * p.len)) c.phase p.sev)))

/-- A confirmed update leaves the list of those sent, a record's copy counts as mirrored and a stream's state as sure, acceptance goes on and RESYNC may end; a procedure that has not stalled is renewed every TAKEOVER / 4; one without a renewal for TAKEOVER is taken over with REPOCH one more: its failed controller's block is driven over VSB, and where there is no VSB its steps go on here; ARM arms an injection slot with its trigger; a slot that is due is refused with INJ_REFUSED or injects its fault with INJECTED; a rehearsal that is over emits its record (R238, R245, R249, R250). -/
def Obligations.RecoveryAndRehearsal : Prop :=
  (∀ (s : State) (key : Nat) (m : MirrorUpd) (ldi epoch stream seq : Nat) (bytes : List Byte),
    s.b.syn.agg = true →
    s.b.on dQUEUE = true →
    s.b.que.mirrorOut.find? (fun x => x.num == key) = some m →
    m.upd = .record ldi epoch stream seq bytes →
    ∀ c : Block, c = ({ s.b with que := { s.b.que with mirrorOut := s.b.que.mirrorOut.filter (fun x => x.num != key) } }) →
    ∀ k : OwnKey, k = (c.key ldi epoch stream) →
    ∀ held : List Held, held = (k.held.map (fun h => if h.seq = seq then { h with mirrored := true } else h)) →
    exec (.mirrorConfirm key) s = .next (s.put ((c.setKey { k with held := held }).acceptAll.resyncCheck))) ∧
  (∀ (s : State) (key : Nat),
    s.b.syn.agg = true →
    s.b.on dQUEUE = true →
    s.b.que.mirrorOut.find? (fun x => x.num == key) = none →
    (s.b.procOf 4 0).isSome = false →
    exec (.mirrorConfirm key) s = .next (s.put (s.b))) ∧
  (∀ (s : State) (p : Proc),
    s.b.on dQUEUE = true →
    s.b.que.procs = [p] →
    p.stalled = false →
    p.renewed + s.b.takeoverTime / 4 ≤ s.b.clk.core →
    exec (.procedureRenew) s = .next (s.put ((s.b.putProc { p with renewed := s.b.clk.core }).toMirror (.proc p.proc p.ldi p.step p.repoch p.epoch p.ploc p.port)))) ∧
  (∀ (s : State) (who : Nat) (p : Proc),
    s.b.syn.agg = true →
    s.b.on dQUEUE = true →
    s.b.que.remote.find? (fun x => decide (x.renewed + s.b.takeoverTime ≤ s.b.clk.core)) = some p →
    ∀ p2 : Proc, p2 = ({ p with ctrl := who % 4, repoch := (p.repoch + 1) % 65536, renewed := s.b.clk.core, stalled := false }) →
    ∀ remote : List Proc, remote = (s.b.que.remote.filter (fun x => !(x.proc == p.proc && x.ldi == p.ldi))) →
    ∀ c : Block, c = (({ s.b with que := { s.b.que with remote := remote } }).raiseCtr (2032 + p.proc) p2.repoch) →
    ∀ d : Block, d = (c.raise Ev.QUE_REC_TAKEOVER [(p.proc, 8), (p2.repoch, 16)]) →
    d.vsbOn = true →
    exec (.procedureTakeover who) s = .next (s.put ({ d with vsb := { d.vsb with queue := d.vsb.queue ++ [d.procFrame p2] }, que := { d.que with driven := d.que.driven ++ [p2] } }))) ∧
  (∀ (s : State) (who : Nat) (p : Proc),
    s.b.syn.agg = true →
    s.b.on dQUEUE = true →
    s.b.que.remote.find? (fun x => decide (x.renewed + s.b.takeoverTime ≤ s.b.clk.core)) = some p →
    ∀ p2 : Proc, p2 = ({ p with ctrl := who % 4, repoch := (p.repoch + 1) % 65536, renewed := s.b.clk.core, stalled := false }) →
    ∀ remote : List Proc, remote = (s.b.que.remote.filter (fun x => !(x.proc == p.proc && x.ldi == p.ldi))) →
    ∀ c : Block, c = (({ s.b with que := { s.b.que with remote := remote } }).raiseCtr (2032 + p.proc) p2.repoch) →
    ∀ d : Block, d = (c.raise Ev.QUE_REC_TAKEOVER [(p.proc, 8), (p2.repoch, 16)]) →
    d.vsbOn = false →
    exec (.procedureTakeover who) s = .next (s.put (d.resumeProc p2))) ∧
  (∀ (s : State) (who : Nat),
    s.b.que.remote = [] →
    exec (.procedureTakeover who) s = .next (s.put (s.b))) ∧
  (∀ (s : State) (m : Master) (word : Nat),
    s.b.respCode m 0xA084 0xF true word = 0 →
    bit word 4 = 1 →
    ∀ c : Block, c = (s.b.writeFields 0xA084 word) →
    ∀ n : Nat, n = (c.f F.QUE_INJ_SEL_SLOT) →
    ∀ at_ : Nat, at_ = (c.f (F.QUE_INJ_AT_LO_AT.ix n) + 2 ^ 32 * c.f (F.QUE_INJ_AT_HI_AT.ix n)) →
    exec (.injectionArm m word) s = .next (s.put (({ c with que := { c.que with injArmed := c.que.injArmed.put n at_, injRepeat := c.que.injRepeat.del n } }).answer m 0 0))) ∧
  (∀ (s : State) (slot : Nat),
    s.b.injDue (slot % 8) = false →
    exec (.injectionFire slot) s = .next (s.put (s.b))) ∧
  (∀ (s : State) (slot : Nat),
    ∀ n : Nat, n = (slot % 8) →
    s.b.injDue n = true →
    s.b.on dQUEUE = true →
    s.b.f (F.QUE_INJ_CFG_PERIOD.ix n) = 0 →
    ∀ c : Block, c = ({ s.b with que := { s.b.que with injArmed := s.b.que.injArmed.del n, injRepeat := s.b.que.injRepeat.del n } }) →
    c.injRefused = true →
    1 ≤ s.b.f (F.QUE_INJ_CFG_KIND.ix n) →
    s.b.f (F.QUE_INJ_CFG_KIND.ix n) ≤ 5 →
    exec (.injectionFire slot) s = .next (s.put (c.raise Ev.QUE_INJ_REFUSED))) ∧
  (∀ (s : State) (slot : Nat),
    ∀ n : Nat, n = (slot % 8) →
    s.b.injDue n = true →
    s.b.on dQUEUE = true →
    s.b.f (F.QUE_INJ_CFG_PERIOD.ix n) = 0 →
    ∀ c : Block, c = ({ s.b with que := { s.b.que with injArmed := s.b.que.injArmed.del n, injRepeat := s.b.que.injRepeat.del n } }) →
    c.injRefused = false →
    ∀ k : Nat, k = (s.b.f (F.QUE_INJ_CFG_KIND.ix n)) →
    1 ≤ k →
    k ≤ 5 →
    ∀ at_ : Nat, at_ = (c.f (F.QUE_INJ_CFG_TARGET.ix n)) →
    ∀ d : Block, d = ({ c with que := { c.que with inj := some { slot := n, kind := k, start := c.clk.core, target := at_ } } }) →
    exec (.injectionFire slot) s = .next (s.put ((d.raise Ev.QUE_INJECTED).injectFault k at_))) ∧
  (∀ (s : State) (slot : Nat) (i : Inj),
    s.b.que.inj = some i →
    i.slot = slot →
    s.b.injOver i = true →
    ∀ us : Nat, us = ((s.b.clk.core - i.start) / s.b.syn.coreMHz) →
    ∀ c : Block, c = ({ s.b with que := { s.b.que with inj := none, muteUntil := none } }) →
    exec (.rehearsalDone slot) s = .next (s.put (c.emit (c.f (F.QUE_RDEST_QUEUE.at 6)) (c.f (F.QUE_RDEST_STREAM.at 6)) 0x41 3 0 0 (leBytes 4 i.slot ++ leBytes 4 i.kind ++ leBytes 8 us ++ leBytes 8 i.procs))))

/-- At an aggregator with SWARM on: a partial for an entry freed is late, one from outside the expected set or a second one is stray, a sound one is retained, one whose residues do not match is asked for again, once; at the cutoff an open entry closes; END passes to the children and frees the entry, an END for a freed tag does nothing; without END by the grace the transaction ends with TIMEOUT and ORPHAN; RESEND sends the retained partial again; START opens the entry and passes on, a D-role in its groups contributes to it (R141, R142, R146 to R148, R154). -/
def Obligations.SwarmMessages : Prop :=
  (∀ (s : State) (port : Nat) (p : Partial),
    s.b.syn.agg = true →
    ∀ u : Block, u = (s.b.unstage port 1) →
    u.swarmOn = true →
    u.swm.refused.contains p.tag = false →
    u.swm.freed.contains p.tag = true →
    exec (.partialReceived port p) s = .next (s.put (u.raise Ev.SWM_LATE [(p.tag, 64)]))) ∧
  (∀ (s : State) (port : Nat) (p : Partial) (t : Txn),
    s.b.syn.agg = true →
    ∀ u : Block, u = (s.b.unstage port 1) →
    u.swarmOn = true →
    u.swm.refused.contains p.tag = false →
    u.swm.freed.contains p.tag = false →
    u.txn p.tag = some t →
    t.ghost = false →
    t.state = 0 →
    wallBeyond u.wall t.w (u.cutAfter t) = false →
    t.expect.contains p.child = false →
    exec (.partialReceived port p) s = .next (s.put (u.raise Ev.SWM_STRAY [(p.tag, 64)]))) ∧
  (∀ (s : State) (port : Nat) (p : Partial) (t : Txn),
    s.b.syn.agg = true →
    ∀ u : Block, u = (s.b.unstage port 1) →
    u.swarmOn = true →
    u.swm.refused.contains p.tag = false →
    u.swm.freed.contains p.tag = false →
    u.txn p.tag = some t →
    t.ghost = false →
    t.state = 0 →
    wallBeyond u.wall t.w (u.cutAfter t) = false →
    t.expect.contains p.child = true →
    t.heard.contains p.child = false →
    p.sound = true →
    exec (.partialReceived port p) s = .next (s.put (u.retain t (.partial_ p)))) ∧
  (∀ (s : State) (port : Nat) (p : Partial) (t : Txn),
    s.b.syn.agg = true →
    ∀ u : Block, u = (s.b.unstage port 1) →
    u.swarmOn = true →
    u.swm.refused.contains p.tag = false →
    u.swm.freed.contains p.tag = false →
    u.txn p.tag = some t →
    t.ghost = false →
    t.state = 0 →
    wallBeyond u.wall t.w (u.cutAfter t) = false →
    t.expect.contains p.child = true →
    t.heard.contains p.child = false →
    p.sound = false →
    t.resent.contains p.child = false →
    exec (.partialReceived port p) s = .next (s.put (((u.raise Ev.SWM_RESEND).putTxn { t with resent := p.child :: t.resent }).sendMsg port (.resend p.tag)))) ∧
  (∀ (s : State) (tag : Nat) (t : Txn),
    s.b.txn tag = some t →
    s.b.swarmOn = true →
    t.state = 0 →
    wallPast s.b.wall t.w (s.b.cutAfter t) = true →
    exec (.transactionCutoff tag) s = .next (s.put (s.b.closeTxn t))) ∧
  (∀ (s : State) (tag : Nat),
    s.b.txn tag = none →
    exec (.transactionCutoff tag) s = .next (s.put (s.b))) ∧
  (∀ (s : State) (port tag code : Nat) (t : Txn),
    s.b.on dSWARM = true →
    ∀ u : Block, u = (s.b.unstage port 2) →
    u.syn.agg = true →
    u.swm.freed.contains tag = false →
    u.txn tag = some t →
    exec (.endReceived port tag code) s = .next (s.put (((u.sendAll (u.portsOf t.expect) (.end_ tag code)).noteEnd tag code).freeTxn tag))) ∧
  (∀ (s : State) (port tag code : Nat),
    s.b.on dSWARM = true →
    ∀ u : Block, u = (s.b.unstage port 2) →
    u.syn.agg = false →
    u.swm.freed.contains tag = false →
    ∀ mine : List OpenTag, mine = (u.swm.mine.filter (fun o => o.tag != tag)) →
    exec (.endReceived port tag code) s = .next (s.put (({ u with swm := { u.swm with mine := mine } }).noteEnd tag code))) ∧
  (∀ (s : State) (port tag code : Nat),
    s.b.on dSWARM = true →
    ∀ u : Block, u = (s.b.unstage port 2) →
    u.swm.freed.contains tag = true →
    exec (.endReceived port tag code) s = .next (s.put (u))) ∧
  (∀ (s : State) (tag : Nat) (t : Txn),
    s.b.on dSWARM = true →
    s.b.txn tag = some t →
    wallPast s.b.wall t.w (s.b.graceAfter t.deadline) = true →
    exec (.endGrace tag) s = .next (s.put ((s.b.endTag tag 1).raise Ev.SWM_ORPHAN [(tag, 64)]))) ∧
  (∀ (s : State) (port tag : Nat) (t : Txn) (p : Partial),
    ∀ u : Block, u = (s.b.unstage port 2) →
    u.on dSWARM = true →
    u.txn tag = some t →
    t.sent = some p →
    exec (.resendReceived port tag) s = .next (s.put (u.sendSwarm port (.partial_ p)))) ∧
  (∀ (s : State) (port tag w : Nat) (l : List Coll),
    ∀ u : Block, u = (s.b.unstage port 2) →
    u.swarmOn = true →
    u.tagBatch tag = some l →
    u.syn.agg = true →
    u.newTag tag = true →
    (u.isRoot = true ∨ u.expected l ≠ []) →
    u.entryFree (tagSw tag) = true →
    ∀ c : Block, c = ({ u with swm := { u.swm with txns := u.swm.txns ++ [{ tag := tag, w := w, colls := l, expect := u.expected l }] } }) →
    exec (.startReceived port tag w) s = .next (s.put (c.sendAll c.downPorts (.start tag w)))) ∧
  (∀ (s : State) (port tag w : Nat) (l : List Coll),
    ∀ u : Block, u = (s.b.unstage port 2) →
    u.swarmOn = true →
    u.tagBatch tag = some l →
    u.syn.agg = false →
    tagSw tag = true →
    u.is F.SELF_LDI_BOUND = true →
    l.all (fun x => u.inGroup x.group u.selfLdi) = true →
    u.newTag tag = true →
    u.swm.mine.any (fun o => o.tag == tag) = false →
    exec (.startReceived port tag w) s = .next (s.put (u.contribute { tag := tag, ldi := u.selfLdi, epoch := u.selfEpoch, cause := 0, wall := u.wall, parts := l.map (fun x => u.elemsOf x 0 u.phase) } w ((l.head?.map (fun x => x.deadline)).getD 1000)))) ∧
  (∀ (s : State) (port tag w : Nat),
    ∀ u : Block, u = (s.b.unstage port 2) →
    u.swarmOn = true →
    u.syn.agg = true →
    u.tagBatch tag = none →
    exec (.startReceived port tag w) s = .next (s.put (u.sendAll u.downPorts (.start tag w))))

/-- A reduction that is over without a mismatch goes on to its decision or its partial; a first mismatch of residues that are not congruent is kept for one run more on another lane; GO at the root of a collective of software launches counts the launch and sends START; ABORT ends its open transactions with ABORTED; RUNCLR clears the accumulators, here and in the mirror; a fence that leaves a lane only writes the register; a read of SWM_LAST_END_LO latches MID and HI (R142, R146, R153 to R155). -/
def Obligations.SwarmCommands : Prop :=
  (∀ (s : State) (tag : Nat) (t : Txn),
    s.b.txn tag = some t →
    s.b.swarmOn = true →
    t.state = 1 →
    s.b.freeLanes ≠ [] →
    t.first = none →
    exec (.reductionDone tag none) s = .next (s.put (s.b.finTxn t))) ∧
  (∀ (s : State) (tag lane op fmt ex ob : Nat) (t : Txn),
    s.b.txn tag = some t →
    s.b.swarmOn = true →
    t.state = 1 →
    t.first = none →
    s.b.freeLanes.filter (fun l => l != lane) ≠ [] →
    s.b.freeLanes ≠ [] →
    resEq ex ob = false →
    exec (.reductionDone tag (some (lane, op, fmt, ex, ob))) s = .next (s.put (s.b.putTxn { t with first := some { lane := lane, op := op, fmt := fmt, exp := ex, obs := ob, seen := s.b.seen } }))) ∧
  (∀ (s : State) (tag lane op fmt ex ob : Nat) (t : Txn),
    s.b.txn tag = some t →
    s.b.swarmOn = true →
    t.state = 1 →
    t.first = none →
    s.b.freeLanes.filter (fun l => l != lane) ≠ [] →
    s.b.freeLanes ≠ [] →
    resEq ex ob = true →
    exec (.reductionDone tag (some (lane, op, fmt, ex, ob))) s = .next (s.put (s.b.finTxn t))) ∧
  (∀ (s : State) (tag : Nat),
    s.b.txn tag = none →
    exec (.reductionDone tag none) s = .next (s.put (s.b))) ∧
  (∀ (s : State) (m : Master) (word : Nat),
    s.b.respCode m 0x5050 0xF true word = 0 →
    ∀ c : Block, c = (s.b.writeFields 0x5050 word) →
    c.swarmOn = true →
    c.isRoot = true →
    c.is (F.SWM_COLL_CFG_EN.ix (word % 4096)) = true →
    c.is (F.SWM_COLL_CFG_SW.ix (word % 4096)) = true →
    ∀ n : Nat, n = ((c.swm.launches + 1) % 2 ^ 40) →
    exec (.swarmLaunch m word) s = .next (s.put ((({ c with swm := { c.swm with launches := n } }).startTag (swTag true (word % 4096) n 0) c.wall).answer m 0 0))) ∧
  (∀ (s : State) (m : Master) (word : Nat),
    s.b.respCode m 0x5050 0xF true word = 0 →
    ∀ c : Block, c = (s.b.writeFields 0x5050 word) →
    c.isRoot = false →
    exec (.swarmLaunch m word) s = .next (s.put (c.answer m 0 0))) ∧
  (∀ (s : State) (m : Master) (word : Nat),
    s.b.respCode m 0x5050 0xF true word = 0 →
    ∀ c : Block, c = (s.b.writeFields 0x5050 word) →
    c.swarmOn = true →
    c.isRoot = true →
    exec (.swarmAbort m word) s = .next (s.put (((c.swm.txns.filter (fun t => decide (t.state < 2) && t.colls.any (fun x => x.num == word % 4096))).foldl (fun b t => b.finTxn { t with err := lowErr t.err 8 }) c).answer m 0 0))) ∧
  (∀ (s : State) (m : Master) (word : Nat),
    s.b.respCode m 0x5050 0xF true word = 0 →
    ∀ c : Block, c = (s.b.writeFields 0x5050 word) →
    exec (.runningClear m word) s = .next (s.put (({ c with swm := { c.swm with running := c.swm.running.del (word % 4096) } }.toMirror (.running (word % 4096) [])).answer m 0 0))) ∧
  (∀ (s : State) (m : Master) (k word : Nat),
    ∀ off : Nat, off = (0x5100 + 4 * (k % 8)) →
    s.b.respCode m off 0xF true word = 0 →
    ∀ c : Block, c = (s.b.writeFields off word) →
    c.freeLanes ≠ [] →
    exec (.laneFenceWrite m k word) s = .next (s.put (c.answer m 0 0))) ∧
  (∀ (s : State) (m : Master),
    s.b.respCode m 0x5010 0xF false 0 = 0 →
    exec (.lastEndRead m) s = .next (s.put (((s.b.setf F.SWM_LAST_END_MID_TAG_HI (s.b.swm.lastEnd.1 / 2 ^ 32)).setf F.SWM_LAST_END_HI_CODE s.b.swm.lastEnd.2).answer m 0 (s.b.swm.lastEnd.1 % 2 ^ 32))))

/-- A delayed trigger that is due queues a request, dropped with PASS_SKIP and counted where eight wait; the oldest request begins when nothing runs and a model is active: the first two batches are copied; a batch that is done is scored and the next copied; a pass whose batches are done emits its records and is judged; the copy of a model ends with SWAP; a fence with no pass running writes the register; a local pass ends on the model it began on: output 0 at the threshold or above makes the hit, its hold and its row's record, a fenced tile an ERROR entry; a read of HWK_ROW_LO latches the row's other registers (R166, R175 to R182). -/
def Obligations.HawkmothPasses : Prop :=
  (∀ (s : State) (ens : Nat) (t : Nat × Nat × Nat),
    s.b.hwk.triggers.find? (fun x => x.1 == ens && decide (x.2.1 ≤ s.b.clk.core)) = some t →
    s.b.on dHAWK = true →
    s.b.hwk.queue.length < 8 →
    ∀ hwk : Hwk, hwk = ({ s.b.hwk with triggers := s.b.hwk.triggers.erase t, queue := s.b.hwk.queue ++ [{ ens := ens, phase := t.2.2, wall := s.b.wall }] }) →
    exec (.passRequest ens) s = .next (s.put ({ s.b with hwk := hwk }))) ∧
  (∀ (s : State) (ens : Nat),
    s.b.hwk.triggers = [] →
    exec (.passRequest ens) s = .next (s.put (s.b))) ∧
  (∀ (s : State) (q : PassReq) (l : List PassReq),
    s.b.hwk.queue = q :: l →
    s.b.on dHAWK = true →
    s.b.is F.HWK_CTRL_EN = true →
    s.b.hwk.pass = none →
    s.b.hwk.swap = none →
    s.b.hwk.active.isSome = true →
    ∀ c : Block, c = ({ s.b with hwk := { s.b.hwk with queue := l } }) →
    ∀ r : List (Nat × Row) × Block, r = (c.copyBatch q.ens 0) →
    ∀ x : List (Nat × Row) × Block, x = (r.2.copyBatch q.ens r.1.length) →
    ∀ b : Block, b = (x.2.readAhead q.ens (r.1.length + x.1.length)) →
    b.freeTiles ≠ [] →
    exec (.passStart) s = .next (s.put ({ b with hwk := { b.hwk with pass := some { req := q, batch := r.1, ahead := x.1, next := r.1.length + x.1.length, tiles := b.freeTiles } } }))) ∧
  (∀ (s : State),
    s.b.hwk.queue = [] →
    exec (.passStart) s = .next (s.put (s.b))) ∧
  (∀ (s : State) (faults : List TreeFault),
    s.b.hwk.pass = none →
    exec (.batchDone faults) s = .next (s.put (s.b))) ∧
  (∀ (s : State) (p : Pass) (m : Model),
    s.b.hwk.pass = some p →
    s.b.hwk.active = some m →
    s.b.on dHAWK = true →
    p.batch ≠ [] →
    s.b.freeTiles ≠ [] →
    s.b.hwk.lost = false →
    ∀ e : Ens, e = (m.ensemble p.req.ens) →
    ∀ ss : List Score, ss = (p.batch.zipIdx.map (fun v => scoreRow m e v.1.1 v.1.2 (s.b.lostOuts e [] v.2))) →
    ∀ r : List (Nat × Row) × Block, r = (s.b.copyBatch p.req.ens p.next) →
    ∀ b : Block, b = (r.2.readAhead p.req.ens (p.next + r.1.length)) →
    exec (.batchDone []) s = .next (s.put ({ b with hwk := { b.hwk with pass := some { p with batch := p.ahead, ahead := r.1, next := p.next + r.1.length, done := p.done ++ ss, tiles := b.freeTiles } } }))) ∧
  (∀ (s : State) (p : Pass),
    s.b.hwk.pass = some p →
    s.b.on dHAWK = true →
    p.batch = [] →
    s.b.ensCount p.req.ens ≤ p.done.length →
    s.b.is (F.HWK_ENS_CFG_EMIT.ix p.req.ens) = false →
    ∀ c : Block, c = ({ s.b with hwk := { s.b.hwk with pass := none, copying := s.b.hwk.swap.isSome } }) →
    exec (.passDone) s = .next (s.put (c.judgeScores p.req p.done))) ∧
  (∀ (s : State) (m : Model),
    s.b.on dHAWK = true →
    s.b.hwk.swap = some m →
    s.b.hwk.copying = true →
    ∀ c : Block, c = ({ s.b with hwk := { s.b.hwk with badTrees := [], active := some m, swap := none, copying := false } }) →
    exec (.modelCopyDone) s = .next (s.put (c.showTrees.raise Ev.HWK_SWAP))) ∧
  (∀ (s : State) (m : Master) (word : Nat),
    s.b.respCode m 0x6010 0xF true word = 0 →
    s.b.hwk.pass = none →
    exec (.tileFenceWrite m word) s = .next (s.put ((s.b.setf F.HWK_TILE_FENCE_FENCE word).tilesGone.answer m 0 0))) ∧
  (∀ (s : State) (faults : List TreeFault),
    s.b.hwk.lpass = none →
    exec (.localPassDone faults) s = .next (s.put (s.b))) ∧
  (∀ (s : State) (phase wall : Nat) (r : Row) (m : Model),
    s.b.hwk.lpass = some (phase, wall, r) →
    s.b.hwk.lmodel = some m →
    s.b.on dHAWK = true →
    s.b.freeTiles ≠ [] →
    s.b.hwk.lost = false →
    ∀ sc : Score, sc = (scoreLocal m (m.ensemble 0) r (s.b.lostOuts (m.ensemble 0) [] 0)) →
    hits ((sc.outs.head?.map (fun o => o.1)).getD 0) (s.b.f F.HWK_LOCAL_TH_TH) = false →
    s.b.hwk.hold = 0 →
    s.b.is F.HWK_LOCAL_CFG_EMIT = false →
    exec (.localPassDone []) s = .next (s.put ({ s.b with hwk := { s.b.hwk with lpass := none, lmodel := none, lost := false, hold := 0 } }))) ∧
  (∀ (s : State) (phase wall : Nat) (r : Row) (m : Model),
    s.b.hwk.lpass = some (phase, wall, r) →
    s.b.hwk.lmodel = some m →
    s.b.on dHAWK = true →
    s.b.freeTiles ≠ [] →
    s.b.hwk.lost = false →
    ∀ sc : Score, sc = (scoreLocal m (m.ensemble 0) r (s.b.lostOuts (m.ensemble 0) [] 0)) →
    (s.b.lostOuts (m.ensemble 0) [] 0).contains 0 = false →
    hits ((sc.outs.head?.map (fun o => o.1)).getD 0) (s.b.f F.HWK_LOCAL_TH_TH) = true →
    ∀ c : Block, c = (({ s.b with hwk := { s.b.hwk with lpass := none, lmodel := none, lost := false } }).raise Ev.HWK_LOCAL_HIT) →
    ∀ h : Block, h = ({ c with hwk := { c.hwk with hold := s.b.f F.HWK_LOCAL_CFG_HOLD } }) →
    ∀ nf : Nat, nf = ((s.b.localFeats.getLast?.getD 0) + 1) →
    ∀ e : Block, e = (h.emitAt (h.f F.HWK_LOCAL_DEST_QUEUE) (h.f F.HWK_LOCAL_DEST_STREAM) 0x22 3 0 0 phase wall (featRowPayload (h.f F.HWK_LOCAL_CFG_IDX) nf r)) →
    exec (.localPassDone []) s = .next (s.put (if e.is F.HWK_LOCAL_CFG_EMIT then
      e.emitAt (h.f F.HWK_LOCAL_DEST_QUEUE) (h.f F.HWK_LOCAL_DEST_STREAM) 0x21 11 (scoreFlags [sc]) 0 phase wall (scorePayload 0 (m.ensemble 0).base.length [sc]) else e))) ∧
  (∀ (s : State) (phase wall : Nat) (r : Row) (m : Model),
    s.b.hwk.lpass = some (phase, wall, r) →
    s.b.hwk.lmodel = some m →
    s.b.on dHAWK = true →
    (s.b.freeTiles = [] ∨ s.b.hwk.lost = true) →
    s.b.hwk.hold = 0 →
    s.b.is F.HWK_LOCAL_CFG_EMIT = false →
    exec (.localPassDone []) s = .next (s.put (({ s.b with hwk := { s.b.hwk with lpass := none, lmodel := none, lost := false } }).raise Ev.HWK_SCORE_ERR [(0, 8), (0, 16), (0, 16), (0, 8)]))) ∧
  (∀ (s : State) (m : Master),
    s.b.respCode m 0x60A4 0xF false 0 = 0 →
    s.b.syn.agg = true →
    ∀ x : Feat, x = (SMap.getD (s.b.row (s.b.f F.HWK_ROW_SEL_ENTITY)).feats (s.b.f F.HWK_ROW_SEL_FEATURE) {}) →
    exec (.rowRead m) s = .next (s.put ((((s.b.setf F.HWK_ROW_HI_KEY_HI (x.key / 2 ^ 32)).setb F.HWK_ROW_STAT_VALID x.valid).setb F.HWK_ROW_STAT_CACHED (s.b.hwk.cached.contains (s.b.f F.HWK_ROW_SEL_ENTITY))).answer m 0 (x.key % 2 ^ 32))))

/-- At the acting root a round whose time has come closes with its main record, one whose time has not come stays open; a supplement goes out two wingbeat periods after its main record; a TRAY_SUM is taken at the root and sent on elsewhere, on both links, and of two copies of one the second is dropped (the model's choice, log entry 148); an interval whose end and CLOSE have passed closes, one whose have not stays open; a write of TARIFF_AT_HI changes the entry as a whole, from the next interval while the account is kept, with TARIFF_LATE where its AT has passed (R184, R185, R189, R200, R201, R205). -/
def Obligations.RoundsAndEnergy : Prop :=
  (∀ (s : State) (step idx : Nat) (r : Round),
    s.b.vrd.rounds.find? (fun x => x.step == step && x.idx == idx) = some r →
    s.b.verdictRoot = true →
    wallPast s.b.wall r.w ((100 * min 100000 (s.b.f F.VRD_PLAN_OFFSET) : Nat) : Int) = true →
    exec (.roundClose step idx) s = .next (s.put (s.b.closeRound r))) ∧
  (∀ (s : State) (step idx : Nat) (r : Round),
    s.b.vrd.rounds.find? (fun x => x.step == step && x.idx == idx) = some r →
    wallPast s.b.wall r.w ((100 * min 100000 (s.b.f F.VRD_PLAN_OFFSET) : Nat) : Int) = false →
    exec (.roundClose step idx) s = .next (s.put (s.b))) ∧
  (∀ (s : State) (c : Closed),
    s.b.verdictRoot = true →
    s.b.vrd.closed.reverse.find? (fun x => x.any && !x.gone && decide (x.at_ + 2 * s.b.wbPeriod ≤ s.b.clk.core)) = some c →
    ∀ closed : List Closed, closed = (s.b.vrd.closed.map (fun x => if x = c then { x with gone := true } else x)) →
    c.any = true →
    c.gone = false →
    exec (.supplementEmit) s = .next (s.put ((({ s.b with vrd := { s.b.vrd with closed := closed } }).emitVerdict c.step c.idx true c.nopeer c.fleet c.trays c.entries).raise Ev.VRD_AFTER_PLAN))) ∧
  (∀ (s : State),
    s.b.vrd.closed = [] →
    exec (.supplementEmit) s = .next (s.put (s.b))) ∧
  (∀ (s : State) (port : Nat) (t : TraySum),
    ∀ u : Block, u = (s.b.unstage port 2) →
    u.syn.agg = true →
    u.isRoot = true →
    u.vrd.taken.contains t = false →
    ∀ c : Block, c = ({ u with vrd := { u.vrd with taken := (t :: u.vrd.taken).take 4096 } }) →
    exec (.traySumReceived port t) s = .next (s.put (c.takeSum t))) ∧
  (∀ (s : State) (port : Nat) (t : TraySum),
    ∀ u : Block, u = (s.b.unstage port 2) →
    u.syn.agg = true →
    u.isRoot = false →
    u.vrd.taken.contains t = false →
    ∀ c : Block, c = ({ u with vrd := { u.vrd with taken := (t :: u.vrd.taken).take 4096 } }) →
    exec (.traySumReceived port t) s = .next (s.put (c.sendAll upstream (.traySum t)))) ∧
  (∀ (s : State) (port : Nat) (t : TraySum),
    ∀ u : Block, u = (s.b.unstage port 2) →
    u.syn.agg = true →
    u.vrd.taken.contains t = true →
    exec (.traySumReceived port t) s = .next (s.put (u))) ∧
  (∀ (s : State) (k : Nat),
    s.b.vrd.nextK = some k →
    s.b.energyOn = true →
    s.b.intervalPast k (s.b.f F.VRD_EN_CFG_CLOSE) = true →
    ∀ c : Block, c = (s.b.closeInterval (s.b.intervalState k) false false) →
    exec (.intervalClose) s = .next (s.put ({ c with vrd := { c.vrd with nextK := some (k + 1) } }))) ∧
  (∀ (s : State) (k : Nat),
    s.b.vrd.nextK = some k →
    s.b.intervalPast k (s.b.f F.VRD_EN_CFG_CLOSE) = false →
    exec (.intervalClose) s = .next (s.put (s.b))) ∧
  (∀ (s : State) (m : Master) (word : Nat),
    s.b.respCode m 0x7218 0xF true word = 0 →
    s.b.syn.agg = true →
    ∀ i : Nat, i = (s.b.f F.TARIFF_SEL_ENTRY) →
    ∀ c : Block, c = (s.b.writeFields 0x7218 word) →
    c.energyOn = false →
    ∀ t : Tariff, t = ({ at_ := c.f (F.TARIFF_AT_LO_AT_LO.ix i) + word % 2 ^ 16 * 2 ^ 32, price := c.f (F.TARIFF_PRICE_PRICE.ix i), valid := bit word 31 == 1, since := 0 }) →
    ∀ old : List Tariff, old = ((c.vrd.tariffs.getD i []).filter (fun x => decide (x.since < 0))) →
    exec (.tariffWrite m word) s = .next (s.put (({ c with vrd := { c.vrd with tariffs := c.vrd.tariffs.put i (t :: old) } }).answer m 0 0))) ∧
  (∀ (s : State) (m : Master) (word : Nat),
    s.b.respCode m 0x7218 0xF true word = 0 →
    s.b.syn.agg = false →
    exec (.tariffWrite m word) s = .next (s.put (s.b.answer m 0 0)))

/-- A job whose time is over is coded from its context's counts, which are then those of its last block; where the packed record is not shorter the original leaves with NOT_SMALLER, counted; one whose checking inflater disagrees ends with CHECK, a failed job and a report; a job whose time is not over goes on; a stopped trace job resumes on a free engine; RESET forgets a context's counts; a fence that is written acts on the jobs of the engines it names (R252, R256, R261 to R264). -/
def Obligations.SilkwormJobs : Prop :=
  (∀ (s : State) (e : Nat) (j : SlkJob),
    s.b.jobOn e = some j →
    s.b.on dCODEC = true →
    j.since + s.b.takeTime (j.body.bytes.length - j.base) + 64 ≤ s.b.clk.core →
    j.trace = none →
    ∀ z : List Byte × Nat × Option (List Nat × List Nat), z = (deflate j.body.bytes s.b.slkDepth s.b.slkBlock (s.b.slkCtx (j.ctx.getD 0))) →
    ∀ p : Rec, p = (packedRec j.body (j.ctx.getD 0) z.1 z.2.1) →
    p.bytes.length < j.body.bytes.length →
    exec (.jobDone e false) s = .next (s.put (((s.b.setCtx (j.ctx.getD 0) z.2.2).putJob { j with engine := none, out := some p }).slkGo))) ∧
  (∀ (s : State) (e : Nat) (j : SlkJob),
    s.b.jobOn e = some j →
    s.b.on dCODEC = true →
    j.since + s.b.takeTime (j.body.bytes.length - j.base) + 64 ≤ s.b.clk.core →
    j.trace = none →
    ∀ z : List Byte × Nat × Option (List Nat × List Nat), z = (deflate j.body.bytes s.b.slkDepth s.b.slkBlock (s.b.slkCtx (j.ctx.getD 0))) →
    ∀ p : Rec, p = (packedRec j.body (j.ctx.getD 0) z.1 z.2.1) →
    j.body.bytes.length ≤ p.bytes.length →
    exec (.jobDone e false) s = .next (s.put (((((s.b.setCtx (j.ctx.getD 0) z.2.2).putJob { j with engine := none, out := some j.body }).count F.SLK_STATS_NOTSMALL).raise Ev.SLK_NOT_SMALLER [(j.ctx.getD 0, 8), (j.body.typ, 8)]).slkGo))) ∧
  (∀ (s : State) (e : Nat) (j : SlkJob),
    s.b.jobOn e = some j →
    s.b.on dCODEC = true →
    j.since + s.b.takeTime (j.body.bytes.length - j.base) + 64 ≤ s.b.clk.core →
    j.trace = none →
    ∀ c : Block, c = ((s.b.raise Ev.SLK_CHECK [(j.ctx.getD 0, 8), (j.body.typ, 8)]).failJob j) →
    exec (.jobDone e true) s = .next (s.put ((c.checkFail 2 e 2 0 0 e 0 0 (j.ctx.getD 0) false).slkGo))) ∧
  (∀ (s : State) (e : Nat) (chk : Bool) (j : SlkJob),
    s.b.jobOn e = some j →
    s.b.clk.core < j.since + s.b.takeTime (j.body.bytes.length - j.base) + 64 →
    exec (.jobDone e chk) s = .next (s.put (s.b))) ∧
  (∀ (s : State) (e n : Nat) (j : SlkJob),
    s.b.jobOn e = some j →
    s.b.on dCODEC = true →
    s.b.traceWaits j.queue (s.b.jobOut j) = true →
    j.trace = some n →
    ∀ r : Nat × Nat, r = (progressAt j.body.bytes s.b.slkDepth s.b.slkBlock (j.base + s.b.takenIn (s.b.clk.core - j.since)) (s.b.slkCtx (j.ctx.getD 0))) →
    exec (.jobStop e) s = .next (s.put ((((s.b.putJob { j with engine := none, stopped := true, base := r.1 }).showTrace n r.1 r.2).raise Ev.SLK_STOP).slkGo))) ∧
  (∀ (s : State) (e : Nat),
    s.b.jobOn e = none →
    exec (.jobStop e) s = .next (s.put (s.b))) ∧
  (∀ (s : State) (buf : Nat) (j : SlkJob),
    s.b.slk.jobs.find? (fun x => x.trace == some buf && x.stopped) = some j →
    s.b.on dCODEC = true →
    s.b.traceWaits j.queue (s.b.jobOut j) = false →
    exec (.jobResume buf) s = .next (s.put ((s.b.putJob { j with stopped := false }).assign))) ∧
  (∀ (s : State) (m : Master) (word : Nat),
    s.b.respCode m 0xB024 0xF true word = 0 →
    ∀ c : Block, c = (s.b.writeFields 0xB024 word) →
    ∀ n : Nat, n = (if c.syn.agg then c.f F.SLK_RULE_SEL_RULE else c.f F.SLK_RULE_SEL_RULE % 16) →
    exec (.contextReset m word) s = .next (s.put (({ c with slk := { c.slk with ctxs := c.slk.ctxs.del n } }).answer m 0 0))) ∧
  (∀ (s : State) (m : Master) (word : Nat),
    s.b.respCode m 0xB010 0xF true word = 0 →
    exec (.engineFenceWrite m word) s = .next (s.put (((s.b.setf F.SLK_ENG_FENCE_FENCE (if s.b.syn.agg then word % 16 else word % 2)).slkFenced).answer m 0 0)))

/-- A group closes when it is full or GTIME after its first byte, and not before; a target with a valid parameter page of a good geometry is used, another excluded with TARGET_FAIL; a program that passes marks its page; a read goes down the ladder; an append to copy A that passes lets copy B begin; a target that fails every operation for 1 ms is excluded; the patrol reads only pages with unreleased or FIRST data, while its duty is scheduled; recovery ends READY with RECOVERED, or in FAULT below 320 GB; an aggregator not READY 1 s after start keeps its heartbeats back (R268 to R280, R287). -/
def Obligations.JournalAndMedium : Prop :=
  (∀ (s : State) (t : Nat),
    ∀ c : Block, c = (s.b.consume) →
    c.mayClose = true →
    c.coc.flush = false →
    c.coc.bufSince = some t →
    t + c.us (atLeast1 (c.f F.COC_CFG_GTIME)) ≤ c.clk.core →
    exec (.groupClose) s = .next (s.put (c.closeGroup.settleAll))) ∧
  (∀ (s : State),
    ∀ c : Block, c = (s.b.consume) →
    c.coc.flush = false →
    c.coc.bufSince = none →
    exec (.groupClose) s = .next (s.put (c))) ∧
  (∀ (s : State),
    ∀ c : Block, c = (s.b.consume) →
    c.mayClose = true →
    c.coc.flush = true →
    c.coc.buf = [] →
    c.coc.flushG = none →
    c.coc.progs = [] →
    c.coc.raises = [] →
    exec (.groupClose) s = .next (s.put (c.flushEnd.settleAll))) ∧
  (∀ (s : State) (ch tgt : Nat) (g : Geo),
    s.b.syn.agg = true →
    s.b.on dSTORE = true →
    bit s.b.syn.nvmPresent ch = 1 →
    tgt < 8 →
    g.good = true →
    exec (.nandStatus (.param ch tgt (some g))) s = .next (s.put ({ s.b with coc := { s.b.coc with tgts := s.b.coc.tgts.put (ch * 8 + tgt) g, excl := s.b.coc.excl.filter (fun x => x != ch * 8 + tgt) } }))) ∧
  (∀ (s : State) (ch tgt : Nat),
    s.b.syn.agg = true →
    s.b.on dSTORE = true →
    bit s.b.syn.nvmPresent ch = 1 →
    tgt < 8 →
    exec (.nandStatus (.param ch tgt none)) s = .next (s.put (({ s.b with coc := { s.b.coc with excl := s.b.coc.excl ++ [ch * 8 + tgt] } }).raise Ev.COC_TARGET_FAIL [(ch, 8), (tgt, 8), (0, 32)]))) ∧
  (∀ (s : State) (ch tgt blk page : Nat),
    s.b.syn.agg = true →
    s.b.on dSTORE = true →
    ∀ c : Coc, c = ({ s.b.coc with failing := s.b.coc.failing.del (ch * 8 + tgt) }) →
    exec (.nandStatus (.program ch tgt blk page true)) s = .next (s.put (({ s.b with coc := c.mapPages (fun p => if p.isAt ch tgt blk page then { p with ok := true } else p) }).settleAll))) ∧
  (∀ (s : State) (ch tgt blk page : Nat) (l : Ladder),
    s.b.syn.agg = true →
    s.b.on dSTORE = true →
    l.step = 1 →
    l.fixed ≤ s.b.f F.COC_SCRUB_TH →
    exec (.nandStatus (.read ch tgt blk page l)) s = .next (s.put (s.b))) ∧
  (∀ (s : State) (slot v : Nat) (l : List (Nat × Nat × Bool)),
    s.b.syn.agg = true →
    s.b.on dSTORE = true →
    s.b.coc.raises = (slot, v, false) :: l →
    exec (.nandStatus (.counter false true)) s = .next (s.put ({ s.b with coc := { s.b.coc with logA := s.b.coc.logA.put slot (max v (s.b.coc.logA.getD slot 0)), raises := (slot, v, true) :: l } }))) ∧
  (∀ (s : State) (ch tgt t : Nat),
    s.b.coc.failing.find (ch * 8 + tgt) = some t →
    t + aonUs 1000 ≤ s.b.clk.aon →
    exec (.targetFailTimeout ch tgt) s = .next (s.put ((s.b.excludeTgt ch tgt).settleAll))) ∧
  (∀ (s : State) (ch tgt : Nat),
    s.b.coc.failing.find (ch * 8 + tgt) = none →
    exec (.targetFailTimeout ch tgt) s = .next (s.put (s.b))) ∧
  (∀ (s : State) (ch tgt blk page : Nat) (l : Ladder),
    s.b.coc.patrolled ch tgt blk page = false →
    exec (.patrolRead ch tgt blk page l) s = .next (s.put (s.b))) ∧
  (∀ (s : State) (ch tgt blk page : Nat) (l : Ladder),
    s.b.syn.agg = true →
    s.b.cocReady = true →
    s.b.threadRuns 6 = true →
    s.b.coc.patrolled ch tgt blk page = true →
    s.b.f F.COC_SCRUB_AGE = 0 →
    exec (.patrolRead ch tgt blk page l) s = .next (s.put (s.b.ladder ch tgt blk page l))) ∧
  (∀ (s : State) (bad : List (Nat × Nat × Nat)),
    s.b.on dSTORE = true →
    s.b.f F.COC_STATUS_STATE = 1 →
    s.b.syn.agg = true →
    s.b.coc.capKib * 1024 < 320 * 10 ^ 9 →
    exec (.journalRecoveryDone bad) s = .next (s.put (s.b.setf F.COC_STATUS_STATE 3))) ∧
  (∀ (s : State),
    s.b.on dSTORE = true →
    s.b.f F.COC_STATUS_STATE = 1 →
    s.b.syn.agg = false →
    ∀ c : Block, c = ((s.b.setf F.COC_STATUS_STATE 2).raise Ev.COC_RECOVERED) →
    exec (.journalRecoveryDone []) s = .next (s.put (({ c with fab := { c.fab with cocSilent := false } }).opResume))) ∧
  (∀ (s : State) (t : Nat),
    s.b.coc.since = some t →
    s.b.syn.agg = true →
    s.b.f F.COC_STATUS_STATE ≠ 2 →
    t + aonUs 1000000 ≤ s.b.clk.aon →
    exec (.cocoonReadyTimeout) s = .next (s.put ({ s.b with fab := { s.b.fab with cocSilent := true } }))) ∧
  (∀ (s : State),
    s.b.f F.COC_STATUS_STATE = 2 →
    exec (.cocoonReadyTimeout) s = .next (s.put (s.b)))

/-- While Cocoon is READY each cursor command writes AREA and PAGE and moves its cursor: with a record to load it reads BUSY, with none it shows how the move ended at once; the load done, the cursor stands at its record with its tag and STAT; RELEASE moves the release point up to the cursor's record and one, and never back, and does nothing in the D build; the low word of each 64-bit value latches its high word (R278, R281, R282, R292). -/
def Obligations.CursorsAndReleases : Prop :=
  (∀ (s : State) (m : Master) (word : Nat),
    s.b.respCode m 0xC10C 0xF true (word / 8 * 8 + 1) = 0 →
    ∀ c : Block, c = (s.b.writeFields 0xC10C word) →
    c.f F.COC_STATUS_STATE = 2 →
    ∀ n : Nat, n = (c.curNum) →
    (c.curMove n 1).2 = none →
    exec (.cursorOldest m word) s = .next (s.put (((c.setCursor n { c.cursor n with load := none }).setf (F.COC_CUR_CTRL_STAT.ix n) (c.curMove n 1).1).answer m 0 0))) ∧
  (∀ (s : State) (m : Master) (word : Nat) (r : JRec),
    s.b.respCode m 0xC10C 0xF true (word / 8 * 8 + 2) = 0 →
    ∀ c : Block, c = (s.b.writeFields 0xC10C word) →
    c.f F.COC_STATUS_STATE = 2 →
    ∀ n : Nat, n = (c.curNum) →
    (c.curMove n 2).2 = some r →
    exec (.cursorNewest m word) s = .next (s.put (((c.setCursor n { c.cursor n with load := some ((c.curMove n 2).1, r.jpos, some r) }).setf (F.COC_CUR_CTRL_STAT.ix n) 1).answer m 0 0))) ∧
  (∀ (s : State) (m : Master) (word : Nat) (r : JRec),
    s.b.respCode m 0xC10C 0xF true (word / 8 * 8 + 1) = 0 →
    ∀ c : Block, c = (s.b.writeFields 0xC10C word) →
    c.f F.COC_STATUS_STATE = 2 →
    ∀ n : Nat, n = (c.curNum) →
    (c.curMove n 1).2 = some r →
    exec (.cursorOldest m word) s = .next (s.put (((c.setCursor n { c.cursor n with load := some ((c.curMove n 1).1, r.jpos, some r) }).setf (F.COC_CUR_CTRL_STAT.ix n) 1).answer m 0 0))) ∧
  (∀ (s : State) (m : Master) (word : Nat) (r : JRec),
    s.b.respCode m 0xC10C 0xF true (word / 8 * 8 + 4) = 0 →
    ∀ c : Block, c = (s.b.writeFields 0xC10C word) →
    c.f F.COC_STATUS_STATE = 2 →
    ∀ n : Nat, n = (c.curNum) →
    (c.curMove n 4).2 = some r →
    exec (.cursorPrev m word) s = .next (s.put (((c.setCursor n { c.cursor n with load := some ((c.curMove n 4).1, r.jpos, some r) }).setf (F.COC_CUR_CTRL_STAT.ix n) 1).answer m 0 0))) ∧
  (∀ (s : State) (m : Master) (word : Nat) (r : JRec),
    s.b.respCode m 0xC10C 0xF true (word / 8 * 8 + 5) = 0 →
    ∀ c : Block, c = (s.b.writeFields 0xC10C word) →
    c.f F.COC_STATUS_STATE = 2 →
    ∀ n : Nat, n = (c.curNum) →
    (c.curMove n 5).2 = some r →
    exec (.cursorSeek m word) s = .next (s.put (((c.setCursor n { c.cursor n with load := some ((c.curMove n 5).1, r.jpos, some r) }).setf (F.COC_CUR_CTRL_STAT.ix n) 1).answer m 0 0))) ∧
  (∀ (s : State) (m : Master) (word : Nat) (r : JRec),
    s.b.respCode m 0xC10C 0xF true (word / 8 * 8 + 3) = 0 →
    ∀ c : Block, c = (s.b.writeFields 0xC10C word) →
    c.f F.COC_STATUS_STATE = 2 →
    ∀ n : Nat, n = (c.curNum) →
    (c.curMove n 3).2 = some r →
    exec (.cursorNext m word) s = .next (s.put (((c.setCursor n { c.cursor n with load := some ((c.curMove n 3).1, r.jpos, some r) }).setf (F.COC_CUR_CTRL_STAT.ix n) 1).answer m 0 0))) ∧
  (∀ (s : State) (m : Master) (word : Nat),
    s.b.respCode m 0xC10C 0xF true (word / 8 * 8 + 4) = 0 →
    ∀ c : Block, c = (s.b.writeFields 0xC10C word) →
    c.f F.COC_STATUS_STATE = 2 →
    ∀ n : Nat, n = (c.curNum) →
    (c.curMove n 4).2 = none →
    exec (.cursorPrev m word) s = .next (s.put (((c.setCursor n { c.cursor n with load := none }).setf (F.COC_CUR_CTRL_STAT.ix n) (c.curMove n 4).1).answer m 0 0))) ∧
  (∀ (s : State) (m : Master) (word : Nat),
    s.b.respCode m 0xC10C 0xF true (word / 8 * 8 + 5) = 0 →
    ∀ c : Block, c = (s.b.writeFields 0xC10C word) →
    c.f F.COC_STATUS_STATE = 2 →
    ∀ n : Nat, n = (c.curNum) →
    (c.curMove n 5).2 = none →
    exec (.cursorSeek m word) s = .next (s.put (((c.setCursor n { c.cursor n with load := none }).setf (F.COC_CUR_CTRL_STAT.ix n) (c.curMove n 5).1).answer m 0 0))) ∧
  (∀ (s : State) (m : Master) (word : Nat),
    s.b.respCode m 0xC10C 0xF true (word / 8 * 8 + 6) = 0 →
    ∀ c : Block, c = (s.b.writeFields 0xC10C word) →
    c.syn.agg = true →
    c.is (F.COC_CUR_CTRL_AREA.ix c.curNum) = false →
    c.f F.COC_STATUS_STATE = 2 →
    ∀ j : Nat, j = ((c.cursor c.curNum).pos + 1) →
    j ≤ c.coc.nextJ →
    c.coc.rel < j →
    ∀ d : Block, d = ({ c with coc := ({ c.coc with rel := j } : Coc).reclaim }) →
    d.is F.COC_STATUS_FULL = false →
    exec (.cursorRelease m word) s = .next (s.put (d.answer m 0 0))) ∧
  (∀ (s : State) (m : Master) (word : Nat),
    s.b.respCode m 0xC10C 0xF true (word / 8 * 8 + 6) = 0 →
    ∀ c : Block, c = (s.b.writeFields 0xC10C word) →
    c.syn.agg = false ∨ (c.cursor c.curNum).pos + 1 ≤ c.coc.rel →
    exec (.cursorRelease m word) s = .next (s.put (c.answer m 0 0))) ∧
  (∀ (s : State) (n stat pos : Nat) (r : JRec),
    ∀ k : Nat, k = (n % 4) →
    ∀ x : Cursor, x = (s.b.cursor k) →
    x.load = some (stat, pos, some r) →
    ∀ c : Block, c = ((s.b.setCursor k { x with load := none, pos := pos, loaded := some r }).setf (F.COC_CUR_INFO_TAG.ix k) (r.tag (s.b.is (F.COC_CUR_CTRL_AREA.ix k)))) →
    exec (.cursorLoadDone n) s = .next (s.put (c.setf (F.COC_CUR_CTRL_STAT.ix k) stat))) ∧
  (∀ (s : State) (m : Master),
    s.b.respCode m 0xC040 0xF false 0 = 0 →
    exec (.relLoRead m) s = .next (s.put (({ s.b with coc := { s.b.coc with relLatch := s.b.coc.rel / 2 ^ 32 % 2 ^ 32 } }).answer m 0 (s.b.coc.rel % 2 ^ 32)))) ∧
  (∀ (s : State) (m : Master),
    s.b.respCode m 0xC048 0xF false 0 = 0 →
    exec (.newLoRead m) s = .next (s.put (({ s.b with coc := { s.b.coc with newLatch := s.b.coc.nextJ / 2 ^ 32 % 2 ^ 32 } }).answer m 0 (s.b.coc.nextJ % 2 ^ 32)))) ∧
  (∀ (s : State) (m : Master),
    s.b.respCode m 0xC104 0xF false 0 = 0 →
    ∀ n : Nat, n = (s.b.curNum) →
    exec (.curPosRead m) s = .next (s.put ((s.b.setCursor n { s.b.cursor n with latch := (s.b.cursor n).pos / 2 ^ 32 % 2 ^ 32 }).answer m 0 ((s.b.cursor n).pos % 2 ^ 32)))) ∧
  (∀ (s : State) (m : Master),
    s.b.respCode m 0xC204 0xF false 0 = 0 →
    ∀ v : Nat, v = (s.b.coc.ctr s.b.ctrSlot) →
    exec (.mctrRead m) s = .next (s.put (({ s.b with coc := { s.b.coc with ctrLatch := v / 2 ^ 32 % 2 ^ 32 } }).answer m 0 (v % 2 ^ 32))))

/-- RAISE of a software slot above its value starts the raise and clears DONE, of slots 0 to 2,047 it is ignored; the oldest raise that stands in both copies leaves, with DONE when none is left; CLEAR and FORMAT start under MGMT_BUSY or are refused with OP_REFUSED, FORMAT while unreleased records exist without FORCE; a clear that ends raises OP_DONE; the oldest pending NOR record's commit word is programmed; the FLUSHED group's commit raises PF_DONE (R283, R284, R287 to R291). -/
def Obligations.CountersAndLongOperations : Prop :=
  (∀ (s : State) (m : Master),
    s.b.respCode m 0xC20C 0xF true 1 = 0 →
    s.b.syn.agg = true →
    2048 ≤ s.b.f F.COC_MCTR_SEL_SLOT →
    ∀ slot : Nat, slot = (s.b.f F.COC_MCTR_SEL_SLOT) →
    ∀ v : Nat, v = (s.b.f F.COC_MCTR_LO_VAL_LO + 2 ^ 32 * s.b.f F.COC_MCTR_HI_VAL_HI) →
    s.b.coc.raises = [] →
    s.b.coc.ctr slot < v →
    exec (.counterRaise m) s = .next (s.put ((({ s.b with coc := { s.b.coc with raises := [(slot, v % 2 ^ 64, false)] } }).setf F.COC_MCTR_CMD_DONE 0).answer m 0 0))) ∧
  (∀ (s : State) (m : Master),
    s.b.respCode m 0xC20C 0xF true 1 = 0 →
    s.b.f F.COC_MCTR_SEL_SLOT < 2048 →
    exec (.counterRaise m) s = .next (s.put (s.b.answer m 0 0))) ∧
  (∀ (s : State) (slot v : Nat) (x : Bool),
    s.b.on dSTORE = true →
    s.b.syn.agg = true →
    s.b.coc.raises = [(slot, v, x)] →
    v ≤ s.b.coc.logA.getD slot 0 →
    v ≤ s.b.coc.logB.getD slot 0 →
    (s.b.fab.topo.homeLdis ++ s.b.fab.topo.buddyLdis)[slot]? = none →
    exec (.counterRaiseDone) s = .next (s.put (({ s.b with coc := { s.b.coc with raises := [] } }).setf F.COC_MCTR_CMD_DONE 1))) ∧
  (∀ (s : State) (m : Master),
    s.b.respCode m 0xC060 0xF true 1 = 0 →
    s.b.f F.COC_STATUS_STATE = 2 →
    s.b.coc.op = none →
    s.b.coc.flush = false →
    exec (.cocoonClear m) s = .next (s.put (({ s.b with coc := { s.b.coc with op := some .clear }, busy := some .clear }).answer m 0 0))) ∧
  (∀ (s : State) (m : Master) (force : Bool),
    s.b.respCode m 0xC060 0xF true (if force then 6 else 2) = 0 →
    s.b.f F.COC_STATUS_STATE < 2 →
    exec (.cocoonFormat m force) s = .next (s.put ((s.b.raise Ev.COC_OP_REFUSED).answer m 0 0))) ∧
  (∀ (s : State) (m : Master),
    s.b.respCode m 0xC060 0xF true 2 = 0 →
    s.b.syn.agg = false →
    s.b.f F.COC_STATUS_STATE = 2 →
    s.b.coc.op = none →
    s.b.coc.flush = false →
    (s.b.index false).any (fun r => decide (s.b.coc.rel ≤ r.jpos)) = false →
    s.b.coc.progs = [] →
    exec (.cocoonFormat m false) s = .next (s.put (({ s.b with coc := { s.b.coc with op := some .format }, busy := some .format }).answer m 0 0))) ∧
  (∀ (s : State),
    s.b.on dSTORE = true →
    s.b.coc.opStop = false →
    2 ≤ s.b.f F.COC_STATUS_STATE →
    s.b.coc.op = some .clear →
    ∀ c : Block, c = ({ s.b with coc := { s.b.coc.cleared with op := none }, busy := if s.b.busy = some .clear then none else s.b.busy }) →
    exec (.opDone) s = .next (s.put ((c.setf F.COC_STATUS_FULL 0).raise Ev.COC_OP_DONE))) ∧
  (∀ (s : State),
    s.b.coc.op = none →
    exec (.opDone) s = .next (s.put (s.b))) ∧
  (∀ (s : State) (r : NorRec) (l : List NorRec),
    s.b.syn.agg = false →
    s.b.on dSTORE = true →
    s.b.coc.nor = r :: l →
    r.done = false →
    exec (.norWriteDone) s = .next (s.put ({ s.b with coc := { s.b.coc with nor := { r with done := true } :: l } }))) ∧
  (∀ (s : State),
    s.b.coc.flushG = none →
    exec (.pfFlushDone) s = .next (s.put (s.b.takeHeld))) ∧
  (∀ (s : State) (g : Nat),
    s.b.coc.flushG = some g →
    s.b.flushing = true →
    s.b.coc.progs.any (fun p => p.gseq == g) = false →
    ∀ c : Block, c = ({ s.b with coc := { s.b.coc with flushed := true } }) →
    exec (.pfFlushDone) s = .next (s.put ((c.raise Ev.COC_PF_DONE).flushResume.takeHeld)))

/-- FIM_CMD.LOAD begins a load from SRC and clears VERIFIED and the staged expansion; from DRAM it spoils PREVIOUS; ABORT ends a load with IDLE and does nothing outside one; more than one command bit acts on none. FIM_DATA adds a word to a load from PORT, whose first word spoils PREVIOUS. LOAD_COMPLETE does nothing while words are missing; a failed check ends in FAILED with FIM_ERR and LOAD_FAIL; a load that passes stages the image, with its LEVEL, in state VERIFIED; the signature, key, role and digest checks answer as Table 13-5 gives. -/
def Obligations.ImageLoads : Prop :=
  (∀ (s : State) (m : Master) (word : Nat),
    ∀ w : Nat, w = (setBit word 2 1) →
    s.b.respCode m 0xD008 0xF true w = 0 →
    bits w 2 5 = 1 →
    ∀ c : Block, c = (s.b.writeFields 0xD008 w) →
    c.f F.FIM_CMD_SRC ≠ 1 →
    ∀ d : Block, d = ({ c with hwk := { c.hwk with staged := none }, fim := { c.fim with load := some { src := c.f F.FIM_CMD_SRC, roll := none }, stage := [] } }) →
    exec (.imageLoad m word) s = .next (s.put ((d.setf F.FIM_STATUS_STATE 1).answer m 0 0))) ∧
  (∀ (s : State) (m : Master) (word : Nat),
    ∀ w : Nat, w = (setBit word 2 1) →
    s.b.respCode m 0xD008 0xF true w = 0 →
    bits w 2 5 = 1 →
    ∀ c : Block, c = (s.b.writeFields 0xD008 w) →
    c.f F.FIM_CMD_SRC = 1 →
    c.hasStore = true →
    ∀ d : Block, d = ({ c with hwk := { c.hwk with staged := none }, fim := { c.fim with load := some { src := 1, roll := none }, stage := [] } }) →
    ∀ e : Block, e = (({ d with fim := { d.fim.setCopy d.otherCopy none with prevOk := false } }).setf F.FIM_PREV_BUILD_BUILD 0) →
    exec (.imageLoad m word) s = .next (s.put ((e.setf F.FIM_STATUS_STATE 1).answer m 0 0))) ∧
  (∀ (s : State) (m : Master) (word : Nat),
    ∀ w : Nat, w = (setBit word 2 1) →
    s.b.respCode m 0xD008 0xF true w = 0 →
    bits w 3 4 ≠ 0 →
    exec (.imageLoad m word) s = .next (s.put ((s.b.writeFields 0xD008 w).answer m 0 0))) ∧
  (∀ (s : State) (m : Master) (word : Nat) (x : ImgLoad),
    ∀ w : Nat, w = (setBit word 3 1) →
    s.b.respCode m 0xD008 0xF true w = 0 →
    bits w 2 5 = 2 →
    ∀ c : Block, c = (s.b.writeFields 0xD008 w) →
    s.b.fim.load = some x →
    exec (.imageAbort m word) s = .next (s.put ((({ c with fim := { c.fim with load := none } }).setf F.FIM_STATUS_STATE 0).answer m 0 0))) ∧
  (∀ (s : State) (m : Master) (word : Nat),
    ∀ w : Nat, w = (setBit word 3 1) →
    s.b.respCode m 0xD008 0xF true w = 0 →
    s.b.fim.load = none →
    bits w 2 5 = 2 →
    exec (.imageAbort m word) s = .next (s.put ((s.b.writeFields 0xD008 w).answer m 0 0))) ∧
  (∀ (s : State) (m : Master) (word : Nat) (x : ImgLoad),
    s.b.respCode m 0xD00C 0xF true word = 0 →
    s.b.fim.load = some x →
    x.src = 0 →
    x.words ≠ [] →
    exec (.imageData m word) s = .next (s.put (({ s.b with fim := { s.b.fim with load := some { x with words := word % 2 ^ 32 :: x.words } } }).answer m 0 0))) ∧
  (∀ (s : State) (m : Master) (word : Nat) (x : ImgLoad),
    s.b.respCode m 0xD00C 0xF true word = 0 →
    s.b.fim.load = some x →
    x.src = 0 →
    x.words = [] →
    s.b.hasStore = true →
    ∀ d : Block, d = (({ s.b with fim := { s.b.fim.setCopy s.b.otherCopy none with prevOk := false } }).setf F.FIM_PREV_BUILD_BUILD 0) →
    exec (.imageData m word) s = .next (s.put (({ d with fim := { d.fim with load := some { x with words := [word % 2 ^ 32] } } }).answer m 0 0))) ∧
  (∀ (s : State) (m : Master) (word : Nat),
    s.b.respCode m 0xD00C 0xF true word = 0 →
    s.b.fim.load = none →
    exec (.imageData m word) s = .next (s.put (s.b.answer m 0 0))) ∧
  (∀ (s : State) (x : ImgLoad) (dram : List Byte),
    s.b.fim.load = some x →
    x.src = 0 →
    4 * x.words.length < s.b.f F.FIM_SIZE_BYTES →
    exec (.loadComplete dram) s = .next (s.put (s.b))) ∧
  (∀ (s : State) (x : ImgLoad) (dram l : List Byte) (e : ImgErr),
    s.b.on dSTEWARD = true →
    s.b.fim.load = some x →
    s.b.loadBytes x dram = some l →
    ∀ c : Block, c = (({ s.b with fim := { s.b.fim with load := none } }).setf F.FIM_STG_BUILD_BUILD (imgBuild l)) →
    c.imgCheck l (x.src != 0 || 4 * x.words.length == s.b.f F.FIM_SIZE_BYTES) = some e →
    x.src ≠ 2 →
    e.1 ≠ 5 →
    e.1 ≠ 6 →
    ∀ d : Block, d = ((((c.setf F.FIM_ERR_CODE e.1).setf F.FIM_ERR_SECTION e.2.1).setf F.FIM_ERR_REGION e.2.2).setf F.FIM_STATUS_STATE 3) →
    exec (.loadComplete dram) s = .next (s.put (d.raise Ev.FIM_LOAD_FAIL [(d.stored 0xD01C, 32)]))) ∧
  (∀ (s : State) (x : ImgLoad) (dram l : List Byte) (e : ImgErr),
    s.b.on dSTEWARD = true →
    s.b.fim.load = some x →
    s.b.loadBytes x dram = some l →
    ∀ c : Block, c = (({ s.b with fim := { s.b.fim with load := none } }).setf F.FIM_STG_BUILD_BUILD (imgBuild l)) →
    c.imgCheck l (x.src != 0 || 4 * x.words.length == s.b.f F.FIM_SIZE_BYTES) = some e →
    ∃ t : State, exec (.loadComplete dram) s = .next t ∧ (t.b.f F.FIM_STATUS_STATE = 3 ∧ t.b.f F.FIM_ERR_CODE = e.1 % 256 ∧ t.b.fim.load = none ∧ t.b.fim.commit = s.b.fim.commit ∧ t.b.fim.stage = s.b.fim.stage)) ∧
  (∀ (s : State) (x : ImgLoad) (dram l : List Byte),
    s.b.on dSTEWARD = true →
    s.b.fim.load = some x →
    x.roll = none →
    s.b.loadBytes x dram = some l →
    ∀ c : Block, c = (({ s.b with fim := { s.b.fim with load := none } }).setf F.FIM_STG_BUILD_BUILD (imgBuild l)) →
    c.imgCheck l (x.src != 0 || 4 * x.words.length == s.b.f F.FIM_SIZE_BYTES) = none →
    ∀ d : Block, d = (((((c.setf F.FIM_ERR_CODE 0).setf F.FIM_ERR_SECTION 0).setf F.FIM_ERR_REGION 0x1F).setf F.FIM_STATUS_STATE 2).setf F.FIM_STATUS_LEVEL (imgLevel l)) →
    ∀ g : Fim, g = ({ d.fim with stage := l, stageSrc := x.src }) →
    ∀ h : Fim, h = (if x.src < 2 ∧ d.hasStore then g.setCopy d.otherCopy (some { bytes := l, ploc := d.f F.SELF_PLOC_PLOC }) else g) →
    exec (.loadComplete dram) s = .next (s.put (({ d with fim := h }).raise Ev.FIM_VERIFIED))) ∧
  (∀ (b : Block) (l : List Byte) (k : Nat),
    (liveSlots b.sec.keys).find? (fun k => b.sec.crcOk && slotKeyId b.sec.keys k == leAt (slice l (l.length - 112) 112) 0 4) = some k →
    ecdsaVerify (l.take (l.length - 112)) (slotKey b.sec.keys k).1 (slotKey b.sec.keys k).2 (ofBe (slice (slice l (l.length - 112) 112) 16 48)) (ofBe (slice (slice l (l.length - 112) 112) 64 48)) = false →
    b.checkSig l = some (3, 0, 0x1F)) ∧
  (∀ (b : Block) (l : List Byte),
    (liveSlots b.sec.keys).find? (fun k => b.sec.crcOk && slotKeyId b.sec.keys k == leAt (slice l (l.length - 112) 112) 0 4) = none →
    b.checkSig l = some (4, 0, 0x1F)) ∧
  (∀ (b : Block) (l : List Byte),
    leAt l 4 1 % 4 ≠ b.f F.ROLE_STATUS_STRAP →
    b.checkRole l = some (5, 0, 0x1F)) ∧
  (∀ (b : Block) (l : List Byte),
    b.is F.FIM_STATUS_NEED = true →
    b.fim.digA.map (fun x => x.1) ≠ some (sha384 l) →
    b.fim.digP.map (fun x => x.1) ≠ some (sha384 l) →
    b.checkDigest l = some (12, 0, 0x1F))

/-- COMMIT is refused with STATE_BAD unless VERIFIED, with MODEL where an aggregator's model is not expanded; else MGMT_BUSY rises and STATE is COMMITTING. After 30 ms without its boundary it ends with NOBOUNDARY, still VERIFIED; with nothing running IMAGE_APPLY applies it now, and at a boundary of its index that is due. Once the raise stands the commit is complete: PREVIOUS is the former ACTIVE, probation begins, MGMT_BUSY falls. ROLLBACK without PREVIOUS is refused; else it loads PREVIOUS. CONFIRM, or BOUNDARIES boundaries, ends probation. -/
def Obligations.CommitsAndRollback : Prop :=
  (∀ (s : State) (m : Master) (word : Nat),
    ∀ w : Nat, w = (setBit word 4 1) →
    s.b.respCode m 0xD008 0xF true w = 0 →
    bits w 2 5 = 4 →
    ∀ c : Block, c = (s.b.writeFields 0xD008 w) →
    c.f F.FIM_STATUS_STATE ≠ 2 →
    ∀ d : Block, d = (((c.setf F.FIM_ERR_CODE 0xFF).setf F.FIM_ERR_SECTION 0).setf F.FIM_ERR_REGION 0x1F) →
    exec (.imageCommit m word) s = .next (s.put ((d.raise Ev.FIM_COMMIT_REFUSED [(d.stored 0xD01C, 32)]).answer m 0 0))) ∧
  (∀ (s : State) (m : Master) (word : Nat) (l : List Byte),
    ∀ w : Nat, w = (setBit word 4 1) →
    s.b.respCode m 0xD008 0xF true w = 0 →
    bits w 2 5 = 4 →
    ∀ c : Block, c = (s.b.writeFields 0xD008 w) →
    c.f F.FIM_STATUS_STATE = 2 →
    c.syn.agg = true →
    imgBody c.fim.stage 5 = some l →
    c.hwk.staged = none →
    c.is F.PWR_STATUS_CHRYS = false →
    ∀ d : Block, d = (((c.setf F.FIM_ERR_CODE 0xB).setf F.FIM_ERR_SECTION 0).setf F.FIM_ERR_REGION 0x1F) →
    exec (.imageCommit m word) s = .next (s.put ((d.raise Ev.FIM_COMMIT_REFUSED [(d.stored 0xD01C, 32)]).answer m 0 0))) ∧
  (∀ (s : State) (m : Master) (word : Nat),
    ∀ w : Nat, w = (setBit word 4 1) →
    s.b.respCode m 0xD008 0xF true w = 0 →
    bits w 2 5 = 4 →
    ∀ c : Block, c = (s.b.writeFields 0xD008 w) →
    c.f F.FIM_STATUS_STATE = 2 →
    c.syn.agg = false ∨ imgBody c.fim.stage 5 = none ∨ c.hwk.staged.isSome = true ∨ c.is F.PWR_STATUS_CHRYS = true →
    ∀ e : Commit, e = ({ since := c.clk.core, idx := c.f F.FIM_CMD_IDX, any := c.is F.FIM_CMD_ANY, now := c.f F.ROLE_STATUS_ROLE == 3 }) →
    exec (.imageCommit m word) s = .next (s.put ((({ c with busy := some .commit, fim := { c.fim with commit := some e } }).setf F.FIM_STATUS_STATE 4).answer m 0 0))) ∧
  (∀ (s : State) (c : Commit),
    s.b.fim.commit = some c →
    c.applied = false →
    c.now = false →
    c.since + s.b.us 30000 ≤ s.b.clk.core →
    exec (.commitNoBoundary) s = .next (s.put ((({ s.b with busy := none, fim := { s.b.fim with commit := none } }).setf F.FIM_STATUS_STATE 2).raise Ev.FIM_NOBOUNDARY))) ∧
  (∀ (s : State) (c : Commit),
    s.b.fim.commit = some c →
    c.applied = true ∨ c.now = true ∨ s.b.clk.core < c.since + s.b.us 30000 →
    exec (.commitNoBoundary) s = .next (s.put (s.b))) ∧
  (∀ (s : State) (c : Commit),
    s.b.on dSTEWARD = true →
    s.b.fim.commit = some c →
    c.applied = false →
    c.now = true →
    s.b.is F.PWR_STATUS_CHRYS = false →
    exec (.imageApply) s = .next (s.put (s.b.commitApply s.b.phase))) ∧
  (∀ (s : State) (c : Commit) (r : FireReq),
    s.b.on dSTEWARD = true →
    s.b.fim.commit = some c →
    c.applied = false →
    c.now = false →
    s.b.dueFire = some r →
    s.b.isBoundary (s.b.fireCause r) = true →
    c.any = true ∨ c.idx = r.idx →
    ∀ d : Block, d = (s.b.commitApply (s.b.firePhase r)) →
    exec (.imageApply) s = .next (s.put ({ d with fim := { d.fim with probSkip := true } }))) ∧
  (∀ (s : State) (c : Commit),
    s.b.fim.commit = some c →
    c.applied = false →
    c.now = false →
    s.b.dueFire = none →
    exec (.imageApply) s = .next (s.put (s.b))) ∧
  (∀ (s : State) (c : Commit),
    s.b.fim.commit = some c →
    c.applied = true →
    c.gen = 0 →
    s.b.hasStore = true →
    s.b.fim.stageSrc ≠ 3 →
    ∀ d : Block, d = (({ s.b with fim := { s.b.fim with prevOk := s.b.fim.actOk } }).setf F.FIM_PREV_BUILD_BUILD (if s.b.fim.actOk then s.b.f F.FIM_ACT_BUILD_BUILD else 0)) →
    ∀ l : List Byte, l = (d.fim.stage) →
    ∀ g : Block, g = ({ d with sec := { d.sec with signer := (liveSlots d.sec.keys).find? (fun k => slotKeyId d.sec.keys k == leAt l (l.length - 112) 4) } }) →
    ∀ e : Block, e = (((g.setf F.FIM_ACT_BUILD_BUILD (imgBuild l)).setf F.FIM_TOPO_TOPO (imgTopo l % 2 ^ 32)).setf F.FIM_STATUS_STATE 0) →
    exec (.commitDone) s = .next (s.put (({ e with busy := none, fim := { e.fim with commit := none, actOk := true, prob := true } }).raise Ev.FIM_COMMITTED [(imgBuild l, 32), (c.phase, 64)]))) ∧
  (∀ (s : State) (c : Commit),
    s.b.fim.commit = some c →
    c.applied = true →
    c.gen ≠ 0 →
    s.b.syn.agg = true →
    s.b.coc.ctrBoth (s.b.imgSlot (s.b.activeCopy.getD true)) c.gen = true →
    exec (.commitDone) s = .next (s.put (s.b.commitEnd c))) ∧
  (∀ (s : State) (c : Commit),
    s.b.fim.commit = some c →
    c.applied = true →
    c.gen ≠ 0 →
    s.b.syn.agg = true →
    s.b.coc.ctrBoth (s.b.imgSlot (s.b.activeCopy.getD true)) c.gen = false →
    exec (.commitDone) s = .next (s.put (s.b))) ∧
  (∀ (s : State) (m : Master) (word : Nat),
    ∀ w : Nat, w = (setBit word 5 1) →
    s.b.respCode m 0xD008 0xF true w = 0 →
    bits w 2 5 = 8 →
    ∀ c : Block, c = (s.b.writeFields 0xD008 w) →
    c.fim.prevOk = false →
    exec (.imageRollback m word) s = .next (s.put ((c.raise Ev.FIM_COMMIT_REFUSED [(c.stored 0xD01C, 32)]).answer m 0 0))) ∧
  (∀ (s : State) (m : Master) (word : Nat),
    ∀ w : Nat, w = (setBit word 5 1) →
    s.b.respCode m 0xD008 0xF true w = 0 →
    bits w 2 5 = 8 →
    ∀ c : Block, c = (s.b.writeFields 0xD008 w) →
    c.fim.prevOk = true →
    ∀ d : Block, d = ({ c with hwk := { c.hwk with staged := none }, fim := { c.fim with load := some { src := 2, roll := some (c.f F.FIM_CMD_IDX, c.is F.FIM_CMD_ANY) }, stage := [] } }) →
    exec (.imageRollback m word) s = .next (s.put ((d.setf F.FIM_STATUS_STATE 1).answer m 0 0))) ∧
  (∀ (s : State) (m : Master) (word : Nat),
    ∀ w : Nat, w = (setBit word 6 1) →
    s.b.respCode m 0xD008 0xF true w = 0 →
    bits w 2 5 = 16 →
    ∀ c : Block, c = (s.b.writeFields 0xD008 w) →
    c.fim.prob = true →
    exec (.imageConfirm m word) s = .next (s.put ((({ c with fim := { c.fim with prob := false } }).raise Ev.FIM_CONFIRMED).answer m 0 0))) ∧
  (∀ (s : State) (m : Master) (word : Nat),
    ∀ w : Nat, w = (setBit word 6 1) →
    s.b.respCode m 0xD008 0xF true w = 0 →
    bits w 2 5 = 16 →
    ∀ c : Block, c = (s.b.writeFields 0xD008 w) →
    c.fim.prob = false →
    exec (.imageConfirm m word) s = .next (s.put (c.answer m 0 0))) ∧
  (∀ (s : State),
    s.b.fim.prob = true →
    s.b.f F.FIM_PROB_BOUNDARIES ≠ 0 →
    s.b.f F.FIM_PROB_BOUNDARIES ≤ s.b.fim.probSeen →
    exec (.probationEnd) s = .next (s.put (({ s.b with fim := { s.b.fim with prob := false } }).raise Ev.FIM_CONFIRMED))) ∧
  (∀ (s : State),
    s.b.f F.FIM_PROB_BOUNDARIES = 0 ∨ s.b.fim.probSeen < s.b.f F.FIM_PROB_BOUNDARIES →
    exec (.probationEnd) s = .next (s.put (s.b))) ∧
  (∀ (s : State) (m : Master) (word : Nat) (l : List Byte),
    s.b.respCode m 0x600C 0xF true (setBit word 0 1) = 0 →
    s.b.syn.agg = true →
    s.b.f F.FIM_STATUS_STATE = 2 →
    imgBody s.b.fim.stage 5 = some l →
    exec (.modelExpand m word) s = .next (s.put (({ s.b with hwk := { s.b.hwk with expanding := some l }, busy := some .expand }).answer m 0 0))) ∧
  (∀ (s : State) (m : Master) (word : Nat),
    s.b.respCode m 0x600C 0xF true (setBit word 0 1) = 0 →
    s.b.syn.agg = false ∨ s.b.f F.FIM_STATUS_STATE ≠ 2 ∨ imgBody s.b.fim.stage 5 = none →
    exec (.modelExpand m word) s = .next (s.put (s.b.answer m 0 0))) ∧
  (∀ (s : State) (l : List Byte),
    s.b.hwk.expanding = some l →
    s.b.fim.rollWait = none →
    ∀ c : Block, c = ({ s.b with hwk := { s.b.hwk with expanding := none }, busy := if s.b.busy = some BusyOp.expand then none else s.b.busy }) →
    ∀ no : Nat × Nat × Nat × Nat → Block, no = (fun e => (((({ c with hwk := { c.hwk with staged := none } }).setf F.HWK_EXPAND_ERR e.1).setf F.HWK_EXPAND_ERR_ENS e.2.1).setf F.HWK_EXPAND_ERR_TREE e.2.2.1).setf F.HWK_EXPAND_ERR_NODE e.2.2.2) →
    exec (.expandDone) s = .next (s.put ((match expandModel s.b.syn.agg l with | .ok x => (((({ c with hwk := { c.hwk with staged := some x } }).setf F.HWK_EXPAND_ERR 0).setf F.HWK_EXPAND_ERR_ENS 0).setf F.HWK_EXPAND_ERR_TREE 0).setf F.HWK_EXPAND_ERR_NODE 0 |>.raise Ev.HWK_EXPAND_DONE | .error e => (no e).raise Ev.HWK_EXPAND_ERR [((no e).stored 0x600C, 32)])))) ∧
  (∀ (s : State),
    s.b.hwk.expanding = none →
    exec (.expandDone) s = .next (s.put (s.b)))

/-- A sensor sample shows TEMP and VDD and sets RANGE as the range of R312 says, raising RANGE at its change to 1. A part becomes due every PERIOD; the due part's test fences it once it is idle, which its unit's event says, never the last unfenced part of several, and a part not idle within WAIT is skipped with ST_SKIP. A passed test clears TEST, a failed one is reported with ST_FAIL and starts a confirmation; confirmations, then UNFENCE runs, begin one at a time and class their part; UNFENCE of a part without FAULT does nothing, of a host core releases it at once. A read of INT_LAST latches INT_LAST_INFO. -/
def Obligations.SelfTests : Prop :=
  (∀ (s : State) (temp vdd : Nat),
    s.b.on dSTEWARD = true →
    s.b.is F.INT_STATUS_RANGE = true ∨ outOfRange temp (vdd % 65536) = false →
    exec (.sensorSample temp vdd) s = .next (s.put (((s.b.setf F.INT_SENSE_TEMP temp).setf F.INT_SENSE_VDD vdd).setf F.INT_STATUS_RANGE (flag (outOfRange temp (vdd % 65536)))))) ∧
  (∀ (s : State) (temp vdd : Nat),
    s.b.on dSTEWARD = true →
    s.b.is F.INT_STATUS_RANGE = false →
    outOfRange temp (vdd % 65536) = true →
    ∀ c : Block, c = (((s.b.setf F.INT_SENSE_TEMP temp).setf F.INT_SENSE_VDD vdd).setf F.INT_STATUS_RANGE 1) →
    exec (.sensorSample temp vdd) s = .next (s.put (c.raise Ev.INT_RANGE c.intArgs))) ∧
  (∀ (temp vdd : Nat),
    temp < 32768 →
    840 < temp ∨ vdd < 650 ∨ 950 < vdd →
    outOfRange temp vdd = true) ∧
  (∀ (temp vdd : Nat),
    temp ≤ 840 ∨ (65456 ≤ temp ∧ temp < 65536) →
    650 ≤ vdd →
    vdd ≤ 950 →
    outOfRange temp vdd = false) ∧
  (∀ (s : State),
    s.b.on dSTEWARD = true →
    s.b.is F.INT_CTRL_ST_EN = true →
    s.b.int.waitSince = none →
    s.b.int.dueAt + s.b.us (1000 * atLeast1 (s.b.f F.INT_ST_CFG_PERIOD)) ≤ s.b.clk.core →
    exec (.selftestDue) s = .next (s.put ({ s.b with int := { s.b.int with waitSince := some s.b.clk.core, dueAt := s.b.clk.core } }))) ∧
  (∀ (s : State),
    s.b.is F.INT_CTRL_ST_EN = false ∨ s.b.int.waitSince.isSome = true →
    exec (.selftestDue) s = .next (s.put (s.b))) ∧
  (∀ (s : State),
    s.b.on dSTEWARD = true →
    s.b.int.waitSince.isSome = true →
    s.b.int.running = none →
    s.b.int.confQ = [] →
    ∀ k : Nat, k = (s.b.duePart.1) →
    ∀ i : Nat, i = (s.b.duePart.2) →
    s.b.partIdle k i = true →
    s.b.lastOfKind k i = false →
    ∀ c : Block, c = (s.b.setPart k i (fun x => { x with test := true })) →
    ∀ d : Block, d = ({ c with int := { c.int with due := c.int.due + 1, waitSince := none } }) →
    exec (.selftestStart) s = .next (s.put ((d.setRun (some { kind := k, index := i, left := 1 })).fenceEvent k i))) ∧
  (∀ (s : State),
    s.b.int.waitSince = none ∨ s.b.int.running.isSome = true ∨ s.b.int.confQ ≠ [] ∨ s.b.partIdle s.b.duePart.1 s.b.duePart.2 = false ∨ s.b.lastOfKind s.b.duePart.1 s.b.duePart.2 = true →
    exec (.selftestStart) s = .next (s.put (s.b))) ∧
  (∀ (s : State) (t0 : Nat),
    s.b.on dSTEWARD = true →
    s.b.int.waitSince = some t0 →
    t0 + s.b.us (atLeast1 (s.b.f F.INT_ST_CFG_WAIT)) ≤ s.b.clk.core →
    exec (.selftestWaitExpire) s = .next (s.put (({ s.b with int := { s.b.int with due := s.b.int.due + 1, waitSince := none } }).raise Ev.INT_ST_SKIP [(s.b.duePart.1, 8), (s.b.duePart.2, 16)]))) ∧
  (∀ (s : State) (t0 : Nat),
    s.b.int.waitSince = some t0 →
    s.b.clk.core < t0 + s.b.us (atLeast1 (s.b.f F.INT_ST_CFG_WAIT)) →
    exec (.selftestWaitExpire) s = .next (s.put (s.b))) ∧
  (∀ (s : State) (r : TestRun),
    s.b.int.running = some r →
    1 < r.left →
    exec (.selftestDone true) s = .next (s.put ((s.b.setRun (some { r with left := r.left - 1 })).slkGo))) ∧
  (∀ (s : State) (r : TestRun) (pass : Bool),
    s.b.int.running = some r →
    r.left ≤ 1 →
    r.unfence = false →
    r.confirm = none →
    ∀ c : Block, c = ((s.b.setRun none).setPart r.kind r.index (fun x => { x with test := false })) →
    ∀ part : Nat, part = (if r.kind = 0 then 4 * r.index else r.index) →
    exec (.selftestDone pass) s = .next (s.put (if pass then c.slkGo else ((c.checkFail r.kind r.index r.kind 0 0 part 0 0 0 false true).raise Ev.INT_ST_FAIL (c.checkFail r.kind r.index r.kind 0 0 part 0 0 0 false true).intArgs).slkGo))) ∧
  (∀ (s : State) (r : TestRun) (pass : Bool),
    s.b.int.running = some r →
    r.left ≤ 1 →
    r.unfence = true →
    ∀ c : Block, c = ((s.b.setRun none).setPart r.kind r.index (fun x => { x with test := false, fault := x.fault && !pass })) →
    exec (.selftestDone pass) s = .next (s.put ((if pass then c else c.raise Ev.INT_ST_FAIL c.intArgs).slkGo))) ∧
  (∀ (s : State) (r : TestRun) (n : Nat),
    s.b.int.running = some r →
    r.unfence = false →
    r.confirm = some n →
    ∀ c : Block, c = ((s.b.setRun none).faultPart r.kind r.index 2 (some n)) →
    exec (.selftestDone false) s = .next (s.put ((if 2 = r.firstCls then c else c.updateReport n 2).slkGo))) ∧
  (∀ (s : State) (r : TestRun) (n : Nat),
    s.b.int.running = some r →
    r.left ≤ 1 →
    r.unfence = false →
    r.confirm = some n →
    ∀ b0 : Block, b0 = (s.b.setRun none) →
    ∀ ts : List Nat, ts = (b0.clk.aon :: b0.recentTrans (b0.part r.kind r.index)) →
    ts.length < atLeast1 (s.b.f F.INT_CLASS_TLIMIT) →
    ∀ c : Block, c = (b0.setPart r.kind r.index (fun x => { x with trans := ts })) →
    ∀ d : Block, d = ((c.setPart r.kind r.index (fun x => { x with test := false, cls := 1 })).raise Ev.INT_TRANSIENT (c.argsOf (some n))) →
    exec (.selftestDone true) s = .next (s.put ((if 1 = r.firstCls then d else d.updateReport n 1).slkGo))) ∧
  (∀ (s : State) (r : TestRun) (l : List TestRun),
    s.b.on dSTEWARD = true →
    s.b.int.running = none →
    s.b.int.confQ = r :: l →
    ∀ c : Block, c = ((({ s.b with int := { s.b.int with confQ := l } }).setPart r.kind r.index (fun x => { x with test := true })).setRun (some r)) →
    exec (.confirmationStart) s = .next (s.put (c.fenceEvent r.kind r.index))) ∧
  (∀ (s : State) (r : TestRun) (l : List TestRun),
    s.b.on dSTEWARD = true →
    s.b.int.running = none →
    s.b.int.confQ = [] →
    s.b.int.unfQ = r :: l →
    ∀ c : Block, c = ((({ s.b with int := { s.b.int with unfQ := l } }).setPart r.kind r.index (fun x => { x with test := true })).setRun (some r)) →
    exec (.confirmationStart) s = .next (s.put (c.fenceEvent r.kind r.index))) ∧
  (∀ (s : State),
    s.b.int.running.isSome = true ∨ (s.b.int.confQ = [] ∧ s.b.int.unfQ = []) →
    exec (.confirmationStart) s = .next (s.put (s.b))) ∧
  (∀ (s : State) (m : Master),
    s.b.respCode m 0xE024 0xF true 0x4000 = 0 →
    ∀ k : Nat, k = (s.b.f F.INT_PART_SEL_KIND) →
    ∀ i : Nat, i = (s.b.f F.INT_PART_SEL_INDEX) →
    k ≠ 4 →
    (s.b.part k i).fault = true →
    exec (.partUnfence m) s = .next (s.put (({ s.b with int := { s.b.int with unfQ := s.b.int.unfQ ++ [({ kind := k, index := i, left := atLeast1 (s.b.f F.INT_ST_CFG_REPEAT), unfence := true } : TestRun)] } }).answer m 0 0))) ∧
  (∀ (s : State) (m : Master),
    s.b.respCode m 0xE024 0xF true 0x4000 = 0 →
    s.b.f F.INT_PART_SEL_KIND = 4 →
    ∀ i : Nat, i = (s.b.f F.INT_PART_SEL_INDEX) →
    (s.b.part 4 i).fault = true →
    ∀ c : Block, c = (s.b.setPart 4 i (fun x => { x with fault := false })) →
    exec (.partUnfence m) s = .next (s.put (({ c with pins := { c.pins with shdFence := some (i, false) } }).answer m 0 0))) ∧
  (∀ (s : State) (m : Master),
    s.b.respCode m 0xE024 0xF true 0x4000 = 0 →
    (s.b.part (s.b.f F.INT_PART_SEL_KIND) (s.b.f F.INT_PART_SEL_INDEX)).fault = false →
    exec (.partUnfence m) s = .next (s.put (s.b.answer m 0 0))) ∧
  (∀ (s : State) (m : Master) (word : Nat),
    s.b.respCode m 0xE030 0xF true word = 0 →
    s.b.syn.agg = false →
    exec (.sclFenceWrite m word) s = .next (s.put ((s.b.setf F.INT_SCL_FENCE_FENCE word).answer m 0 0))) ∧
  (∀ (s : State) (m : Master),
    s.b.respCode m 0xE050 0xF false 0 = 0 →
    s.b.int.last = none →
    exec (.intLastRead m) s = .next (s.put (s.b.answer m 0 s.b.int.rnum))) ∧
  (∀ (s : State) (m : Master) (r : Report),
    s.b.respCode m 0xE050 0xF false 0 = 0 →
    s.b.int.last = some r →
    ∀ c : Block, c = ((((s.b.setf F.INT_LAST_INFO_UNIT r.unit).setf F.INT_LAST_INFO_CLASS r.cls).setf F.INT_LAST_INFO_OP r.op).setf F.INT_LAST_INFO_PART r.part) →
    exec (.intLastRead m) s = .next (s.put (c.answer m 0 r.rnum)))

/-- Of the operations presented one in 2^SHIFT is kept under the lowest free tag, for the next unfenced core; with all tags in use it is lost and counted. The oldest request that waits is the one taken. A result that agrees ends its sample; one that differs counts and raises SHD_MISMATCH and is asked of a third core; if the third agrees with the checker a replay of the step is ordered, at most once and within MAXAGE, and the core is fenced for its reruns; if it agrees with the core, the checker is; else the sample is INCONCLUSIVE. Reruns class their core. A late result is lost, and the target moves after DWELL steps. -/
def Obligations.ShadowRecomputation : Prop :=
  (∀ (s : State) (cls id digest : Nat),
    s.b.shadowOn = true →
    s.b.int.opCount + 1 < 2 ^ s.b.f F.INT_SHD_CFG_SHIFT →
    exec (.shadowOp cls id digest) s = .next (s.put ({ s.b with int := { s.b.int with opCount := s.b.int.opCount + 1 } }))) ∧
  (∀ (s : State) (cls id digest n : Nat),
    s.b.shadowOn = true →
    2 ^ s.b.f F.INT_SHD_CFG_SHIFT ≤ s.b.int.opCount + 1 →
    freeTag s.b.int.samples = some n →
    ∀ k : Nat, k = (s.b.f F.INT_SHD_STAT_TARGET) →
    ∀ c : Block, c = ({ s.b with int := { s.b.int with opCount := 0 } }) →
    ∀ x : Sample, x = ({ core := k, cls := cls % 256, id := id % 2 ^ 48, d0 := digest % 2 ^ 64, step := s.b.ant.step, tag := n, on := c.nextCore k }) →
    exec (.shadowOp cls id digest) s = .next (s.put (({ c with int := { c.int with samples := c.int.samples ++ [x] } }).count F.INT_SHD_COUNT_SAMPLED))) ∧
  (∀ (s : State) (cls id digest : Nat),
    s.b.shadowOn = true →
    2 ^ s.b.f F.INT_SHD_CFG_SHIFT ≤ s.b.int.opCount + 1 →
    freeTag s.b.int.samples = none →
    exec (.shadowOp cls id digest) s = .next (s.put (({ s.b with int := { s.b.int with opCount := 0 } }).count F.INT_SHD_COUNT_LOST))) ∧
  (∀ (s : State) (cls id digest : Nat),
    s.b.shadowOn = false →
    exec (.shadowOp cls id digest) s = .next (s.put (s.b))) ∧
  (∀ (s : State) (x : Sample) (l : List Sample),
    s.b.int.samples = x :: l →
    x.waiting = true →
    l.any (fun y => y.tag == x.tag) = false →
    exec (.shadowRequestTaken) s = .next (s.put ({ s.b with int := { s.b.int with samples := { x with waiting := false, asked := some s.b.clk.core } :: l } }))) ∧
  (∀ (s : State),
    s.b.int.samples.any (fun x => x.waiting) = false →
    exec (.shadowRequestTaken) s = .next (s.put (s.b))) ∧
  (∀ (s : State) (tag digest : Nat) (x : Sample),
    s.b.int.samples.find? (fun y => y.tag == tag && !y.waiting) = some x →
    x.stage = 0 →
    digest = x.d0 →
    exec (.shadowResult tag digest) s = .next (s.put ({ s.b with int := { s.b.int with samples := s.b.int.samples.filter (fun y => y.tag != tag) } }))) ∧
  (∀ (s : State) (tag digest : Nat) (x : Sample),
    s.b.int.samples.find? (fun y => y.tag == tag && !y.waiting) = some x →
    x.stage = 0 →
    digest ≠ x.d0 →
    ∀ c : Block, c = ((s.b.count F.INT_SHD_COUNT_MISMATCH).raise Ev.INT_SHD_MISMATCH (s.b.count F.INT_SHD_COUNT_MISMATCH).intArgs) →
    exec (.shadowResult tag digest) s = .next (s.put (c.putSample { x with d1 := digest, stage := 1, chk := x.on, on := c.nextCore x.on, waiting := true, asked := none }))) ∧
  (∀ (s : State) (tag digest : Nat) (x : Sample),
    s.b.int.samples.find? (fun y => y.tag == tag && !y.waiting) = some x →
    x.stage = 1 →
    digest = x.d1 →
    s.b.int.replayed.contains x.step = false →
    s.b.ant.step - x.step ≤ s.b.f F.INT_SHD_CFG_MAXAGE →
    ∀ c : Block, c = ({ s.b with int := { s.b.int with replayed := (x.step :: s.b.int.replayed).take 256 }, pins := { s.b.pins with shdReplay := some x.step } }) →
    ∀ d : Block, d = ((c.raise Ev.INT_REPLAY c.intArgs).setPart 4 x.core (fun y => { y with test := true })) →
    ∀ e : Block, e = ({ d with pins := { d.pins with shdFence := some (x.core, true) } }) →
    exec (.shadowResult tag digest) s = .next (s.put (e.putSample { x with d2 := digest, stage := 2, on := x.core, waiting := true, asked := none }))) ∧
  (∀ (s : State) (tag digest : Nat) (x : Sample),
    s.b.int.samples.find? (fun y => y.tag == tag && !y.waiting) = some x →
    x.stage = 1 →
    digest = x.d1 →
    s.b.int.replayed.contains x.step = true ∨ s.b.f F.INT_SHD_CFG_MAXAGE < s.b.ant.step - x.step →
    ∀ d : Block, d = (s.b.setPart 4 x.core (fun y => { y with test := true })) →
    ∀ e : Block, e = ({ d with pins := { d.pins with shdFence := some (x.core, true) } }) →
    exec (.shadowResult tag digest) s = .next (s.put (e.putSample { x with d2 := digest, stage := 2, on := x.core, waiting := true, asked := none }))) ∧
  (∀ (s : State) (tag digest : Nat) (x : Sample),
    s.b.int.samples.find? (fun y => y.tag == tag && !y.waiting) = some x →
    x.stage = 1 →
    digest ≠ x.d1 →
    digest = x.d0 →
    ∀ d : Block, d = (s.b.setPart 4 x.chk (fun y => { y with test := true })) →
    ∀ e : Block, e = ({ d with pins := { d.pins with shdFence := some (x.chk, true) } }) →
    exec (.shadowResult tag digest) s = .next (s.put (e.putSample { x with d2 := digest, stage := 3, on := x.chk, waiting := true, asked := none }))) ∧
  (∀ (s : State) (tag digest : Nat) (x : Sample),
    s.b.int.samples.find? (fun y => y.tag == tag && !y.waiting) = some x →
    x.stage = 1 →
    digest ≠ x.d1 →
    digest ≠ x.d0 →
    exec (.shadowResult tag digest) s = .next (s.put ((s.b.dropSample tag).report 4 x.cls 0 4 x.core x.d1 x.d0 x.id false false x.step))) ∧
  (∀ (s : State) (tag digest : Nat) (x : Sample),
    s.b.int.samples.find? (fun y => y.tag == tag && !y.waiting) = some x →
    x.stage = 2 ∨ x.stage = 3 →
    x.runs + 1 < atLeast1 (s.b.f F.INT_ST_CFG_REPEAT) →
    ∀ right : Nat, right = (if x.stage = 2 then x.d1 else x.d0) →
    exec (.shadowResult tag digest) s = .next (s.put (s.b.putSample { x with runs := x.runs + 1, bad := x.bad + if digest = right then 0 else 1, waiting := true, asked := none }))) ∧
  (∀ (s : State) (tag digest : Nat) (x : Sample),
    s.b.int.samples.find? (fun y => y.tag == tag && !y.waiting) = some x →
    x.stage = 2 →
    atLeast1 (s.b.f F.INT_ST_CFG_REPEAT) ≤ x.runs + 1 →
    x.bad ≠ 0 ∨ digest ≠ x.d1 →
    ∀ c : Block, c = (s.b.dropSample tag) →
    ∀ d : Block, d = ((c.report 4 x.cls 0 2 x.on x.d1 x.d0 x.id false false (x.step + if c.int.replayed.contains x.step then 2 ^ 63 else 0)).faultPart 4 x.on 2) →
    exec (.shadowResult tag digest) s = .next (s.put ({ d with pins := { d.pins with shdFence := some (x.on, true) } }))) ∧
  (∀ (s : State) (tag t0 : Nat) (x : Sample),
    s.b.int.samples.find? (fun y => y.tag == tag) = some x →
    x.asked = some t0 →
    t0 + s.b.us (atLeast1 (s.b.f F.INT_SHD_CFG_TMO)) ≤ s.b.clk.core →
    x.stage < 2 →
    ∀ c : Block, c = ((s.b.dropSample tag).count F.INT_SHD_COUNT_LOST) →
    exec (.shadowTimeout tag) s = .next (s.put (c.raise Ev.INT_SHD_LOST c.intArgs))) ∧
  (∀ (s : State) (tag t0 : Nat) (x : Sample),
    s.b.int.samples.find? (fun y => y.tag == tag) = some x →
    x.asked = some t0 →
    s.b.clk.core < t0 + s.b.us (atLeast1 (s.b.f F.INT_SHD_CFG_TMO)) →
    exec (.shadowTimeout tag) s = .next (s.put (s.b))) ∧
  (∀ (s : State),
    ∀ c : Nat, c = (s.b.f F.INT_SHD_STAT_TARGET) →
    s.b.shadowOn = true →
    s.b.int.dwellStep + atLeast1 (s.b.f F.INT_SHD_CFG_DWELL) ≤ s.b.ant.step →
    s.b.int.samples.any (fun x => x.core == c) = false →
    ∀ d : Block, d = ({ s.b with int := { s.b.int with dwellStep := s.b.ant.step } }) →
    exec (.shadowTargetMove) s = .next (s.put (d.setf F.INT_SHD_STAT_TARGET (d.nextCore c)))) ∧
  (∀ (s : State),
    s.b.int.samples.any (fun x => x.core == s.b.f F.INT_SHD_STAT_TARGET) = true →
    exec (.shadowTargetMove) s = .next (s.put (s.b))) ∧
  (∀ (b : Block) (c : Nat),
    ∀ n : Nat, n = (b.nextCore c) →
    c < b.syn.hostUnits →
    (List.range b.syn.hostUnits).any (fun x => !b.coreFenced x) = true →
    n < b.syn.hostUnits ∧ b.coreFenced n = false)

/-- Every 1 ms the conditions that hold are posted again, each to its duty: a full post queue counts and raises POST_LOST. At the end of a window the load, its histogram bin and the shed level are recorded, and the level rises or falls only after SPAN windows. A rank-0 duty silent for TIMEOUT / 2 raises WDOG_WARN, once; at TIMEOUT the watchdog reset is taken. -/
def Obligations.StewardLoadAndPosts : Prop :=
  (∀ (s : State),
    s.b.on dSTEWARD = true →
    s.b.stw.recheck + s.b.us 1000 ≤ s.b.clk.core →
    ∀ c : Block, c = ({ s.b with stw := { s.b.stw with recheck := s.b.clk.core } }) →
    exec (.postRecheck) s = .next (s.put (c.conditions.foldl Block.post c))) ∧
  (∀ (s : State),
    s.b.clk.core < s.b.stw.recheck + s.b.us 1000 →
    exec (.postRecheck) s = .next (s.put (s.b))) ∧
  (∀ (b : Block) (duty : Nat),
    b.postOk duty = true →
    b.post duty = { b with stw := { b.stw with posts := setAt b.stw.posts duty ((b.stw.posts[duty]?).getD 0 + 1) } }) ∧
  (∀ (b : Block) (duty : Nat),
    b.postOk duty = false →
    b.post duty = (b.count F.STW_POSTS_LOST).raise Ev.STW_POST_LOST) ∧
  (∀ (s : State) (ready : Nat),
    ∀ total : Nat, total = (s.b.us 1000) →
    s.b.on dSTEWARD = true →
    s.b.stw.windowStart + total ≤ s.b.clk.core →
    s.b.is F.STW_CTRL_SHED_EN = false →
    s.b.f F.STW_STATUS_LEVEL = 0 →
    100 * min ready total < s.b.f F.STW_SHED_HIGH * total →
    ∀ c : Block, c = ({ s.b with stw := { s.b.stw with windowStart := s.b.clk.core, hiRun := 0, loRun := 0 } }) →
    ∀ d : Block, d = ((c.setf F.STW_STATUS_LOAD (100 * min ready total / total)).count (F.STW_HIST_WINDOWS.ix (min 15 (16 * min ready total / total)))) →
    exec (.loadWindow ready) s = .next (s.put (d.setf F.STW_STATUS_LEVEL 0))) ∧
  (∀ (s : State) (ready : Nat),
    ∀ total : Nat, total = (s.b.us 1000) →
    s.b.on dSTEWARD = true →
    s.b.stw.windowStart + total ≤ s.b.clk.core →
    s.b.is F.STW_CTRL_SHED_EN = true →
    ∀ lv : Nat, lv = (s.b.f F.STW_STATUS_LEVEL) →
    lv < 3 →
    s.b.f F.STW_SHED_HIGH * total ≤ 100 * min ready total →
    s.b.f F.STW_SHED_LOW < s.b.f F.STW_SHED_HIGH →
    atLeast1 (s.b.f F.STW_SHED_SPAN) ≤ s.b.stw.hiRun + 1 →
    ∀ c : Block, c = ({ s.b with stw := { s.b.stw with windowStart := s.b.clk.core, hiRun := 0, loRun := 0 } }) →
    ∀ d : Block, d = (((c.setf F.STW_STATUS_LOAD (100 * min ready total / total)).count (F.STW_HIST_WINDOWS.ix (min 15 (16 * min ready total / total)))).raise Ev.STW_OVERLOAD) →
    exec (.loadWindow ready) s = .next (s.put ((d.setf F.STW_STATUS_LEVEL (lv + 1)).raise Ev.STW_SHED))) ∧
  (∀ (level hiRun loRun span : Nat) (hi lo : Bool),
    level ≤ 3 →
    ∀ x : Nat × Nat × Nat, x = (shedLevel level hiRun loRun span hi lo) →
    x.1 ≤ 3 ∧ x.1 ≤ level + 1 ∧ level ≤ x.1 + 1 ∧ (hi = false → x.1 ≤ level ∨ span = 0) ∧ (lo = false → level ≤ x.1 ∨ span = 0)) ∧
  (∀ (s : State) (duty : Nat),
    s.b.on dSTEWARD = true →
    duty < 4 →
    duty ∉ s.b.stw.warned →
    s.b.wdogTime ≤ 2 * (s.b.clk.aon - (s.b.stw.checkIn[duty]?).getD 0) →
    exec (.wdogWarn duty) s = .next (s.put (({ s.b with stw := { s.b.stw with warned := duty :: s.b.stw.warned } }).raise Ev.STW_WDOG_WARN))) ∧
  (∀ (s : State) (duty : Nat),
    4 ≤ duty ∨ duty ∈ s.b.stw.warned ∨ 2 * (s.b.clk.aon - (s.b.stw.checkIn[duty]?).getD 0) < s.b.wdogTime →
    exec (.wdogWarn duty) s = .next (s.put (s.b))) ∧
  (∀ (s : State) (duty : Nat),
    s.b.on dSTEWARD = true →
    duty < 4 →
    s.b.wdogTime ≤ s.b.clk.aon - (s.b.stw.checkIn[duty]?).getD 0 →
    exec (.wdogTimeout duty) s = .next (s.put (({ s.b with fab := { s.b.fab with hbStopped := true } }).reset 4))) ∧
  (∀ (s : State) (duty : Nat),
    4 ≤ duty ∨ s.b.clk.aon - (s.b.stw.checkIn[duty]?).getD 0 < s.b.wdogTime →
    exec (.wdogTimeout duty) s = .next (s.put (s.b)))

/-- For a master, an operation is one write of SYN_CMD, and for a thread it acts while STEWARD is ON. Counters 0 to 255 are DENIED to masters but for READ; INC saturates at 0xFFFF with OVF, OVERFLOW and the SYN_OVERFLOW event that carries the counter and the master; DEC stops at 0 with UNF; TAKE takes n or answers NOTREADY, and a thread then waits; SET is DENIED while a thread waits; CLRF clears both flags; OP 6 and 7 are DENIED. The requester's SYN_RESULT shows the counter after the operation. -/
def Obligations.SyncCounters : Prop :=
  (∀ (s : State) (m : Master) (i n : Nat),
    s.b.respCode m 0xF100 0xF true (i % 4096 + n % 65536 * 65536) = 0 →
    ∀ x : SynCtr, x = (s.b.ctr (i % 4096)) →
    ∀ c : Block, c = ({ s.b with syn_ := { s.b.syn_ with results := s.b.syn_.results.put m.num ⟨x.v, 0, x.ovf, x.unf⟩ } }) →
    exec (.synRead (.master m) i n) s = .next (s.put (c.answer m 0 0))) ∧
  (∀ (s : State) (m : Master) (i n : Nat),
    s.b.respCode m 0xF100 0xF true (i % 4096 + 4096 + n % 65536 * 65536) = 0 →
    i % 4096 < 256 →
    exec (.synInc (.master m) i n) s = .next (s.put ((s.b.synAnswer m.num (i % 4096) 4).answer m 0 0))) ∧
  (∀ (s : State) (m : Master) (i n : Nat),
    s.b.respCode m 0xF100 0xF true (i % 4096 + 4096 + n % 65536 * 65536) = 0 →
    256 ≤ i % 4096 →
    ∀ x : SynCtr, x = (s.b.ctr (i % 4096)) →
    x.v + n % 65536 ≤ 0xFFFF →
    ∀ c : Block, c = ((s.b.setCtr (i % 4096) { x with v := x.v + n % 65536 }).synAnswer m.num (i % 4096) 0) →
    exec (.synInc (.master m) i n) s = .next (s.put ((c.synWake (i % 4096)).answer m 0 0))) ∧
  (∀ (s : State) (m : Master) (i n : Nat),
    s.b.respCode m 0xF100 0xF true (i % 4096 + 4096 + n % 65536 * 65536) = 0 →
    256 ≤ i % 4096 →
    ∀ x : SynCtr, x = (s.b.ctr (i % 4096)) →
    0xFFFF < x.v + n % 65536 →
    ∀ c : Block, c = ((s.b.setCtr (i % 4096) { x with v := 0xFFFF, ovf := true }).synAnswer m.num (i % 4096) 2) →
    ∀ d : Block, d = ((((c.setf F.SYN_FAULT_INDEX (i % 4096)).setf F.SYN_FAULT_KIND 0).setf F.SYN_FAULT_VALID 1).raise Ev.STW_SYN_OVERFLOW [(i % 4096, 16), (m.num, 8)]) →
    exec (.synInc (.master m) i n) s = .next (s.put ((d.synWake (i % 4096)).answer m 0 0))) ∧
  (∀ (s : State) (w i n : Nat),
    s.b.on dSTEWARD = true →
    ∀ x : SynCtr, x = (s.b.ctr (i % 4096)) →
    n % 65536 ≤ x.v →
    exec (.synDec (.thread w) i n) s = .next (s.put ((s.b.setCtr (i % 4096) { x with v := x.v - n % 65536 }).synAnswer (8 + w % 8) (i % 4096) 0))) ∧
  (∀ (s : State) (w i n : Nat),
    s.b.on dSTEWARD = true →
    ∀ x : SynCtr, x = (s.b.ctr (i % 4096)) →
    x.v < n % 65536 →
    ∀ c : Block, c = ((s.b.setCtr (i % 4096) { x with v := 0, unf := true }).synAnswer (8 + w % 8) (i % 4096) 3) →
    exec (.synDec (.thread w) i n) s = .next (s.put ((((c.setf F.SYN_FAULT_INDEX (i % 4096)).setf F.SYN_FAULT_KIND 1).setf F.SYN_FAULT_VALID 1).raise Ev.STW_SYN_UNDERFLOW [(i % 4096, 16), (8 + w % 8, 8)]))) ∧
  (∀ (s : State) (w i n : Nat),
    s.b.on dSTEWARD = true →
    ∀ x : SynCtr, x = (s.b.ctr (i % 4096)) →
    n % 65536 ≤ x.v →
    exec (.synTake (.thread w) i n) s = .next (s.put ((s.b.setCtr (i % 4096) { x with v := x.v - n % 65536 }).synAnswer (8 + w % 8) (i % 4096) 0))) ∧
  (∀ (s : State) (w i n : Nat),
    s.b.on dSTEWARD = true →
    ∀ x : SynCtr, x = (s.b.ctr (i % 4096)) →
    x.v < n % 65536 →
    ∀ c : Block, c = ((s.b.setCtr (i % 4096) x).synAnswer (8 + w % 8) (i % 4096) 1) →
    exec (.synTake (.thread w) i n) s = .next (s.put ({ c with syn_ := { c.syn_ with waiters := c.syn_.waiters ++ [(w % 8, i % 4096, n % 65536)] } }))) ∧
  (∀ (s : State) (w i n : Nat),
    s.b.on dSTEWARD = true →
    ∀ x : SynCtr, x = (s.b.ctr (i % 4096)) →
    s.b.syn_.waiters.any (fun y => y.2.1 == i % 4096) = false →
    exec (.synSet (.thread w) i n) s = .next (s.put ((s.b.setCtr (i % 4096) { x with v := n % 65536 }).synAnswer (8 + w % 8) (i % 4096) 0))) ∧
  (∀ (s : State) (w i n : Nat),
    s.b.on dSTEWARD = true →
    s.b.syn_.waiters.any (fun y => y.2.1 == i % 4096) = true →
    exec (.synSet (.thread w) i n) s = .next (s.put (s.b.synAnswer (8 + w % 8) (i % 4096) 4))) ∧
  (∀ (s : State) (w i n : Nat),
    s.b.on dSTEWARD = true →
    ∀ x : SynCtr, x = (s.b.ctr (i % 4096)) →
    exec (.synClrf (.thread w) i n) s = .next (s.put ((s.b.setCtr (i % 4096) { x with ovf := false, unf := false }).synAnswer (8 + w % 8) (i % 4096) 0))) ∧
  (∀ (s : State) (w op i n : Nat),
    s.b.on dSTEWARD = true →
    exec (.synReservedOp (.thread w) op i n) s = .next (s.put (s.b.synAnswer (8 + w % 8) (i % 4096) 4))) ∧
  (∀ (s : State) (w i n : Nat),
    s.b.on dSTEWARD = true →
    exec (.synRead (.thread w) i n) s = .next (s.put (s.b.synAnswer (8 + w % 8) (i % 4096) 0))) ∧
  (∀ (s : State) (w i n : Nat),
    s.b.on dSTEWARD = true →
    ∀ x : SynCtr, x = (s.b.ctr (i % 4096)) →
    x.v + n % 65536 ≤ 0xFFFF →
    exec (.synInc (.thread w) i n) s = .next (s.put (((s.b.setCtr (i % 4096) { x with v := x.v + n % 65536 }).synAnswer (8 + w % 8) (i % 4096) 0).synWake (i % 4096)))) ∧
  (∀ (s : State) (m : Master) (op i n : Nat),
    s.b.respCode m 0xF100 0xF true (i % 4096 + (6 + op % 2) * 4096 + n % 65536 * 65536) = 0 →
    exec (.synReservedOp (.master m) op i n) s = .next (s.put ((s.b.synAnswer m.num (i % 4096) 4).answer m 0 0))) ∧
  (∀ (s : State) (m : Master) (i n : Nat),
    s.b.respCode m 0xF100 0xF true (i % 4096 + 8192 + n % 65536 * 65536) = 0 →
    256 ≤ i % 4096 →
    ∀ x : SynCtr, x = (s.b.ctr (i % 4096)) →
    n % 65536 ≤ x.v →
    exec (.synDec (.master m) i n) s = .next (s.put (((s.b.setCtr (i % 4096) { x with v := x.v - n % 65536 }).synAnswer m.num (i % 4096) 0).answer m 0 0))) ∧
  (∀ (s : State) (m : Master) (i n : Nat),
    s.b.respCode m 0xF100 0xF true (i % 4096 + 12288 + n % 65536 * 65536) = 0 →
    256 ≤ i % 4096 →
    ∀ x : SynCtr, x = (s.b.ctr (i % 4096)) →
    n % 65536 ≤ x.v →
    exec (.synTake (.master m) i n) s = .next (s.put (((s.b.setCtr (i % 4096) { x with v := x.v - n % 65536 }).synAnswer m.num (i % 4096) 0).answer m 0 0))) ∧
  (∀ (s : State) (m : Master) (i n : Nat),
    s.b.respCode m 0xF100 0xF true (i % 4096 + 12288 + n % 65536 * 65536) = 0 →
    256 ≤ i % 4096 →
    ∀ x : SynCtr, x = (s.b.ctr (i % 4096)) →
    x.v < n % 65536 →
    exec (.synTake (.master m) i n) s = .next (s.put (((s.b.setCtr (i % 4096) x).synAnswer m.num (i % 4096) 1).answer m 0 0))) ∧
  (∀ (s : State) (m : Master) (i n : Nat),
    s.b.respCode m 0xF100 0xF true (i % 4096 + 16384 + n % 65536 * 65536) = 0 →
    256 ≤ i % 4096 →
    ∀ x : SynCtr, x = (s.b.ctr (i % 4096)) →
    s.b.syn_.waiters.any (fun y => y.2.1 == i % 4096) = false →
    exec (.synSet (.master m) i n) s = .next (s.put (((s.b.setCtr (i % 4096) { x with v := n % 65536 }).synAnswer m.num (i % 4096) 0).answer m 0 0))) ∧
  (∀ (s : State) (m : Master) (i n : Nat),
    s.b.respCode m 0xF100 0xF true (i % 4096 + 20480 + n % 65536 * 65536) = 0 →
    256 ≤ i % 4096 →
    ∀ x : SynCtr, x = (s.b.ctr (i % 4096)) →
    exec (.synClrf (.master m) i n) s = .next (s.put (((s.b.setCtr (i % 4096) { x with ovf := false, unf := false }).synAnswer m.num (i % 4096) 0).answer m 0 0))) ∧
  (∀ (s : State) (w i n : Nat),
    s.b.on dSTEWARD = false →
    exec (.synTake (.thread w) i n) s = .next (s.put (s.b))) ∧
  (∀ (c : SynCtr) (n : Nat),
    c.v < 65536 →
    (synInc c n).1.v = min 0xFFFF (c.v + n) ∧ (synDec c n).1.v = c.v - n ∧ (synTake c n).1.v ≤ c.v ∧ ((synInc c n).1.ovf = true ↔ c.ovf = true ∨ 0xFFFF < c.v + n) ∧ ((synDec c n).1.unf = true ↔ c.unf = true ∨ c.v < n) ∧ (synTake c n).1.unf = c.unf)

/-- A level of IRQ_IN is followed in the level modes and its edge sets the IRQ_EXT bit in the edge modes; in RET the latch holds the edges of the copied mode. A read of IRQ_CLAIM[0] by software claims nothing; a claim takes the eligible source of highest PRIO, ties to the lowest number, pushes it with the RP it saves and raises RP; the source it takes is eligible. EOI of the top source restores RP, any other raises EOI_BAD. A hold that ends judges the line again, HOLD's end makes a guarded source eligible, and a further WIN clears its count. -/
def Obligations.Interrupts : Prop :=
  (∀ (s : State) (n : Nat) (level : Bool),
    ∀ k : Nat, k = (n % 32) →
    s.b.on dSTEWARD = true →
    s.b.inMode k = 2 →
    ∀ c : Block, c = ({ s.b with irq := { s.b.irq with inLvl := setBit s.b.irq.inLvl k (if level then 1 else 0) } }) →
    exec (.irqInEdge n level) s = .next (s.put (if level = true ∧ bit s.b.irq.inLvl k = 0 then c.extSet k else c))) ∧
  (∀ (s : State) (n : Nat) (level : Bool),
    ∀ k : Nat, k = (n % 32) →
    s.b.on dSTEWARD = true →
    s.b.inMode k = 0 →
    ∀ c : Block, c = ({ s.b with irq := { s.b.irq with inLvl := setBit s.b.irq.inLvl k (if level then 1 else 0) } }) →
    exec (.irqInEdge n level) s = .next (s.put (if level then c.extSet k else c.setf (extFld k) 0))) ∧
  (∀ (s : State) (n : Nat),
    ∀ k : Nat, k = (n % 32) →
    s.b.dom dSTEWARD = 1 →
    s.b.on dSTEWARD = false →
    (s.b.irq.latchMode[k]?).getD 0 = 3 →
    bit s.b.irq.inLvl k = 1 →
    exec (.irqInEdge n false) s = .next (s.put ({ s.b with irq := { s.b.irq with inLvl := setBit s.b.irq.inLvl k 0, latched := setBit s.b.irq.latched k 1 } }))) ∧
  (∀ (s : State) (m : Master),
    s.b.respCode m 0xF210 0xF false 0 = 0 →
    exec (.irqClaim (.master m) 0) s = .next (s.put (s.b.answer m 0 0))) ∧
  (∀ (s : State) (m : Master) (t0 : Nat),
    t0 = 1 ∨ t0 = 2 ∨ t0 = 3 →
    s.b.respCode m (0xF210 + 16 * t0) 0xF false 0 = 0 →
    pickClaim s.b.prio (s.b.eligibles t0) = none →
    exec (.irqClaim (.master m) t0) s = .next (s.put (s.b.answer m 0 0))) ∧
  (∀ (s : State) (m : Master) (t0 k : Nat),
    t0 = 1 ∨ t0 = 2 ∨ t0 = 3 →
    s.b.respCode m (0xF210 + 16 * t0) 0xF false 0 = 0 →
    pickClaim s.b.prio (s.b.eligibles t0) = some k →
    ∀ x : IrqTgt, x = (s.b.tgt t0) →
    ∀ c : Block, c = (s.b.setTgt t0 { x with stack := (k, x.rp) :: x.stack, rp := s.b.prio k }) →
    exec (.irqClaim (.master m) t0) s = .next (s.put ((c.irqLine t0).answer m 0 (k + s.b.prio k * 2 ^ 16 + 2 ^ 31)))) ∧
  (∀ (s : State) (w : Nat) (k : Nat),
    s.b.threadRuns 4 = true →
    pickClaim s.b.prio (s.b.eligibles 0) = some k →
    ∀ x : IrqTgt, x = (s.b.tgt 0) →
    exec (.irqClaim (.thread w) 0) s = .next (s.put ((s.b.setTgt 0 { x with stack := (k, x.rp) :: x.stack, rp := s.b.prio k }).irqLine 0))) ∧
  (∀ (b : Block) (t0 k : Nat),
    pickClaim b.prio (b.eligibles t0) = some k →
    b.eligible t0 k = true ∧ (b.eligibles t0).all (fun j => decide (b.prio j < b.prio k ∨ (b.prio j = b.prio k ∧ k ≤ j))) = true) ∧
  (∀ (s : State) (m : Master) (t0 src rp : Nat) (rest : List (Nat × Nat)),
    t0 < 4 →
    src < 512 →
    s.b.respCode m (0xF214 + 16 * t0) 0xF true src = 0 →
    ∀ x : IrqTgt, x = (s.b.tgt t0) →
    x.stack = (src, rp) :: rest →
    s.b.pends src = false →
    ∀ c : Block, c = (s.b.setTgt t0 { x with stack := rest, rp := rp }) →
    c.pends src = false →
    exec (.irqEoi (.master m) t0 src) s = .next (s.put ((c.irqLine t0).answer m 0 0))) ∧
  (∀ (s : State) (w src rp : Nat) (rest : List (Nat × Nat)),
    src < 512 →
    s.b.threadRuns 4 = true →
    ∀ x : IrqTgt, x = (s.b.tgt 0) →
    x.stack = (src, rp) :: rest →
    s.b.pends src = false →
    ∀ c : Block, c = (s.b.setTgt 0 { x with stack := rest, rp := rp }) →
    c.pends src = false →
    exec (.irqEoi (.thread w) 0 src) s = .next (s.put (c.irqLine 0))) ∧
  (∀ (s : State) (m : Master) (t0 src : Nat),
    t0 < 4 →
    src < 512 →
    s.b.respCode m (0xF214 + 16 * t0) 0xF true src = 0 →
    ((s.b.tgt t0).stack.head?).map (fun p => p.1) ≠ some src →
    exec (.irqEoi (.master m) t0 src) s = .next (s.put ((s.b.raise Ev.STW_EOI_BAD).answer m 0 0))) ∧
  (∀ (s : State) (n : Nat),
    s.b.on dSTEWARD = true →
    exec (.irqHoldExpire n) s = .next (s.put (s.b.irqLine (n % 4)))) ∧
  (∀ (b : Block) (t0 : Nat),
    b.eligibles t0 = [] →
    b.irqLine t0 = b.setTgt t0 { (b.tgt t0) with line := false }) ∧
  (∀ (s : State) (src e : Nat),
    ∀ g : Guard, g = (s.b.irq.guards.getD src {}) →
    g.holdEnd = some e →
    e ≤ s.b.clk.core →
    exec (.stormGuardEnd src) s = .next (s.put ({ s.b with irq := { s.b.irq with guards := s.b.irq.guards.put src { g with holdEnd := none, lastEnd := some e, begins := [] } } }))) ∧
  (∀ (s : State) (src : Nat),
    (s.b.irq.guards.getD src {}).holdEnd = none →
    exec (.stormGuardEnd src) s = .next (s.put (s.b))) ∧
  (∀ (s : State) (src e : Nat),
    ∀ g : Guard, g = (s.b.irq.guards.getD src {}) →
    g.holdEnd = none →
    g.lastEnd = some e →
    e + s.b.stormWin < s.b.clk.core →
    exec (.guardCountClear src) s = .next (s.put ({ s.b with irq := { s.b.irq with guards := s.b.irq.guards.put src { g with count := 0, lastEnd := none } } }))) ∧
  (∀ (s : State) (src : Nat),
    (s.b.irq.guards.getD src {}).lastEnd = none →
    exec (.guardCountClear src) s = .next (s.put (s.b)))

/-- A record carries the waiting entries, at most 64, in SEQNO order once 64 wait or the oldest waited 1 ms, and none is formed without LOG_EMIT or while the duty is shed. A write of STW_LOG_SEL latches the entry with that SEQNO, or zeros. A watcher slot fires only where it is enabled and its condition is seen, wakes a sleeping block and stops an entry; the timer stops when it reaches 0. -/
def Obligations.EventLogAndWatcher : Prop :=
  (∀ (s : State),
    ∀ l : List LogEntry, l = (s.b.evl.uncarried) →
    s.b.threadRuns 5 = true →
    s.b.is F.STW_CTRL_LOG_EMIT = true →
    64 ≤ l.length ∨ l.head?.any (fun e => decide (e.time + s.b.us 1000 ≤ s.b.clk.core)) = true →
    ∀ c : Block, c = ({ s.b with evl := { s.b.evl with carried := ((l.take 64).getLast?).elim s.b.evl.carried (fun e => e.seqno) } }) →
    exec (.evtLogRecord) s = .next (s.put (c.emitRow 7 0x03 0 0 0 ((l.take 64).flatMap LogEntry.bytes)))) ∧
  (∀ (s : State),
    s.b.is F.STW_CTRL_LOG_EMIT = false ∨ s.b.shed 5 = true ∨ s.b.evl.uncarried = [] →
    exec (.evtLogRecord) s = .next (s.put (s.b))) ∧
  (∀ (s : State) (m : Master) (n : Nat) (e : LogEntry),
    n < 2 ^ 32 →
    s.b.respCode m 0xF038 0xF true n = 0 →
    ∀ c : Block, c = (s.b.setf F.STW_LOG_SEL_SEQNO n) →
    s.b.evl.ring.find? (fun x => x.seqno == n) = some e →
    exec (.logSelect m n) s = .next (s.put (({ c with evl := { c.evl with latch := (List.range 12).map (fun i => leAt e.bytes (4 * i) 4) } }).answer m 0 0))) ∧
  (∀ (s : State) (m : Master) (n : Nat),
    n < 2 ^ 32 →
    s.b.respCode m 0xF038 0xF true n = 0 →
    ∀ c : Block, c = (s.b.setf F.STW_LOG_SEL_SEQNO n) →
    s.b.evl.ring.find? (fun x => x.seqno == n) = none →
    exec (.logSelect m n) s = .next (s.put (({ c with evl := { c.evl with latch := [] } }).answer m 0 0))) ∧
  (∀ (s : State),
    s.b.f F.PWR_WAKE_TIMER_US ≠ 0 →
    s.b.f F.PWR_WAKE_TIMER_US ≤ (s.b.clk.aon - s.b.pwr.timerFrom) / 25 →
    exec (.wakeTimerExpire) s = .next (s.put (({ s.b with pwr := { s.b.pwr with timerHit := true } }).setf F.PWR_WAKE_TIMER_US 0))) ∧
  (∀ (s : State),
    (s.b.clk.aon - s.b.pwr.timerFrom) / 25 < s.b.f F.PWR_WAKE_TIMER_US ∨ s.b.f F.PWR_WAKE_TIMER_US = 0 →
    exec (.wakeTimerExpire) s = .next (s.put (s.b))) ∧
  (∀ (s : State) (n : Nat),
    ∀ k : Nat, k = (n % 32) →
    s.b.is (F.PWR_WAKE_SRC_EN.at k) = false ∨ s.b.watched (s.b.f (F.PWR_WAKE_SRC_SRC.at k)) = false →
    exec (.wakeWatchFire n) s = .next (s.put (s.b))) ∧
  (∀ (s : State) (n : Nat) (q : PSeq),
    ∀ k : Nat, k = (n % 32) →
    s.b.is (F.PWR_WAKE_SRC_EN.at k) = true →
    s.b.watched (s.b.f (F.PWR_WAKE_SRC_SRC.at k)) = true →
    s.b.pwr.seq = some q →
    q.kind = .entry →
    ∀ c : Block, c = (s.b.setf ⟨0x10880, k, 1, 0⟩ 1) →
    exec (.wakeWatchFire n) s = .next (s.put ({ c with pwr := { c.pwr with woken := true } }))) ∧
  (∀ (s : State) (n : Nat),
    ∀ k : Nat, k = (n % 32) →
    s.b.is (F.PWR_WAKE_SRC_EN.at k) = true →
    s.b.watched (s.b.f (F.PWR_WAKE_SRC_SRC.at k)) = true →
    s.b.pwr.seq = none →
    ∀ c : Block, c = (s.b.setf ⟨0x10880, k, 1, 0⟩ 1) →
    exec (.wakeWatchFire n) s = .next (s.put (if c.is F.PWR_STATUS_ASLEEP then c.wakeAll .wake else c)))

/-- An active node puts a frame on the wire once it has won arbitration; a loser waits, and in solo-listen only BEACONs go out. A RESP completes the request to its sender, a frame from another node ends solo-listen with REJOIN and one BEACON, and the requests that failed in it wait again, a frame with this node's own address raises VSB_ADDR_CLASH. A frame without ACK is sent again after 100 µs × 2^k, RETRY times, and then ends in NOACK where another node was heard within 10 ms, else in solo-listen; a request without RESP for 1 ms is sent again. A bad CRC counts and raises VSB_CRC. -/
def Obligations.Sideband : Prop :=
  (∀ (s : State) (f : VsbFrame) (acked : Bool),
    s.b.vsbOn = true →
    f.dest ≠ 0x3F →
    s.b.is F.STW_VSB_STATUS_SOLO = false →
    s.b.vsb.out = none →
    ∀ c : Block, c = ({ s.b with vsb := { s.b.vsb with queue := s.b.vsb.queue.filter (fun x => x != f) } }) →
    ∀ d : Block, d = ((c.vsbPut f).checkIn 3) →
    ∀ o : Option VsbOut, o = (if acked then (if f.request then some { frame := f, tries := 0, sentAt := d.clk.aon, acked := true } else none) else some { frame := f, tries := 0, sentAt := d.clk.aon, acked := false }) →
    exec (.vsbFrameSend f true acked) s = .next (s.put ({ d with vsb := { d.vsb with out := o } }).drivenCheck)) ∧
  (∀ (s : State) (f : VsbFrame) (acked : Bool),
    s.b.vsbOn = true →
    f.dest = 0x3F →
    f.typ = 4 ∨ s.b.is F.STW_VSB_STATUS_SOLO = false →
    ∀ c : Block, c = ({ s.b with vsb := { s.b.vsb with queue := s.b.vsb.queue.filter (fun x => x != f) } }) →
    exec (.vsbFrameSend f true acked) s = .next (s.put ((c.vsbPut f).checkIn 3).drivenCheck)) ∧
  (∀ (s : State) (f : VsbFrame) (acked : Bool),
    s.b.vsbOn = true →
    s.b.is F.STW_VSB_STATUS_SOLO = false →
    exec (.vsbFrameSend f false acked) s = .next (s.put ({ s.b with vsb := { s.b.vsb with queue := s.b.vsb.queue.filter (fun x => x != f) ++ [f] } }).drivenCheck)) ∧
  (∀ (s : State) (f : VsbFrame) (won acked : Bool),
    s.b.vsbOn = true →
    s.b.is F.STW_VSB_STATUS_SOLO = true →
    f.dest ≠ 0x3F →
    exec (.vsbFrameSend f won acked) s = .next (s.put ({ s.b with vsb := { s.b.vsb with failed := f :: s.b.vsb.failed, lone := s.b.vsb.lone ++ [f] } }).drivenCheck)) ∧
  (∀ (s : State) (src status value : Nat) (o : VsbOut),
    s.b.vsbOn = true →
    ∀ c : Block, c = (s.b.vsbHeard src) →
    c.vsb.out = some o →
    o.acked = true →
    o.frame.dest = src →
    exec (.vsbRespReceived src status value) s = .next (s.put ({ c with vsb := { c.vsb with out := none, answer := some (status, value) } }))) ∧
  (∀ (s : State) (src status value : Nat),
    s.b.vsbOn = true →
    ∀ c : Block, c = (s.b.vsbHeard src) →
    c.vsb.out = none →
    exec (.vsbRespReceived src status value) s = .next (s.put (c))) ∧
  (∀ (b : Block) (src : Nat),
    src = b.vsbAddr →
    ∀ c : Block, c = (b.count F.STW_VSB_STAT_FRAMES) →
    b.vsbHeard src = ({ c with vsb := { c.vsb with seen := true } }).raise Ev.STW_VSB_ADDR_CLASH [(src, 8)]) ∧
  (∀ (s : State) (src ploc role : Nat) (solo : Bool),
    s.b.vsbOn = true →
    src ≠ s.b.vsbAddr →
    s.b.is F.STW_VSB_STATUS_SOLO = true →
    ∀ c : Block, c = (s.b.count F.STW_VSB_STAT_FRAMES) →
    ∀ d : Block, d = ({ c with vsb := { c.vsb with seen := true, heard := some c.clk.aon } }) →
    d.vsbAddr = s.b.vsbAddr →
    d.is F.STW_VSB_STATUS_SOLO = true →
    ∀ e : Block, e = ((d.setf F.STW_VSB_STATUS_SOLO 0).raise Ev.STW_VSB_REJOIN) →
    ∀ v : Block, v = (e.vsbPut (e.vsbBeacon false)) →
    exec (.vsbBeaconReceived src ploc role solo) s = .next (s.put ({ v with vsb := { v.vsb with queue := v.vsb.queue ++ d.vsb.lone, lone := [] } }))) ∧
  (∀ (s : State) (src ploc role : Nat) (solo : Bool),
    s.b.vsbOn = false →
    exec (.vsbBeaconReceived src ploc role solo) s = .next (s.put (s.b))) ∧
  (∀ (s : State) (src proc ldi step repoch : Nat),
    s.b.vsbOn = true →
    exec (.vsbProcReceived src proc ldi step repoch) s = .next (s.put ((s.b.vsbHeard src).vsbProc proc ldi step repoch))) ∧
  (∀ (s : State) (acked : Bool) (o : VsbOut),
    s.b.vsb.out = some o →
    o.acked = false →
    o.tries < atLeast1 (s.b.f F.STW_VSB_CFG_RETRY) →
    o.sentAt + aonUs (100 * 2 ^ o.tries) ≤ s.b.clk.aon →
    ∀ c : Block, c = (s.b.vsbPut o.frame) →
    ∀ n : Option VsbOut, n = (if acked then (if o.frame.request then some { frame := o.frame, tries := o.tries + 1, sentAt := c.clk.aon, acked := true } else none) else some { frame := o.frame, tries := o.tries + 1, sentAt := c.clk.aon, acked := false }) →
    exec (.vsbNoackRetry acked) s = .next (s.put ({ c with vsb := { c.vsb with out := n } }).drivenCheck)) ∧
  (∀ (s : State) (acked : Bool) (o : VsbOut),
    s.b.vsb.out = some o →
    o.acked = false →
    atLeast1 (s.b.f F.STW_VSB_CFG_RETRY) ≤ o.tries →
    s.b.vsb.heard.any (fun n => decide (s.b.clk.aon - n ≤ aonUs 10000)) = true →
    exec (.vsbNoackRetry acked) s = .next (s.put (({ s.b with vsb := { s.b.vsb with out := none, failed := o.frame :: s.b.vsb.failed } }).count F.STW_VSB_STAT_NOACK).drivenCheck)) ∧
  (∀ (s : State) (acked : Bool) (o : VsbOut),
    s.b.vsb.out = some o →
    o.acked = false →
    atLeast1 (s.b.f F.STW_VSB_CFG_RETRY) ≤ o.tries →
    s.b.vsb.heard = none →
    ∀ gone : List VsbFrame, gone = (o.frame :: s.b.vsb.queue.filter (fun x => x.dest != 0x3F)) →
    ∀ c : Block, c = ({ s.b with vsb := { s.b.vsb with out := none, queue := s.b.vsb.queue.filter (fun x => x.dest == 0x3F), failed := gone ++ s.b.vsb.failed, lone := gone, beaconIv := aonUs 1000, beaconAt := s.b.clk.aon + aonUs 1000 } }) →
    exec (.vsbNoackRetry acked) s = .next (s.put (((c.count F.STW_VSB_STAT_NOACK gone.length).setf F.STW_VSB_STATUS_SOLO 1).raise Ev.STW_VSB_LONE).drivenCheck)) ∧
  (∀ (s : State) (acked : Bool),
    s.b.vsb.out = none →
    exec (.vsbNoackRetry acked) s = .next (s.put (s.b.drivenCheck))) ∧
  (∀ (s : State) (acked : Bool) (o : VsbOut),
    s.b.vsb.out = some o →
    o.acked = true →
    o.sentAt + aonUs 1000 ≤ s.b.clk.aon →
    ∀ c : Block, c = (s.b.vsbPut o.frame) →
    ∀ n : Option VsbOut, n = (if acked then (if o.frame.request then some { frame := o.frame, tries := 0, sentAt := c.clk.aon, acked := true } else none) else some { frame := o.frame, tries := 0, sentAt := c.clk.aon, acked := false }) →
    exec (.vsbRespTimeout acked) s = .next (s.put ({ c with vsb := { c.vsb with out := n } }))) ∧
  (∀ (s : State) (acked : Bool),
    s.b.vsb.out = none →
    exec (.vsbRespTimeout acked) s = .next (s.put (s.b))) ∧
  (∀ (s : State),
    s.b.vsbOn = true →
    exec (.vsbStuck) s = .next (s.put (s.b.raise Ev.STW_VSB_STUCK))) ∧
  (∀ (s : State),
    s.b.vsbOn = true →
    s.b.is F.STW_VSB_STATUS_SOLO = true →
    s.b.vsb.beaconAt ≤ s.b.clk.aon →
    ∀ iv : Nat, iv = (min (2 * s.b.vsb.beaconIv) (aonUs (10000 * atLeast1 (s.b.f F.STW_VSB_CFG_BMAX)))) →
    ∀ c : Block, c = (s.b.vsbPut (s.b.vsbBeacon true)) →
    exec (.vsbSoloBeacon) s = .next (s.put ({ c with vsb := { c.vsb with beaconIv := iv, beaconAt := c.clk.aon + iv } }))) ∧
  (∀ (s : State),
    s.b.is F.STW_VSB_STATUS_SOLO = false →
    exec (.vsbSoloBeacon) s = .next (s.put (s.b))) ∧
  (∀ (s : State),
    s.b.vsbOn = true →
    exec (.vsbFrameCrcFail) s = .next (s.put ((s.b.count F.STW_VSB_STAT_CRC).raise Ev.STW_VSB_CRC)))

/-- CHAL draws a nonce (a free value) live for 10 s. An attempt in lockout gives LOCKED_OUT, RESPOND without a live nonce NO_CHAL and uses the nonce up, PASSWORD without one stored or with SEALED gives SEALED, none of them counted; a wrong secret gives BAD, raises UNLOCK_FAIL and from the third starts a lockout of 2^(n - 3) s, at most 1,024; a right one adds the rights and partitions to the grant, a password never KEYADMIN, and clears the count. Every attempt clears SEC_RESP; another master's record stays. RELOCK returns the master to its baseline. -/
def Obligations.UnlockAndLockout : Prop :=
  (∀ (s : State) (m : Master),
    s.b.respCode m 0x11050 0xF true 1 = 0 →
    ∀ v : Nat, v = (s.b.fresh.1) →
    ∀ c : Block, c = (s.b.fresh.2) →
    exec (.unlockChal m) s = .next (s.put ((c.setSec m (fun x => { x with nonce := some (v % 2 ^ 256, c.clk.aon + 250000000) })).answer m 0 0))) ∧
  (∀ (s : State) (m : Master) (word : Nat),
    s.b.respCode m 0x11050 0xF true (word / 16 * 16 + 2) = 0 →
    s.b.lockedOut m = true →
    exec (.unlockRespond m word) s = .next (s.put ((s.b.setSec m (fun x => { x with nonce := none, result := 2, resp := [0, 0, 0, 0, 0, 0, 0, 0] })).answer m 0 0))) ∧
  (∀ (s : State) (m : Master) (word : Nat),
    s.b.respCode m 0x11050 0xF true (word / 16 * 16 + 2) = 0 →
    s.b.lockedOut m = false →
    s.b.liveNonce m = none →
    exec (.unlockRespond m word) s = .next (s.put ((s.b.setSec m (fun x => { x with nonce := none, result := 3, resp := [0, 0, 0, 0, 0, 0, 0, 0] })).answer m 0 0))) ∧
  (∀ (s : State) (m : Master) (word v : Nat),
    s.b.respCode m 0x11050 0xF true (word / 16 * 16 + 2) = 0 →
    s.b.lockedOut m = false →
    s.b.liveNonce m = some v →
    hmac256 (keyBytes s.b.sec.keys 0x330 32) (s.b.chalMsg m v word) = (s.b.sec.of m).respBytes →
    ∀ c : Block, c = (s.b.setSec m (fun x => { x with nonce := none, result := 0, resp := [0, 0, 0, 0, 0, 0, 0, 0], fails := 0, addR := x.addR ||| bits word 4 4, addP := x.addP ||| bits word 8 8 })) →
    exec (.unlockRespond m word) s = .next (s.put ((c.raise Ev.SEC_UNLOCK [(m.num, 8)]).answer m 0 0))) ∧
  (∀ (s : State) (m : Master) (word v : Nat),
    s.b.respCode m 0x11050 0xF true (word / 16 * 16 + 2) = 0 →
    s.b.lockedOut m = false →
    s.b.liveNonce m = some v →
    hmac256 (keyBytes s.b.sec.keys 0x330 32) (s.b.chalMsg m v word) ≠ (s.b.sec.of m).respBytes →
    ∀ n : Nat, n = ((s.b.sec.of m).fails + 1) →
    n < 3 →
    ∀ c : Block, c = (s.b.setSec m (fun x => { x with nonce := none, result := 1, resp := [0, 0, 0, 0, 0, 0, 0, 0], fails := n })) →
    exec (.unlockRespond m word) s = .next (s.put ((c.raise Ev.SEC_UNLOCK_FAIL [(m.num, 8)]).answer m 0 0))) ∧
  (∀ (s : State) (m : Master) (word : Nat),
    s.b.respCode m 0x11050 0xF true (word / 16 * 16 + 4) = 0 →
    s.b.lockedOut m = true →
    exec (.unlockPassword m word) s = .next (s.put ((s.b.setSec m (fun x => { x with result := 2, resp := [0, 0, 0, 0, 0, 0, 0, 0] })).answer m 0 0))) ∧
  (∀ (s : State) (m : Master) (word : Nat),
    s.b.respCode m 0x11050 0xF true (word / 16 * 16 + 4) = 0 →
    s.b.lockedOut m = false →
    s.b.sealed = true ∨ s.b.pwDigest = List.replicate 32 0xFF →
    exec (.unlockPassword m word) s = .next (s.put ((s.b.setSec m (fun x => { x with result := 4, resp := [0, 0, 0, 0, 0, 0, 0, 0] })).answer m 0 0))) ∧
  (∀ (s : State) (m : Master) (word : Nat),
    s.b.respCode m 0x11050 0xF true (word / 16 * 16 + 4) = 0 →
    s.b.lockedOut m = false →
    s.b.sealed = false →
    s.b.pwDigest ≠ List.replicate 32 0xFF →
    sha256 (s.b.sec.of m).respBytes = s.b.pwDigest →
    ∀ c : Block, c = (s.b.setSec m (fun x => { x with result := 0, resp := [0, 0, 0, 0, 0, 0, 0, 0], fails := 0, addR := x.addR ||| bits word 4 3, addP := x.addP ||| bits word 8 8 })) →
    exec (.unlockPassword m word) s = .next (s.put ((c.raise Ev.SEC_UNLOCK [(m.num, 8)]).answer m 0 0))) ∧
  (∀ (s : State) (m : Master) (word : Nat),
    s.b.respCode m 0x11050 0xF true (word / 16 * 16 + 4) = 0 →
    s.b.lockedOut m = false →
    s.b.sealed = false →
    s.b.pwDigest ≠ List.replicate 32 0xFF →
    sha256 (s.b.sec.of m).respBytes ≠ s.b.pwDigest →
    ∀ n : Nat, n = ((s.b.sec.of m).fails + 1) →
    3 ≤ n →
    ∀ c : Block, c = ((s.b.setSec m (fun x => { x with result := 1, resp := [0, 0, 0, 0, 0, 0, 0, 0], fails := n })).raise Ev.SEC_UNLOCK_FAIL [(m.num, 8)]) →
    ∀ d : Block, d = (c.setSec m (fun x => { x with lockEnd := some (c.clk.aon + min 1024 (2 ^ (n - 3)) * 25000000) })) →
    exec (.unlockPassword m word) s = .next (s.put ((d.raise Ev.SEC_LOCKOUT [(m.num, 8)]).answer m 0 0))) ∧
  (∀ (s : State) (m : Master),
    s.b.respCode m 0x11050 0xF true 8 = 0 →
    ∀ c : Block, c = (s.b.setSec m (fun x => { x with addR := 0, addP := 0 })) →
    exec (.unlockRelock m) s = .next (s.put ((c.raise Ev.SEC_RELOCK [(m.num, 8)]).answer m 0 0))) ∧
  (∀ (s : State) (m : Master),
    (s.b.liveNonce m).isSome = true →
    exec (.nonceExpire m) s = .next (s.put (s.b))) ∧
  (∀ (s : State) (m : Master),
    s.b.liveNonce m = none →
    exec (.nonceExpire m) s = .next (s.put (s.b.setSec m (fun x => { x with nonce := none })))) ∧
  (∀ (s : State) (m : Master),
    s.b.lockedOut m = true →
    exec (.lockoutEnd m) s = .next (s.put (s.b))) ∧
  (∀ (s : State) (m : Master),
    s.b.lockedOut m = false →
    exec (.lockoutEnd m) s = .next (s.put (s.b.setSec m (fun x => { x with lockEnd := none })))) ∧
  (∀ (b : Block) (m n : Master) (f : MasterSec → MasterSec),
    m ≠ n →
    (b.setSec m f).sec.of n = b.sec.of n ∧ (b.setSec m f).sec.of m = f (b.sec.of m) ∧ (b.setSec m f).sec.keys = b.sec.keys)

/-- REVOKE by a master holding KEYADMIN begins the program of the selected slot, refused with DENIED and no effect for the slot that signed ACTIVE and for the last live slot. When the program ends the byte is 0x01 at once and KEY_REVOKED carries the KEYID, or, where it failed, nothing changes. A private test-port instruction without DEBUG selects bypass and raises JTAG_DENIED; SCAN first clears the other masters' grants and every nonce; an unlisted code is BYPASS. -/
def Obligations.RevocationAndTestPort : Prop :=
  (∀ (s : State) (m : Master),
    s.b.respCode m 0x11078 0xF true 8 = 0 →
    ∀ k : Nat, k = (s.b.f F.SEC_KEY_SEL_SLOT) →
    s.b.sec.signer = some k ∨ liveSlots s.b.sec.keys = [k] →
    exec (.keyRevoke m) s = .next (s.put ((s.b.answer m 2 0).raise Ev.SEC_DENIED [(m.num, 8), (0x11078, 24)]))) ∧
  (∀ (s : State) (m : Master),
    s.b.respCode m 0x11078 0xF true 8 = 0 →
    ∀ k : Nat, k = (s.b.f F.SEC_KEY_SEL_SLOT) →
    s.b.sec.signer ≠ some k →
    liveSlots s.b.sec.keys ≠ [k] →
    s.b.sec.pgm = none →
    exec (.keyRevoke m) s = .next (s.put (({ s.b with sec := { s.b.sec with pgm := some k } }).answer m 0 0))) ∧
  (∀ (s : State) (k : Nat),
    s.b.sec.pgm = some k →
    ∀ i : Nat, i = (102 * k + 101) →
    ∀ c : Block, c = ({ s.b with sec := { s.b.sec with pgm := none, otp := s.b.sec.otp.put i 1, keys := s.b.sec.keys.put i 1 } }) →
    exec (.keyPgmDone false) s = .next (s.put (c.raise Ev.SEC_KEY_REVOKED [(slotKeyId s.b.sec.keys k, 32)]))) ∧
  (∀ (s : State),
    exec (.keyPgmDone true) s = .next (s.put ({ s.b with sec := { s.b.sec with pgm := none } }))) ∧
  (∀ (k : SMap Byte) (n : Nat),
    n < 8 →
    slotRevoked (k.put (102 * n + 101) 1) n = true ∧ n ∉ liveSlots (k.put (102 * n + 101) 1)) ∧
  (∀ (s : State) (code : Nat),
    code = 0x30 ∨ code = 0x31 →
    bit (s.b.rights .test) 0 = 0 →
    exec (.testInstruction code) s = .next (s.put (({ s.b with sec := { s.b.sec with jtag := 0xFF } }).raise Ev.SEC_JTAG_DENIED))) ∧
  (∀ (s : State),
    bit (s.b.rights .test) 0 = 1 →
    ∀ m : MasterSec, m = ({ s.b.sec.mgmt with addR := 0, addP := 0, nonce := none }) →
    ∀ v : MasterSec, v = ({ s.b.sec.vsb with addR := 0, addP := 0, nonce := none }) →
    exec (.testInstruction 0x31) s = .next (s.put ({ s.b with sec := { s.b.sec with mgmt := m, vsb := v, test := { s.b.sec.test with nonce := none }, jtag := 0x31 } }))) ∧
  (∀ (s : State),
    bit (s.b.rights .test) 0 = 1 →
    exec (.testInstruction 0x30) s = .next (s.put ({ s.b with sec := { s.b.sec with jtag := 0x30 } }))) ∧
  (∀ (s : State) (code : Nat),
    code ≠ 0x30 →
    code ≠ 0x31 →
    exec (.testInstruction code) s = .next (s.put ({ s.b with sec := { s.b.sec with jtag := if code = 0x01 ∨ code = 0x10 ∨ code = 0x20 then code else 0xFF } })))

/-- GO begins a sleep that asks the present domains whose target is not ON, in reverse release order, or is refused at once with REASON PF or PF_NEED and stops no domain; while a sequence runs it is ignored. The asked domain answers READY, and its switch is requested, or REFUSE with its REASON, which rolls the sleep back; no answer within WAIT counts as TIMEOUT. An acknowledgement stops or returns the domain; without one in 100 µs it reads FAULT and SWITCH_FAULT is raised; after the gap the next domain is requested. WAKE wakes the domains that the sleep stopped. That GO is also ignored while ASLEEP is log entry 120's. -/
def Obligations.SleepAndWake : Prop :=
  (∀ (s : State) (m : Master) (word : Nat),
    s.b.respCode m 0x1000C 0xF true word = 0 →
    ∀ c : Block, c = (s.b.setf F.PWR_SLEEP_WAIT (bits word 8 8)) →
    c.pwr.seq = none →
    c.is F.PWR_STATUS_ASLEEP = false →
    c.holding = false →
    c.pwr.pfLow = true →
    ∀ d : Block, d = ({ c with pwr := { c.pwr with stopped := [], woken := false, refusal := some (0, 0xE, 0) } }) →
    exec (.sleepGo m word) s = .next (s.put ((d.seqEnd .rollback).answer m 0 0))) ∧
  (∀ (s : State) (m : Master) (word : Nat),
    s.b.respCode m 0x1000C 0xF true word = 0 →
    ∀ c : Block, c = (s.b.setf F.PWR_SLEEP_WAIT (bits word 8 8)) →
    c.pwr.seq = none →
    c.is F.PWR_STATUS_ASLEEP = false →
    c.holding = false →
    c.pwr.pfLow = false →
    c.syn.agg = true →
    c.is F.COC_CTRL_EN = true →
    c.target dSTORE = 0 →
    ∀ d : Block, d = ({ c with pwr := { c.pwr with stopped := [], woken := false, refusal := some (0, 0xD, 0) } }) →
    exec (.sleepGo m word) s = .next (s.put ((d.seqEnd .rollback).answer m 0 0))) ∧
  (∀ (s : State) (m : Master) (word d : Nat) (l : List Nat),
    s.b.respCode m 0x1000C 0xF true word = 0 →
    ∀ c : Block, c = (s.b.setf F.PWR_SLEEP_WAIT (bits word 8 8)) →
    c.pwr.seq = none →
    c.is F.PWR_STATUS_ASLEEP = false →
    c.holding = false →
    c.goRefused = none →
    ∀ e : Block, e = ({ c with pwr := { c.pwr with stopped := [], woken := false, late := false } }) →
    e.toStop = d :: l →
    exec (.sleepGo m word) s = .next (s.put ((e.setSeq (some { kind := .entry, wait := .answer, dom := d, todo := l, since := e.clk.aon })).answer m 0 0))) ∧
  (∀ (s : State) (m : Master) (word : Nat),
    s.b.respCode m 0x1000C 0xF true word = 0 →
    ∀ c : Block, c = (s.b.setf F.PWR_SLEEP_WAIT (bits word 8 8)) →
    c.pwr.seq.isSome = true ∨ c.is F.PWR_STATUS_ASLEEP = true ∨ c.holding = true →
    exec (.sleepGo m word) s = .next (s.put (c.answer m 0 0))) ∧
  (∀ (b : Block) (d : Nat),
    d ∈ b.toStop →
    d ≠ 0 ∧ d < 12 ∧ b.dom d = 2 ∧ b.target d ≠ 2 ∧ domAbsent b.syn.agg d = false) ∧
  (∀ (s : State) (q : PSeq),
    s.b.pwr.seq = some q →
    q.kind = .entry →
    q.wait = .answer →
    s.b.refuseReason q.dom = none →
    ∀ c : Block, c = (s.b.request q.dom (s.b.target q.dom)) →
    exec (.domainAnswer) s = .next (s.put (c.setSeq (some { q with wait := .ack, since := c.clk.aon })))) ∧
  (∀ (s : State) (q : PSeq) (r : Nat),
    s.b.pwr.seq = some q →
    q.kind = .entry →
    q.wait = .answer →
    s.b.refuseReason q.dom = some r →
    ∀ mask : Nat, mask = (domMask (s.b.pwr.stopped.map (fun p => p.1))) →
    ∀ c : Block, c = ({ s.b with pwr := { s.b.pwr with refusal := some (q.dom, r, mask) } }) →
    exec (.domainAnswer) s = .next (s.put (c.wakeAll .rollback))) ∧
  (∀ (s : State),
    s.b.pwr.seq = none →
    exec (.domainAnswer) s = .next (s.put (s.b))) ∧
  (∀ (s : State) (q : PSeq),
    s.b.pwr.seq = some q →
    q.kind = .entry →
    q.wait = .answer →
    q.since + aonUs (atLeast1 (s.b.f F.PWR_SLEEP_WAIT)) ≤ s.b.clk.aon →
    ∀ mask : Nat, mask = (domMask (s.b.pwr.stopped.map (fun p => p.1))) →
    ∀ c : Block, c = ({ s.b with pwr := { s.b.pwr with refusal := some (q.dom, 0xC, mask) } }) →
    exec (.domainAnswerTimeout) s = .next (s.put (c.wakeAll .rollback))) ∧
  (∀ (s : State) (q : PSeq),
    s.b.pwr.seq = some q →
    q.wait ≠ .answer ∨ s.b.clk.aon < q.since + aonUs (atLeast1 (s.b.f F.PWR_SLEEP_WAIT)) →
    exec (.domainAnswerTimeout) s = .next (s.put (s.b))) ∧
  (∀ (s : State) (d : Nat) (q : PSeq),
    s.b.pwr.seq = some q →
    q.wait = .ack →
    q.dom = d →
    q.kind = .entry →
    ∀ v : Nat, v = (s.b.pwr.req.getD d 0) →
    ∀ c : Block, c = ((s.b.stopUnit d (v != 1)).setDom d v) →
    ∀ e : Block, e = ({ c with pwr := { c.pwr with stopped := (d, v != 1) :: c.pwr.stopped } }) →
    exec (.switchAck d) s = .next (s.put (if e.pwr.woken then e.rollback d 0 else e.askNext q.todo))) ∧
  (∀ (s : State) (d : Nat) (q : PSeq),
    s.b.pwr.seq = some q →
    q.wait = .ack →
    q.dom = d →
    q.kind ≠ .entry →
    ∀ c : Block, c = (s.b.returned d) →
    exec (.switchAck d) s = .next (s.put (c.setSeq (some { q with wait := .gap, since := c.clk.aon })))) ∧
  (∀ (s : State) (d : Nat) (q : PSeq),
    s.b.pwr.seq = some q →
    q.wait ≠ .ack ∨ q.dom ≠ d →
    exec (.switchAck d) s = .next (s.put (s.b))) ∧
  (∀ (s : State) (d : Nat) (q : PSeq),
    s.b.pwr.seq = some q →
    q.wait = .ack →
    q.dom = d →
    q.since + aonUs 100 ≤ s.b.clk.aon →
    q.kind ≠ .entry →
    ∀ c : Block, c = ((s.b.setDom d 3).raise Ev.PWR_SWITCH_FAULT [(d, 8)]) →
    exec (.switchAckTimeout d) s = .next (s.put (c.setSeq (some { q with wait := .gap, since := c.clk.aon })))) ∧
  (∀ (s : State) (d : Nat) (q : PSeq),
    s.b.pwr.seq = some q →
    s.b.clk.aon < q.since + aonUs 100 →
    exec (.switchAckTimeout d) s = .next (s.put (s.b))) ∧
  (∀ (s : State) (q : PSeq),
    s.b.pwr.seq = some q →
    q.wait = .gap →
    q.since + atLeast1 (s.b.f F.RST_GAP_CYCLES) ≤ s.b.clk.aon →
    q.kind = .start →
    exec (.domainRelease) s = .next (s.put (s.b.wakeNext .start q.todo (fun b => b.released)))) ∧
  (∀ (s : State) (q : PSeq),
    s.b.pwr.seq = some q →
    q.wait = .gap →
    q.since + atLeast1 (s.b.f F.RST_GAP_CYCLES) ≤ s.b.clk.aon →
    q.kind ≠ .start →
    exec (.domainRelease) s = .next (s.put (s.b.wakeNext q.kind q.todo (fun b => b.seqEnd q.kind)))) ∧
  (∀ (s : State) (q : PSeq),
    s.b.pwr.seq = some q →
    q.wait ≠ .gap ∨ s.b.clk.aon < q.since + atLeast1 (s.b.f F.RST_GAP_CYCLES) →
    exec (.domainRelease) s = .next (s.put (s.b))) ∧
  (∀ (s : State) (m : Master) (word : Nat),
    s.b.respCode m 0x1000C 0xF true word = 0 →
    ∀ c : Block, c = (s.b.setf F.PWR_SLEEP_WAIT (bits word 8 8)) →
    c.pwr.seq = none →
    exec (.sleepWake m word) s = .next (s.put ((if c.is F.PWR_STATUS_ASLEEP then c.wakeAll .wake else c).answer m 0 0)))

/-- A falling PF_WARN_N raises PF_WARN, begins what the units do and wakes a sleeping block; a rising edge raises PF_CLEAR. PIN, WDOG and SOFT wait for the end of a flush, MAIN does not; a reset takes domains 1 to 11 to reset and OFF, relocks every master and records its cause; a POR clears the retained memory too. SOFT and RST_UNIT need the key; RST_UNIT during a sequence or a flush sets UREF. Once the inputs were steady for 50,000 cycles a start counts a boot and releases the domains, or enters Chrysalis, TRACE off, with a bad strap or three failed starts; GOOD seconds make it good, LIMIT fails it, and 1 s later a SOFT reset follows. -/
def Obligations.PowerFailAndResets : Prop :=
  (∀ (s : State),
    s.b.pwr.seq = none →
    s.b.holding = false →
    ∀ c : Block, c = (({ s.b with pwr := { s.b.pwr with pfLow := true } }).setf F.PWR_STATUS_PF 1) →
    ∀ d : Block, d = ((c.raise Ev.PWR_PF_WARN).pfBegin) →
    c.pwr.start = s.b.pwr.start →
    d.pwr.seq = none →
    exec (.pfWarn) s = .next (s.put (if d.is F.PWR_STATUS_ASLEEP then d.wakeAll .wake else d))) ∧
  (∀ (s : State),
    s.b.holding = false →
    ∀ c : Block, c = (({ s.b with pwr := { s.b.pwr with pfLow := false } }).setf F.PWR_STATUS_PF 0) →
    exec (.pfClear) s = .next (s.put ((c.raise Ev.PWR_PF_CLEAR).pfEnd))) ∧
  (∀ (s : State) (n : Nat),
    s.b.pwr.start = .hold n →
    ∀ c : Block, c = (({ s.b with pwr := { s.b.pwr with pfLow := false } }).setf F.PWR_STATUS_PF 0) →
    ∀ d : Block, d = ({ c with pwr := { c.pwr with start := .hold c.clk.aon } }) →
    exec (.pfClear) s = .next (s.put ((d.raise Ev.PWR_PF_CLEAR).pfEnd))) ∧
  (∀ (s : State),
    ∃ t : State, exec (.porReset) s = .next t ∧ (t.mem = [] ∧ t.b = s.b.por ∧ t.pending = s.pending)) ∧
  (∀ (s : State),
    exec (.mainReset) s = .next (s.put (s.b.resetCore 2))) ∧
  (∀ (s : State),
    s.b.flushing = false →
    exec (.pinReset) s = .next (s.put (s.b.resetCore 3))) ∧
  (∀ (s : State),
    s.b.flushing = true →
    exec (.pinReset) s = .next (s.put ({ s.b with pwr := { s.b.pwr with heldReset := some 3 } }))) ∧
  (∀ (b : Block) (k : Nat),
    k = 2 ∨ k = 3 ∨ k = 4 ∨ k = 5 →
    ∀ c : Block, c = (b.resetCore k) →
    c.holding = true ∧ c.pwr.seq = none ∧ c.busy = none ∧ c.f F.RST_CAUSE_LAST = k ∧ c.f F.ROLE_STATUS_ROLE = 3 ∧ c.sec.mgmt.addR = 0 ∧ c.sec.vsb.addR = 0 ∧ c.sec.test.addR = 0 ∧ c.pwr.held = [1, 2, 3, 4, 5, 6, 7, 8, 9, 10, 11] ∧ c.is F.PWR_STATUS_ASLEEP = false) ∧
  (∀ (s : State) (m : Master) (key : Nat),
    s.b.respCode m 0x10104 0xF true (key % 65536 * 65536 + 1) = 0 →
    key % 65536 ≠ 0xA5C3 →
    exec (.softReset m key) s = .next (s.put (s.b.answer m 0 0))) ∧
  (∀ (s : State) (m : Master) (key : Nat),
    s.b.respCode m 0x10104 0xF true (key % 65536 * 65536 + 1) = 0 →
    key % 65536 = 0xA5C3 →
    s.b.flushing = false →
    exec (.softReset m key) s = .next (s.put ((s.b.resetCore 5).answer m 0 0))) ∧
  (∀ (s : State) (m : Master) (word : Nat),
    s.b.respCode m 0x10108 0xF true word = 0 →
    bits word 16 16 ≠ 0xA5C3 →
    exec (.unitReset m word) s = .next (s.put (s.b.answer m 0 0))) ∧
  (∀ (s : State) (m : Master) (word : Nat),
    s.b.respCode m 0x10108 0xF true word = 0 →
    bits word 16 16 = 0xA5C3 →
    s.b.pwr.seq.isSome = true ∨ s.b.is F.PWR_STATUS_ASLEEP = true ∨ s.b.flushing = true →
    exec (.unitReset m word) s = .next (s.put ((s.b.setf F.RST_STAT_UREF 1).answer m 0 0))) ∧
  (∀ (s : State) (m : Master) (word : Nat),
    s.b.respCode m 0x10108 0xF true word = 0 →
    bits word 16 16 = 0xA5C3 →
    s.b.pwr.seq = none →
    s.b.is F.PWR_STATUS_ASLEEP = false →
    s.b.flushing = false →
    s.b.holding = false →
    (s.b.unitDoms word).all (fun d => s.b.on d) = true →
    exec (.unitReset m word) s = .next (s.put (((s.b.unitDoms word).foldl (fun b d => b.returned d) s.b).answer m 0 0))) ∧
  (∀ (s : State) (n : Nat),
    s.b.pwr.start = .hold n →
    s.b.clk.aon < n + 50000 ∨ s.b.pwr.pfLow = true →
    exec (.startSequence) s = .next (s.put (s.b))) ∧
  (∀ (s : State) (n d : Nat) (l : List Nat),
    s.b.pwr.start = .hold n →
    n + 50000 ≤ s.b.clk.aon →
    s.b.pwr.pfLow = false →
    ∀ c : Block, c = ((s.b.setf F.RST_STAT_GOOD 0).count F.RST_STAT_BOOTS) →
    c.is F.ROLE_STATUS_STRAP_BAD = false →
    c.f F.RST_STAT_FAILS < 3 →
    releaseOrder.filter (fun d => !domAbsent c.syn.agg d) = d :: l →
    ∀ e : Block, e = ({ c with pwr := { c.pwr with start := .release } }) →
    exec (.startSequence) s = .next (s.put ((e.request d 2).setSeq (some { kind := .start, wait := .ack, dom := d, todo := l, since := e.clk.aon })))) ∧
  (∀ (s : State) (n : Nat),
    s.b.pwr.start = .hold n →
    n + 50000 ≤ s.b.clk.aon →
    s.b.pwr.pfLow = false →
    ∀ c : Block, c = ((s.b.setf F.RST_STAT_GOOD 0).count F.RST_STAT_BOOTS) →
    c.is F.ROLE_STATUS_STRAP_BAD = false →
    3 ≤ c.f F.RST_STAT_FAILS →
    ∀ d : Block, d = ((((c.stopUnit dTRACE true).setf F.PWR_STATUS_CHRYS 1).setf F.RST_STAT_CHRYS 1).setf F.RST_STAT_CCAUSE 1) →
    ∀ e : Block, e = ({ d with pwr := { d.pwr with start := .release } }) →
    exec (.startSequence) s = .next (s.put ((e.request 1 2).setSeq (some { kind := .start, wait := .ack, dom := 1, todo := [5, 3], since := e.clk.aon })))) ∧
  (∀ (s : State) (n : Nat),
    s.b.pwr.start = .running n →
    n + atLeast1 (s.b.f F.RST_START_GOOD) * 25000000 ≤ s.b.clk.aon →
    exec (.startGood) s = .next (s.put ((({ s.b with pwr := { s.b.pwr with start := .good } }).setf F.RST_STAT_GOOD 1).setf F.RST_STAT_FAILS 0))) ∧
  (∀ (s : State) (n : Nat),
    s.b.pwr.start = .running n →
    s.b.clk.aon < n + atLeast1 (s.b.f F.RST_START_GOOD) * 25000000 →
    exec (.startGood) s = .next (s.put (s.b))) ∧
  (∀ (s : State) (n : Nat),
    s.b.pwr.start = .noImage n →
    s.b.hasStore = true →
    s.b.is F.RST_STAT_CHRYS = false →
    n + atLeast1 (s.b.f F.RST_START_LIMIT) * 25000000 ≤ s.b.clk.aon →
    ∀ k : Nat, k = (min 3 (s.b.f F.RST_STAT_FAILS + 1)) →
    ∀ c : Block, c = (((s.b.setf F.RST_STAT_FAILS k).setf F.RST_STAT_LAST 3).raise Ev.PWR_START_FAIL [(3, 8), (k, 8)]) →
    exec (.startLimit) s = .next (s.put ({ c with pwr := { c.pwr with start := .failed c.clk.aon } }))) ∧
  (∀ (s : State),
    s.b.hasStore = false →
    exec (.startLimit) s = .next (s.put (s.b))) ∧
  (∀ (s : State) (n : Nat),
    s.b.pwr.start = .failed n →
    n + 25000000 ≤ s.b.clk.aon →
    s.b.flushing = false →
    exec (.startFailReset) s = .next (s.put (s.b.resetCore 5))) ∧
  (∀ (s : State) (n : Nat),
    s.b.pwr.start = .failed n →
    s.b.clk.aon < n + 25000000 →
    exec (.startFailReset) s = .next (s.put (s.b)))

/-- A write above offset 0x4000 stores its four bytes, little-endian, and below it stores nothing; a read answers the word that stands there; either advances the address by one word, wrapping at 64 KiB; a word reads back as written, and every byte outside it as before. -/
def Obligations.RetainedMemory : Prop :=
  (∀ (s : State) (m : Master) (data : Nat),
    s.b.respCode m 0x10304 0xF true data = 0 →
    0x4000 ≤ s.b.retAddr →
    ∃ t : State, exec (.retDataAccess m true data) s = .next t ∧ (t.b = (s.b.setf F.PWR_RET_ADDR_WORD (s.b.f F.PWR_RET_ADDR_WORD + 1)).answer m 0 0 ∧ t.mem.word s.b.retAddr = data % 2 ^ 32 ∧ t.pending = s.pending)) ∧
  (∀ (s : State) (m : Master) (data a : Nat),
    a < s.b.retAddr ∨ s.b.retAddr + 4 ≤ a →
    ∃ t : State, exec (.retDataAccess m true data) s = .next t ∧ (t.mem.byte a = s.mem.byte a)) ∧
  (∀ (s : State) (m : Master) (data : Nat),
    s.b.respCode m 0x10304 0xF true data = 0 →
    s.b.retAddr < 0x4000 →
    ∃ t : State, exec (.retDataAccess m true data) s = .next t ∧ (t.b = (s.b.setf F.PWR_RET_ADDR_WORD (s.b.f F.PWR_RET_ADDR_WORD + 1)).answer m 0 0 ∧ t.mem = s.mem ∧ t.pending = s.pending)) ∧
  (∀ (s : State) (m : Master) (data : Nat),
    s.b.respCode m 0x10304 0xF false 0 = 0 →
    0x4000 ≤ s.b.retAddr →
    ∃ t : State, exec (.retDataAccess m false data) s = .next t ∧ (t.b = (s.b.setf F.PWR_RET_ADDR_WORD (s.b.f F.PWR_RET_ADDR_WORD + 1)).answer m 0 (s.mem.word s.b.retAddr) ∧ t.mem = s.mem ∧ t.pending = s.pending)) ∧
  (∀ (s : State) (m : Master) (wr : Bool) (data : Nat),
    s.b.respCode m 0x10304 0xF wr (if wr then data else 0) ≠ 0 →
    ∃ t : State, exec (.retDataAccess m wr data) s = .next t ∧ (t.mem = s.mem)) ∧
  (∀ (b : Block),
    b.f F.PWR_RET_ADDR_WORD = 0x3FFF →
    ∀ c : Block, c = (b.retAdvance) →
    c.f F.PWR_RET_ADDR_WORD = 0 ∧ b.retAddr = 0xFFFC ∧ c.retAddr = 0)

/-- A clean word changes nothing, a corrected one counts in CORR, one that cannot be corrected is lost with its value: counted, reported as UNCORR, and what it held, whatever that was, takes the outcome of Table 14-3; a lost word of the retained memory reads as unwritten and leaves every other byte. A response to a tag that timed out is discarded and frees it; one whose check differs, or in error, is a DRAM line failure, and so is a request not answered in 100 µs, whose tag stays in use. The D build has no Memory Port. -/
def Obligations.MemoryChecks : Prop :=
  (∀ (s : State),
    exec (.sramPatrol .clean) s = .next (s.put (s.b))) ∧
  (∀ (s : State),
    s.b.on dSTEWARD = true →
    exec (.sramPatrol .corrected) s = .next (s.put (s.b.count F.INT_ECC_CORR))) ∧
  (∀ (s : State) (addr tag : Nat),
    s.b.on dSTEWARD = true →
    ∀ c : Block, c = ((s.b.count F.INT_ECC_UNCORR).report 7 0 0 5 0 0 0 addr) →
    exec (.sramPatrol (.uncorr addr (.swarm tag))) s = .next (s.put ((c.raise Ev.INT_UNCORR c.intArgs).swarmSram tag))) ∧
  (∀ (s : State) (addr e : Nat),
    s.b.on dSTEWARD = true →
    ∀ c : Block, c = ((s.b.count F.INT_ECC_UNCORR).report 7 0 0 5 0 0 0 addr) →
    ∀ d : Block, d = (c.raise Ev.INT_UNCORR c.intArgs) →
    exec (.sramPatrol (.uncorr addr (.row e))) s = .next (s.put (d.putRow e { (d.row e) with feats := (d.row e).feats.map (fun (p : Nat × Feat) => (p.1, { p.2 with valid := false })) }))) ∧
  (∀ (s : State) (addr a : Nat),
    s.b.on dSTEWARD = true →
    0x4000 ≤ a →
    a < 0x10000 →
    ∃ t : State, exec (.sramPatrol (.uncorr addr (.retained a))) s = .next t ∧ (t.b = s.b.raise Ev.PWR_RET_ERR ∧ t.mem.word (a / 8 * 8) = 0 ∧ t.mem.word (a / 8 * 8 + 4) = 0 ∧ t.pending = s.pending)) ∧
  (∀ (s : State) (addr : Nat) (what : SramHeld),
    s.b.on dSTEWARD = true →
    ∃ t : State, exec (.sramPatrol (.uncorr addr what)) s = .next t ∧ (t.b = s.b.wordLost false addr what ∧ t.pending = s.pending)) ∧
  (∀ (s : State) (addr a x : Nat),
    0x4000 ≤ a →
    a < 0x10000 →
    x < a / 8 * 8 ∨ a / 8 * 8 + 8 ≤ x →
    ∃ t : State, exec (.sramPatrol (.uncorr addr (.retained a))) s = .next t ∧ (t.mem.byte x = s.mem.byte x)) ∧
  (∀ (s : State) (w : SramWord),
    s.b.on dSTEWARD = false →
    exec (.sramPatrol w) s = .next (s.put (s.b))) ∧
  (∀ (s : State) (ch tag addr chk : Nat) (data : List Byte) (err : Bool) (held : SramHeld),
    s.b.syn.agg = true →
    ∀ k : Nat, k = (ch % 8 * 1024 + tag % 1024) →
    s.b.mp.late.contains k = true →
    exec (.memoryResponse ch tag addr data chk err held) s = .next (s.put ({ s.b with mp := { late := s.b.mp.late.erase k } }))) ∧
  (∀ (s : State) (ch tag addr chk : Nat) (data : List Byte) (held : SramHeld),
    s.b.mp.late.contains (ch % 8 * 1024 + tag % 1024) = false →
    crc32c (leBytes 8 addr ++ slice data 0 64) = chk →
    exec (.memoryResponse ch tag addr data chk false held) s = .next (s.put (s.b))) ∧
  (∀ (s : State) (ch tag addr chk : Nat) (data : List Byte) (err : Bool) (held : SramHeld),
    s.b.syn.agg = true →
    s.b.mp.late.contains (ch % 8 * 1024 + tag % 1024) = false →
    err = true ∨ crc32c (leBytes 8 addr ++ slice data 0 64) ≠ chk →
    exec (.memoryResponse ch tag addr data chk err held) s = .next (s.put (s.b.wordLost true (addr * 64) held (crc32c (leBytes 8 addr ++ slice data 0 64)) chk))) ∧
  (∀ (s : State) (ch tag addr chk : Nat) (data : List Byte) (err : Bool) (held : SramHeld),
    s.b.syn.agg = false →
    exec (.memoryResponse ch tag addr data chk err held) s = .next (s.put (s.b))) ∧
  (∀ (s : State) (ch tag addr : Nat),
    s.b.syn.agg = true →
    ∀ k : Nat, k = (ch % 8 * 1024 + tag % 1024) →
    s.b.mp.late.contains k = false →
    ∀ b0 : Block, b0 = ({ s.b with mp := { late := k :: s.b.mp.late } }) →
    ∀ c : Block, c = ((b0.count F.INT_ECC_DRAM).report 8 0 0 5 0 0 0 (addr * 64)) →
    exec (.memoryTimeout ch tag addr .other) s = .next (s.put (c.raise Ev.INT_UNCORR c.intArgs))) ∧
  (∀ (s : State) (ch tag addr : Nat) (held : SramHeld),
    s.b.syn.agg = true →
    ∀ k : Nat, k = (ch % 8 * 1024 + tag % 1024) →
    s.b.mp.late.contains k = false →
    exec (.memoryTimeout ch tag addr held) s = .next (s.put (({ s.b with mp := { late := k :: s.b.mp.late } }).wordLost true (addr * 64) held))) ∧
  (∀ (s : State) (ch tag addr : Nat) (held : SramHeld),
    s.b.syn.agg = false ∨ s.b.mp.late.contains (ch % 8 * 1024 + tag % 1024) = true →
    exec (.memoryTimeout ch tag addr held) s = .next (s.put (s.b))) ∧
  (∀ (s : State) (level : Bool),
    s.b.syn.agg = true →
    exec (.selfRefreshAck level) s = .next (s.put ({ s.b with pins := { s.b.pins with mpSrAck := level } })))

/-- The codes of Table 18-4 are tested in table order: BUSY, BADADDR, ALIGN, DENIED, OFF, OK; a misaligned VSB offset gives BADADDR, a region that the build leaves out answers OK whatever its domain. A refused write or read shows its code and has no other effect, but that DENIED raises its event. -/
def Obligations.AccessCodes : Prop :=
  (∀ (b : Block) (m : Master) (off strb data : Nat) (wr : Bool),
    b.busy.isSome = true →
    b.respCode m off strb wr data = 1) ∧
  (∀ (b : Block) (m : Master) (off strb data : Nat) (wr : Bool),
    b.busy = none →
    (0x12000 ≤ off ∧ off < 0x20000) ∨ 0x40000 ≤ off ∨ (m = .vsb ∧ off % 4 ≠ 0) →
    b.respCode m off strb wr data = 3) ∧
  (∀ (b : Block) (m : Master) (off strb data : Nat) (wr : Bool),
    b.busy = none →
    off < 0x12000 ∨ (0x20000 ≤ off ∧ off < 0x40000) →
    m ≠ .vsb →
    strb ≠ 0xF ∨ off % 4 ≠ 0 →
    b.respCode m off strb wr data = 5) ∧
  (∀ (b : Block) (m : Master) (off data : Nat) (wr : Bool),
    b.busy = none →
    off < 0x12000 ∨ (0x20000 ≤ off ∧ off < 0x40000) →
    off % 4 = 0 →
    b.granted m off wr data = false →
    b.respCode m off 0xF wr data = 2) ∧
  (∀ (b : Block) (m : Master) (off data : Nat) (wr : Bool),
    b.busy = none →
    off < 0x12000 ∨ (0x20000 ≤ off ∧ off < 0x40000) →
    off % 4 = 0 →
    b.granted m off wr data = true →
    absentRegion b.syn.agg off = false →
    offDom off ≠ 0 →
    b.on (offDom off) = false →
    b.respCode m off 0xF wr data = 4) ∧
  (∀ (b : Block) (m : Master) (off data : Nat) (wr : Bool),
    b.busy = none →
    off < 0x12000 ∨ (0x20000 ≤ off ∧ off < 0x40000) →
    off % 4 = 0 →
    b.granted m off wr data = true →
    absentRegion b.syn.agg off = true ∨ offDom off = 0 ∨ b.on (offDom off) = true →
    b.respCode m off 0xF wr data = 0) ∧
  (∀ (s : State) (m : Master) (off strb data hw : Nat),
    ∀ k : Nat, k = (s.b.respCode m off strb true data) →
    k ≠ 0 →
    k ≠ 2 →
    off ≠ 0x11078 →
    exec (.registerWrite m off strb data hw) s = .next (s.put (s.b.answer m k 0))) ∧
  (∀ (s : State) (m : Master) (off strb data hw : Nat),
    s.b.respCode m off strb true data = 2 →
    off ≠ 0x11078 →
    exec (.registerWrite m off strb data hw) s = .next (s.put ((s.b.answer m 2 0).raise Ev.SEC_DENIED [(m.num, 8), (off, 24)]))) ∧
  (∀ (s : State) (m : Master) (off strb upd : Nat),
    ∀ k : Nat, k = (s.b.respCode m off strb false 0) →
    k ≠ 0 →
    k ≠ 2 →
    exec (.rcFieldRead m off strb upd) s = .next (s.put (s.b.answer m k 0))) ∧
  (∀ (s : State) (m : Master) (off data : Nat),
    ∀ k : Nat, k = (s.b.respCode m off 0xF true data) →
    k ≠ 0 →
    k ≠ 2 →
    off ≠ 0x11078 →
    exec (.multiCommandWrite m off data) s = .next (s.put (s.b.answer m k 0)))

/-- An accepted write acts on its register, and the W1C bits that the hardware sets in its cycle stay set; at an offset without a register, or of a region that the build leaves out, it does nothing. A write of several command bits takes the RW fields only and, at QUE_PUSH, raises PUSH_BAD. RW fields take their values, RWL fields while no image runs, W1C bits clear under a 1, and an accepted read answers the fields and clears the RC ones, keeping what the hardware adds. Over VSB the access is the VSB master's, and its outcome goes back in a RESP. -/
def Obligations.RegisterAccesses : Prop :=
  (∀ (s : State) (m : Master) (off data hw : Nat),
    s.b.respCode m off 0xF true data = 0 →
    off ≠ 0x11078 →
    off ≠ 0x10304 →
    absentRegion s.b.syn.agg off = false →
    exec (.registerWrite m off 0xF data hw) s = .next (s.put (((s.b.busWrite m off data).hwSet off hw).answer m 0 0))) ∧
  (∀ (s : State) (m : Master) (off data hw : Nat),
    s.b.respCode m off 0xF true data = 0 →
    off ≠ 0x11078 →
    off ≠ 0x10304 →
    absentRegion s.b.syn.agg off = true →
    exec (.registerWrite m off 0xF data hw) s = .next (s.put (s.b.answer m 0 0))) ∧
  (∀ (s : State) (m : Master) (off data : Nat),
    s.b.respCode m off 0xF true data = 0 →
    off ≠ 0x11078 →
    off ≠ 0x10304 →
    absentRegion s.b.syn.agg off = false →
    (regAt s.b.syn.agg off).isSome = true →
    manyCmds off data = true →
    off ≠ 0xA034 →
    off ≠ 0xC060 →
    exec (.multiCommandWrite m off data) s = .next (s.put ((s.b.writeFields off data).answer m 0 0))) ∧
  (∀ (s : State) (m : Master) (data : Nat),
    s.b.respCode m 0xA034 0xF true data = 0 →
    manyCmds 0xA034 data = true →
    ∀ c : Block, c = ((s.b.writeFields 0xA034 data).raise Ev.QUE_PUSH_BAD) →
    exec (.multiCommandWrite m 0xA034 data) s = .next (s.put (c.answer m 0 0))) ∧
  (∀ (s : State) (m : Master) (data hw : Nat),
    s.b.respCode m 0x10008 0xF true data = 0 →
    ∃ t : State, exec (.registerWrite m 0x10008 0xF data hw) s = .next t ∧ (t.b.f F.PWR_DOM_TGT_TGT = data % 2 ^ 24 ∧ t.mem = s.mem)) ∧
  (∀ (s : State) (m : Master) (data hw : Nat),
    s.b.respCode m 0xF010 0xF true data = 0 →
    s.b.locked = true →
    ∃ t : State, exec (.registerWrite m 0xF010 0xF data hw) s = .next t ∧ (t.b.f F.STW_WDOG_TIMEOUT = s.b.f F.STW_WDOG_TIMEOUT)) ∧
  (∀ (s : State) (m : Master) (data hw : Nat),
    s.b.respCode m 0xF010 0xF true data = 0 →
    s.b.locked = false →
    ∃ t : State, exec (.registerWrite m 0xF010 0xF data hw) s = .next t ∧ (t.b.f F.STW_WDOG_TIMEOUT = data % 2 ^ 16)) ∧
  (∀ (s : State) (m : Master) (data hw n : Nat),
    s.b.respCode m 0xF008 0xF true data = 0 →
    n < 14 →
    ∃ t : State, exec (.registerWrite m 0xF008 0xF data hw) s = .next t ∧ (t.b.pends (448 + n) = (bits hw n 1 == 1 || (s.b.pends (448 + n) && bits data n 1 == 0)))) ∧
  (∀ (s : State) (m : Master) (upd : Nat),
    s.b.respCode m 0xF01C 0xF false 0 = 0 →
    ∃ t : State, exec (.rcFieldRead m 0xF01C 0xF upd) s = .next t ∧ (t.b.f F.STW_POSTS_LOST = upd % 2 ^ 16 ∧ t.mem = s.mem)) ∧
  (∀ (s : State) (m : Master) (off upd : Nat),
    s.b.respCode m off 0xF false 0 = 0 →
    ∀ r : Nat × Block, r = (s.b.busRead s.mem m off upd) →
    exec (.rcFieldRead m off 0xF upd) s = .next (s.put (r.2.answer m 0 r.1))) ∧
  (∀ (b : Block) (mem : Memory) (m : Master) (off upd : Nat),
    absentRegion b.syn.agg off = true →
    b.busRead mem m off upd = (0, b)) ∧
  (∀ (s : State) (m : Master) (word : Nat),
    s.b.respCode m 0x8004 0xF true word = 0 →
    ∀ n : Nat, n = (s.b.selPort) →
    ∀ c : Block, c = (Block.regEffects s.b (s.b.writeFields 0x8004 word)) →
    exec (.portEnableWrite m word) s = .next (s.put ((c.onPort n (fun b => b.portEn n (s.b.is (F.KL_PORT_CFG_EN.ix n)))).answer m 0 0))) ∧
  (∀ (s : State) (src off : Nat),
    s.b.vsbOn = true →
    ∀ c : Block, c = (s.b.vsbHeard src) →
    ∀ d : Block, d = (c.regRead s.mem .vsb off 0xF 0) →
    exec (.vsbRead src off) s = .next (s.put (d.vsbRespond src d.rspVsb.code d.rspVsb.data))) ∧
  (∀ (s : State) (src off value : Nat),
    s.b.vsbOn = true →
    off ≠ 0x10304 →
    ∀ c : Block, c = (s.b.vsbHeard src) →
    ∀ d : Block, d = (c.regWrite .vsb off 0xF value 0) →
    exec (.vsbWrite src off value) s = .next (s.put (d.vsbRespond src d.rspVsb.code 0))) ∧
  (∀ (s : State) (src value : Nat),
    s.b.vsbOn = true →
    ∀ c : Block, c = (s.b.vsbHeard src) →
    c.respCode .vsb 0x10304 0xF true value = 0 →
    0x4000 ≤ c.retAddr →
    ∀ d : Block, d = (c.regWrite .vsb 0x10304 0xF value 0) →
    ∃ t : State, exec (.vsbWrite src 0x10304 value) s = .next t ∧ (t.mem.word c.retAddr = value % 2 ^ 32 ∧ t.b = d.vsbRespond src d.rspVsb.code 0)) ∧
  (∀ (s : State) (src off value : Nat),
    s.b.vsbOn = false →
    exec (.vsbWrite src off value) s = .next (s.put (s.b)))
end

