-- ==== Sys2Proof/Laws/SMap.lean ====
section
/-! SUPPORT. Laws of sparse tables: what is found under a key after a value is listed or taken off. They hold of every list,
rising or not. -/

namespace Sys2Proof.Machine

/-- A value just listed is found. -/
@[simp] theorem SMap.find_put_same {α : Type} (m : SMap α) (k : Nat) (v : α) : (m.put k v).find k = some v := by
  induction m with
  | nil => simp [SMap.put, SMap.find]
  | cons p t ih =>
    obtain ⟨k', v'⟩ := p
    by_cases h : k' = k
    · simp [SMap.put, SMap.find, h]
    · by_cases h2 : k < k'
      · simp [SMap.put, SMap.find, h, h2]
      · simp [SMap.put, SMap.find, h, h2, ih]

/-- Listing a value leaves what other keys hold. -/
theorem SMap.find_put_other {α : Type} (m : SMap α) {k j : Nat} (v : α) (h : j ≠ k) : (m.put k v).find j = m.find j := by
  have h' : k ≠ j := fun e => h e.symm
  induction m with
  | nil => simp [SMap.put, SMap.find, h']
  | cons p t ih =>
    obtain ⟨k', v'⟩ := p
    by_cases h1 : k' = k
    · subst h1; simp [SMap.put, SMap.find, h']
    · by_cases h2 : k < k'
      · simp [SMap.put, SMap.find, h1, h2, h']
      · simp [SMap.put, SMap.find, h1, h2, ih]

/-- A key taken off has nothing. -/
@[simp] theorem SMap.find_del_same {α : Type} (m : SMap α) (k : Nat) : (m.del k).find k = none := by
  induction m with
  | nil => rfl
  | cons p t ih =>
    obtain ⟨k', v'⟩ := p
    by_cases h : k' = k
    · simpa [SMap.del, h] using ih
    · simpa [SMap.del, SMap.find, h] using ih

/-- Taking a key off leaves what other keys hold. -/
theorem SMap.find_del_other {α : Type} (m : SMap α) {k j : Nat} (h : j ≠ k) : (m.del k).find j = m.find j := by
  induction m with
  | nil => rfl
  | cons p t ih =>
    obtain ⟨k', v'⟩ := p
    by_cases h1 : k' = k
    · subst h1
      simpa [SMap.del, SMap.find, Ne.symm h] using ih
    · by_cases h2 : k' = j
      · simp [SMap.del, SMap.find, h, h2]
      · simpa [SMap.del, SMap.find, h1, h2] using ih

/-- A value just listed is read back, whatever the default. -/
@[simp] theorem SMap.getD_put_same {α : Type} (m : SMap α) (k : Nat) (v d : α) : (m.put k v).getD k d = v := by
  simp [SMap.getD]

/-- Listing a value leaves what other keys read. -/
theorem SMap.getD_put_other {α : Type} (m : SMap α) {k j : Nat} (v d : α) (h : j ≠ k) : (m.put k v).getD j d = m.getD j d := by
  simp [SMap.getD, SMap.find_put_other m v h]

/-- A table that drops its defaults reads back what was put. -/
@[simp] theorem SMap.getD_putD_same {α : Type} [DecidableEq α] (m : SMap α) (d : α) (k : Nat) (v : α) : (m.putD d k v).getD k d = v := by
  unfold SMap.putD
  split
  · next h => simp [SMap.getD, h]
  · simp

/-- The same for a key read with a default of its own. -/
theorem SMap.getD_putD_other {α : Type} [DecidableEq α] (m : SMap α) (d e : α) {k j : Nat} (v : α) (h : j ≠ k) :
    (m.putD d k v).getD j e = m.getD j e := by
  unfold SMap.putD
  split
  · simp [SMap.getD, SMap.find_del_other m h]
  · exact SMap.getD_put_other m v e h

end Sys2Proof.Machine
end

