-- ==== Sys2Proof/Laws/State.lean ====
section
/-! SUPPORT. What the named updates of State leave: a register field changes the field table alone, an event changes the field table,
the event log and the storm guards alone, and what a field reads after another was written. -/

namespace Sys2Proof.Machine

/-! Register fields -/

/-- A field just written reads its value, cut to its width. -/
@[simp] theorem Block.f_setf_same (b : Block) (x : Fld) (v : Nat) : (b.setf x v).f x = v % 2 ^ x.w := by
  simp [Block.f, Block.setf]

/-- Writing a field leaves those in other places. -/
theorem Block.f_setf_other (b : Block) {x y : Fld} (v : Nat) (h : y.key ≠ x.key) : (b.setf x v).f y = b.f y := by
  simp [Block.f, Block.setf, SMap.getD_putD_other b.flds x.rst y.rst _ h]

@[simp] theorem Block.setf_syn (b : Block) (x : Fld) (v : Nat) : (b.setf x v).syn = b.syn := rfl
@[simp] theorem Block.setf_clk (b : Block) (x : Fld) (v : Nat) : (b.setf x v).clk = b.clk := rfl
@[simp] theorem Block.setf_freeN (b : Block) (x : Fld) (v : Nat) : (b.setf x v).freeN = b.freeN := rfl
@[simp] theorem Block.setf_rspMgmt (b : Block) (x : Fld) (v : Nat) : (b.setf x v).rspMgmt = b.rspMgmt := rfl
@[simp] theorem Block.setf_rspVsb (b : Block) (x : Fld) (v : Nat) : (b.setf x v).rspVsb = b.rspVsb := rfl
@[simp] theorem Block.setf_rspTest (b : Block) (x : Fld) (v : Nat) : (b.setf x v).rspTest = b.rspTest := rfl
@[simp] theorem Block.setf_pins (b : Block) (x : Fld) (v : Nat) : (b.setf x v).pins = b.pins := rfl
@[simp] theorem Block.setf_busy (b : Block) (x : Fld) (v : Nat) : (b.setf x v).busy = b.busy := rfl
@[simp] theorem Block.setf_fab (b : Block) (x : Fld) (v : Nat) : (b.setf x v).fab = b.fab := rfl
@[simp] theorem Block.setf_ant (b : Block) (x : Fld) (v : Nat) : (b.setf x v).ant = b.ant := rfl
@[simp] theorem Block.setf_prb (b : Block) (x : Fld) (v : Nat) : (b.setf x v).prb = b.prb := rfl
@[simp] theorem Block.setf_scl (b : Block) (x : Fld) (v : Nat) : (b.setf x v).scl = b.scl := rfl
@[simp] theorem Block.setf_trc (b : Block) (x : Fld) (v : Nat) : (b.setf x v).trc = b.trc := rfl
@[simp] theorem Block.setf_swm (b : Block) (x : Fld) (v : Nat) : (b.setf x v).swm = b.swm := rfl
@[simp] theorem Block.setf_hwk (b : Block) (x : Fld) (v : Nat) : (b.setf x v).hwk = b.hwk := rfl
@[simp] theorem Block.setf_vrd (b : Block) (x : Fld) (v : Nat) : (b.setf x v).vrd = b.vrd := rfl
@[simp] theorem Block.setf_kl (b : Block) (x : Fld) (v : Nat) : (b.setf x v).kl = b.kl := rfl
@[simp] theorem Block.setf_mon (b : Block) (x : Fld) (v : Nat) : (b.setf x v).mon = b.mon := rfl
@[simp] theorem Block.setf_que (b : Block) (x : Fld) (v : Nat) : (b.setf x v).que = b.que := rfl
@[simp] theorem Block.setf_slk (b : Block) (x : Fld) (v : Nat) : (b.setf x v).slk = b.slk := rfl
@[simp] theorem Block.setf_coc (b : Block) (x : Fld) (v : Nat) : (b.setf x v).coc = b.coc := rfl
@[simp] theorem Block.setf_fim (b : Block) (x : Fld) (v : Nat) : (b.setf x v).fim = b.fim := rfl
@[simp] theorem Block.setf_int (b : Block) (x : Fld) (v : Nat) : (b.setf x v).int = b.int := rfl
@[simp] theorem Block.setf_stw (b : Block) (x : Fld) (v : Nat) : (b.setf x v).stw = b.stw := rfl
@[simp] theorem Block.setf_syn_ (b : Block) (x : Fld) (v : Nat) : (b.setf x v).syn_ = b.syn_ := rfl
@[simp] theorem Block.setf_irq (b : Block) (x : Fld) (v : Nat) : (b.setf x v).irq = b.irq := rfl
@[simp] theorem Block.setf_evl (b : Block) (x : Fld) (v : Nat) : (b.setf x v).evl = b.evl := rfl
@[simp] theorem Block.setf_vsb (b : Block) (x : Fld) (v : Nat) : (b.setf x v).vsb = b.vsb := rfl
@[simp] theorem Block.setf_pwr (b : Block) (x : Fld) (v : Nat) : (b.setf x v).pwr = b.pwr := rfl
@[simp] theorem Block.setf_sec (b : Block) (x : Fld) (v : Nat) : (b.setf x v).sec = b.sec := rfl
@[simp] theorem Block.setf_mp (b : Block) (x : Fld) (v : Nat) : (b.setf x v).mp = b.mp := rfl

@[simp] theorem Block.setb_syn (b : Block) (x : Fld) (v : Bool) : (b.setb x v).syn = b.syn := rfl
@[simp] theorem Block.setb_clk (b : Block) (x : Fld) (v : Bool) : (b.setb x v).clk = b.clk := rfl
@[simp] theorem Block.setb_freeN (b : Block) (x : Fld) (v : Bool) : (b.setb x v).freeN = b.freeN := rfl
@[simp] theorem Block.setb_rspMgmt (b : Block) (x : Fld) (v : Bool) : (b.setb x v).rspMgmt = b.rspMgmt := rfl
@[simp] theorem Block.setb_rspVsb (b : Block) (x : Fld) (v : Bool) : (b.setb x v).rspVsb = b.rspVsb := rfl
@[simp] theorem Block.setb_rspTest (b : Block) (x : Fld) (v : Bool) : (b.setb x v).rspTest = b.rspTest := rfl
@[simp] theorem Block.setb_pins (b : Block) (x : Fld) (v : Bool) : (b.setb x v).pins = b.pins := rfl
@[simp] theorem Block.setb_busy (b : Block) (x : Fld) (v : Bool) : (b.setb x v).busy = b.busy := rfl
@[simp] theorem Block.setb_fab (b : Block) (x : Fld) (v : Bool) : (b.setb x v).fab = b.fab := rfl
@[simp] theorem Block.setb_ant (b : Block) (x : Fld) (v : Bool) : (b.setb x v).ant = b.ant := rfl
@[simp] theorem Block.setb_prb (b : Block) (x : Fld) (v : Bool) : (b.setb x v).prb = b.prb := rfl
@[simp] theorem Block.setb_scl (b : Block) (x : Fld) (v : Bool) : (b.setb x v).scl = b.scl := rfl
@[simp] theorem Block.setb_trc (b : Block) (x : Fld) (v : Bool) : (b.setb x v).trc = b.trc := rfl
@[simp] theorem Block.setb_swm (b : Block) (x : Fld) (v : Bool) : (b.setb x v).swm = b.swm := rfl
@[simp] theorem Block.setb_hwk (b : Block) (x : Fld) (v : Bool) : (b.setb x v).hwk = b.hwk := rfl
@[simp] theorem Block.setb_vrd (b : Block) (x : Fld) (v : Bool) : (b.setb x v).vrd = b.vrd := rfl
@[simp] theorem Block.setb_kl (b : Block) (x : Fld) (v : Bool) : (b.setb x v).kl = b.kl := rfl
@[simp] theorem Block.setb_mon (b : Block) (x : Fld) (v : Bool) : (b.setb x v).mon = b.mon := rfl
@[simp] theorem Block.setb_que (b : Block) (x : Fld) (v : Bool) : (b.setb x v).que = b.que := rfl
@[simp] theorem Block.setb_slk (b : Block) (x : Fld) (v : Bool) : (b.setb x v).slk = b.slk := rfl
@[simp] theorem Block.setb_coc (b : Block) (x : Fld) (v : Bool) : (b.setb x v).coc = b.coc := rfl
@[simp] theorem Block.setb_fim (b : Block) (x : Fld) (v : Bool) : (b.setb x v).fim = b.fim := rfl
@[simp] theorem Block.setb_int (b : Block) (x : Fld) (v : Bool) : (b.setb x v).int = b.int := rfl
@[simp] theorem Block.setb_stw (b : Block) (x : Fld) (v : Bool) : (b.setb x v).stw = b.stw := rfl
@[simp] theorem Block.setb_syn_ (b : Block) (x : Fld) (v : Bool) : (b.setb x v).syn_ = b.syn_ := rfl
@[simp] theorem Block.setb_irq (b : Block) (x : Fld) (v : Bool) : (b.setb x v).irq = b.irq := rfl
@[simp] theorem Block.setb_evl (b : Block) (x : Fld) (v : Bool) : (b.setb x v).evl = b.evl := rfl
@[simp] theorem Block.setb_vsb (b : Block) (x : Fld) (v : Bool) : (b.setb x v).vsb = b.vsb := rfl
@[simp] theorem Block.setb_pwr (b : Block) (x : Fld) (v : Bool) : (b.setb x v).pwr = b.pwr := rfl
@[simp] theorem Block.setb_sec (b : Block) (x : Fld) (v : Bool) : (b.setb x v).sec = b.sec := rfl
@[simp] theorem Block.setb_mp (b : Block) (x : Fld) (v : Bool) : (b.setb x v).mp = b.mp := rfl

@[simp] theorem Block.count_syn (b : Block) (x : Fld) (n : Nat) : (b.count x n).syn = b.syn := rfl
@[simp] theorem Block.count_clk (b : Block) (x : Fld) (n : Nat) : (b.count x n).clk = b.clk := rfl
@[simp] theorem Block.count_freeN (b : Block) (x : Fld) (n : Nat) : (b.count x n).freeN = b.freeN := rfl
@[simp] theorem Block.count_rspMgmt (b : Block) (x : Fld) (n : Nat) : (b.count x n).rspMgmt = b.rspMgmt := rfl
@[simp] theorem Block.count_rspVsb (b : Block) (x : Fld) (n : Nat) : (b.count x n).rspVsb = b.rspVsb := rfl
@[simp] theorem Block.count_rspTest (b : Block) (x : Fld) (n : Nat) : (b.count x n).rspTest = b.rspTest := rfl
@[simp] theorem Block.count_pins (b : Block) (x : Fld) (n : Nat) : (b.count x n).pins = b.pins := rfl
@[simp] theorem Block.count_busy (b : Block) (x : Fld) (n : Nat) : (b.count x n).busy = b.busy := rfl
@[simp] theorem Block.count_fab (b : Block) (x : Fld) (n : Nat) : (b.count x n).fab = b.fab := rfl
@[simp] theorem Block.count_ant (b : Block) (x : Fld) (n : Nat) : (b.count x n).ant = b.ant := rfl
@[simp] theorem Block.count_prb (b : Block) (x : Fld) (n : Nat) : (b.count x n).prb = b.prb := rfl
@[simp] theorem Block.count_scl (b : Block) (x : Fld) (n : Nat) : (b.count x n).scl = b.scl := rfl
@[simp] theorem Block.count_trc (b : Block) (x : Fld) (n : Nat) : (b.count x n).trc = b.trc := rfl
@[simp] theorem Block.count_swm (b : Block) (x : Fld) (n : Nat) : (b.count x n).swm = b.swm := rfl
@[simp] theorem Block.count_hwk (b : Block) (x : Fld) (n : Nat) : (b.count x n).hwk = b.hwk := rfl
@[simp] theorem Block.count_vrd (b : Block) (x : Fld) (n : Nat) : (b.count x n).vrd = b.vrd := rfl
@[simp] theorem Block.count_kl (b : Block) (x : Fld) (n : Nat) : (b.count x n).kl = b.kl := rfl
@[simp] theorem Block.count_mon (b : Block) (x : Fld) (n : Nat) : (b.count x n).mon = b.mon := rfl
@[simp] theorem Block.count_que (b : Block) (x : Fld) (n : Nat) : (b.count x n).que = b.que := rfl
@[simp] theorem Block.count_slk (b : Block) (x : Fld) (n : Nat) : (b.count x n).slk = b.slk := rfl
@[simp] theorem Block.count_coc (b : Block) (x : Fld) (n : Nat) : (b.count x n).coc = b.coc := rfl
@[simp] theorem Block.count_fim (b : Block) (x : Fld) (n : Nat) : (b.count x n).fim = b.fim := rfl
@[simp] theorem Block.count_int (b : Block) (x : Fld) (n : Nat) : (b.count x n).int = b.int := rfl
@[simp] theorem Block.count_stw (b : Block) (x : Fld) (n : Nat) : (b.count x n).stw = b.stw := rfl
@[simp] theorem Block.count_syn_ (b : Block) (x : Fld) (n : Nat) : (b.count x n).syn_ = b.syn_ := rfl
@[simp] theorem Block.count_irq (b : Block) (x : Fld) (n : Nat) : (b.count x n).irq = b.irq := rfl
@[simp] theorem Block.count_evl (b : Block) (x : Fld) (n : Nat) : (b.count x n).evl = b.evl := rfl
@[simp] theorem Block.count_vsb (b : Block) (x : Fld) (n : Nat) : (b.count x n).vsb = b.vsb := rfl
@[simp] theorem Block.count_pwr (b : Block) (x : Fld) (n : Nat) : (b.count x n).pwr = b.pwr := rfl
@[simp] theorem Block.count_sec (b : Block) (x : Fld) (n : Nat) : (b.count x n).sec = b.sec := rfl
@[simp] theorem Block.count_mp (b : Block) (x : Fld) (n : Nat) : (b.count x n).mp = b.mp := rfl

@[simp] theorem Block.fresh_syn (b : Block) : b.fresh.2.syn = b.syn := rfl
@[simp] theorem Block.fresh_clk (b : Block) : b.fresh.2.clk = b.clk := rfl
@[simp] theorem Block.fresh_flds (b : Block) : b.fresh.2.flds = b.flds := rfl
@[simp] theorem Block.fresh_rspMgmt (b : Block) : b.fresh.2.rspMgmt = b.rspMgmt := rfl
@[simp] theorem Block.fresh_rspVsb (b : Block) : b.fresh.2.rspVsb = b.rspVsb := rfl
@[simp] theorem Block.fresh_rspTest (b : Block) : b.fresh.2.rspTest = b.rspTest := rfl
@[simp] theorem Block.fresh_pins (b : Block) : b.fresh.2.pins = b.pins := rfl
@[simp] theorem Block.fresh_busy (b : Block) : b.fresh.2.busy = b.busy := rfl
@[simp] theorem Block.fresh_fab (b : Block) : b.fresh.2.fab = b.fab := rfl
@[simp] theorem Block.fresh_ant (b : Block) : b.fresh.2.ant = b.ant := rfl
@[simp] theorem Block.fresh_prb (b : Block) : b.fresh.2.prb = b.prb := rfl
@[simp] theorem Block.fresh_scl (b : Block) : b.fresh.2.scl = b.scl := rfl
@[simp] theorem Block.fresh_trc (b : Block) : b.fresh.2.trc = b.trc := rfl
@[simp] theorem Block.fresh_swm (b : Block) : b.fresh.2.swm = b.swm := rfl
@[simp] theorem Block.fresh_hwk (b : Block) : b.fresh.2.hwk = b.hwk := rfl
@[simp] theorem Block.fresh_vrd (b : Block) : b.fresh.2.vrd = b.vrd := rfl
@[simp] theorem Block.fresh_kl (b : Block) : b.fresh.2.kl = b.kl := rfl
@[simp] theorem Block.fresh_mon (b : Block) : b.fresh.2.mon = b.mon := rfl
@[simp] theorem Block.fresh_que (b : Block) : b.fresh.2.que = b.que := rfl
@[simp] theorem Block.fresh_slk (b : Block) : b.fresh.2.slk = b.slk := rfl
@[simp] theorem Block.fresh_coc (b : Block) : b.fresh.2.coc = b.coc := rfl
@[simp] theorem Block.fresh_fim (b : Block) : b.fresh.2.fim = b.fim := rfl
@[simp] theorem Block.fresh_int (b : Block) : b.fresh.2.int = b.int := rfl
@[simp] theorem Block.fresh_stw (b : Block) : b.fresh.2.stw = b.stw := rfl
@[simp] theorem Block.fresh_syn_ (b : Block) : b.fresh.2.syn_ = b.syn_ := rfl
@[simp] theorem Block.fresh_irq (b : Block) : b.fresh.2.irq = b.irq := rfl
@[simp] theorem Block.fresh_evl (b : Block) : b.fresh.2.evl = b.evl := rfl
@[simp] theorem Block.fresh_vsb (b : Block) : b.fresh.2.vsb = b.vsb := rfl
@[simp] theorem Block.fresh_pwr (b : Block) : b.fresh.2.pwr = b.pwr := rfl
@[simp] theorem Block.fresh_sec (b : Block) : b.fresh.2.sec = b.sec := rfl
@[simp] theorem Block.fresh_mp (b : Block) : b.fresh.2.mp = b.mp := rfl

/-! Events -/

@[simp] theorem Block.noEvents_setf (b : Block) (x : Fld) (v : Nat) : (b.setf x v).noEvents = b.noEvents := rfl
@[simp] theorem Block.noEvents_count (b : Block) (x : Fld) (n : Nat) : (b.count x n).noEvents = b.noEvents := rfl
@[simp] theorem Block.noEvents_evl (b : Block) (l : EvLog) : ({ b with evl := l }).noEvents = b.noEvents := rfl
@[simp] theorem Block.noEvents_irq (b : Block) (i : Irq) : ({ b with irq := i }).noEvents = b.noEvents := rfl

/-- Logging a raise changes the field table and the event log alone. -/
@[simp] theorem Block.noEvents_logRaise (b : Block) (src arg : Nat) : (b.logRaise src arg).noEvents = b.noEvents := by
  unfold Block.logRaise
  dsimp only
  repeat' split
  all_goals rfl

/-- The raw raise likewise. -/
@[simp] theorem Block.noEvents_raiseRaw (b : Block) (src : Nat) (args : List (Nat × Nat)) :
    (b.raiseRaw src args).noEvents = b.noEvents := by
  simp [Block.raiseRaw]

/-- A source that begins to pend changes the field table, the event log and the storm guards alone. -/
@[simp] theorem Block.noEvents_begins (b : Block) (src : Nat) : (b.begins src).noEvents = b.noEvents := by
  unfold Block.begins
  dsimp only
  repeat' split
  all_goals simp

/-- All that a raise can change: the field table, the event log and the storm guards (R337, R338). -/
@[simp] theorem Block.noEvents_raise (b : Block) (src : Nat) (args : List (Nat × Nat)) :
    (b.raise src args).noEvents = b.noEvents := by
  unfold Block.raise
  split <;> simp

/-- The event bit is 1 after the raw raise of a source. -/
theorem Block.setf_bit (b : Block) (src : Nat) : (b.setf (srcFld src) 1).f (srcFld src) = 1 := by
  have hw : (srcFld src).w = 1 := by unfold srcFld; split <;> [rfl; (split <;> rfl)]
  rw [Block.f_setf_same, hw]; rfl

/-! Running a meaning -/

/-- A meaning lifted from the block keeps the queue and the retained memory. -/
theorem State.lift_frame {s t : State} {g : Block → Block} (h : s.lift g = .next t) : t.pending = s.pending ∧ t.mem = s.mem := by
  cases h; exact ⟨rfl, rfl⟩

/-- A meaning lifted from the block and the memory keeps the queue. -/
theorem State.liftM_frame {s t : State} {g : Memory → Block → Memory × Block} (h : s.liftM g = .next t) :
    t.pending = s.pending ∧ t.mem = (g s.mem s.b).1 := by
  cases h; exact ⟨rfl, rfl⟩

/-- A step with a command in front is that command on the rest. -/
@[simp] theorem step_cons (s : State) (c : Sys2Proof.Instr) (l : List Sys2Proof.Instr) :
    step { s with pending := c :: l } = exec c { s with pending := l } := rfl

end Sys2Proof.Machine
end

