-- ==== Sys2Proof/Laws/Frames.lean ====
section
/-! SUPPORT. Which register fields an operation leaves alone: the lemmas of `Block.sameRegs`, from one field's write up to raising an event. -/

namespace Sys2Proof.Machine

theorem Block.sameRegs_refl (b : Block) (rs : List Nat) : b.sameRegs b rs := fun _ _ _ => rfl

theorem Block.sameRegs_trans {b c d : Block} {rs : List Nat} (h : b.sameRegs c rs) (k : c.sameRegs d rs) : b.sameRegs d rs :=
  fun x hx hr => (k x hx hr).trans (h x hx hr)

/-- Equal field tables agree on every field. -/
theorem Block.sameRegs_of_flds {b c : Block} (h : c.flds = b.flds) (rs : List Nat) : b.sameRegs c rs := by
  intro x _ _
  simp [Block.f, h]

/-- Two fields inside 32-bit registers of different regions have different keys. -/
theorem Fld.key_ne {x y : Fld} (hx : x.lo < 32) (hy : y.lo < 32) (h : x.region ≠ y.region) : x.key ≠ y.key := by
  intro e
  apply h
  unfold Fld.key at e
  have : x.off = y.off := by omega
  simp [Fld.region, this]

/-- A field's write is seen in its own region alone. -/
theorem Block.sameRegs_setf {b c : Block} {rs : List Nat} (h : b.sameRegs c rs) {y : Fld} (v : Nat) (hy : y.lo < 32)
    (hr : y.region ∈ rs) : b.sameRegs (c.setf y v) rs := by
  intro x hx hn
  have hk : x.key ≠ y.key := Fld.key_ne hx hy (fun e => hn (e ▸ hr))
  rw [← h x hx hn]
  exact SMap.getD_putD_other _ _ _ _ hk

theorem Block.sameRegs_count {b c : Block} {rs : List Nat} (h : b.sameRegs c rs) {y : Fld} (n : Nat) (hy : y.lo < 32)
    (hr : y.region ∈ rs) : b.sameRegs (c.count y n) rs := Block.sameRegs_setf h _ hy hr

/-- The event bit of a source lies inside a 32-bit register. -/
theorem srcFld_lo (s : Nat) : (srcFld s).lo < 32 := by
  unfold srcFld
  split
  · dsimp only; omega
  · split
    · dsimp only; omega
    · exact Nat.mod_lt _ (by decide)

/-- Logging a raise writes region 0xF alone. -/
theorem Block.sameRegs_logRaise {b c : Block} {rs : List Nat} (h : b.sameRegs c rs) (hF : 0xF ∈ rs) (src arg : Nat) :
    b.sameRegs (c.logRaise src arg) rs := by
  unfold Block.logRaise
  dsimp only
  split
  · exact Block.sameRegs_trans h (Block.sameRegs_of_flds rfl rs)
  · split
    · exact Block.sameRegs_count (Block.sameRegs_trans h (Block.sameRegs_of_flds rfl rs)) _ (by decide) (by exact hF)
    · exact Block.sameRegs_count (Block.sameRegs_trans h (Block.sameRegs_of_flds rfl rs)) _ (by decide) (by exact hF)

theorem Block.sameRegs_raiseRaw {b c : Block} {rs : List Nat} (h : b.sameRegs c rs) (hF : 0xF ∈ rs) {src : Nat}
    (hs : (srcFld src).region ∈ rs) (args : List (Nat × Nat)) : b.sameRegs (c.raiseRaw src args) rs :=
  Block.sameRegs_logRaise (Block.sameRegs_setf h 1 (srcFld_lo src) hs) hF _ _

/-- The hidden copies of a register share its region. -/
@[simp] theorem Fld.region_ix (x : Fld) (n : Nat) : (x.ix n).region = x.region := by
  unfold Fld.region Fld.ix
  dsimp only
  omega

/-- A storm guard's note writes region 0xF alone. -/
theorem Block.sameRegs_storm {b c : Block} {rs : List Nat} (h : b.sameRegs c rs) (hF : 0xF ∈ rs) (src : Nat) (a : List (Nat × Nat)) :
    b.sameRegs (((c.setf F.IRQ_STORM_LAST_SRC src).setf F.IRQ_STORM_LAST_VALID 1).raiseRaw Ev.STW_STORM a) rs := by
  apply Block.sameRegs_raiseRaw _ hF (src := Ev.STW_STORM) hF
  apply Block.sameRegs_setf (y := F.IRQ_STORM_LAST_VALID) _ _ (by decide) hF
  exact Block.sameRegs_setf (y := F.IRQ_STORM_LAST_SRC) h _ (by decide) hF

/-- The end of a storm guard's note: EN may be cleared, in region 0xF. -/
theorem Block.sameRegs_stormOff {b c : Block} {rs : List Nat} (h : b.sameRegs c rs) (hF : 0xF ∈ rs) (p : Prop) [Decidable p] (src : Nat)
    (a : List (Nat × Nat)) :
    b.sameRegs (if p then (c.setf (F.IRQ_SRC_CFG_EN.ix src) 0).raiseRaw Ev.STW_STORM_OFF a else c) rs := by
  split
  · apply Block.sameRegs_raiseRaw _ hF (src := Ev.STW_STORM_OFF) hF
    apply Block.sameRegs_setf h _ (by exact (by decide : F.IRQ_SRC_CFG_EN.lo < 32))
    rw [Fld.region_ix]; exact hF
  · exact h

/-- A source that begins to pend writes region 0xF alone. -/
theorem Block.sameRegs_begins {b c : Block} {rs : List Nat} (h : b.sameRegs c rs) (hF : 0xF ∈ rs) (src : Nat) :
    b.sameRegs (c.begins src) rs := by
  unfold Block.begins
  split
  · extract_lets g bs before n g' i d d1 d2
    split
    · exact h
    · have hd : b.sameRegs d rs := Block.sameRegs_trans h (Block.sameRegs_of_flds rfl rs)
      have h2 : b.sameRegs d2 rs := Block.sameRegs_storm hd hF _ _
      clear_value d2
      split
      · exact Block.sameRegs_stormOff h2 hF _ _ _
      · exact Block.sameRegs_trans h (Block.sameRegs_of_flds rfl rs)
  · exact h

/-- Raising an event writes its own event register and region 0xF alone (R337, R338). -/
theorem Block.sameRegs_raise {b c : Block} {rs : List Nat} (h : b.sameRegs c rs) (hF : 0xF ∈ rs) {src : Nat}
    (hr : (srcFld src).region ∈ rs) (args : List (Nat × Nat)) : b.sameRegs (c.raise src args) rs := by
  unfold Block.raise
  split
  · exact Block.sameRegs_raiseRaw h hF hr args
  · exact Block.sameRegs_begins (Block.sameRegs_raiseRaw h hF hr args) hF src

end Sys2Proof.Machine
end

