-- ==== Sys2Proof/Laws/Memory.lean ====
section
/-! SUPPORT. Laws of the retained memory: every operation keeps the canonical form, a byte just written is read back, and other bytes
read as before. -/

namespace Sys2Proof.Machine

/-- A byte just written is read back. -/
@[simp] theorem Memory.byte_setByte_same (m : Memory) (a : Nat) (v : Byte) : (m.setByte a v).byte a = v := by
  simp [Memory.setByte, Memory.byte]

/-- Writing a byte leaves the others. -/
theorem Memory.byte_setByte_other (m : Memory) {a x : Nat} (v : Byte) (h : x ≠ a) : (m.setByte a v).byte x = m.byte x := by
  unfold Memory.setByte Memory.byte
  exact SMap.getD_putD_other m 0 0 v h

/-- Writing bytes leaves those outside them. -/
theorem Memory.byte_setBytes_other (bs : List Byte) : ∀ (m : Memory) (a x : Nat), (x < a ∨ a + bs.length ≤ x) →
    (m.setBytes a bs).byte x = m.byte x := by
  induction bs with
  | nil => intro m a x _; rfl
  | cons v t ih =>
    intro m a x h
    simp only [List.length_cons] at h
    rw [Memory.setBytes, ih (m.setByte a v) (a + 1) x (by omega)]
    exact Memory.byte_setByte_other m v (by omega)

/-- The canonical form of a memory with a first byte. -/
theorem Memory.above_cons (lo a : Nat) (v : Byte) (t : Memory) :
    Memory.above lo ((a, v) :: t) = true ↔ (lo ≤ a ∧ v ≠ 0) ∧ Memory.above (a + 1) t = true := by
  simp only [Memory.above, Bool.and_eq_true, decide_eq_true_eq]

/-- A lower bound may be lowered. -/
theorem Memory.above_mono {lo lo' : Nat} {m : Memory} (h : m.above lo = true) (le : lo' ≤ lo) : m.above lo' = true := by
  cases m with
  | nil => rfl
  | cons c t =>
    obtain ⟨a, v⟩ := c
    rw [Memory.above_cons] at h ⊢
    exact ⟨⟨by omega, h.1.2⟩, h.2⟩

/-- Listing a byte that is not 0 keeps the canonical form. -/
theorem Memory.above_put (m : Memory) : ∀ (lo a : Nat) (v : Byte), m.above lo = true → lo ≤ a → v ≠ 0 →
    Memory.above lo (SMap.put m a v) = true := by
  induction m with
  | nil => intro lo a v _ h2 h3; exact (Memory.above_cons lo a v []).mpr ⟨⟨h2, h3⟩, rfl⟩
  | cons c t ih =>
    obtain ⟨x, w⟩ := c
    intro lo a v h1 h2 h3
    rw [Memory.above_cons] at h1
    unfold SMap.put
    split
    · next e => subst e; exact (Memory.above_cons lo x v t).mpr ⟨⟨h2, h3⟩, h1.2⟩
    · split
      · next l =>
        exact (Memory.above_cons lo a v _).mpr ⟨⟨h2, h3⟩, (Memory.above_cons (a + 1) x w t).mpr ⟨⟨by omega, h1.1.2⟩, h1.2⟩⟩
      · next e l => exact (Memory.above_cons lo x w _).mpr ⟨h1.1, ih (x + 1) a v h1.2 (by omega) h3⟩

/-- Taking entries off keeps the canonical form. -/
theorem Memory.above_filter (p : Host.Cell → Bool) (m : Memory) : ∀ lo : Nat, m.above lo = true → Memory.above lo (m.filter p) = true := by
  induction m with
  | nil => intro lo _; rfl
  | cons c t ih =>
    obtain ⟨a, v⟩ := c
    intro lo h
    rw [Memory.above_cons] at h
    by_cases hp : p (a, v) = true
    · simp only [List.filter_cons, hp, if_true]
      exact (Memory.above_cons lo a v _).mpr ⟨h.1, ih (a + 1) h.2⟩
    · simp only [List.filter_cons, hp, Bool.false_eq_true, if_false]
      exact Memory.above_mono (ih (a + 1) h.2) (by omega)

/-- Writing a byte keeps the canonical form. -/
theorem Memory.wf_setByte (m : Memory) (a : Nat) (v : Byte) (h : m.wf = true) : (m.setByte a v).wf = true := by
  unfold Memory.setByte SMap.putD
  split
  · exact Memory.above_filter _ m 0 h
  · next hv => exact Memory.above_put m 0 a v h (Nat.zero_le a) hv

/-- Writing bytes keeps the canonical form. -/
theorem Memory.wf_setBytes (bs : List Byte) : ∀ (m : Memory) (a : Nat), m.wf = true → (m.setBytes a bs).wf = true := by
  induction bs with
  | nil => intro m a h; exact h
  | cons v t ih => intro m a h; exact ih _ _ (Memory.wf_setByte m a v h)

/-- A retained word that is lost keeps the canonical form. -/
theorem Memory.wf_retWordLost (m : Memory) (w : SramHeld) (h : m.wf = true) : (retWordLost m w).wf = true := by
  unfold retWordLost
  split
  · dsimp only
    split
    · exact h
    · exact Memory.above_filter _ m 0 h
  · exact h

end Sys2Proof.Machine
end

