-- ==== Sys2Proof/Laws/Records.lean ====
section
/-! SUPPORT. What a record on its way into a queue can change: each operation of Machine/Records.lean keeps all of the block but the
parts that `Block.noRecords` leaves out. -/

namespace Sys2Proof.Machine

/-- A fold keeps what each of its steps keeps. -/
theorem foldl_keeps {α β : Type} (p : Block → β) (g : Block → α → Block) (h : ∀ b x, p (g b x) = p b) (l : List α) :
    ∀ b, p (l.foldl g b) = p b := by
  induction l with
  | nil => intro b; rfl
  | cons x t ih => intro b; rw [List.foldl_cons, ih, h]

@[simp] theorem Block.noRecords_setf (b : Block) (x : Fld) (v : Nat) : (b.setf x v).noRecords = b.noRecords := rfl
@[simp] theorem Block.noRecords_count (b : Block) (x : Fld) (n : Nat) : (b.count x n).noRecords = b.noRecords := rfl
@[simp] theorem Block.noRecords_que (b : Block) (x : Que) : ({ b with que := x }).noRecords = b.noRecords := rfl
@[simp] theorem Block.noRecords_slk (b : Block) (x : Slk) : ({ b with slk := x }).noRecords = b.noRecords := rfl
@[simp] theorem Block.noRecords_trc (b : Block) (x : Trc) : ({ b with trc := x }).noRecords = b.noRecords := rfl
@[simp] theorem Block.noRecords_hwk (b : Block) (x : Hwk) : ({ b with hwk := x }).noRecords = b.noRecords := rfl
@[simp] theorem Block.noRecords_int (b : Block) (x : Integ) : ({ b with int := x }).noRecords = b.noRecords := rfl
@[simp] theorem Block.noRecords_setQueue (b : Block) (q : Nat) (x : QueSt) : (b.setQueue q x).noRecords = b.noRecords := rfl
@[simp] theorem Block.noRecords_putJob (b : Block) (j : SlkJob) : (b.putJob j).noRecords = b.noRecords := rfl
@[simp] theorem Block.noRecords_freePkts (b : Block) (i n : Nat) : (b.freePkts i n).noRecords = b.noRecords := rfl
@[simp] theorem Block.noRecords_setPart (b : Block) (k i : Nat) (f : PartSt → PartSt) : (b.setPart k i f).noRecords = b.noRecords := rfl
@[simp] theorem Block.noRecords_showTrace (b : Block) (i c p : Nat) : (b.showTrace i c p).noRecords = b.noRecords := rfl

/-- What keeps all but events keeps all but what records change. -/
theorem Block.noRecords_of_noEvents {b c : Block} (h : b.noEvents = c.noEvents) : b.noRecords = c.noRecords := by
  have : b.noEvents.noRecords = c.noEvents.noRecords := congrArg Block.noRecords h
  exact this

@[simp] theorem Block.noRecords_raise (b : Block) (s : Nat) (a : List (Nat × Nat)) : (b.raise s a).noRecords = b.noRecords :=
  Block.noRecords_of_noEvents (Block.noEvents_raise b s a)

@[simp] theorem Block.noRecords_raiseIf (b : Block) (c : Bool) (s : Nat) (a : List (Nat × Nat)) :
    (b.raiseIf c s a).noRecords = b.noRecords := by
  unfold Block.raiseIf; split <;> simp

@[simp] theorem Block.noRecords_setRun (b : Block) (t : Option TestRun) : (b.setRun t).noRecords = b.noRecords := by
  unfold Block.setRun Block.showTest; split <;> simp

@[simp] theorem Block.noRecords_abandonTest (b : Block) (k i : Nat) : (b.abandonTest k i).noRecords = b.noRecords := by
  unfold Block.abandonTest
  split
  · split <;> simp
  · rfl

@[simp] theorem Block.noRecords_dropBytes (b : Block) (q n p s : Nat) : (b.dropBytes q n p s).noRecords = b.noRecords := by
  exact (Block.noRecords_raise _ _ _).trans ((Block.noRecords_count _ _ _).trans (Block.noRecords_setQueue _ _ _))

@[simp] theorem Block.noRecords_dropItem (b : Block) (q : Nat) (r : Rec) : (b.dropItem q r).noRecords = b.noRecords := by
  simp [Block.dropItem]

@[simp] theorem Block.noRecords_vrd (b : Block) (x : Vrd) : ({ b with vrd := x }).noRecords = b.noRecords := rfl
@[simp] theorem Block.noRecords_putRow (b : Block) (e : Nat) (r : Row) : (b.putRow e r).noRecords = b.noRecords := rfl
@[simp] theorem Block.noRecords_putDrift (b : Block) (ch : Nat) (c : Drift) : (b.putDrift ch c).noRecords = b.noRecords := rfl
@[simp] theorem Block.noRecords_setb (b : Block) (x : Fld) (v : Bool) : (b.setb x v).noRecords = b.noRecords := rfl

@[simp] theorem Block.noRecords_finding (b : Block) (e : VEntry) : (b.finding e).noRecords = b.noRecords := by
  unfold Block.finding; split <;> simp

@[simp] theorem Block.noRecords_touch (b : Block) (e : Nat) : (b.touch e).noRecords = b.noRecords := by
  unfold Block.touch
  dsimp only
  repeat' split
  all_goals rfl

@[simp] theorem Block.noRecords_featDrop (b : Block) : b.featDrop.noRecords = b.noRecords := by simp [Block.featDrop]

@[simp] theorem Block.noRecords_driftJudge (b : Block) (ch : Nat) (c : Drift) : (b.driftJudge ch c).noRecords = b.noRecords := by
  unfold Block.driftJudge
  dsimp only
  split <;> simp

@[simp] theorem Block.noRecords_driftClear (b : Block) (ch : Nat) : (b.driftClear ch).noRecords = b.noRecords := by
  simp [Block.driftClear]

@[simp] theorem Block.noRecords_driftSample (b : Block) (ch : Nat) : (b.driftSample ch).noRecords = b.noRecords := by
  unfold Block.driftSample
  dsimp only
  repeat' split
  all_goals simp

@[simp] theorem Block.noRecords_driftFeed (b : Block) (e f : Nat) : (b.driftFeed e f).noRecords = b.noRecords := by
  unfold Block.driftFeed
  split
  · exact foldl_keeps Block.noRecords _ (fun b ch => Block.noRecords_driftSample b ch) _ b
  · rfl

@[simp] theorem Block.noRecords_featWrite (b : Block) (e f : Nat) (k : Option Nat) (w : Bool) :
    (b.featWrite e f k w).noRecords = b.noRecords := by
  unfold Block.featWrite
  dsimp only
  split <;> simp

@[simp] theorem Block.noRecords_featRowKey (b : Block) (e f : Nat) (w : Bool) (p : List Byte) (k : Nat) :
    (b.featRowKey e f w p k).noRecords = b.noRecords := by
  unfold Block.featRowKey
  dsimp only
  repeat' split
  all_goals simp

@[simp] theorem Block.noRecords_featEntry (b : Block) (n : Nat) (r : Rec) : (b.featEntry n r).noRecords = b.noRecords := by
  unfold Block.featEntry
  dsimp only
  repeat' split
  all_goals try simp
  all_goals
    rw [foldl_keeps Block.noRecords _ (fun b k => Block.noRecords_featRowKey b _ _ _ _ k)]
    simp

@[simp] theorem Block.noRecords_featOwn (b : Block) (r : Rec) : (b.featOwn r).noRecords = b.noRecords := by
  unfold Block.featOwn
  split
  · exact foldl_keeps Block.noRecords _ (fun b n => Block.noRecords_featEntry b n r) _ b
  · rfl

@[simp] theorem Block.noRecords_append (b : Block) (q : Nat) (r : Rec) (l : Bool) : (b.append q r l).noRecords = b.noRecords := rfl

/-- A QUE_LOSS record that becomes whole changes its queue, and the rows it feeds (R171, R234). -/
@[simp] theorem Block.noRecords_settleLoss (b : Block) (q s c : Nat) : (b.settleLoss q s c).noRecords = b.noRecords :=
  (foldl_keeps Block.noRecords _ (fun b _ => Block.noRecords_featOwn b _) _ _).trans rfl

@[simp] theorem Block.noRecords_enter (b : Block) (q : Nat) (r : Rec) : (b.enter q r).noRecords = b.noRecords := by
  unfold Block.enter; dsimp only; split <;> simp

@[simp] theorem Block.noRecords_dropOld (b : Block) (q n : Nat) : (b.dropOld q n).noRecords = b.noRecords := by
  unfold Block.dropOld
  refine (foldl_keeps Block.noRecords (fun b (i : Item) => b.dropItem q i.body) ?_ _ _).trans ?_
  · intro c i
    exact Block.noRecords_dropItem c q i.body
  · rfl

/-- Making room keeps it too. -/
theorem Block.noRecords_makeRoom {b c : Block} {q n s : Nat} (h : b.makeRoom q n s = some c) : c.noRecords = b.noRecords := by
  unfold Block.makeRoom at h
  dsimp only at h
  split at h
  · cases h; rfl
  · split at h
    · split at h
      · cases h; simp
      · cases h
    · cases h

@[simp] theorem Block.noRecords_offer (b : Block) (q : Nat) (r : Rec) : (b.offer q r).noRecords = b.noRecords := by
  unfold Block.offer
  dsimp only
  split
  · simp
  · split
    · simp
    · split
      · next h => rw [Block.noRecords_enter, Block.noRecords_makeRoom h]; simp
      · simp

@[simp] theorem Block.noRecords_assign (b : Block) : b.assign.noRecords = b.noRecords := by
  unfold Block.assign
  split
  · rfl
  · refine foldl_keeps Block.noRecords _ ?_ _ b
    intro c j
    dsimp only
    repeat' split
    all_goals simp

@[simp] theorem Block.noRecords_leaveOne (b : Block) : b.leaveOne.noRecords = b.noRecords := by
  unfold Block.leaveOne
  repeat' split
  all_goals simp

@[simp] theorem Block.noRecords_slkGo (b : Block) : b.slkGo.noRecords = b.noRecords := by
  unfold Block.slkGo
  rw [Block.noRecords_assign]
  exact foldl_keeps Block.noRecords _ (fun b _ => Block.noRecords_leaveOne b) _ b

@[simp] theorem Block.noRecords_failJob (b : Block) (j : SlkJob) : (b.failJob j).noRecords = b.noRecords := by
  simp [Block.failJob]

@[simp] theorem Block.noRecords_slkFenced (b : Block) : b.slkFenced.noRecords = b.noRecords := by
  unfold Block.slkFenced
  dsimp only
  rw [Block.noRecords_slkGo]
  refine foldl_keeps Block.noRecords _ ?_ _ b
  intro c j
  repeat' split
  all_goals simp

/-- A record on its way into a queue changes register fields, the event log, storm guards, queues, Silkworm, trace buffers, the
feature table, drift channels and their findings, the running self-test, and nothing else (R230, R234, R253, R259). -/
@[simp] theorem Block.noRecords_arrive (b : Block) (q : Nat) (r : Rec) (t : Option Nat) (p v : Nat) :
    (b.arrive q r t p v).noRecords = b.noRecords := by
  unfold Block.arrive
  dsimp only
  repeat' split
  all_goals simp

@[simp] theorem Block.noRecords_emit (b : Block) (q s t f g e : Nat) (p : List Byte) : (b.emit q s t f g e p).noRecords = b.noRecords := by
  simp [Block.emit]

@[simp] theorem Block.noRecords_emitAt (b : Block) (q s t f g e h w : Nat) (p : List Byte) :
    (b.emitAt q s t f g e h w p).noRecords = b.noRecords := by
  simp [Block.emitAt]

@[simp] theorem Block.noRecords_emitRow (b : Block) (k t f g e : Nat) (p : List Byte) :
    (b.emitRow k t f g e p).noRecords = b.noRecords := by
  simp [Block.emitRow]

end Sys2Proof.Machine
end

