-- ==== Sys2Proof/Tests/Slice0.lean ====
section
/-! SUPPORT. Tests of the model: ill-formed commands that WellFormed refuses, what the spec's worked figures say, and for each clause of each
statement with hypotheses a concrete state and operands that meet them together. -/

namespace Sys2Proof.Tests

open Sys2Proof Sys2Proof.Machine

set_option linter.unusedVariables false

/-- A die after reset with every domain on, these register fields and this change. -/
def die (l : List (Nat × Nat)) (f : Block → Block := id) : State :=
  { State.reset with b := f { State.reset.b with
      flds := State.reset.b.flds ++ (List.range 11).map (fun d => (0x10000 * 32 + 2 * (d + 1), 2)) ++ l,
      pwr := { State.reset.b.pwr with held := [], start := .good } } }
/-- The same of an aggregator. -/
def aggr (l : List (Nat × Nat)) (f : Block → Block := id) : State := die l (fun b => f { b with syn := { b.syn with agg := true } })
/-- A die's image of three sections, signed with the key of `tstKeys`. -/
def tstImage : List Byte :=
  [51, 77, 73, 70, 0, 0, 3, 0, 3, 0, 2, 0, 77, 0, 0, 0, 8, 1, 0, 0, 0, 0, 0, 0, 155, 17, 11, 188, 116, 27, 182, 106, 192] ++
  [158, 216, 224, 102, 227, 72, 153, 0, 0, 0, 0, 0, 0, 0, 0, 0, 0, 0, 0, 0, 0, 0, 0, 0, 0, 0, 0, 0, 0, 0, 0, 1, 1] ++
  [2, 0, 112, 0, 0, 0, 32, 0, 0, 0, 0, 0, 0, 0, 2, 1, 2, 0, 144, 0, 0, 0, 8, 0, 0, 0, 0, 0, 0, 0, 3, 1, 2] ++
  [0, 152, 0, 0, 0, 0, 0, 0, 0, 0, 0, 0, 0, 0, 0, 0, 0, 0, 0, 0, 0, 0, 0, 0, 0, 0, 0, 0, 0, 0, 0, 0, 0] ++
  [0, 0, 0, 0, 0, 0, 0, 0, 0, 0, 0, 0, 1, 2, 3, 4, 5, 6, 7, 8, 9, 0, 0, 0, 0, 0, 0, 0, 0, 0, 0, 0, 0] ++
  [0, 0, 0, 95, 255, 145, 249, 46, 199, 216, 227, 102, 56, 58, 217, 55, 117, 95, 134, 121, 195, 126, 214, 98, 89, 95, 77, 54, 142, 129, 1, 144, 65] ++
  [170, 29, 202, 199, 215, 217, 137, 50, 23, 217, 70, 204, 66, 240, 55, 172, 85, 168, 47, 255, 200, 252, 151, 99, 236, 113, 179, 28, 29, 108, 155, 186, 175] ++
  [195, 60, 225, 191, 107, 49, 44, 175, 166, 155, 71, 64, 128, 200, 32, 213, 14, 229, 99, 235, 236, 196, 153, 11, 236, 163, 102, 33, 120, 27, 214, 42, 212]
/-- A key slot that holds the public key of KEYID 9. -/
def tstKeyBytes : List Byte :=
  [9, 0, 0, 0, 141, 90, 18, 251, 232, 202, 62, 146, 57, 105, 66, 245, 106, 86, 129, 151, 122, 234, 1, 9, 214, 245, 30, 199, 78, 183, 133, 187, 157, 45] ++
  [246, 154, 4, 85, 17, 77, 36, 39, 125, 62, 208, 115, 59, 255, 70, 78, 96, 103, 2, 102, 166, 184, 56, 242, 244, 142, 55, 233, 29, 24, 129, 83, 121, 138] ++
  [49, 118, 10, 128, 161, 104, 78, 27, 246, 240, 15, 67, 161, 129, 222, 81, 7, 238, 253, 227, 74, 149, 196, 254, 253, 127, 246, 225, 111, 92, 241, 189, 1, 0]
/-- The key region. -/
def tstKeys : SMap Byte := tstKeyBytes.zipIdx.map (fun p => (p.2, p.1))
/-- A die of PLOC 0 that holds the key of `tstImage`. -/
def imgDie (l : List (Nat × Nat)) (f : Block → Block := id) : State :=
  die l (fun b => f ({ b with sec := { b.sec with keys := tstKeys, crcOk := true } }.setf F.SELF_PLOC_PLOC 0))

/-! Ill-formed commands, one for each width and length check, are refused. -/

theorem test_wf_refuses_1 : [
    Instr.wf (.registerWrite .mgmt (2 ^ 20) 0 0 0),
    Instr.wf (.registerWrite .mgmt 0 (2 ^ 4) 0 0),
    Instr.wf (.registerWrite .mgmt 0 0 (2 ^ 32) 0),
    Instr.wf (.registerWrite .mgmt 0 0 0 (2 ^ 32)),
    Instr.wf (.multiCommandWrite .mgmt (2 ^ 20) 0),
    Instr.wf (.multiCommandWrite .mgmt 0 (2 ^ 32)),
    Instr.wf (.discoverReceived (2 ^ 8) 0 [] false 0),
    Instr.wf (.discoverReceived 0 (2 ^ 16) [] false 0),
    Instr.wf (.discoverReceived 0 0 (List.replicate 5 0) false 0),
    Instr.wf (.discoverReceived 0 0 [2 ^ 32] false 0),
    Instr.wf (.discoverReceived 0 0 [] false (2 ^ 32)),
    Instr.wf (.deadTimeout (2 ^ 20)),
    Instr.wf (.bindRepeat (2 ^ 20)),
    Instr.wf (.bindReceived (2 ^ 8) 0 0),
    Instr.wf (.bindReceived 0 (2 ^ 20) 0),
    Instr.wf (.bindReceived 0 0 (2 ^ 16)),
    Instr.wf (.bindAckReceived (2 ^ 8) 0 0),
    Instr.wf (.bindAckReceived 0 (2 ^ 20) 0),
    Instr.wf (.bindAckReceived 0 0 (2 ^ 16)),
    Instr.wf (.routeReceived (2 ^ 8) 0 ⟨0, 0⟩),
    Instr.wf (.routeReceived 0 (2 ^ 20) ⟨0, 0⟩),
    Instr.wf (.routeReceived 0 0 ⟨2 ^ 16, 0⟩),
    Instr.wf (.routeReceived 0 0 ⟨0, 2 ^ 16⟩),
    Instr.wf (.unbindReceived (2 ^ 8) 0 0),
    Instr.wf (.unbindReceived 0 (2 ^ 20) 0),
    Instr.wf (.unbindReceived 0 0 (2 ^ 16)),
    Instr.wf (.unbindRepeat (2 ^ 20) 0),
    Instr.wf (.unbindRepeat 0 (2 ^ 16)),
    Instr.wf (.unbindAckReceived (2 ^ 8) 0 0),
    Instr.wf (.unbindAckReceived 0 (2 ^ 20) 0),
    Instr.wf (.unbindAckReceived 0 0 (2 ^ 16))].all (· == false) = true := by decide

theorem test_wf_refuses_2 : [
    Instr.wf (.heartbeatReceived (2 ^ 8) 0 false),
    Instr.wf (.heartbeatReceived 0 (2 ^ 16) false),
    Instr.wf (.phaseLoad (2 ^ 64) false 0),
    Instr.wf (.phaseLoad 0 false (2 ^ 16)),
    Instr.wf (.stepStrobe (2 ^ 16)),
    Instr.wf (.phaseAdvance (2 ^ 16)),
    Instr.wf (.beaconReceived (2 ^ 8) 0 0 0 0 0 0),
    Instr.wf (.beaconReceived 0 (2 ^ 20) 0 0 0 0 0),
    Instr.wf (.beaconReceived 0 0 (2 ^ 16) 0 0 0 0),
    Instr.wf (.beaconReceived 0 0 0 (2 ^ 40) 0 0 0),
    Instr.wf (.beaconReceived 0 0 0 0 (2 ^ 24) 0 0),
    Instr.wf (.beaconReceived 0 0 0 0 0 (2 ^ 8) 0),
    Instr.wf (.beaconReceived 0 0 0 0 0 0 (2 ^ 64)),
    Instr.wf (.syncReceived (2 ^ 8) 0 0 false),
    Instr.wf (.syncReceived 0 (2 ^ 64) 0 false),
    Instr.wf (.syncReceived 0 0 (2 ^ 64) false),
    Instr.wf (.pdelayReqReceived (2 ^ 8) 0 0 false),
    Instr.wf (.pdelayReqReceived 0 (2 ^ 16) 0 false),
    Instr.wf (.pdelayReqReceived 0 0 (2 ^ 64) false),
    Instr.wf (.pdelayRespReceived (2 ^ 8) 0 0 0 0 false),
    Instr.wf (.pdelayRespReceived 0 (2 ^ 16) 0 0 0 false),
    Instr.wf (.pdelayRespReceived 0 0 (2 ^ 64) 0 0 false),
    Instr.wf (.pdelayRespReceived 0 0 0 (2 ^ 64) 0 false),
    Instr.wf (.pdelayRespReceived 0 0 0 0 (2 ^ 64) false),
    Instr.wf (.asymMeasure (2 ^ 8) 0),
    Instr.wf (.asymMeasure 0 (2 ^ 16)),
    Instr.wf (.launchArm .mgmt (2 ^ 32)),
    Instr.wf (.launchFire (2 ^ 5)),
    Instr.wf (.probeMessage (2 ^ 64)),
    Instr.wf (.counterApply .mgmt (2 ^ 32))].all (· == false) = true := by decide

theorem test_wf_refuses_3 : [
    Instr.wf (.laneStuck (2 ^ 11)),
    Instr.wf (.scalesConversion (2 ^ 16)),
    Instr.wf (.wireTestStart (List.replicate 9 0)),
    Instr.wf (.wireTestStart [2 ^ 16]),
    Instr.wf (.wireBiasSettled (List.replicate 9 0)),
    Instr.wf (.wireBiasSettled [2 ^ 16]),
    Instr.wf (.postEnd (2 ^ 2)),
    Instr.wf (.traceArm .mgmt (2 ^ 2) 0),
    Instr.wf (.traceArm .mgmt 0 (2 ^ 32)),
    Instr.wf (.traceStop .mgmt (2 ^ 2) 0),
    Instr.wf (.traceStop .mgmt 0 (2 ^ 32)),
    Instr.wf (.traceDump .mgmt (2 ^ 2) 0),
    Instr.wf (.traceDump .mgmt 0 (2 ^ 32)),
    Instr.wf (.contextTag (2 ^ 3) 0 0),
    Instr.wf (.contextTag 0 (2 ^ 16) 0),
    Instr.wf (.contextTag 0 0 (2 ^ 16)),
    Instr.wf (.traceRecordForm (2 ^ 2)),
    Instr.wf (.hangFreezeCmd .mgmt (2 ^ 32)),
    Instr.wf (.hangUnfreeze .mgmt (2 ^ 32)),
    Instr.wf (.contributionReceived (2 ^ 8) ⟨0, 0, 0, 0, 0, []⟩),
    Instr.wf (.partialReceived (2 ^ 8) ⟨0, 0, 0, 0, 0, [], []⟩),
    Instr.wf (.wbMarkReceived (2 ^ 8) 0 0 0),
    Instr.wf (.wbMarkReceived 0 (2 ^ 40) 0 0),
    Instr.wf (.wbMarkReceived 0 0 (2 ^ 8) 0),
    Instr.wf (.wbMarkReceived 0 0 0 (2 ^ 64)),
    Instr.wf (.transactionCutoff (2 ^ 64)),
    Instr.wf (.endReceived (2 ^ 8) 0 0),
    Instr.wf (.endReceived 0 (2 ^ 64) 0),
    Instr.wf (.endReceived 0 0 (2 ^ 8)),
    Instr.wf (.endGrace (2 ^ 64))].all (· == false) = true := by decide

theorem test_wf_refuses_4 : [
    Instr.wf (.resendReceived (2 ^ 8) 0),
    Instr.wf (.resendReceived 0 (2 ^ 64)),
    Instr.wf (.startReceived (2 ^ 8) 0 0),
    Instr.wf (.startReceived 0 (2 ^ 64) 0),
    Instr.wf (.startReceived 0 0 (2 ^ 64)),
    Instr.wf (.swarmLaunch .mgmt (2 ^ 32)),
    Instr.wf (.swarmAbort .mgmt (2 ^ 32)),
    Instr.wf (.runningClear .mgmt (2 ^ 32)),
    Instr.wf (.laneFenceWrite .mgmt (2 ^ 1) 0),
    Instr.wf (.laneFenceWrite .mgmt 0 (2 ^ 32)),
    Instr.wf (.modelExpand .mgmt (2 ^ 32)),
    Instr.wf (.passRequest (2 ^ 6)),
    Instr.wf (.tileFenceWrite .mgmt (2 ^ 32)),
    Instr.wf (.roundClose (2 ^ 40) 0),
    Instr.wf (.roundClose 0 (2 ^ 8)),
    Instr.wf (.traySumReceived (2 ^ 8) { lai := 0, step := 0, idx := 0 }),
    Instr.wf (.tariffWrite .mgmt (2 ^ 32)),
    Instr.wf (.laneError (2 ^ 8) 0),
    Instr.wf (.laneError 0 (2 ^ 2)),
    Instr.wf (.noFlitTimeout (2 ^ 8)),
    Instr.wf (.negSend (2 ^ 8)),
    Instr.wf (.negReceived (2 ^ 8) 0 0 [] 0),
    Instr.wf (.negReceived 0 (2 ^ 8) 0 [] 0),
    Instr.wf (.negReceived 0 0 (2 ^ 16) [] 0),
    Instr.wf (.negReceived 0 0 0 (List.replicate 4 0) 0),
    Instr.wf (.negReceived 0 0 0 [2 ^ 16] 0),
    Instr.wf (.negReceived 0 0 0 [] (2 ^ 4)),
    Instr.wf (.negAckReceived (2 ^ 8) 0 0 [] 0),
    Instr.wf (.negAckReceived 0 (2 ^ 8) 0 [] 0),
    Instr.wf (.negAckReceived 0 0 (2 ^ 16) [] 0)].all (· == false) = true := by decide

theorem test_wf_refuses_5 : [
    Instr.wf (.negAckReceived 0 0 0 (List.replicate 4 0) 0),
    Instr.wf (.negAckReceived 0 0 0 [2 ^ 16] 0),
    Instr.wf (.negAckReceived 0 0 0 [] (2 ^ 4)),
    Instr.wf (.trainingDone (2 ^ 8) 0),
    Instr.wf (.trainingDone 0 (2 ^ 4)),
    Instr.wf (.trainingTimeout (2 ^ 8)),
    Instr.wf (.downFlit (2 ^ 8)),
    Instr.wf (.downRetry (2 ^ 8)),
    Instr.wf (.portEnableWrite .mgmt (2 ^ 32)),
    Instr.wf (.ackReceived (2 ^ 8) [] []),
    Instr.wf (.ackReceived 0 (List.replicate 4 0) []),
    Instr.wf (.ackReceived 0 [2 ^ 16] []),
    Instr.wf (.ackReceived 0 [] (List.replicate 4 0)),
    Instr.wf (.ackReceived 0 [] [2 ^ 16]),
    Instr.wf (.nakReceived (2 ^ 8) 0 [] []),
    Instr.wf (.nakReceived 0 (2 ^ 3) [] []),
    Instr.wf (.nakReceived 0 0 (List.replicate 4 0) []),
    Instr.wf (.nakReceived 0 0 [2 ^ 16] []),
    Instr.wf (.nakReceived 0 0 [] (List.replicate 4 0)),
    Instr.wf (.nakReceived 0 0 [] [2 ^ 16]),
    Instr.wf (.replayTimeout (2 ^ 8) 0),
    Instr.wf (.replayTimeout 0 (2 ^ 2)),
    Instr.wf (.ackSend (2 ^ 8)),
    Instr.wf (.pauseReceived (2 ^ 8) 0 0),
    Instr.wf (.pauseReceived 0 (2 ^ 8) 0),
    Instr.wf (.pauseReceived 0 0 (2 ^ 16)),
    Instr.wf (.pauseExpire (2 ^ 8) 0),
    Instr.wf (.pauseExpire 0 (2 ^ 3)),
    Instr.wf (.pauseRepeat (2 ^ 8) 0),
    Instr.wf (.pauseRepeat 0 (2 ^ 3))].all (· == false) = true := by decide

theorem test_wf_refuses_6 : [
    Instr.wf (.bulkSchedule (2 ^ 8)),
    Instr.wf (.shapeCommit .mgmt (2 ^ 32)),
    Instr.wf (.shapeApply (2 ^ 3)),
    Instr.wf (.gateWindowStart (2 ^ 3)),
    Instr.wf (.gateWindowEnd (2 ^ 3)),
    Instr.wf (.recordReceived (2 ^ 8) [] []),
    Instr.wf (.recordReceived 0 [] [2 ^ 32]),
    Instr.wf (.acceptReceived (2 ^ 8) 0 0 false []),
    Instr.wf (.acceptReceived 0 (2 ^ 16) 0 false []),
    Instr.wf (.acceptReceived 0 0 (2 ^ 20) false []),
    Instr.wf (.acceptSend (2 ^ 20)),
    Instr.wf (.retransmitTimeout (2 ^ 16)),
    Instr.wf (.mirrorConfirm (2 ^ 64)),
    Instr.wf (.queueLoss (2 ^ 16)),
    Instr.wf (.flushDone (2 ^ 16)),
    Instr.wf (.pushStart .mgmt (2 ^ 32)),
    Instr.wf (.pushData .mgmt (2 ^ 32)),
    Instr.wf (.procedureTakeover (2 ^ 2)),
    Instr.wf (.injectionArm .mgmt (2 ^ 32)),
    Instr.wf (.injectionFire (2 ^ 3)),
    Instr.wf (.rehearsalDone (2 ^ 3)),
    Instr.wf (.jobDone (2 ^ 3) false),
    Instr.wf (.jobStop (2 ^ 3)),
    Instr.wf (.jobResume (2 ^ 2)),
    Instr.wf (.contextReset .mgmt (2 ^ 32)),
    Instr.wf (.engineFenceWrite .mgmt (2 ^ 32)),
    Instr.wf (.targetFailTimeout (2 ^ 4) 0),
    Instr.wf (.targetFailTimeout 0 (2 ^ 3)),
    Instr.wf (.patrolRead (2 ^ 4) 0 0 0 ⟨1, 0⟩),
    Instr.wf (.patrolRead 0 (2 ^ 3) 0 0 ⟨1, 0⟩)].all (· == false) = true := by decide

theorem test_wf_refuses_7 : [
    Instr.wf (.patrolRead 0 0 (2 ^ 32) 0 ⟨1, 0⟩),
    Instr.wf (.patrolRead 0 0 0 (2 ^ 16) ⟨1, 0⟩),
    Instr.wf (.cursorOldest .mgmt (2 ^ 32)),
    Instr.wf (.cursorNewest .mgmt (2 ^ 32)),
    Instr.wf (.cursorNext .mgmt (2 ^ 32)),
    Instr.wf (.cursorPrev .mgmt (2 ^ 32)),
    Instr.wf (.cursorSeek .mgmt (2 ^ 32)),
    Instr.wf (.cursorRelease .mgmt (2 ^ 32)),
    Instr.wf (.cursorLoadDone (2 ^ 2)),
    Instr.wf (.imageLoad .mgmt (2 ^ 32)),
    Instr.wf (.imageData .mgmt (2 ^ 32)),
    Instr.wf (.imageAbort .mgmt (2 ^ 32)),
    Instr.wf (.imageCommit .mgmt (2 ^ 32)),
    Instr.wf (.imageRollback .mgmt (2 ^ 32)),
    Instr.wf (.imageConfirm .mgmt (2 ^ 32)),
    Instr.wf (.sensorSample (2 ^ 16) 0),
    Instr.wf (.sensorSample 0 (2 ^ 16)),
    Instr.wf (.sclFenceWrite .mgmt (2 ^ 32)),
    Instr.wf (.shadowOp (2 ^ 8) 0 0),
    Instr.wf (.shadowOp 0 (2 ^ 48) 0),
    Instr.wf (.shadowOp 0 0 (2 ^ 64)),
    Instr.wf (.shadowResult (2 ^ 4) 0),
    Instr.wf (.shadowResult 0 (2 ^ 64)),
    Instr.wf (.shadowTimeout (2 ^ 4)),
    Instr.wf (.loadWindow (2 ^ 32)),
    Instr.wf (.wdogWarn (2 ^ 3)),
    Instr.wf (.wdogTimeout (2 ^ 3)),
    Instr.wf (.synRead (.thread 0) (2 ^ 12) 0),
    Instr.wf (.synRead (.thread 0) 0 (2 ^ 16)),
    Instr.wf (.synInc (.thread 0) (2 ^ 12) 0)].all (· == false) = true := by decide

theorem test_wf_refuses_8 : [
    Instr.wf (.synInc (.thread 0) 0 (2 ^ 16)),
    Instr.wf (.synDec (.thread 0) (2 ^ 12) 0),
    Instr.wf (.synDec (.thread 0) 0 (2 ^ 16)),
    Instr.wf (.synTake (.thread 0) (2 ^ 12) 0),
    Instr.wf (.synTake (.thread 0) 0 (2 ^ 16)),
    Instr.wf (.synSet (.thread 0) (2 ^ 12) 0),
    Instr.wf (.synSet (.thread 0) 0 (2 ^ 16)),
    Instr.wf (.synClrf (.thread 0) (2 ^ 12) 0),
    Instr.wf (.synClrf (.thread 0) 0 (2 ^ 16)),
    Instr.wf (.synReservedOp (.thread 0) (2 ^ 3) 0 0),
    Instr.wf (.synReservedOp (.thread 0) 0 (2 ^ 12) 0),
    Instr.wf (.synReservedOp (.thread 0) 0 0 (2 ^ 16)),
    Instr.wf (.irqInEdge (2 ^ 5) false),
    Instr.wf (.irqClaim (.thread 0) (2 ^ 2)),
    Instr.wf (.irqEoi (.thread 0) (2 ^ 2) 0),
    Instr.wf (.irqEoi (.thread 0) 0 (2 ^ 9)),
    Instr.wf (.irqHoldExpire (2 ^ 2)),
    Instr.wf (.stormGuardEnd (2 ^ 9)),
    Instr.wf (.logSelect .mgmt (2 ^ 32)),
    Instr.wf (.wakeWatchFire (2 ^ 8)),
    Instr.wf (.vsbRead (2 ^ 6) 0),
    Instr.wf (.vsbRead 0 (2 ^ 32)),
    Instr.wf (.vsbWrite (2 ^ 6) 0 0),
    Instr.wf (.vsbWrite 0 (2 ^ 32) 0),
    Instr.wf (.vsbWrite 0 0 (2 ^ 32)),
    Instr.wf (.vsbRespReceived (2 ^ 6) 0 0),
    Instr.wf (.vsbRespReceived 0 (2 ^ 8) 0),
    Instr.wf (.vsbRespReceived 0 0 (2 ^ 32)),
    Instr.wf (.vsbBeaconReceived (2 ^ 6) 0 0 false),
    Instr.wf (.vsbBeaconReceived 0 (2 ^ 32) 0 false)].all (· == false) = true := by decide

theorem test_wf_refuses_9 : [
    Instr.wf (.vsbBeaconReceived 0 0 (2 ^ 2) false),
    Instr.wf (.vsbProcReceived (2 ^ 6) 0 0 0 0),
    Instr.wf (.vsbProcReceived 0 (2 ^ 8) 0 0 0),
    Instr.wf (.vsbProcReceived 0 0 (2 ^ 20) 0 0),
    Instr.wf (.vsbProcReceived 0 0 0 (2 ^ 40) 0),
    Instr.wf (.vsbProcReceived 0 0 0 0 (2 ^ 64)),
    Instr.wf (.sleepGo .mgmt (2 ^ 32)),
    Instr.wf (.switchAck (2 ^ 4)),
    Instr.wf (.switchAckTimeout (2 ^ 4)),
    Instr.wf (.sleepWake .mgmt (2 ^ 32)),
    Instr.wf (.softReset .mgmt (2 ^ 32)),
    Instr.wf (.unitReset .mgmt (2 ^ 32)),
    Instr.wf (.retDataAccess .mgmt false (2 ^ 32)),
    Instr.wf (.unlockRespond .mgmt (2 ^ 32)),
    Instr.wf (.unlockPassword .mgmt (2 ^ 32)),
    Instr.wf (.testInstruction (2 ^ 8)),
    Instr.wf (.memoryResponse (2 ^ 3) 0 0 [] 0 false .other),
    Instr.wf (.memoryResponse 0 (2 ^ 10) 0 [] 0 false .other),
    Instr.wf (.memoryResponse 0 0 (2 ^ 30) [] 0 false .other),
    Instr.wf (.memoryResponse 0 0 0 (List.replicate 65 0) 0 false .other),
    Instr.wf (.memoryResponse 0 0 0 [] (2 ^ 32) false .other),
    Instr.wf (.memoryTimeout (2 ^ 3) 0 0 .other),
    Instr.wf (.memoryTimeout 0 (2 ^ 10) 0 .other),
    Instr.wf (.memoryTimeout 0 0 (2 ^ 30) .other),
    Instr.wf (.rcFieldRead .mgmt (2 ^ 20) 0 0),
    Instr.wf (.rcFieldRead .mgmt 0 (2 ^ 4) 0),
    Instr.wf (.rcFieldRead .mgmt 0 0 (2 ^ 32)),
    Instr.wf (.guardCountClear (2 ^ 9))].all (· == false) = true := by decide

/-! Ill-formed operands of the structured kinds are refused. -/

theorem test_wf_refuses_lists : [
    Instr.wf (.laneIncrement [(2048, 1)]), Instr.wf (.laneIncrement [(1, 16)]), Instr.wf (.traceTick [(64, 0, 0)]),
    Instr.wf (.traceTick [(0, 2 ^ 48, 0)]), Instr.wf (.traceTick [(0, 0, 8)]), Instr.wf (.hangEvent [(8192, 0)]),
    Instr.wf (.hangEvent [(0, 65536)]), Instr.wf (.hangEvent (List.replicate 5 (0, 0))), Instr.wf (.journalRecoveryDone [(16, 0, 0)]),
    Instr.wf (.acceptReceived 0 0 0 false [{ stream := 65536, seq := 0 }]), Instr.wf (.acceptReceived 0 0 0 false [{ stream := 0, seq := 2 ^ 48 }])].all
      (· == false) = true := by decide

theorem test_wf_refuses_messages : [
    Instr.wf (.contributionReceived 0 ⟨2 ^ 64, 0, 0, 0, 0, []⟩), Instr.wf (.contributionReceived 0 ⟨0, 2 ^ 20, 0, 0, 0, []⟩),
    Instr.wf (.partialReceived 0 { tag := 0, child := 65536, w := 0 }), Instr.wf (.partialReceived 0 { tag := 0, child := 0, w := 0, list := [2 ^ 20] }),
    Instr.wf (.batchDone [{ tile := 16, tree := 0, vec := 0, op := 0, exp := 0, obs := 0 }]), Instr.wf (.traySumReceived 0 { lai := 65536, step := 0, idx := 0 }),
    Instr.wf (.traySumReceived 0 { lai := 0, step := 0, idx := 0, entries := [{ kind := 256 }] }),
    Instr.wf (.frameReceived 0 { vc := 4, seq := 0, ack := 0 }), Instr.wf (.frameReceived 0 { vc := 0, ftype := 256, seq := 0, ack := 0 }), Instr.wf (.frameReceived 0 { vc := 0, cls := 8, seq := 0, ack := 0 }),
    Instr.wf (.frameReceived 0 { vc := 0, seq := 65536, ack := 0 }), Instr.wf (.vsbFrameSend ⟨64, 0, 0, []⟩ true true),
    Instr.wf (.vsbFrameSend ⟨0, 0, 16, []⟩ true true)].all (· == false) = true := by decide

theorem test_wf_refuses_parts : [
    Instr.wf (.mirrorReceived (.record (2 ^ 20) 0 0 0 [])), Instr.wf (.mirrorReceived (.straggler 0 (2 ^ 32))), Instr.wf (.nandStatus (.param 16 0 none)),
    Instr.wf (.nandStatus (.read 0 8 0 0 ⟨1, 0⟩)), Instr.wf (.patrolRead 0 0 0 0 ⟨6, 0⟩), Instr.wf (.sramPatrol (.uncorr (2 ^ 32) .fire)),
    Instr.wf (.sramPatrol (.uncorr 0 (.retained 65536))), Instr.wf (.sramPatrol (.uncorr 0 (.queue 65536))),
    Instr.wf (.memoryTimeout 0 0 0 (.row (2 ^ 32)))].all (· == false) = true := by decide

/-- A well-formed command of each shape is accepted. -/
theorem test_wf_accepts : [
    Instr.wf (.registerWrite .mgmt 0xF010 0xF 5 0), Instr.wf (.laneIncrement [(2047, 15)]), Instr.wf (.frameReceived 0 { vc := 2, seq := 65535, ack := 0 }),
    Instr.wf (.sramPatrol (.uncorr 0 (.retained 0x4000))), Instr.wf .porReset].all (· == true) = true := by decide

/-! Figures of the spec -/

/-- BLOCK_VERSION reads 0x0003_0002 (R1). -/
theorem test_block_version : (match exec (.rcFieldRead .mgmt 0 0xF 0) (die []) with
    | .next t => decide (t.b.rspMgmt = ⟨0, 0x00030002⟩)
    | _ => false) = true := by decide +kernel

/-- A narrow access answers ALIGN and leaves the register (R9, R381). -/
theorem test_narrow_write : (match exec (.registerWrite .mgmt 0xF010 3 5 0) (die []) with
    | .next t => decide (t.b = (die []).b.answer .mgmt 5 0)
    | _ => false) = true := by decide +kernel

/-- INC above 0xFFFF saturates and sets OVF; DEC below 0 stops at 0 and sets UNF; TAKE of more than v changes nothing (Table 15-2). -/
theorem test_syn_corners : (synInc { v := 0xFFFF } 1, synDec { v := 3 } 4, synTake { v := 3 } 4)
    = (({ v := 0xFFFF, ovf := true }, 2), ({ v := 0, unf := true }, 3), ({ v := 3 }, 1)) := by decide

/-- The third BAD locks out for 1 s, the thirteenth and later for 1,024 s (R372). -/
theorem test_lockout : (lockoutSec 2, lockoutSec 3, lockoutSec 13, lockoutSec 20) = (0, 1, 1024, 1024) := by decide

/-- The published check value of CRC-32C over "123456789" (the polynomial and conventions of R227). -/
theorem test_crc32c : crc32c [0x31, 0x32, 0x33, 0x34, 0x35, 0x36, 0x37, 0x38, 0x39] = 0xE3069283 := by decide +kernel

/-- The published digest of "abc" (SHA-256, R297, R371). -/
theorem test_sha256 : ofBe (sha256 [0x61, 0x62, 0x63]) = 0xba7816bf8f01cfea414140de5dae2223b00361a396177a9cb410ff61f20015ad := by decide +kernel

/-- A low cell's carry goes into its high cell (R71). -/
theorem test_chained_carry : (match exec .messageApply (die [((F.PRB_MAP_SRC.ix 5).key, 2)] (fun b => { b with prb := { b.prb with
      cnt := [(4, 2 ^ 48 - 1)], msgs := [(2 ^ 60 + 4 * 2 ^ 46 + 3, 0)] } })) with
    | .next t => decide (t.b.cnt 4 = 2 ∧ t.b.cnt 5 = 1)
    | _ => false) = true := by decide +kernel

/-! Witnesses -/

theorem wit_IdleStep :
    (∃ (s : State), s.pending = []) ∧
    (∃ (s : State), s.pending = [] ∧ s.b.syn.agg = false) :=
  ⟨⟨State.reset, by decide⟩,
    ⟨State.reset, by decide, by decide⟩⟩

theorem wit_ResetState :
    (∃ (x : Fld), x.key ≠ 0xF084 * 32) ∧
    (∃ (d : Nat), 1 ≤ d ∧ d ≤ 11) :=
  ⟨⟨F.ROLE_STATUS_ROLE, by decide⟩,
    ⟨5, by decide, by decide⟩⟩

theorem wit_StepKeepsInv :
    (∃ (s t : State), s.Inv ∧ step s = .next t) :=
  ⟨State.reset, ({ State.reset with b := State.reset.b.tick } : State), by decide, rfl⟩

theorem wit_MemoryFrame_1 :
    (∃ (i : Instr) (s t : State), exec i s = .next t) ∧
    (∃ (s : State) (m : Master) (off strb data hw : Nat), off ≠ 0x10304) ∧
    (∃ (s : State) (m : Master) (off strb data hw a : Nat), (a < s.b.retAddr ∨ s.b.retAddr + 4 ≤ a)) ∧
    (∃ (s : State) (m : Master) (off data a : Nat), (a < s.b.retAddr ∨ s.b.retAddr + 4 ≤ a)) ∧
    (∃ (s : State) (src off value a : Nat), (a < s.b.retAddr ∨ s.b.retAddr + 4 ≤ a)) ∧
    (∃ (s : State) (m : Master) (wr : Bool) (data a : Nat), (a < s.b.retAddr ∨ s.b.retAddr + 4 ≤ a)) :=
  ⟨⟨.syncTimeout, State.reset, State.reset, rfl⟩,
    ⟨(die [(F.SEC_BASE_RIGHTS.key, 2)]), .mgmt, 0xF010, 0xF, 0x155, 0, by decide⟩,
    ⟨({ die [(F.PWR_RET_ADDR_WORD.key, 0x1000)] with mem := [(0x4004, 7)] } : State), .mgmt, 0x10304, 0xF, 0x55555555, 0, 0x4004, by decide⟩,
    ⟨({ die [(F.PWR_RET_ADDR_WORD.key, 0x1000)] with mem := [(0x4004, 7)] } : State), .mgmt, 0x10304, 0x55555555, 0x4004, by decide⟩,
    ⟨({ die [(F.PWR_RET_ADDR_WORD.key, 0x1000)] with mem := [(0x4004, 7)] } : State), 4, 0x10304, 0x55555555, 0x4004, by decide⟩,
    ⟨({ die [(F.PWR_RET_ADDR_WORD.key, 0x1000)] with mem := [(0x4004, 7)] } : State), .mgmt, true, 0x55555555, 0x4004, by decide⟩⟩

theorem wit_MemoryFrame_2 :
    (∃ (s : State) (addr where_ a : Nat), (a < where_ % 65536 / 8 * 8 ∨ where_ % 65536 / 8 * 8 + 8 ≤ a)) :=
  ⟨({ die [] with mem := [(0x4004, 7), (0x4008, 9)] } : State), 0, 0x4004, 0x4008, by decide⟩

theorem wit_AccessWidth :
    (∃ (s t : State) (off strb upd : Nat), exec (.rcFieldRead .mgmt off strb upd) s = .next t) ∧
    (∃ (s : State) (off strb data hw : Nat), (strb ≠ 0xF ∨ off % 4 ≠ 0)) ∧
    (∃ (s : State) (off strb upd : Nat), (strb ≠ 0xF ∨ off % 4 ≠ 0)) :=
  ⟨⟨(die []), ({ die [] with b := (die []).b.answer .mgmt 0 0x00030002 } : State), 0, 0xF, 0, rfl⟩,
    ⟨(die []), 0xF010, 3, 5, 0, by decide⟩,
    ⟨(die []), 0xF011, 0xF, 0, by decide⟩⟩

theorem wit_NoProbesInAggregators :
    (∃ (s : State) (m : Master) (off upd : Nat), s.b.syn.agg = true ∧ 0x2000 ≤ off ∧ off < 0x4000 ∧ s.b.respCode m off 0xF false 0 = 0) ∧
    (∃ (s : State) (m : Master) (off data hw : Nat), s.b.syn.agg = true ∧ 0x2000 ≤ off ∧ off < 0x4000 ∧ s.b.respCode m off 0xF true data = 0) ∧
    (∃ (s : State) (m : Master) (word : Nat), s.b.syn.agg = true ∧ s.b.respCode m 0x2024 0xF false 0 = 0 ∧ s.b.respCode m 0x2028 0xF true word = 0) ∧
    (∃ (s : State) (incs : List (Nat × Nat)) (data lane code : Nat) (codes : List Nat) (monitors level : Bool), s.b.syn.agg = true) :=
  ⟨⟨(aggr [(F.SEC_BASE_RIGHTS.key, 2)]), .mgmt, 0x2024, 7, by decide, by decide, by decide, by decide⟩,
    ⟨(aggr [(F.SEC_BASE_RIGHTS.key, 2)]), .mgmt, 0x3000, 7, 0, by decide, by decide, by decide, by decide⟩,
    ⟨(aggr [(F.SEC_BASE_RIGHTS.key, 2)]), .mgmt, 7, by decide, by decide, by decide⟩,
    ⟨(aggr []), [(1, 2)], 5, 6, 7, [8], true, true, by decide⟩⟩

theorem wit_ProbeMessageEffects :
    (∃ (s : State) (d due : Nat) (rest : List (Nat × Nat)) (c : Block), s.b.syn.agg = false ∧ s.b.on dPROBE = true ∧ s.b.prb.msgs = (d, due) :: rest ∧ due ≤ s.b.clk.core ∧ drainOk s.b.prb.applied s.b.clk.core = true ∧ (3 ≤ d / 2 ^ 60 ∨ (d / 2 ^ 60 = 2 ∧ bits d 56 4 ≠ 0)) ∧ c = ({ s.b with prb := { s.b.prb with msgs := rest, applied := (s.b.clk.core :: s.b.prb.applied).take 2 } })) ∧
    (∃ (s : State) (d due n : Nat) (rest : List (Nat × Nat)), s.b.syn.agg = false ∧ s.b.on dPROBE = true ∧ s.b.prb.msgs = (d, due) :: rest ∧ due ≤ s.b.clk.core ∧ drainOk s.b.prb.applied s.b.clk.core = true ∧ d / 2 ^ 60 = 1 ∧ n = bits d 46 14 ∧ s.b.highCell n = true) ∧
    (∃ (s : State) (d due n : Nat) (rest : List (Nat × Nat)), s.b.syn.agg = false ∧ s.b.on dPROBE = true ∧ s.b.prb.msgs = (d, due) :: rest ∧ due ≤ s.b.clk.core ∧ drainOk s.b.prb.applied s.b.clk.core = true ∧ d / 2 ^ 60 = 1 ∧ n = bits d 46 14 ∧ s.b.lowCell n = true) :=
  ⟨⟨(die [] (fun b => { b with prb := { b.prb with msgs := [(2 ^ 61 + 2 ^ 56, 0)] } })), (2 ^ 61 + 2 ^ 56), 0, [], _, by decide, by decide, by decide, by decide, by decide, by decide, rfl⟩,
    ⟨(die [((F.PRB_MAP_SRC.ix 5).key, 2)] (fun b => { b with prb := { b.prb with msgs := [(2 ^ 60 + 5 * 2 ^ 46 + 3, 0)] } })), (2 ^ 60 + 5 * 2 ^ 46 + 3), 0, 5, [], by decide, by decide, by decide, by decide, by decide, by decide, by decide, by decide⟩,
    ⟨(die [((F.PRB_MAP_SRC.ix 5).key, 2)] (fun b => { b with prb := { b.prb with cnt := [(4, 2 ^ 48 - 1)], msgs := [(2 ^ 60 + 4 * 2 ^ 46 + 3, 0)] } })), (2 ^ 60 + 4 * 2 ^ 46 + 3), 0, 4, [], by decide, by decide, by decide, by decide, by decide, by decide, by decide, by decide⟩⟩

theorem wit_NoPhaseInAggregators :
    (∃ (s : State) (value adv : Nat) (rise : Bool), s.b.syn.agg = true) ∧
    (∃ (s : State) (m : Master), s.b.syn.agg = true ∧ s.b.respCode m 0x1010 0xF false 0 = 0) ∧
    (∃ (s : State) (m : Master) (upd : Nat), s.b.syn.agg = true ∧ s.b.respCode m 0x1014 0xF false 0 = 0) ∧
    (∃ (b : Block) (v : Nat), b.syn.agg = true) ∧
    (∃ (s : State) (n : Nat) (l : Launch), s.b.syn.agg = true ∧ s.b.ant.launches.find (n % 32) = some l ∧ l.kind = 1) :=
  ⟨⟨(aggr []), 5, 6, true, by decide⟩,
    ⟨(aggr [(F.SEC_BASE_RIGHTS.key, 2)]), .mgmt, by decide, by decide⟩,
    ⟨(aggr [(F.SEC_BASE_RIGHTS.key, 2)]), .mgmt, 3, by decide, by decide⟩,
    ⟨((aggr []).b), 1, by decide⟩,
    ⟨(aggr [] (fun b => { b with ant := { b.ant with launches := [(3, ({ kind := 1, queue := 0, trig := 0 } : Launch))] } })), 3, ({ kind := 1, queue := 0, trig := 0 } : Launch), by decide, by decide, by decide⟩⟩

theorem wit_RecordRoundTrip :
    (∃ (r : Rec) (seq : Nat), r.raw = none ∧ r.typ < 2 ^ 8 ∧ r.fmt < 2 ^ 4 ∧ r.flags < 2 ^ 4 ∧ r.stream < 2 ^ 16 ∧ r.epoch < 2 ^ 16 ∧ r.ldi < 2 ^ 20 ∧ r.sev < 2 ^ 3 ∧ r.cls < 2 ^ 3 ∧ r.phase < 2 ^ 64 ∧ r.wall < 2 ^ 64 ∧ r.bytes.length % 8 = 0 ∧ r.bytes.length < 8 * 2 ^ 16 ∧ seq < 2 ^ 48) :=
  ⟨({ typ := 0x10, fmt := 15, flags := 9, stream := 0xFFFF, epoch := 7, ldi := 0xFFFFF, sev := 7, cls := 5, phase := 2 ^ 64 - 1, wall := 12345, bytes := [1, 2, 3, 4, 5, 6, 7, 8] } : Rec), (2 ^ 48 - 1), by decide, by decide, by decide, by decide, by decide, by decide, by decide, by decide, by decide, by decide, by decide, by decide, by decide, by decide⟩

theorem wit_ControlFrames :
    (∃ (who : Agent) (op n k : Nat) (i : Instr) (s t : State), i ∈ [Instr.synRead who n k, .synInc who n k, .synDec who n k, .synTake who n k, .synSet who n k, .synClrf who n k, .synReservedOp who op n k] ∧ exec i s = .next t) ∧
    (∃ (m : Master) (n : Nat) (fail : Bool) (i : Instr) (s t : State), i ∈ [Instr.unlockChal m, .unlockRespond m n, .unlockPassword m n, .unlockRelock m, .nonceExpire m, .lockoutEnd m, .keyRevoke m, .keyPgmDone fail, .testInstruction n] ∧ exec i s = .next t) ∧
    (∃ (who : Agent) (n src : Nat) (level : Bool) (i : Instr) (s t : State), i ∈ [Instr.irqInEdge n level, .irqClaim who n, .irqEoi who n src, .irqHoldExpire n, .stormGuardEnd src, .guardCountClear src] ∧ exec i s = .next t) ∧
    (∃ (n : Nat) (i : Instr) (s t : State), i ∈ [Instr.postRecheck, .loadWindow n, .wdogWarn n] ∧ exec i s = .next t) :=
  ⟨⟨(.thread 3), 6, 5, 1, (.synInc (.thread 3) 5 1), State.reset, State.reset, by decide, rfl⟩,
    ⟨.mgmt, 0, true, (.lockoutEnd .mgmt), State.reset, State.reset, by decide, rfl⟩,
    ⟨(.thread 4), 0, 7, true, (.irqHoldExpire 0), State.reset, State.reset, by decide, rfl⟩,
    ⟨3, (.wdogWarn 3), State.reset, State.reset, by decide, rfl⟩⟩

theorem wit_UnitFrames :
    (∃ (m : Master) (incs : List (Nat × Nat)) (n : Nat) (i : Instr) (s t : State), i ∈ [Instr.laneIncrement incs, .probeMessage n, .messageApply, .laneStuck n, .fastWindowEnd, .counterRead m, .counterApply m n] ∧ exec i s = .next t) ∧
    (∃ (n : Nat) (level : Bool) (i : Instr) (s t : State), i ∈ [Instr.scalesConversion n, .scalesTransient level] ∧ exec i s = .next t) ∧
    (∃ (m : Master) (n : Nat) (i : Instr) (s t : State), i ∈ [Instr.shapeCommit m n, .shapeApply n, .gateWindowStart n, .gateWindowEnd n] ∧ exec i s = .next t) ∧
    (∃ (m : Master) (n : Nat) (i : Instr) (s t : State), i ∈ [Instr.cursorOldest m n, .cursorNewest m n, .cursorNext m n, .cursorPrev m n, .cursorSeek m n, .cursorLoadDone n, .relLoRead m, .newLoRead m, .curPosRead m, .mctrRead m] ∧ exec i s = .next t) :=
  ⟨⟨.mgmt, [], 3, .messageApply, State.reset, State.reset, by decide, rfl⟩,
    ⟨3, false, (.scalesConversion 3), State.reset, State.reset, by decide, rfl⟩,
    ⟨.mgmt, 3, (.shapeApply 3), State.reset, State.reset, by decide, rfl⟩,
    ⟨.mgmt, 3, (.cursorLoadDone 3), State.reset, State.reset, by decide, rfl⟩⟩

theorem wit_DiscoveryAndSetup_1 :
    (∃ (s : State) (port lai lat : Nat) (tags : List Nat) (u : Block), u = (s.b.unstage port 2) ∧ u.syn.agg = true ∧ u.f F.SELF_PLOC_PLOC ≠ 0xFFFFFFFF ∧ u.fab.topo.isStandby = false) ∧
    (∃ (s : State) (port lai lat : Nat) (tags : List Nat) (u : Block) (c : Block), u = (s.b.unstage port 2) ∧ u.syn.agg = true ∧ u.f F.SELF_PLOC_PLOC ≠ 0xFFFFFFFF ∧ u.fab.topo.isStandby = true ∧ c = (({ u with fab := { u.fab with nbr := u.fab.nbr.put lai port } }).setb F.KL_SETUP_STATUS_SHARED_DOMAIN (sharedTag tags u.fab.topo.tags))) ∧
    (∃ (s : State) (lai lat : Nat) (tags : List Nat) (u : Block) (c : Block) (d : Block), u = (s.b.unstage 128 2) ∧ u.syn.agg = true ∧ u.f F.SELF_PLOC_PLOC ≠ 0xFFFFFFFF ∧ c = ({ u with fab := { u.fab with nbr := u.fab.nbr.put lai 128 } }) ∧ d = (c.latencyCheck 128 lat)) ∧
    (∃ (s : State) (binds : SMap Bind) (c : Block), s.b.syn.agg = true ∧ s.b.on dLINKS = true ∧ s.b.f F.ROLE_STATUS_ROLE ≠ 3 ∧ s.b.f F.KL_SETUP_STATUS_STATE ≠ 3 ∧ s.b.fab.topo.isRoot = false ∧ s.b.fab.rebinds = [] ∧ binds = (List.map (fun (p : Nat × Bind) => (p.1, { p.2 with port := none })) s.b.fab.binds) ∧ c = (s.b.setb F.KL_SETUP_STATUS_WARM false)) ∧
    (∃ (s : State), s.b.syn.agg = true ∧ s.b.on dLINKS = true ∧ s.b.f F.ROLE_STATUS_ROLE ≠ 3 ∧ s.b.fab.rebinds ≠ []) ∧
    (∃ (s : State), s.b.syn.agg = true ∧ s.b.on dLINKS = true ∧ s.b.f F.ROLE_STATUS_ROLE ≠ 3 ∧ s.b.fab.rebinds = [] ∧ s.b.f F.KL_SETUP_STATUS_STATE = 3 ∧ s.b.fab.setupDigest = s.b.fab.topoDigest ∧ s.b.fab.powerLost = false ∧ ((List.range 132).filter (fun n => s.b.is (F.KL_PORT_CFG_EN.ix n))).all (fun n => (s.b.port n).state == 2) = true) :=
  ⟨⟨(aggr [(F.SELF_PLOC_PLOC.key, 7)]), 130, 5, 9, [1, 2, 3, 4], _, rfl, by decide, by decide, by decide⟩,
    ⟨(aggr [(F.SELF_PLOC_PLOC.key, 7)] (fun b => { b with fab := { b.fab with topo := { b.fab.topo with isStandby := true } } })), 130, 5, 9, [1, 2, 3, 4], _, _, rfl, by decide, by decide, by decide, rfl⟩,
    ⟨(aggr [(F.SELF_PLOC_PLOC.key, 7)]), 5, 9, [1, 2, 3, 4], _, _, _, rfl, by decide, by decide, rfl, rfl⟩,
    ⟨(aggr [(F.ROLE_STATUS_ROLE.key, 1)] (fun b => { b with fab := { b.fab with topo := { b.fab.topo with isRoot := false } } })), _, _, by decide, by decide, by decide, by decide, by decide, by decide, rfl, rfl⟩,
    ⟨(aggr [(F.ROLE_STATUS_ROLE.key, 1)] (fun b => { b with fab := { b.fab with rebinds := [{ ldi := 3, epoch := 1, ploc := 0 }] } })), by decide, by decide, by decide, by decide⟩,
    ⟨(aggr [(F.ROLE_STATUS_ROLE.key, 1), (F.KL_SETUP_STATUS_STATE.key, 3)] (fun b => { b with fab := { b.fab with setupDigest := b.fab.topoDigest, powerLost := false } })), by decide, by decide, by decide, by decide, by decide, by decide, by decide, by decide⟩⟩

theorem wit_DiscoveryAndSetup_2 :
    (∃ (s : State) (since : Nat) (dead : SMap Bind) (c : Block), s.b.fab.verifyFrom = some since ∧ since + s.b.us 2000 ≤ s.b.clk.core ∧ dead = (s.b.fab.binds.filter (fun p => s.b.actingHome p.1 && p.2.epoch != 0 && p.2.alive && decide (p.2.heard < since))) ∧ c = ((({ s.b with fab := { s.b.fab with verifyFrom := none } }).setf F.KL_SETUP_STATUS_MISSING (sat 16 dead.length)).setf F.KL_SETUP_STATUS_STATE 3)) ∧
    (∃ (s : State) (port ldi : Nat) (via : Route) (u : Block) (c : Block), u = (s.b.unstage port 2) ∧ u.syn.agg = true ∧ u.isT = false ∧ c = ({ u with fab := { u.fab with routes := u.fab.routes.put ldi (((u.fab.nbr.find? (fun p => p.2 == port)).map (fun p => p.1)).getD via.lai), routeEpochs := u.fab.routeEpochs.put ldi via.epoch } }) ∧ c.isRoot = false) :=
  ⟨⟨(aggr [] (fun b => { b with clk := { b.clk with core := 90000000 }, fab := { b.fab with verifyFrom := some 5 } })), 5, _, _, by decide, by decide, rfl, rfl⟩,
    ⟨(aggr [(F.ROLE_STATUS_ROLE.key, 2)]), 3, 7, ⟨9, 1⟩, _, _, rfl, by decide, by decide, rfl, by decide⟩⟩

theorem wit_BindingAndRebind_1 :
    (∃ (s : State) (port ldi epoch : Nat) (u : Block), u = (s.b.unstage port 2) ∧ u.syn.agg = false ∧ epoch ≠ 0 ∧ u.f F.SELF_PLOC_PLOC ≠ 0xFFFFFFFF ∧ u.is F.SELF_LDI_BOUND = false) ∧
    (∃ (s : State) (port ldi epoch : Nat) (u : Block), u = (s.b.unstage port 2) ∧ u.syn.agg = false ∧ epoch ≠ 0 ∧ u.f F.SELF_PLOC_PLOC ≠ 0xFFFFFFFF ∧ u.is F.SELF_LDI_BOUND = true ∧ u.f F.SELF_LDI_INDEX = ldi ∧ u.f F.SELF_EPOCH_EPOCH = epoch) ∧
    (∃ (s : State) (port ldi epoch : Nat) (u : Block) (c : Block), u = (s.b.unstage port 2) ∧ u.syn.agg = false ∧ epoch ≠ 0 ∧ u.f F.SELF_PLOC_PLOC ≠ 0xFFFFFFFF ∧ u.is F.SELF_LDI_BOUND = true ∧ u.f F.SELF_EPOCH_EPOCH ≠ epoch ∧ c = (u.dropHold)) ∧
    (∃ (s : State) (port ldi epoch : Nat) (u : Block), u = (s.b.unstage port 2) ∧ u.syn.agg = false) ∧
    (∃ (s : State) (ldi : Nat) (x : Bind), s.b.actingHome ldi = true ∧ s.b.fab.rejoining = false ∧ s.b.fab.rebinds.any (fun r => r.ldi == ldi) = false ∧ x = (s.b.fab.binds.getD ldi {}) ∧ x.epoch ≠ 0 ∧ x.alive = true ∧ s.b.wbPeriod ≠ 0 ∧ x.heard + s.b.fab.topo.deadPeriods * s.b.wbPeriod ≤ s.b.clk.core) ∧
    (∃ (s : State) (ldi : Nat) (r : Rebind), s.b.fab.rebinds.find? (fun x => x.ldi == ldi && x.step == 2) = some r) :=
  ⟨⟨(die [(F.SELF_PLOC_PLOC.key, 7)]), 0, 77, 1, _, rfl, by decide, by decide, by decide, by decide⟩,
    ⟨(die [(F.SELF_PLOC_PLOC.key, 7), (F.SELF_LDI_INDEX.key, 77), (F.SELF_LDI_BOUND.key, 1), (F.SELF_EPOCH_EPOCH.key, 1)]), 0, 77, 1, _, rfl, by decide, by decide, by decide, by decide, by decide, by decide⟩,
    ⟨(die [(F.SELF_PLOC_PLOC.key, 7), (F.SELF_LDI_INDEX.key, 77), (F.SELF_LDI_BOUND.key, 1), (F.SELF_EPOCH_EPOCH.key, 1)]), 0, 77, 2, _, _, rfl, by decide, by decide, by decide, by decide, by decide, rfl⟩,
    ⟨(die [(F.SELF_LDI_BOUND.key, 1)]), 0, 77, 1, _, rfl, by decide⟩,
    ⟨(aggr [(F.ROLE_STATUS_ROLE.key, 1)] (fun b => { b with clk := { b.clk with core := 90000 }, fab := { b.fab with topo := { b.fab.topo with homeLdis := [4] }, boundaries := [200, 100], binds := [(4, { epoch := 1, alive := true })] } })), 4, _, by decide, by decide, by decide, rfl, by decide, by decide, by decide, by decide⟩,
    ⟨(aggr [] (fun b => { b with fab := { b.fab with rebinds := [{ ldi := 4, epoch := 2, ploc := 9, step := 2, port := 6 }] } })), 4, { ldi := 4, epoch := 2, ploc := 9, step := 2, port := 6 }, by decide⟩⟩

theorem wit_BindingAndRebind_2 :
    (∃ (s : State) (port ldi epoch : Nat) (r : Rebind) (u : Block) (a : Block) (c : Block) (d : Block), u = (s.b.unstage port 2) ∧ u.fab.rebinds.find? (fun x => x.ldi == ldi && x.step == 2 && x.epoch == epoch) = some r ∧ a = ({ u with fab := { u.fab with rebinds := u.fab.rebinds.filter (fun x => x.ldi != ldi), pendingMembers := u.fab.pendingMembers ++ [ldi] } }) ∧ c = (a.updBind ldi (fun x => { x with port := some port, learned := a.arrivalUi, heard := a.clk.core })) ∧ d = ((c.markStep 1 ldi 3).markStep 1 ldi 4)) ∧
    (∃ (s : State) (ldi epoch port : Nat), s.b.fab.unbinds = [(ldi, epoch, port)]) ∧
    (∃ (s : State) (port ldi epoch : Nat) (u : Block), u = (s.b.unstage port 2) ∧ u.fab.unbinds = [(ldi, epoch, port)]) ∧
    (∃ (s : State) (port : Nat) (x : Contrib) (u : Block), u = (s.b.unstage port 1) ∧ u.syn.agg = true ∧ u.binding x.ldi x.epoch = false) ∧
    (∃ (s : State) (port : Nat) (x : Contrib) (v : Block) (u : Block), u = (s.b.unstage port 1) ∧ u.syn.agg = true ∧ u.binding x.ldi x.epoch = true ∧ u.learn port x.ldi = (true, v) ∧ (v.takeContrib x).1 = false) :=
  ⟨⟨(aggr [] (fun b => { b with fab := { b.fab with rebinds := [{ ldi := 4, epoch := 2, ploc := 9, step := 2, port := 6 }] } })), 6, 4, 2, { ldi := 4, epoch := 2, ploc := 9, step := 2, port := 6 }, _, _, _, _, rfl, by decide, rfl, rfl, rfl⟩,
    ⟨(aggr [] (fun b => { b with fab := { b.fab with unbinds := [(4, 1, 6)] } })), 4, 1, 6, by decide⟩,
    ⟨(aggr [] (fun b => { b with fab := { b.fab with unbinds := [(4, 1, 6)] } })), 6, 4, 1, _, rfl, by decide⟩,
    ⟨(aggr []), 6, { tag := 5, ldi := 4, epoch := 1, cause := 0, wall := 0, parts := [] }, _, rfl, by decide, by decide⟩,
    ⟨(aggr [] (fun b => { b with fab := { b.fab with binds := [(4, { epoch := 1, port := some 6 })] } })), 6, { tag := 5, ldi := 4, epoch := 1, cause := 0, wall := 0, parts := [] }, (aggr [] (fun b => { b with fab := { b.fab with binds := [(4, { epoch := 1, port := some 6 })] } })).b, _, rfl, by decide, by decide, by decide, by decide⟩⟩

theorem wit_HeartbeatsAndPaths_1 :
    (∃ (s : State) (c : Block), s.b.syn.agg = true ∧ s.b.on dLINKS = true ∧ s.b.fab.hbSent + s.b.us 100 ≤ s.b.clk.core ∧ s.b.f F.ROLE_STATUS_ROLE ≠ 3 ∧ c = ({ s.b with fab := { s.b.fab with hbSent := s.b.clk.core } }) ∧ c.hbMuted = false) ∧
    (∃ (s : State) (lai since : Nat) (acting : Bool) (u : Block) (c : Block), u = (s.b.unstage 0 2) ∧ u.syn.agg = false ∧ lai = u.fab.topo.parent ∧ u.fab.hbLast = some since ∧ u.clk.core < since + u.lossTime ∧ c = (({ u with fab := { u.fab with hbLast := some u.clk.core } }).returnNow)) ∧
    (∃ (s : State) (lai : Nat) (acting : Bool) (u : Block) (c : Block), u = (s.b.unstage 0 2) ∧ u.syn.agg = false ∧ lai = u.fab.topo.parent ∧ u.fab.hbLast = none ∧ c = (({ u with fab := { u.fab with hbFrom := some u.clk.core, hbLast := some u.clk.core } }).returnNow)) ∧
    (∃ (s : State) (lai : Nat) (acting : Bool) (u : Block), u = (s.b.unstage 128 2) ∧ u.syn.agg = true ∧ lai = u.fab.topo.parent) ∧
    (∃ (s : State) (since : Nat) (c : Block), s.b.on dLINKS = true ∧ s.b.syn.agg = false ∧ (s.b.port 0).live = true ∧ s.b.fab.hbLast.getD s.b.fab.parentLast = since ∧ since + s.b.lossTime ≤ s.b.clk.core ∧ c = ({ s.b with fab := { s.b.fab with hbFrom := none, hbLast := none, parentLast := s.b.clk.core } }) ∧ c.parentPort ≠ some 0) ∧
    (∃ (s : State), s.b.on dLINKS = true ∧ s.b.syn.agg = true ∧ s.b.fab.parentLost = false ∧ s.b.fab.topo.isRoot = false ∧ s.b.fab.parentLast + s.b.lossTime ≤ s.b.clk.core ∧ s.b.fab.buddyLost = true ∧ s.b.is F.ANT_STATUS_TIME_VALID = true ∧ s.b.parentPort ≠ some 128) :=
  ⟨⟨(aggr [(F.ROLE_STATUS_ROLE.key, 1)] (fun b => { b with clk := { b.clk with core := 900000 } })), _, by decide, by decide, by decide, by decide, rfl, by decide⟩,
    ⟨(die [] (fun b => { b with fab := { b.fab with hbLast := some 0, topo := { b.fab.topo with parent := 5 } } })), 5, 0, false, _, _, rfl, by decide, by decide, by decide, by decide, rfl⟩,
    ⟨(die [] (fun b => { b with fab := { b.fab with topo := { b.fab.topo with parent := 5 } } })), 5, false, _, _, rfl, by decide, by decide, by decide, rfl⟩,
    ⟨(aggr []), 0, false, _, rfl, by decide, by decide⟩,
    ⟨(die [] (fun b => { b.setPort 0 { b.port 0 with state := 2 } with clk := { b.clk with core := 900000 }, fab := { b.fab with hbLast := some 0 } })), 0, _, by decide, by decide, by decide, by decide, by decide, rfl, by decide⟩,
    ⟨(aggr [(F.ANT_STATUS_TIME_VALID.key, 1)] (fun b => { b with clk := { b.clk with core := 900000 }, fab := { b.fab with buddyLost := true, topo := { b.fab.topo with isRoot := false } } })), by decide, by decide, by decide, by decide, by decide, by decide, by decide, by decide⟩⟩

theorem wit_HeartbeatsAndPaths_2 :
    (∃ (s : State) (c : Block), s.b.on dLINKS = true ∧ s.b.syn.agg = true ∧ s.b.fab.parentLost = false ∧ s.b.fab.topo.isRoot = false ∧ s.b.fab.parentLast + s.b.lossTime ≤ s.b.clk.core ∧ s.b.fab.buddyLost = true ∧ s.b.is F.ANT_STATUS_TIME_VALID = false ∧ s.b.parentPort ≠ some 128 ∧ c = ({ s.b with fab := { s.b.fab with parentLost := true, toU1 := !s.b.fab.onU1 } })) ∧
    (∃ (s : State), s.b.on dLINKS = true ∧ s.b.syn.agg = true ∧ s.b.fab.parentLost = true ∧ s.b.fab.buddyLost = false ∧ s.b.fab.buddyLast + s.b.lossTime ≤ s.b.clk.core ∧ s.b.fab.buddySynced = true) ∧
    (∃ (s : State) (u : Nat), s.b.fab.withheld = some u ∧ u ≤ s.b.clk.core) ∧
    (∃ (s : State) (port locked : Nat) (c : Block), s.b.on dLINKS = true ∧ port < portCount s.b.syn.agg ∧ (s.b.port port).state = 1 ∧ (s.b.port port).agreed = true ∧ (s.b.port port).negFail = false ∧ chooseWidth (pop4 (s.b.wired port &&& locked &&& (15 - (s.b.port port).excl % 16))) (s.b.f (F.KL_PORT_CFG_MAXW.ix port)) (bit (s.b.port port).feat 0 == 1) ≠ 0 ∧ c = (s.b.trainingDone port locked)) :=
  ⟨⟨(aggr [] (fun b => { b with clk := { b.clk with core := 900000 }, fab := { b.fab with buddyLost := true, topo := { b.fab.topo with isRoot := false } } })), _, by decide, by decide, by decide, by decide, by decide, by decide, by decide, by decide, rfl⟩,
    ⟨(aggr [] (fun b => { b with clk := { b.clk with core := 900000 }, fab := { b.fab with parentLost := true, buddySynced := true } })), by decide, by decide, by decide, by decide, by decide, by decide⟩,
    ⟨(aggr [] (fun b => { b with fab := { b.fab with withheld := some 0 } })), 0, by decide, by decide⟩,
    ⟨(die [(F.KL_PORT_CFG_EN.key, 1)] (fun b => { b.setPort 0 { b.port 0 with state := 1, agreed := true, ver := 1 } with syn := { b.syn with klPresent := 255 } })), 0, 15, _, by decide, by decide, by decide, by decide, by decide, by decide, rfl⟩⟩

theorem wit_TimeMessagesAndTimers_1 :
    (∃ (s : State), s.b.on dANTENNA = true ∧ s.b.timeValid = true ∧ s.b.ant.sentAt + s.b.us 32 ≤ s.b.clk.core) ∧
    (∃ (s : State) (n : Nat), s.b.parentPort = some n ∧ s.b.on dANTENNA = true ∧ s.b.ant.reqAt + s.b.us 1000 ≤ s.b.clk.core ∧ (s.b.port n).state = 2) ∧
    (∃ (s : State) (port seq t2 : Nat) (u : Block), u = (s.b.unstage port 2) ∧ u.on dANTENNA = true) ∧
    (∃ (s : State) (port seq t1 t2 t3 t4 : Nat) (u : Block), u = (s.b.unstage port 2) ∧ u.on dANTENNA = true ∧ u.parentPort = some port ∧ u.ant.exOut = some (seq, t1)) ∧
    (∃ (s : State), s.b.on dANTENNA = true ∧ s.b.noParent = false ∧ s.b.ant.syncAt + s.b.us 128 ≤ s.b.clk.core) ∧
    (∃ (s : State) (n v : Nat), s.b.on dANTENNA = true ∧ n < 2 ∧ ((s.b.ant.asymAt[n]?).getD 0 + s.b.us 1000 ≤ s.b.clk.core ∨ s.b.asymTrains n = true)) :=
  ⟨⟨(die [(F.ANT_STATUS_TIME_VALID.key, 1)] (fun b => { b with clk := { b.clk with core := 100000 } })), by decide, by decide, by decide⟩,
    ⟨(die [(F.ANT_STATUS_TPARENT.key, 0)] (fun b => { b.setPort 0 { b.port 0 with state := 2 } with clk := { b.clk with core := 5000000 } })), 0, by decide, by decide, by decide, by decide⟩,
    ⟨(die []), 1, 7, 99, _, rfl, by decide⟩,
    ⟨(die [(F.ANT_STATUS_TPARENT.key, 0)] (fun b => { b with ant := { b.ant with exOut := some (3, 10) } })), 0, 3, 10, 20, 30, 41, _, rfl, by decide, by decide, by decide⟩,
    ⟨(die [(F.ANT_STATUS_TPARENT.key, 0)] (fun b => { b with clk := { b.clk with core := 5000000 } })), by decide, by decide, by decide⟩,
    ⟨(die [] (fun b => { b with clk := { b.clk with core := 5000000 } })), 1, 77, by decide, by decide, .inl (by decide)⟩⟩

theorem wit_TimeMessagesAndTimers_2 :
    (∃ (s : State) (c : Block), s.b.on dANTENNA = true ∧ s.b.ant.epochMark ≠ s.b.seconds / 2 ^ 20 ∧ c = ({ s.b with ant := { s.b.ant with epochMark := s.b.seconds / 2 ^ 20 } })) ∧
    (∃ (s : State), s.b.on dANTENNA = true ∧ s.b.ant.slew.natAbs ≤ 2 ^ 40) ∧
    (∃ (b : Block) (c : Block), b.on dANTENNA = true ∧ b.ant.slewEnd = true ∧ b.ant.slew ≠ 0 ∧ b.ant.slew.natAbs ≤ 2 ^ 40 ∧ c = (b.addFine (1000 * (((2 ^ 40 : Nat) : Int) + signed 32 (b.f F.ANT_RATE_RATE))))) :=
  ⟨⟨(die [] (fun b => { b with ant := { b.ant with epochMark := 1 } })), _, by decide, by decide, rfl⟩,
    ⟨(die [] (fun b => { b with ant := { b.ant with slew := -5 } })), by decide, by decide⟩,
    ⟨(die [] (fun b => { b with ant := { b.ant with slew := -5, slewEnd := true } })).b, _, by decide, by decide, by decide, by decide, rfl⟩⟩

theorem wit_SyncGivesOffset :
    (∃ (s : State) (port ts tr : Nat) (u : Block), u = (s.b.unstage port 2) ∧ u.on dANTENNA = true ∧ u.parentPort = some port ∧ u.ant.exch = []) ∧
    (∃ (s : State) (port ts tr : Nat) (u : Block) (th : Int), u = (s.b.unstage port 2) ∧ u.on dANTENNA = true ∧ u.parentPort = some port ∧ u.ant.exch ≠ [] ∧ th = (theta ts tr u.ant.exch (u.asym port) (Config.free u.freeN))) ∧
    (∃ (b : Block) (th : Int), b.timeValid = false) ∧
    (∃ (b : Block) (th : Int), b.timeValid = true ∧ (th.natAbs : Int) ≤ b.jumpLimit) ∧
    (∃ (b : Block) (th : Int), b.timeValid = true ∧ b.jumpLimit < (th.natAbs : Int)) :=
  ⟨⟨(die [(F.ANT_STATUS_TPARENT.key, 0)]), 0, 5, 6, _, rfl, by decide, by decide, by decide⟩,
    ⟨(die [(F.ANT_STATUS_TPARENT.key, 0)] (fun b => { b with ant := { b.ant with exch := [4] } })), 0, 1000, 995, _, _, rfl, by decide, by decide, by decide, rfl⟩,
    ⟨(die []).b, (-7), by decide⟩,
    ⟨(die [(F.ANT_STATUS_TIME_VALID.key, 1)]).b, (-7), by decide, by decide⟩,
    ⟨(die [(F.ANT_STATUS_TIME_VALID.key, 1)]).b, (-900000), by decide, by decide⟩⟩

theorem wit_TimeStepLoadAndReads :
    (∃ (s : State) (m : Master), s.b.respCode m 0x104C 0xF true 1 = 0) ∧
    (∃ (s : State) (m : Master), s.b.respCode m 0x104C 0xF true 2 = 0 ∧ s.b.noParent = true) ∧
    (∃ (s : State) (m : Master), s.b.respCode m 0x104C 0xF true 2 = 0 ∧ s.b.noParent = false) ∧
    (∃ (s : State) (m : Master), s.b.respCode m 0x1030 0xF false 0 = 0) ∧
    (∃ (s : State) (m : Master), s.b.respCode m 0x1010 0xF false 0 = 0) :=
  ⟨⟨(die [(F.ANT_OFFSET_OFFSET.key, 9)]), .mgmt, by decide⟩,
    ⟨(aggr [(F.ANT_TIME_SET_HI_SEC_HI.key, 9), (F.ANT_STATUS_TPARENT.key, 3)] (fun b => { b with fab := { b.fab with topo := { b.fab.topo with isRoot := true } } })), .mgmt, by decide, by decide⟩,
    ⟨(die [(F.ANT_STATUS_TPARENT.key, 0)]), .mgmt, by decide, by decide⟩,
    ⟨(die []), .mgmt, by decide⟩,
    ⟨(die [] (fun b => { b with ant := { b.ant with step := 700 } })), .mgmt, by decide⟩⟩

theorem wit_PhasePortCycle :
    (∃ (s : State) (v : Nat), s.b.portFollowed = true ∧ s.b.ant.sampled = true ∧ s.b.phase < v % 2 ^ 64) ∧
    (∃ (s : State) (v : Nat), s.b.portFollowed = true ∧ s.b.ant.sampled = true ∧ v % 2 ^ 64 ≤ s.b.phase) ∧
    (∃ (s : State) (v adv : Nat), s.b.portFollowed = true ∧ s.b.ant.sampled = true ∧ s.b.phase < v % 2 ^ 64 ∧ adv % 65536 ≠ 0) ∧
    (∃ (s : State) (adv : Nat) (c : Block), s.b.portFollowed = true ∧ s.b.ant.sampled = true ∧ s.b.ant.frac + adv % 65536 ≤ maxFrac ∧ c = ((s.b.entries (fun p => decide (s.b.ant.frac < p) && decide (p ≤ s.b.ant.frac + adv % 65536))).foldl (fun b i => b.cross b.ant.step 0 i) s.b)) ∧
    (∃ (s : State) (adv : Nat), s.b.portFollowed = true ∧ s.b.ant.sampled = true ∧ s.b.ant.frac = maxFrac ∧ s.b.ant.clamped = true ∧ adv % 65536 ≠ 0) ∧
    (∃ (s : State) (adv : Nat) (b : Block) (c : Block) (d : Block), s.b.portFollowed = true ∧ s.b.ant.sampled = true ∧ b = ({ s.b with ant := { s.b.ant with stepFrom := s.b.clk.aon, stepHit := false } }) ∧ c = ((b.entries (fun p => decide (b.ant.frac < p))).foldl (fun b i => b.cross b.ant.step 2 i) b) ∧ c.ant.step + 1 < 2 ^ 40 ∧ d = (({ c with ant := { c.ant with step := c.ant.step + 1, frac := 0 } }).setClamped false)) :=
  ⟨⟨(die [] (fun b => { b with ant := { b.ant with sampled := true } })), 1000, by decide, by decide, by decide⟩,
    ⟨(die [] (fun b => { b with ant := { b.ant with sampled := true, step := 9 } })), 1000, by decide, by decide, by decide⟩,
    ⟨(die [] (fun b => { b with ant := { b.ant with sampled := true } })), 1000, 5, by decide, by decide, by decide, by decide⟩,
    ⟨(die [] (fun b => { b with ant := { b.ant with sampled := true } })), 40, _, by decide, by decide, by decide, rfl⟩,
    ⟨(die [] (fun b => { b with ant := { b.ant with sampled := true, frac := maxFrac, clamped := true } })), 40, by decide, by decide, by decide, by decide, by decide⟩,
    ⟨(die [] (fun b => { b with ant := { b.ant with sampled := true, frac := 5 } })), 40, _, _, _, by decide, by decide, rfl, rfl, by decide, rfl⟩⟩

theorem wit_AntennaTimeoutsAndBeacons_1 :
    (∃ (s : State) (c : Block), s.b.portFollowed = true ∧ s.b.f F.ANT_TIMEOUTS_STEP ≠ 0 ∧ s.b.ant.stepHit = false ∧ s.b.ant.stepFrom + aonUs (100 * s.b.f F.ANT_TIMEOUTS_STEP) ≤ s.b.clk.aon ∧ c = (({ s.b with ant := { s.b.ant with stepHit := true } }).raise Ev.ANT_STEP_TIMEOUT) ∧ c.is F.TRC_HANG_CTRL_ON_STEP = false) ∧
    (∃ (s : State), s.b.syn.agg = false ∧ s.b.on dANTENNA = true ∧ s.b.phsrc = 1 ∧ s.b.f F.ANT_TIMEOUTS_BEACON ≠ 0 ∧ s.b.ant.bcnHit = false ∧ s.b.ant.bcnFrom + aonUs (100 * s.b.f F.ANT_TIMEOUTS_BEACON) ≤ s.b.clk.aon) ∧
    (∃ (s : State) (port ldi epoch step pos idx wall : Nat) (u : Block) (c : Block), u = (s.b.unstage port 2) ∧ u.syn.agg = false ∧ u.on dANTENNA = true ∧ u.phsrc = 1 ∧ ldi = u.f F.ANT_BEACON_SRC_LDI ∧ u.phase < phaseOf step pos ∧ c = ({ u with ant := { u.ant with bcnFrom := u.clk.aon, bcnHit := false, step := step % 2 ^ 40, frac := pos % 2 ^ 24 } })) ∧
    (∃ (s : State) (port ldi epoch step pos idx wall : Nat) (u : Block), u = (s.b.unstage port 2) ∧ u.syn.agg = false ∧ u.on dANTENNA = true ∧ u.phsrc = 1 ∧ ldi = u.f F.ANT_BEACON_SRC_LDI ∧ phaseOf step pos ≤ u.phase) ∧
    (∃ (s : State) (port ldi epoch step pos idx wall : Nat) (u : Block), u = (s.b.unstage port 2) ∧ u.syn.agg = true ∧ u.isT = false ∧ u.fab.routeEpochs.find ldi = some epoch) ∧
    (∃ (s : State) (port ldi epoch cur step pos idx wall : Nat) (u : Block), u = (s.b.unstage port 2) ∧ u.syn.agg = true ∧ u.isT = false ∧ u.fab.routeEpochs.find ldi = some cur ∧ cur ≠ epoch) :=
  ⟨⟨(die [(F.ANT_TIMEOUTS_STEP.key, 1), (F.TRC_HANG_CTRL_ON_STEP.key, 0)] (fun b => { b with clk := { b.clk with aon := 3000 } })), _, by decide, by decide, by decide, by decide, rfl, by decide⟩,
    ⟨(die [(F.ANT_TIMEOUTS_BEACON.key, 1), (F.ANT_CTRL_PHSRC.key, 1)] (fun b => { b with clk := { b.clk with aon := 3000 } })), by decide, by decide, by decide, by decide, by decide, by decide⟩,
    ⟨(die [(F.ANT_STATUS_TIME_VALID.key, 1), (F.ANT_CTRL_PHSRC.key, 1)]), 0, 0, 0, 4, 5, 6, 7, _, _, rfl, by decide, by decide, by decide, by decide, by decide, rfl⟩,
    ⟨(die [(F.ANT_STATUS_TIME_VALID.key, 1), (F.ANT_CTRL_PHSRC.key, 1)] (fun b => { b with ant := { b.ant with step := 5 } })), 0, 0, 0, 4, 5, 6, 7, _, rfl, by decide, by decide, by decide, by decide, by decide⟩,
    ⟨(aggr [(F.ROLE_STATUS_ROLE.key, 2)] (fun b => { b with fab := { b.fab with routeEpochs := [(7, 1)], topo := { b.fab.topo with beacons := [(7, 5), (7, 3)] } } })), 3, 7, 1, 4, 5, 6, 7, _, rfl, by decide, by decide, by decide⟩,
    ⟨(aggr [(F.ROLE_STATUS_ROLE.key, 2)] (fun b => { b with fab := { b.fab with routeEpochs := [(7, 1)] } })), 3, 7, 2, 1, 4, 5, 6, 7, _, rfl, by decide, by decide, by decide, by decide⟩⟩

theorem wit_AntennaTimeoutsAndBeacons_2 :
    (∃ (s : State) (port ldi epoch step pos idx wall : Nat) (u : Block), u = (s.b.unstage port 2) ∧ u.syn.agg = true ∧ u.isT = true ∧ port < 128 ∧ (u.fab.binds.getD ldi {}).epoch ≠ 0 ∧ u.binding ldi epoch = true) :=
  ⟨(aggr [(F.ROLE_STATUS_ROLE.key, 1)] (fun b => { b with fab := { b.fab with binds := [(7, { epoch := 1 })], topo := { b.fab.topo with beacons := [(7, 5), (7, 3)] } } })), 3, 7, 1, 4, 5, 6, 7, _, rfl, by decide, by decide, by decide, by decide, by decide⟩

theorem wit_FiresAndMarks :
    (∃ (s : State) (r : FireReq) (cause : Nat) (bound : Bool) (x : FireReq) (a : Block) (c : Block) (d : Block) (e : Block), s.b.dueFire = some r ∧ cause = (if r.cause = 0 ∧ r.due < s.b.clk.core then 1 else r.cause) ∧ bound = (s.b.isBoundary cause) ∧ x = ({ r with cause := cause, pos := if cause = 5 then s.b.ant.frac else r.pos }) ∧ a = (s.b.raiseIf (cause == 1) Ev.ANT_DEFERRED) ∧ c = ({ a with ant := { a.ant with fireQ := a.ant.fireQ.drop 1, lastFire := some a.clk.core, desc := some x }, pins := { a.pins with phrWb := true, phrWbIdx := x.idx } }) ∧ d = (if bound then c.dieBoundary x.idx (s.b.firePhase r) else c) ∧ e = (((d.captures d x cause (s.b.firePhase r)).trcFired x.idx).fireSends x cause bound)) ∧
    (∃ (s : State) (per : Nat) (u : Nat) (c : Block), s.b.syn.agg = false ∧ s.b.on dANTENNA = true ∧ s.b.is F.ANT_CTRL_TWB_EN = true ∧ s.b.timeValid = true ∧ per = (max 1 (s.b.f F.ANT_TWB_PERIOD_PERIOD)) ∧ u = ((s.b.ant.twbFrom / per + 1) * per) ∧ u ≤ s.b.nowUs ∧ c = ({ s.b with ant := { s.b.ant with twbFrom := u } })) ∧
    (∃ (s : State) (port step idx wall : Nat) (u : Block) (c : Block) (d : Block) (e : Block), u = (s.b.unstage port 2) ∧ u.syn.agg = true ∧ port < 128 ∧ u.f F.ROLE_STATUS_ROLE ≠ 3 ∧ u.fab.marks.contains (step % 2 ^ 40, idx % 256) = false ∧ c = ({ u with fab := { u.fab with marks := (step % 2 ^ 40, idx % 256) :: u.fab.marks.filter (fun x => keepMark (step % 2 ^ 40) x.1) } }) ∧ d = (c.dieBoundary (idx % 256) (u.wbPhase (step % 2 ^ 40) (idx % 256))) ∧ e = (if d.isRoot then d else d.sendAll [128, 129] (.wbMark (step % 2 ^ 40) (idx % 256) wall))) ∧
    (∃ (s : State) (port step idx wall : Nat), (s.b.unstage port 2).fab.marks.contains (step % 2 ^ 40, idx % 256) = true) ∧
    (∃ (b : Block) (r : FireReq) (cause : Nat) (bound : Bool) (c : Block), b.fab.released = false ∧ bound = true ∧ r.bcn = true ∧ cause ≤ 2 ∧ c = (b.sendMsg b.upPort (.wbMark r.step r.idx b.wall))) :=
  ⟨⟨(die [(F.ANT_STATUS_TIME_VALID.key, 1)] (fun b => { b with clk := { b.clk with core := 90 }, ant := { b.ant with fireQ := [{ step := 1, pos := 2, idx := 3, cause := 0, acts := 0, due := 80 }] } })), { step := 1, pos := 2, idx := 3, cause := 0, acts := 0, due := 80 }, _, _, _, _, _, _, _, by decide, rfl, rfl, rfl, rfl, rfl, rfl, rfl⟩,
    ⟨(die [(F.ANT_STATUS_TIME_VALID.key, 1), (F.ANT_CTRL_TWB_EN.key, 1)] (fun b => { b with ant := { b.ant with fine := b.fineMod / 2 ^ 40 } })), _, _, _, by decide, by decide, by decide, by decide, rfl, rfl, by decide, rfl⟩,
    ⟨(aggr [(F.ROLE_STATUS_ROLE.key, 2)]), 3, 4, 5, 6, _, _, _, _, rfl, by decide, by decide, by decide, by decide, rfl, rfl, rfl⟩,
    ⟨(aggr [(F.ROLE_STATUS_ROLE.key, 2)] (fun b => { b with fab := { b.fab with marks := [(4, 5)] } })), 3, 4, 5, 6, by decide⟩,
    ⟨(die []).b, { step := 1, pos := 2, idx := 3, cause := 0, acts := 0, due := 80, bcn := true }, 0, true, _, by decide, by decide, by decide, by decide, rfl⟩⟩

theorem wit_LaunchSlots :
    (∃ (s : State) (m : Master) (word : Nat) (w : Nat) (b : Block) (n : Nat) (l : Launch), w = (setBit word 18 1) ∧ s.b.respCode m 0x1204 0xF true w = 0 ∧ bit w 18 = 1 ∧ b = (s.b.writeFields 0x1204 w) ∧ n = (b.f F.ANT_LAUNCH_SEL_SLOT) ∧ l = ({ kind := b.f (F.ANT_LAUNCH_CFG_KIND.ix n), queue := b.f (F.ANT_LAUNCH_CFG_QUEUE.ix n), trig := b.f (F.ANT_LAUNCH_AT_LO_AT_LO.ix n) + 2 ^ 32 * b.f (F.ANT_LAUNCH_AT_HI_AT_HI.ix n) })) ∧
    (∃ (s : State) (slot : Nat) (l : Launch) (i : Item) (q : Nat) (c : Block), s.b.ant.launches.find (slot % 32) = some l ∧ q = (s.b.qnum l.queue) ∧ s.b.on dANTENNA = true ∧ s.b.launchReached l = true ∧ (s.b.queue q).flushing = false ∧ l.late = false ∧ c = (({ s.b with ant := { s.b.ant with launches := s.b.ant.launches.del (slot % 32) } }).setf (F.ANT_LAUNCH_CFG_ARMED.ix (slot % 32)) 0) ∧ (c.queue q).items.find? (fun i => i.seq.isNone && !c.mon.launched.contains (q, i.num)) = some i) ∧
    (∃ (s : State) (slot : Nat) (l : Launch) (q : Nat) (c : Block), s.b.ant.launches.find (slot % 32) = some l ∧ q = (s.b.qnum l.queue) ∧ s.b.on dANTENNA = true ∧ s.b.launchReached l = true ∧ (s.b.queue q).flushing = false ∧ l.late = true ∧ c = (((({ s.b with ant := { s.b.ant with launches := s.b.ant.launches.del (slot % 32) } }).setf (F.ANT_LAUNCH_CFG_ARMED.ix (slot % 32)) 0).setf (F.ANT_LAUNCH_CFG_LATE.ix (slot % 32)) 1).raise Ev.ANT_LAUNCH_LATE) ∧ (c.queue q).items.find? (fun i => i.seq.isNone && !c.mon.launched.contains (q, i.num)) = none) :=
  ⟨⟨(die [(F.ANT_LAUNCH_SEL_SLOT.key, 3)]), .mgmt, 0x10005, _, _, _, _, rfl, by decide, by decide, rfl, rfl, rfl⟩,
    ⟨(die [] (fun b => { b.setQueue 5 { items := [{ body := { typ := 1 }, num := 7 }] } with ant := { b.ant with launches := [(3, { kind := 1, queue := 5, trig := 0 })] } })), 3, { kind := 1, queue := 5, trig := 0 }, { body := { typ := 1 }, num := 7 }, _, _, by decide, rfl, by decide, by decide, by decide, by decide, rfl, by decide⟩,
    ⟨(die [] (fun b => { b with ant := { b.ant with launches := [(3, { kind := 1, queue := 5, trig := 0, late := true })] } })), 3, { kind := 1, queue := 5, trig := 0, late := true }, _, _, by decide, rfl, by decide, by decide, by decide, by decide, rfl, by decide⟩⟩

theorem wit_ProbeBusAndMessages :
    (∃ (s : State) (n v : Nat) (a : Block) (u : Block), s.b.syn.agg = false ∧ s.b.on dPROBE = true ∧ s.b.is F.PRB_CTRL_EN = true ∧ n < 2048 ∧ v < 16 ∧ a = ({ s.b with prb := { s.b.prb with cyc := if s.b.prb.fed then s.b.prb.cyc + 1 else s.b.prb.cyc, fed := true } }) ∧ u = (a.fastWindow)) ∧
    (∃ (s : State) (data : Nat), s.b.syn.agg = false ∧ s.b.on dPROBE = true ∧ s.b.is F.PRB_CTRL_EN = true ∧ s.b.prb.msgs.length < 256) ∧
    (∃ (s : State) (data : Nat), s.b.syn.agg = false ∧ s.b.on dPROBE = true ∧ 256 ≤ s.b.prb.msgs.length) ∧
    (∃ (s : State) (d due : Nat) (rest : List (Nat × Nat)) (c : Block), s.b.syn.agg = false ∧ s.b.on dPROBE = true ∧ s.b.prb.msgs = (d, due) :: rest ∧ due ≤ s.b.clk.core ∧ drainOk s.b.prb.applied s.b.clk.core = true ∧ d / 2 ^ 60 = 1 ∧ c = ({ s.b with prb := { s.b.prb with msgs := rest, applied := (s.b.clk.core :: s.b.prb.applied).take 2 } })) ∧
    (∃ (s : State) (d due : Nat) (rest : List (Nat × Nat)) (c : Block), s.b.syn.agg = false ∧ s.b.on dPROBE = true ∧ s.b.prb.msgs = (d, due) :: rest ∧ due ≤ s.b.clk.core ∧ drainOk s.b.prb.applied s.b.clk.core = true ∧ 3 ≤ d / 2 ^ 60 ∧ c = ({ s.b with prb := { s.b.prb with msgs := rest, applied := (s.b.clk.core :: s.b.prb.applied).take 2 } })) :=
  ⟨⟨(die [(F.PRB_CTRL_EN.key, 1)]), 2047, 15, _, _, by decide, by decide, by decide, by decide, by decide, rfl, rfl⟩,
    ⟨(die [(F.PRB_CTRL_EN.key, 1)]), 99, by decide, by decide, by decide, by decide⟩,
    ⟨(die [] (fun b => { b with prb := { b.prb with msgs := List.replicate 256 (0, 0), stall := 1023 } })), 99, by decide +kernel, by decide +kernel, by decide +kernel⟩,
    ⟨(die [] (fun b => { b with prb := { b.prb with msgs := [(2 ^ 60 + 5, 0)] } })), (2 ^ 60 + 5), 0, [], _, by decide, by decide, by decide, by decide, by decide, by decide, rfl⟩,
    ⟨(die [] (fun b => { b with prb := { b.prb with msgs := [(2 ^ 62 + 5, 0)] } })), (2 ^ 62 + 5), 0, [], _, by decide, by decide, by decide, by decide, by decide, by decide, rfl⟩⟩

theorem wit_CountersAndSnapshots_1 :
    (∃ (s : State) (m : Master) (i : Nat) (h : Nat), s.b.respCode m 0x2024 0xF false 0 = 0 ∧ s.b.syn.agg = false ∧ i = (s.b.f F.PRB_CNT_SEL_INDEX) ∧ h = (if s.b.lowCell i then s.b.cnt (i + 1) else 0)) ∧
    (∃ (s : State) (m : Master) (word : Nat) (i : Nat), s.b.respCode m 0x2028 0xF true word = 0 ∧ s.b.syn.agg = false ∧ i = (s.b.f F.PRB_CNT_SEL_INDEX) ∧ s.b.lowCell i = false) ∧
    (∃ (s : State) (d : Drain) (rest : List Drain), s.b.syn.agg = false ∧ s.b.on dPROBE = true ∧ s.b.prb.drains = d :: rest ∧ d.start + d.per * d.recs.length ≤ s.b.clk.core ∧ d.given = 0 ∧ d.doomed = none) ∧
    (∃ (s : State) (d : Drain) (rest : List Drain), s.b.syn.agg = false ∧ s.b.on dPROBE = true ∧ s.b.prb.mdrains = d :: rest ∧ d.start + d.per * d.recs.length ≤ s.b.clk.core ∧ d.given = 0 ∧ d.doomed = none) ∧
    (∃ (s : State) (d : Drain) (rest : List Drain) (r : Rec) (c : Block) (q : Nat), s.b.syn.agg = false ∧ s.b.on dPROBE = true ∧ s.b.prb.drains = d :: rest ∧ d.start + d.per * d.recs.length ≤ s.b.clk.core ∧ d.recs = [r] ∧ d.given = 0 ∧ d.doomed = some 0 ∧ c = ({ s.b with prb := { s.b.prb with drains := rest } }) ∧ q = (c.qnum (c.rdestQ 0))) ∧
    (∃ (s : State) (lane : Nat) (n : Nat) (k : Nat), s.b.syn.agg = false ∧ s.b.on dPROBE = true ∧ n = (lane % 2048) ∧ k = (s.b.f F.PRB_GUARD_STUCK) ∧ k ≠ 0 ∧ s.b.lane F.PRB_LANE_CFG_WATCH_STUCK n = 1 ∧ s.b.lane F.PRB_LANE_CFG_MODE n < 2 ∧ k * 1024 ≤ (s.b.prb.runs.getD n {}).run) :=
  ⟨⟨(die [(F.PRB_CNT_SEL_INDEX.key, 6)] (fun b => b.setCnt 6 (2 ^ 40 + 3))), .mgmt, _, _, by decide, by decide, rfl, rfl⟩,
    ⟨(die [(F.PRB_CNT_SEL_INDEX.key, 6)] (fun b => { b with prb := { b.prb with stLo := 17 } })), .mgmt, 4, _, by decide, by decide, rfl, by decide⟩,
    ⟨(die [] (fun b => { b with prb := { b.prb with drains := [{ buf := 0, start := 0, per := 0, recs := [{ typ := 0x10 }] }] } })), { buf := 0, start := 0, per := 0, recs := [{ typ := 0x10 }] }, [], by decide, by decide, by decide, by decide, by decide, by decide⟩,
    ⟨(die [] (fun b => { b with prb := { b.prb with mdrains := [{ buf := 0, start := 0, per := 0, recs := [{ typ := 0x11 }] }] } })), { buf := 0, start := 0, per := 0, recs := [{ typ := 0x11 }] }, [], by decide, by decide, by decide, by decide, by decide, by decide⟩,
    ⟨(die [] (fun b => { b with prb := { b.prb with drains := [{ buf := 0, start := 0, per := 0, recs := [{ typ := 0x10 }], doomed := some 0 }] } })), { buf := 0, start := 0, per := 0, recs := [{ typ := 0x10 }], doomed := some 0 }, [], { typ := 0x10 }, _, _, by decide, by decide, by decide, by decide, by decide, by decide, by decide, rfl, rfl⟩,
    ⟨(die [(F.PRB_GUARD_STUCK.key, 2), ((F.PRB_LANE_CFG_WATCH_STUCK.ix 9).key, 1), ((F.PRB_LANE_CFG_MODE.ix 9).key, 1)] (fun b => { b with prb := { b.prb with runs := [(9, { inc := 1, run := 2048 })] } })), 9, _, _, by decide, by decide, rfl, rfl, by decide, by decide, by decide, by decide⟩⟩

theorem wit_CountersAndSnapshots_2 :
    (∃ (s : State), s.b.syn.agg = false ∧ s.b.on dPROBE = true ∧ s.b.prb.window < s.b.prb.cyc / 64) :=
  ⟨(die [(F.PRB_GUARD_FAST.key, 1), ((F.PRB_LANE_CFG_MODE.ix 9).key, 2)] (fun b => { b with prb := { b.prb with edges := [(9, 30)], cyc := 100 } })), by decide, by decide, by decide⟩

theorem wit_ScalesAndWireTest_1 :
    (∃ (s : State) (code : Nat) (n : Nat) (ch : Nat) (c : Block), s.b.syn.agg = false ∧ s.b.on dSCALES = true ∧ s.b.scanLen ≠ 0 ∧ s.b.scl.last = none ∧ n = (s.b.scl.slot % s.b.scanLen) ∧ ch = (s.b.f (scanFld n)) ∧ c = ({ s.b with scl := { s.b.scl with slot := (n + 1) % s.b.scanLen, last := some s.b.clk.aon } }) ∧ c.testing ch = false ∧ c.groupFenced (ch / 8) = false) ∧
    (∃ (s : State) (codes : List Nat) (gl : Bool) (d : Block) (g : Nat) (c : Block), s.b.syn.agg = false ∧ s.b.on dSCALES = true ∧ s.b.is F.SCL_CTRL_WIRE_EN = true ∧ s.b.scl.wire = none ∧ s.b.scl.wireAt + aonUs (1000 * atLeast1 (s.b.f F.SCL_WIRE_PERIOD)) ≤ s.b.clk.aon ∧ g = (s.b.scl.group) ∧ c = (({ s.b with scl := { s.b.scl with wireAt := s.b.clk.aon } }).abandonTest 3 g) ∧ c.groupFenced g = false ∧ c.wireCodes (c.wireChans g) codes = (gl, d)) ∧
    (∃ (s : State) (codes : List Nat) (w : Wire) (gl : Bool) (d : Block), s.b.syn.agg = false ∧ s.b.on dSCALES = true ∧ s.b.scl.wire = some w ∧ w.step = 1 ∧ w.since + s.b.settle ≤ s.b.clk.aon ∧ s.b.wireCodes (s.b.wireChans w.group) codes = (gl, d)) ∧
    (∃ (s : State) (w : Wire), s.b.syn.agg = false ∧ s.b.on dSCALES = true ∧ s.b.scl.wire = some w ∧ w.step = 2 ∧ w.since + s.b.settle ≤ s.b.clk.aon ∧ w.abort = true) ∧
    (∃ (s : State) (w : Wire) (r : WireResult) (c : Block), s.b.syn.agg = false ∧ s.b.on dSCALES = true ∧ s.b.scl.wire = some w ∧ w.step = 2 ∧ w.since + s.b.settle ≤ s.b.clk.aon ∧ w.abort = false ∧ s.b.scl.transient = false ∧ r = (wireResult ((s.b.wireChans w.group).zip ((w.on ++ List.replicate 8 0).zipWith (fun (x y : Nat) => (x : Int) - (y : Int)) (w.off ++ List.replicate 8 0))) (signed 16 (s.b.f F.SCL_WIRE_LIM_HI)) (signed 16 (s.b.f F.SCL_WIRE_LIM_LO))) ∧ c = ({ s.b with scl := { s.b.scl with wire := none } }) ∧ r ≠ c.standing w.group ∧ s.b.scl.cand ≠ some r) ∧
    (∃ (s : State) (w : Wire) (r : WireResult) (c : Block), s.b.syn.agg = false ∧ s.b.on dSCALES = true ∧ s.b.scl.wire = some w ∧ w.step = 2 ∧ w.since + s.b.settle ≤ s.b.clk.aon ∧ w.abort = false ∧ s.b.scl.transient = false ∧ r = wireResult ((s.b.wireChans w.group).zip ((w.on ++ List.replicate 8 0).zipWith (fun (x y : Nat) => (x : Int) - (y : Int)) (w.off ++ List.replicate 8 0))) (signed 16 (s.b.f F.SCL_WIRE_LIM_HI)) (signed 16 (s.b.f F.SCL_WIRE_LIM_LO)) ∧ c = ({ s.b with scl := { s.b.scl with wire := none } }) ∧ r ≠ c.standing w.group ∧ s.b.scl.cand = some r) :=
  ⟨⟨(die [(F.SCL_CTRL_LEN.key, 16)]), 1234, _, _, _, by decide, by decide, by decide, by decide, rfl, rfl, rfl, by decide, by decide⟩,
    ⟨(die [(F.SCL_CTRL_WIRE_EN.key, 1)] (fun b => { b with clk := { b.clk with aon := 200000000 } })), [5], false, (die [(F.SCL_CTRL_WIRE_EN.key, 1)] (fun b => { b with clk := { b.clk with aon := 200000000 }, scl := { b.scl with wireAt := 200000000 } })).b, _, _, by decide, by decide, by decide, by decide, by decide, rfl, rfl, by decide, by decide⟩,
    ⟨(die [] (fun b => { b with clk := { b.clk with aon := 200000 }, scl := { b.scl with wire := some { group := 0, since := 0, off := [5] } } })), [6], { group := 0, since := 0, off := [5] }, false, (die [] (fun b => { b with clk := { b.clk with aon := 200000 }, scl := { b.scl with wire := some { group := 0, since := 0, off := [5] } } })).b, by decide, by decide, by decide, by decide, by decide, by decide⟩,
    ⟨(die [] (fun b => { b with clk := { b.clk with aon := 200000 }, scl := { b.scl with wire := some { group := 0, since := 0, step := 2, off := [5], abort := true } } })), { group := 0, since := 0, step := 2, off := [5], abort := true }, by decide, by decide, by decide, by decide, by decide, by decide⟩,
    ⟨(die [((F.SCL_CH_CFG_WIRE.at 0).key, 1), ((F.SCL_CH_CFG_WIRE.at 1).key, 1), (F.SCL_WIRE_LIM_HI.key, 100)] (fun b => { b with clk := { b.clk with aon := 200000 }, scl := { b.scl with wire := some { group := 0, since := 0, step := 2, off := [5, 5], on := [900, 50] } } })), { group := 0, since := 0, step := 2, off := [5, 5], on := [900, 50] }, _, _, by decide, by decide, by decide, by decide, by decide, by decide, by decide, rfl, rfl, by decide, by decide⟩,
    ⟨(die [((F.SCL_CH_CFG_WIRE.at 0).key, 1), ((F.SCL_CH_CFG_WIRE.at 1).key, 1), (F.SCL_WIRE_LIM_HI.key, 100)] (fun b => { b with clk := { b.clk with aon := 200000 }, scl := { b.scl with cand := some { opens := 1 }, wire := some { group := 0, since := 0, step := 2, off := [5, 5], on := [900, 50] } } })), { group := 0, since := 0, step := 2, off := [5, 5], on := [900, 50] }, { opens := 1 }, _, by decide, by decide, by decide, by decide, by decide, by decide, by decide, by decide, rfl, by decide, by decide⟩⟩

theorem wit_ScalesAndWireTest_2 :
    (∃ (s : State), s.b.syn.agg = false ∧ s.b.on dSCALES = true ∧ s.b.scl.transient = false ∧ s.b.scl.wire = none) ∧
    (∃ (s : State), s.b.syn.agg = false ∧ s.b.scl.transient = true) :=
  ⟨⟨(die []), by decide, by decide, by decide, by decide⟩,
    ⟨(die [] (fun b => { b with scl := { b.scl with transient := true } })), by decide, by decide⟩⟩

theorem wit_TraceBuffers_1 :
    (∃ (s : State) (lanes : List (Nat × Nat × Nat)) (c : Block), s.b.on dTRACE = true ∧ s.b.is F.TRC_CTRL_EN = true ∧ s.b.trc.nextAt ≤ s.b.trc.cyc ∧ c = ([0, 1, 2, 3].foldl (fun b k => (b.postEnd k).tickBuf s.b.trc.ticks lanes k) s.b)) ∧
    (∃ (s : State) (k : Nat), k < 4 ∧ s.b.on dTRACE = true ∧ s.b.trcState k = 3 ∧ (s.b.tbuf k).entered + s.b.bf F.TRC_BUF_CMD_POST k < s.b.trc.ticks ∧ s.b.bf F.TRC_BUF_TRIG_REARM k ≠ 1 ∧ (s.b.tbuf k).ended = none) ∧
    (∃ (s : State) (k : Nat), k < 4 ∧ s.b.on dTRACE = true ∧ s.b.trcState k = 3 ∧ (s.b.tbuf k).entered + s.b.bf F.TRC_BUF_CMD_POST k < s.b.trc.ticks ∧ s.b.bf F.TRC_BUF_TRIG_REARM k = 1 ∧ (s.b.tbuf k).ended = none) ∧
    (∃ (s : State) (k st : Nat), k < 4 ∧ s.b.on dTRACE = true ∧ s.b.trcState k = 3 ∧ (s.b.tbuf k).ended = some st) ∧
    (∃ (s : State) (m : Master) (k word : Nat) (w : Nat) (c : Block), k < 4 ∧ w = (word / 65536 % 65536 * 65536 + 4) ∧ s.b.respCode m (0x4118 + 64 * k) 0xF true w = 0 ∧ s.b.syn.agg = false ∧ c = (s.b.writeFields (0x4118 + 64 * k) w) ∧ c.trcState k = 0) ∧
    (∃ (s : State) (m : Master) (k word : Nat) (w : Nat) (c : Block), k < 4 ∧ w = (word / 65536 % 65536 * 65536 + 8) ∧ s.b.respCode m (0x4118 + 64 * k) 0xF true w = 0 ∧ s.b.syn.agg = false ∧ c = (s.b.writeFields (0x4118 + 64 * k) w) ∧ c.trcState k ≠ 0) :=
  ⟨⟨(die [(F.TRC_CTRL_EN.key, 1)]), [(3, 4, 5)], _, by decide, by decide, by decide, rfl⟩,
    ⟨(die [] (fun b => { b.setTrcState 2 3 with trc := { b.trc with ticks := 9 } })), 2, by decide, by decide, by decide, by decide, by decide, by decide⟩,
    ⟨(die [((F.TRC_BUF_TRIG_REARM.at 2 64).key, 1)] (fun b => { b.setTrcState 2 3 with trc := { b.trc with ticks := 9 } })), 2, by decide, by decide, by decide, by decide, by decide, by decide⟩,
    ⟨(die [] (fun b => (b.setTrcState 2 3).setTbuf 2 { b.tbuf 2 with ended := some 1 })), 2, 1, by decide, by decide, by decide, by decide⟩,
    ⟨(die []), .mgmt, 3, 0x90000, _, _, by decide, rfl, by decide, by decide, rfl, by decide⟩,
    ⟨(die [] (fun b => b.setTrcState 3 2)), .mgmt, 3, 0x90000, _, _, by decide, rfl, by decide, by decide, rfl, by decide⟩⟩

theorem wit_TraceBuffers_2 :
    (∃ (s : State) (m : Master) (k word : Nat) (w : Nat) (c : Block), k < 4 ∧ w = (word / 65536 % 65536 * 65536 + 16) ∧ s.b.respCode m (0x4118 + 64 * k) 0xF true w = 0 ∧ s.b.syn.agg = false ∧ c = (s.b.writeFields (0x4118 + 64 * k) w) ∧ c.trcState k = 0 ∧ c.bf F.TRC_BUF_CFG_MODE k = 1 ∧ (c.tbuf k).taken < (c.tbuf k).pkts.length) ∧
    (∃ (s : State) (p layer op : Nat), s.b.on dTRACE = true) ∧
    (∃ (s : State), s.b.on dTRACE = true) ∧
    (∃ (s : State) (k : Nat) (t0 : TrcBuf) (rest : List (Nat × Nat)) (skip : Nat) (f : Nat × Nat) (q : Nat) (r : Rec), k < 4 ∧ t0 = (s.b.tbuf k) ∧ rest = (t0.pkts.drop t0.taken) ∧ s.b.on dTRACE = true ∧ rest ≠ [] ∧ s.b.bf F.TRC_BUF_CFG_MODE k ≠ 1 ∧ s.b.trcState k = 0 ∧ skip = (((t0.pkts.take t0.taken).map (fun p => p.1)).foldl (· + ·) 0) ∧ f = (fitPkts rest ((s.b.bf F.TRC_BUF_CFG_CHUNK k + 1) * 1024)) ∧ q = (s.b.bf F.TRC_BUF_QUEUE_QUEUE k) ∧ r = (s.b.form q (s.b.bf F.TRC_BUF_QUEUE_STREAM k) 0x13 0 0 0 (leBytes 3 k ++ leBytes 5 (t0.total + skip) ++ readStore t0.mem (t0.rd + skip) f.2 ++ List.replicate ((8 - f.2 % 8) % 8) 0)) ∧ (s.b.goesDirect (s.b.qnum q) r k && s.b.traceWaits (s.b.qnum q) r) = false) ∧
    (∃ (s : State) (k : Nat) (t0 : TrcBuf) (rest : List (Nat × Nat)) (skip : Nat) (f : Nat × Nat) (q : Nat) (r : Rec), k < 4 ∧ t0 = (s.b.tbuf k) ∧ rest = (t0.pkts.drop t0.taken) ∧ s.b.on dTRACE = true ∧ rest ≠ [] ∧ s.b.bf F.TRC_BUF_CFG_MODE k ≠ 1 ∧ s.b.trcState k = 0 ∧ skip = (((t0.pkts.take t0.taken).map (fun p => p.1)).foldl (· + ·) 0) ∧ f = (fitPkts rest ((s.b.bf F.TRC_BUF_CFG_CHUNK k + 1) * 1024)) ∧ q = (s.b.bf F.TRC_BUF_QUEUE_QUEUE k) ∧ r = (s.b.form q (s.b.bf F.TRC_BUF_QUEUE_STREAM k) 0x13 0 0 0 (leBytes 3 k ++ leBytes 5 (t0.total + skip) ++ readStore t0.mem (t0.rd + skip) f.2 ++ List.replicate ((8 - f.2 % 8) % 8) 0)) ∧ (s.b.goesDirect (s.b.qnum q) r k && s.b.traceWaits (s.b.qnum q) r) = true) :=
  ⟨⟨(die [((F.TRC_BUF_CFG_MODE.at 3 64).key, 1)] (fun b => b.setTbuf 3 { pkts := [(3, 0)] })), .mgmt, 3, 0x90000, _, _, by decide, rfl, by decide, by decide, rfl, by decide, by decide, by decide⟩,
    ⟨(die []), 3, 7, 70000, by decide⟩,
    ⟨(die []), by decide⟩,
    ⟨(die [((F.TRC_BUF_CFG_COMPRESS.at 1 64).key, 1), ((F.SLK_CTRL_EN.key, 1))] (fun b => b.setTbuf 1 { pkts := [(3, 0)] })), 1, _, _, _, _, _, _, by decide, rfl, rfl, by decide, by decide, by decide, by decide, rfl, rfl, rfl, rfl, by decide⟩,
    ⟨(die [(F.QUE_CTRL_EN.key, 1), ((F.QUE_CFG_EN.ix 0).key, 1), ((F.QUE_CFG_FULL.ix 0).key, 0), ((F.QUE_SIZE_KIB.ix 0).key, 1), (F.QUE_HOLD_CFG_RSEV.key, 7), (F.QUE_HOLD_CFG_RESV.key, 128)] (fun b => b.setTbuf 1 { pkts := [(3, 0)] })), 1, _, _, _, _, _, _, by decide, rfl, rfl, by decide, by decide, by decide, by decide, rfl, rfl, rfl, rfl, by decide⟩⟩

theorem wit_HangRings_1 :
    (∃ (s : State) (u code : Nat), s.b.on dTRACE = true ∧ s.b.is F.TRC_HANG_STATUS_FROZEN = false ∧ u < 8192 ∧ u < s.b.syn.hostUnits) ∧
    (∃ (s : State) (u code : Nat), s.b.on dTRACE = true ∧ s.b.syn.hostUnits ≤ u % 8192) ∧
    (∃ (s : State) (u code : Nat), s.b.on dTRACE = true ∧ s.b.is F.TRC_HANG_STATUS_FROZEN = true ∧ u % 8192 < s.b.syn.hostUnits) ∧
    (∃ (s : State) (c : Block), s.b.on dTRACE = true ∧ s.b.is F.TRC_HANG_STATUS_FROZEN = false ∧ c = (((((({ s.b with trc := { s.b.trc with freezeWall := s.b.wall } }).setf F.TRC_HANG_STATUS_FROZEN 1).setf F.TRC_HANG_STATUS_CAUSE 1).setf F.TRC_HANG_WALL_LO_LO s.b.wall).raise Ev.TRC_FROZEN [(1, 8)])) ∧ c.is F.TRC_HANG_CTRL_DUMP = false) ∧
    (∃ (s : State) (m : Master) (word : Nat) (w : Nat) (a : Block) (c : Block), w = (word / 8 % 4 * 8 + 1) ∧ s.b.respCode m 0x4200 0xF true w = 0 ∧ s.b.syn.agg = false ∧ a = (s.b.writeFields 0x4200 w) ∧ a.on dTRACE = true ∧ a.is F.TRC_HANG_STATUS_FROZEN = false ∧ c = (((((({ a with trc := { a.trc with freezeWall := a.wall } }).setf F.TRC_HANG_STATUS_FROZEN 1).setf F.TRC_HANG_STATUS_CAUSE 2).setf F.TRC_HANG_WALL_LO_LO a.wall).raise Ev.TRC_FROZEN [(2, 8)])) ∧ c.is F.TRC_HANG_CTRL_DUMP = false) ∧
    (∃ (s : State) (m : Master) (word : Nat) (w : Nat) (a : Block), w = (word / 4 % 8 * 4 + 2) ∧ s.b.respCode m 0x4200 0xF true w = 0 ∧ s.b.syn.agg = false ∧ a = (s.b.writeFields 0x4200 w) ∧ bit w 2 = 1) :=
  ⟨⟨(die [] (fun b => { b with syn := { b.syn with hostUnits := 64 } })), 63, 4, by decide, by decide, by decide, by decide⟩,
    ⟨(die [] (fun b => { b with syn := { b.syn with hostUnits := 64 } })), 64, 4, by decide, by decide⟩,
    ⟨(die [(F.TRC_HANG_STATUS_FROZEN.key, 1)] (fun b => { b with syn := { b.syn with hostUnits := 64 } })), 63, 4, by decide, by decide, by decide⟩,
    ⟨(die [(F.TRC_HANG_CTRL_DUMP.key, 0)]), _, by decide, by decide, rfl, by decide⟩,
    ⟨(die [(F.TRC_HANG_CTRL_DUMP.key, 0)]), .mgmt, 0, _, _, _, rfl, by decide, by decide, rfl, by decide, by decide, rfl, by decide⟩,
    ⟨(die [(F.TRC_HANG_STATUS_FROZEN.key, 1)]), .mgmt, 4, _, _, rfl, by decide, by decide, rfl, by decide⟩⟩

theorem wit_HangRings_2 :
    (∃ (s : State) (m : Master), s.b.respCode m 0x4208 0xF false 0 = 0) :=
  ⟨(die [] (fun b => { b with trc := { b.trc with freezeWall := 2 ^ 33 } })), .mgmt, by decide⟩

theorem wit_LinkTraining_1 :
    (∃ (s : State) (port lane : Nat), s.b.on dLINKS = true ∧ port < portCount s.b.syn.agg ∧ (s.b.port port).state ≠ 2) ∧
    (∃ (s : State) (port lane : Nat) (c : Block) (errs : List (Nat × Nat)), s.b.on dLINKS = true ∧ port < portCount s.b.syn.agg ∧ c = (s.b.count ((laneErrFld (lane % 4)).ix port)) ∧ (c.port port).state = 2 ∧ errs = ((lane % 4, c.clk.core) :: c.recentErrs (c.port port).laneErrs) ∧ (errs.filter (fun e => e.1 == lane % 4)).length ≤ atLeast1 (c.f F.KL_DEGRADE_TH)) ∧
    (∃ (s : State) (port lane : Nat) (c : Block) (d : Block), s.b.on dLINKS = true ∧ port < portCount s.b.syn.agg ∧ c = (s.b.count ((laneErrFld (lane % 4)).ix port)) ∧ (c.port port).state = 2 ∧ atLeast1 (c.f F.KL_DEGRADE_TH) < (((lane % 4, c.clk.core) :: c.recentErrs (c.port port).laneErrs).filter (fun e => e.1 == lane % 4)).length ∧ d = ((c.setPort port { c.port port with excl := setBit (c.port port).excl (lane % 4) 1 }).raise Ev.KL_DEGRADED [(port, 8), (lane % 4, 16)]) ∧ (d.port port).state = 2) ∧
    (∃ (s : State) (port : Nat), s.b.on dLINKS = true ∧ port < portCount s.b.syn.agg ∧ (s.b.port port).state = 2 ∧ (s.b.port port).lastFlit + s.b.us 1 ≤ s.b.clk.core) ∧
    (∃ (s : State) (port : Nat), s.b.on dLINKS = true ∧ port < portCount s.b.syn.agg ∧ ((s.b.port port).state = 1 ∨ (s.b.port port).state = 3) ∧ (s.b.port port).since + s.b.us (100 * atLeast1 (s.b.f F.KL_TIMERS_DOWN)) ≤ s.b.clk.core) ∧
    (∃ (s : State) (port : Nat), s.b.on dLINKS = true ∧ port < portCount s.b.syn.agg ∧ ((s.b.port port).state = 1 ∨ (s.b.port port).state = 3) ∧ s.b.clk.core < (s.b.port port).since + s.b.us (100 * atLeast1 (s.b.f F.KL_TIMERS_DOWN))) :=
  ⟨⟨(die []), 1, 3, by decide, by decide, by decide⟩,
    ⟨(die [] (fun b => b.setPort 1 { state := 2 })), 1, 3, _, _, by decide, by decide, rfl, by decide, rfl, by decide⟩,
    ⟨(die [(F.KL_DEGRADE_TH.key, 1)] (fun b => b.setPort 1 { state := 2, laneErrs := [(3, 0)] })), 1, 3, _, _, by decide, by decide, rfl, by decide, by decide, rfl, by decide⟩,
    ⟨(die [] (fun b => { b.setPort 1 { state := 2 } with clk := { b.clk with core := 9000000 } })), 1, by decide, by decide, by decide, by decide⟩,
    ⟨(die [] (fun b => { b.setPort 1 { state := 1 } with clk := { b.clk with core := 90000000 } })), 1, by decide, by decide, by decide, by decide⟩,
    ⟨(die [] (fun b => b.setPort 1 { state := 1 })), 1, by decide, by decide, by decide, by decide⟩⟩

theorem wit_LinkTraining_2 :
    (∃ (s : State) (c : Block) (d : Block) (e : Block) (g : Block) (h : Block), s.b.on dLINKS = true ∧ s.b.syn.agg = false ∧ (s.b.port 0).state ≠ 0 ∧ c = (s.b.setPort 0 { excl := (s.b.port 0).excl, since := s.b.clk.core, swDown := false, declared := true }) ∧ d = ({ c with mon := { c.mon with ports := c.mon.ports.upd 0 {} MonPort.clear } }) ∧ e = ((if d.upPort = 0 then d.rewind else d).raise Ev.KL_DOWN [(0, 8)]) ∧ g = (if s.b.parentPort = some 0 then e.parentLost.dropExchanges else e) ∧ g.syn.agg = false ∧ h = (g.setPort 1 { g.port 1 with express := (g.port 1).express.unstomp, control := (g.port 1).control.unstomp })) ∧
    (∃ (s : State) (port : Nat), s.b.on dLINKS = true ∧ port < portCount s.b.syn.agg ∧ (s.b.port port).state = 0) ∧
    (∃ (s : State) (port : Nat), s.b.on dLINKS = true ∧ port < portCount s.b.syn.agg ∧ (s.b.port port).state = 0 ∧ (s.b.port port).swDown = false ∧ (s.b.port port).since + s.b.us (100 * atLeast1 (s.b.f F.KL_TIMERS_DOWN)) ≤ s.b.clk.core ∧ s.b.is (F.KL_PORT_CFG_EN.ix port) = true ∧ s.b.wired port ≠ 0) ∧
    (∃ (s : State) (m : Master) (c : Block) (p : Port) (d : Block), s.b.respCode m 0x8020 0xF true 1 = 0 ∧ c = (s.b) ∧ c.on dLINKS = true ∧ c.f F.KL_PORT_SEL_PORT < portCount c.syn.agg ∧ (c.port (c.f F.KL_PORT_SEL_PORT)).state = 2 ∧ p = (c.port (c.f F.KL_PORT_SEL_PORT)) ∧ d = (c.setPort (c.f F.KL_PORT_SEL_PORT) { p with excl := 0 }) ∧ (d.port (c.f F.KL_PORT_SEL_PORT)).state = 2) ∧
    (∃ (s : State) (m : Master) (c : Block), s.b.respCode m 0x8020 0xF true 2 = 0 ∧ c = (s.b) ∧ c.on dLINKS = true ∧ c.f F.KL_PORT_SEL_PORT < portCount c.syn.agg) ∧
    (∃ (s : State) (m : Master) (c : Block) (port : Nat), s.b.respCode m 0x8020 0xF true 4 = 0 ∧ c = (s.b) ∧ c.on dLINKS = true ∧ port = (c.f F.KL_PORT_SEL_PORT) ∧ port < portCount c.syn.agg ∧ (c.port port).state = 0 ∧ c.is (F.KL_PORT_CFG_EN.ix port) = true ∧ c.wired port ≠ 0) :=
  ⟨⟨(die [] (fun b => b.setPort 0 { state := 2 })), _, _, _, _, _, by decide, by decide, by decide, rfl, rfl, rfl, rfl, by decide, rfl⟩,
    ⟨(die []), 0, by decide, by decide, by decide⟩,
    ⟨(die [((F.KL_PORT_CFG_EN.ix 1).key, 1)] (fun b => { b with clk := { b.clk with core := 90000000 }, syn := { b.syn with klPresent := 0xFF } })), 1, by decide, by decide, by decide, by decide, by decide, by decide, by decide⟩,
    ⟨(die [] (fun b => b.setPort 0 { state := 2, excl := 3 })), .mgmt, _, _, _, by decide, rfl, by decide, by decide, by decide, rfl, rfl, by decide⟩,
    ⟨(die [] (fun b => b.setPort 0 { state := 2, excl := 3 })), .mgmt, _, by decide, rfl, by decide, by decide⟩,
    ⟨(die [((F.KL_PORT_CFG_EN.ix 0).key, 1)] (fun b => { b with syn := { b.syn with klPresent := 0xFF } })), .mgmt, _, _, by decide, rfl, by decide, rfl, by decide, by decide, by decide, by decide⟩⟩

theorem wit_LinkNegotiation_1 :
    (∃ (s : State) (port : Nat) (c : Block), s.b.on dLINKS = true ∧ port < portCount s.b.syn.agg ∧ (s.b.port port).state = 1 ∧ (s.b.port port).agreed = false ∧ (s.b.port port).negFail = false ∧ (s.b.port port).negSent = none ∧ c = (s.b.setPort port { s.b.port port with negSent := some s.b.clk.core })) ∧
    (∃ (s : State) (port t : Nat), s.b.on dLINKS = true ∧ port < portCount s.b.syn.agg ∧ (s.b.port port).negSent = some t ∧ s.b.clk.core < t + s.b.ns 500) ∧
    (∃ (s : State) (port ver feat lanes : Nat) (credits : List Nat), s.b.on dLINKS = true ∧ port < portCount s.b.syn.agg ∧ ((s.b.port port).state = 1 ∨ (s.b.port port).state = 3) ∧ (s.b.port port).negFail = false ∧ ver < 0x10) ∧
    (∃ (s : State) (port ver feat lanes : Nat) (credits : List Nat) (v : Nat) (ft : Nat) (c : Block), s.b.on dLINKS = true ∧ port < portCount s.b.syn.agg ∧ (s.b.port port).state = 1 ∧ (s.b.port port).negFail = false ∧ 0x10 ≤ ver ∧ v = (min (min 2 (s.b.f (F.KL_PORT_CFG_MAXVER.ix port))) (if 0x20 ≤ ver then 2 else if 0x11 ≤ ver then 1 else 0)) ∧ ft = (15 &&& feat &&& (if v = 2 then 15 else if v = 1 then 3 else 0)) ∧ min 2 (s.b.f (F.KL_PORT_CFG_MINVER.ix port)) ≤ v ∧ c = (s.b.setPort port { ((s.b.port port).setCredits credits) with ver := v, feat := ft, offered := true })) ∧
    (∃ (s : State) (port ver feat width : Nat) (credits : List Nat), s.b.on dLINKS = true ∧ port < portCount s.b.syn.agg ∧ ((s.b.port port).state = 1 ∨ (s.b.port port).state = 3) ∧ (s.b.port port).negFail = false ∧ (s.b.port port).offered = true ∧ verLevel ver = (s.b.port port).ver ∧ feat = (s.b.port port).feat) ∧
    (∃ (s : State) (port ver feat width : Nat) (credits : List Nat), s.b.on dLINKS = true ∧ port < portCount s.b.syn.agg ∧ (s.b.port port).negFail = true) :=
  ⟨⟨(die [] (fun b => b.setPort 1 { state := 1 })), 1, _, by decide, by decide, by decide, by decide, by decide, by decide, rfl⟩,
    ⟨(die [] (fun b => b.setPort 1 { state := 1, negSent := some 0 })), 1, 0, by decide, by decide, by decide, by decide⟩,
    ⟨(die [] (fun b => b.setPort 1 { state := 1 })), 1, 15, 3, 4, [9], by decide, by decide, by decide, by decide, by decide⟩,
    ⟨(die [] (fun b => b.setPort 1 { state := 1 })), 1, 0x15, 7, 4, [9, 5, 2], _, _, _, by decide, by decide, by decide, by decide, by decide, rfl, rfl, by decide, rfl⟩,
    ⟨(die [] (fun b => b.setPort 1 { state := 1, offered := true, ver := 2, feat := 7 })), 1, 0x20, 7, 4, [], by decide, by decide, by decide, by decide, by decide, by decide, by decide⟩,
    ⟨(die [] (fun b => b.setPort 1 { state := 1, negFail := true, offered := true, ver := 2, feat := 7 })), 1, 0x20, 7, 4, [], by decide, by decide, by decide⟩⟩

theorem wit_LinkNegotiation_2 :
    (∃ (s : State) (port ver feat width : Nat) (credits : List Nat), s.b.on dLINKS = true ∧ port < portCount s.b.syn.agg ∧ feat ≠ (s.b.port port).feat) :=
  ⟨(die [] (fun b => b.setPort 1 { state := 1, offered := true, ver := 2, feat := 7 })), 1, 0x20, 5, 4, [], by decide, by decide, by decide⟩

theorem wit_LinkFramesAndReplay_1 :
    (∃ (s : State) (port : Nat) (f : FrameIn) (u : Block), s.b.on dLINKS = true ∧ port < portCount s.b.syn.agg ∧ (s.b.port port).state = 2 ∧ f.vc < 3 ∧ s.b.que.corrupt = none ∧ f.check = .stomped ∧ u = (s.b.setPort port { s.b.port port with lastFlit := s.b.clk.core })) ∧
    (∃ (s : State) (port : Nat) (f : FrameIn) (u : Block) (c : Block) (p : Port), s.b.on dLINKS = true ∧ port < portCount s.b.syn.agg ∧ (s.b.port port).state = 2 ∧ f.vc < 3 ∧ s.b.que.corrupt = none ∧ f.check = .bad ∧ u = ((s.b.setPort port { s.b.port port with lastFlit := s.b.clk.core }).stompOn port f) ∧ c = ((u.setPort port ((u.port port).setChan f.vc { (u.port port).chan f.vc with freed := ((u.port port).chan f.vc).freed + (20 + f.payload.length + 61) / 62 })).count (F.KL_PORT_ERR_CRC.ix port)) ∧ p = (c.port port) ∧ (p.chan f.vc).nakSent = false) ∧
    (∃ (s : State) (port : Nat) (f : FrameIn) (u : Block) (c : Block) (p : Port), s.b.on dLINKS = true ∧ port < portCount s.b.syn.agg ∧ (s.b.port port).state = 2 ∧ f.vc < 3 ∧ s.b.que.corrupt = none ∧ f.check = .good ∧ f.proper = false ∧ u = ((s.b.setPort port { s.b.port port with lastFlit := s.b.clk.core }).stompOn port f) ∧ c = ((u.setPort port ((u.port port).setChan f.vc { (u.port port).chan f.vc with freed := ((u.port port).chan f.vc).freed + (20 + f.payload.length + 61) / 62 })).count (F.KL_PORT_ERR_CRC.ix port)) ∧ p = (c.port port) ∧ (p.chan f.vc).nakSent = false) ∧
    (∃ (s : State) (port : Nat) (f : FrameIn) (u : Block) (c : Block), s.b.on dLINKS = true ∧ port < portCount s.b.syn.agg ∧ (s.b.port port).state = 2 ∧ f.vc = 0 ∧ s.b.que.corrupt = some port ∧ f.check = .good ∧ u = (({ s.b with que := { s.b.que with corrupt := none } }).setPort port { s.b.port port with lastFlit := s.b.clk.core }) ∧ c = ((u.setPort port { u.port port with bulk := { (u.port port).bulk with freed := (u.port port).bulk.freed + (20 + f.payload.length + 61) / 62 } }).count (F.KL_PORT_ERR_CRC.ix port)) ∧ (c.port port).bulk.nakSent = true) ∧
    (∃ (s : State) (port mask : Nat) (f : FrameIn) (u : Block), s.b.on dLINKS = true ∧ port < portCount s.b.syn.agg ∧ (s.b.port port).state = 2 ∧ f.vc < 3 ∧ s.b.que.corrupt = none ∧ f.check = .framing mask ∧ u = (s.b.setPort port { s.b.port port with lastFlit := s.b.clk.core })) ∧
    (∃ (s : State) (port : Nat) (f : FrameIn), s.b.on dLINKS = true ∧ port < portCount s.b.syn.agg ∧ (s.b.port port).state = 2 ∧ 3 ≤ f.vc) :=
  ⟨⟨(die [] (fun b => b.setPort 1 { state := 2 })), 1, { vc := 1, seq := 4, ack := 0, check := .stomped, sor := true, eor := true, ctx := 0, cls := 0, payload := [], ftype := 2 }, _, by decide, by decide, by decide, by decide, by decide, by decide, rfl⟩,
    ⟨(die [] (fun b => b.setPort 1 { state := 2 })), 1, { vc := 1, seq := 4, ack := 0, check := .bad, sor := true, eor := true, ctx := 0, cls := 0, payload := [], ftype := 2 }, _, _, _, by decide, by decide, by decide, by decide, by decide, by decide, rfl, rfl, rfl, by decide⟩,
    ⟨(die [] (fun b => b.setPort 1 { state := 2 })), 1, { vc := 1, seq := 4, ack := 0, check := .good, sor := true, eor := true, ctx := 0, cls := 0, payload := [], ftype := 9 }, _, _, _, by decide, by decide, by decide, by decide, by decide, by decide, by decide, rfl, rfl, rfl, by decide⟩,
    ⟨(die [] (fun b => { b.setPort 1 { state := 2, bulk := { nakSent := true } } with que := { b.que with corrupt := some 1 } })), 1, { vc := 0, seq := 0, ack := 0, check := .good, sor := true, eor := true, ctx := 0, cls := 0, payload := [] }, _, _, by decide, by decide, by decide, by decide, by decide, by decide, rfl, rfl, by decide⟩,
    ⟨(die [] (fun b => b.setPort 1 { state := 2 })), 1, 3, { vc := 1, seq := 4, ack := 0, check := .framing 3, sor := true, eor := true, ctx := 0, cls := 0, payload := [], ftype := 2 }, _, by decide, by decide, by decide, by decide, by decide, by decide, rfl⟩,
    ⟨(die [] (fun b => b.setPort 1 { state := 2 })), 1, { vc := 3, seq := 4, ack := 0, check := .good, sor := true, eor := true, ctx := 0, cls := 0, payload := [], ftype := 2 }, by decide, by decide, by decide, by decide⟩⟩

theorem wit_LinkFramesAndReplay_2 :
    (∃ (s : State) (port : Nat) (f : FrameIn) (c : Block) (p : Port) (h : Chan) (whole : List Byte) (d : Block), s.b.on dLINKS = true ∧ port < portCount s.b.syn.agg ∧ (s.b.port port).state = 2 ∧ f.vc < 3 ∧ s.b.que.corrupt = none ∧ f.check = .good ∧ f.proper = true ∧ c = ((s.b.setPort port { s.b.port port with lastFlit := s.b.clk.core }).applyAck port f.vc (f.ack % 65536)) ∧ p = (c.port port) ∧ h = (p.chan f.vc) ∧ f.seq = h.expect ∧ f.eor = false ∧ s.b.syn.agg = true ∧ whole = ((if f.sor then [] else (h.rx.getD f.ctx (0, [])).2) ++ f.payload) ∧ d = (c.setPort port (p.setChan f.vc { h with expect := (h.expect + 1) % 65536, nakSent := false, freed := h.freed + (20 + f.payload.length + 61) / 62, ackDue := some (h.ackDue.getD c.clk.core), rx := h.rx.put f.ctx (f.cls, whole) })) ∧ d.syn.agg = true) ∧
    (∃ (s : State) (port : Nat) (f : FrameIn) (c : Block) (h : Chan) (d : Block), s.b.on dLINKS = true ∧ port < portCount s.b.syn.agg ∧ (s.b.port port).state = 2 ∧ f.vc < 3 ∧ s.b.que.corrupt = none ∧ f.check = .good ∧ f.proper = true ∧ c = ((s.b.setPort port { s.b.port port with lastFlit := s.b.clk.core }).applyAck port f.vc (f.ack % 65536)) ∧ h = ((c.port port).chan f.vc) ∧ f.seq ≠ h.expect ∧ before16 f.seq h.expect = true ∧ d = (c.setPort port ((c.port port).setChan f.vc { h with freed := h.freed + (20 + f.payload.length + 61) / 62 }))) ∧
    (∃ (s : State) (port : Nat) (acks frees : List Nat), s.b.on dLINKS = true ∧ port < portCount s.b.syn.agg ∧ (s.b.port port).state = 2) ∧
    (∃ (s : State) (port mask : Nat) (acks frees : List Nat), s.b.on dLINKS = true ∧ port < portCount s.b.syn.agg ∧ (s.b.port port).state = 2) ∧
    (∃ (s : State) (port vc : Nat) (h : Chan) (held : List Frame), s.b.on dLINKS = true ∧ port < portCount s.b.syn.agg ∧ (s.b.port port).state = 2 ∧ vc < 3 ∧ h = ((s.b.port port).chan vc) ∧ h.held ≠ [] ∧ h.baseAt + s.b.us (atLeast1 (s.b.f F.KL_TIMERS_REPLAY)) ≤ s.b.clk.core ∧ h.replays + 1 ≠ 8 ∧ held = (h.held.map (fun f => { f with rpl := true, ack := h.expect }))) ∧
    (∃ (s : State) (port : Nat) (t : Nat) (p : Port), s.b.on dLINKS = true ∧ port < portCount s.b.syn.agg ∧ p = (s.b.port port) ∧ p.state = 2 ∧ p.bulk.ackDue = some t ∧ t + s.b.ns (16 * atLeast1 (s.b.f F.KL_TIMERS_ACK_INT)) ≤ s.b.clk.core) :=
  ⟨⟨(aggr [] (fun b => b.setPort 1 { state := 2 })), 1, { vc := 1, seq := 0, ack := 0, check := .good, sor := true, eor := false, ctx := 3, cls := 2, payload := [7, 8], ftype := 2 }, _, _, _, _, _, by decide, by decide, by decide, by decide, by decide, by decide, by decide, rfl, rfl, rfl, by decide, by decide, by decide, rfl, rfl, by decide⟩,
    ⟨(die [] (fun b => b.setPort 1 { state := 2, bulk := { expect := 5 } })), 1, { vc := 0, seq := 4, ack := 0, check := .good, sor := true, eor := true, ctx := 0, cls := 0, payload := [1, 2], ftype := 1 }, _, _, _, by decide, by decide, by decide, by decide, by decide, by decide, by decide, rfl, rfl, by decide, by decide, rfl⟩,
    ⟨(die [] (fun b => b.setPort 1 { state := 2 })), 1, [0, 0, 0], [2, 3], by decide, by decide, by decide⟩,
    ⟨(die [] (fun b => b.setPort 1 { state := 2 })), 1, 3, [0, 0, 0], [2, 3], by decide, by decide, by decide⟩,
    ⟨(die [] (fun b => { b.setPort 1 { state := 2, bulk := { held := [{ seq := 0, lenb := 3, content := .bytes [] }] } } with clk := { b.clk with core := 90000000 } })), 1, 0, _, _, by decide, by decide, by decide, by decide, rfl, by decide, by decide, by decide, rfl⟩,
    ⟨(die [] (fun b => { b.setPort 1 { state := 2, bulk := { ackDue := some 3 } } with clk := { b.clk with core := 90000000 } })), 1, 3, _, by decide, by decide, rfl, by decide, by decide, by decide⟩⟩

theorem wit_LinkFramesAndReplay_3 :
    (∃ (s : State) (port mask time : Nat) (e : Nat) (m : Nat) (ps : List Nat), s.b.on dLINKS = true ∧ port < portCount s.b.syn.agg ∧ (s.b.port port).state = 2 ∧ e = (if time % 65536 = 0 then 0 else s.b.clk.core + s.b.ns (16 * (time % 65536))) ∧ m = (if bit (s.b.port port).feat 1 = 1 then mask else 0xFF) ∧ ps = ((List.range 8).map (fun c => if bit m c = 1 then e else ((s.b.port port).pauses[c]?).getD 0))) ∧
    (∃ (s : State) (port cls : Nat), s.b.on dLINKS = true ∧ port < portCount s.b.syn.agg ∧ ((s.b.port port).pauses[cls % 8]?).getD 0 ≤ s.b.clk.core) ∧
    (∃ (s : State) (port cls : Nat), s.b.on dLINKS = true ∧ port < portCount s.b.syn.agg ∧ s.b.clk.core < ((s.b.port port).pauses[cls % 8]?).getD 0) ∧
    (∃ (s : State) (port cls t : Nat) (p : Port), s.b.on dLINKS = true ∧ port < portCount s.b.syn.agg ∧ p = (s.b.port port) ∧ (p.pausing[cls % 8]?).getD none = some t ∧ t + s.b.ns (512 * atLeast1 (s.b.f F.KL_PAUSE_CFG_TIME)) ≤ s.b.clk.core ∧ s.b.f F.KL_PAUSE_CFG_LOW * 1024 < s.b.staging (cls % 8)) ∧
    (∃ (s : State) (port cls t : Nat) (p : Port), s.b.on dLINKS = true ∧ port < portCount s.b.syn.agg ∧ p = (s.b.port port) ∧ (p.pausing[cls % 8]?).getD none = some t ∧ t + s.b.ns (512 * atLeast1 (s.b.f F.KL_PAUSE_CFG_TIME)) ≤ s.b.clk.core ∧ s.b.staging (cls % 8) ≤ s.b.f F.KL_PAUSE_CFG_LOW * 1024) ∧
    (∃ (kind vc : Nat) (last : Bool), kind < 4 ∧ vc < 3) :=
  ⟨⟨(die [] (fun b => b.setPort 1 { state := 2, feat := 2 })), 1, 5, 64, _, _, _, by decide, by decide, by decide, rfl, rfl, rfl⟩,
    ⟨(die []), 1, 5, by decide, by decide, by decide⟩,
    ⟨(die [] (fun b => b.setPort 1 { state := 2, pauses := [7, 7, 7] })), 1, 2, by decide, by decide, by decide⟩,
    ⟨(die [(F.KL_PAUSE_CFG_LOW.key, 0)] (fun b => { b.setPort 1 { state := 2, pausing := [none, some 7] } with clk := { b.clk with core := 90000000 } , kl := { (b.setPort 1 { state := 2, pausing := [none, some 7] }).kl with delivered := [{ port := 1, vc := 0, cls := 1, bytes := [0] }] } })), 1, 1, 7, _, by decide, by decide, rfl, by decide, by decide, by decide⟩,
    ⟨(die [] (fun b => { b.setPort 1 { state := 2, pausing := [none, some 7] } with clk := { b.clk with core := 90000000 } })), 1, 1, 7, _, by decide, by decide, rfl, by decide, by decide, by decide⟩,
    ⟨2, 1, true, by decide, by decide⟩⟩

theorem wit_LinkFramesAndReplay_4 :
    (∃ (f : Frame) (vc : Nat), ftypeVc f.ftype = some vc ∧ f.cls < 8 ∧ f.seq < 2 ^ 16 ∧ f.ack < 2 ^ 16 ∧ f.lenb < 2 ^ 13 ∧ f.ctx < 64) :=
  ⟨{ seq := 65535, ftype := 4, ack := 9, cls := 7, sor := true, rpl := true, ctx := 63, lenb := 8191, content := .bytes [1] }, 0, by decide, by decide, by decide, by decide, by decide, by decide⟩

theorem wit_MonarchChoice_1 :
    (∃ (s : State) (port : Nat), (s.b.is F.MON_CTRL_EN = false ∨ s.b.canStart port = false)) ∧
    (∃ (s : State) (port : Nat) (c : Block) (p : MonPort), s.b.on dLINKS = true ∧ port < portCount s.b.syn.agg ∧ s.b.is F.MON_CTRL_EN = true ∧ (s.b.port port).state = 2 ∧ (s.b.port port).bulk.idle = true ∧ (s.b.port port).free 0 s.b.clk.core = true ∧ c = (s.b.noteIdle) ∧ p = (c.tagClasses port (c.tagQueues port (c.monPort port))) ∧ c.chooseClass port p = none) ∧
    (∃ (s : State) (port cls : Nat) (h : MonHead) (c : Block) (p : MonPort), s.b.on dLINKS = true ∧ port < portCount s.b.syn.agg ∧ s.b.is F.MON_CTRL_EN = true ∧ (s.b.port port).state = 2 ∧ (s.b.port port).bulk.idle = true ∧ (s.b.port port).free 0 s.b.clk.core = true ∧ c = (s.b.noteIdle) ∧ p = (c.tagClasses port (c.tagQueues port (c.monPort port))) ∧ c.chooseClass port p = some (cls, h) ∧ h.item = none) ∧
    (∃ (s : State) (port cls n : Nat) (h : MonHead) (c : Block) (p : MonPort), s.b.on dLINKS = true ∧ port < portCount s.b.syn.agg ∧ s.b.is F.MON_CTRL_EN = true ∧ (s.b.port port).state = 2 ∧ (s.b.port port).bulk.idle = true ∧ (s.b.port port).free 0 s.b.clk.core = true ∧ c = (s.b.noteIdle) ∧ p = (c.tagClasses port (c.tagQueues port (c.monPort port))) ∧ c.chooseClass port p = some (cls, h) ∧ h.item = some n) ∧
    (∃ (s : State) (m : Master) (word : Nat) (c : Block) (k : Nat), s.b.respCode m 0x901C 0xF true word = 0 ∧ bit word 2 = 1 ∧ c = (s.b.writeFields 0x901C word) ∧ k = (c.f F.MON_CLASS_SEL_CLASS)) ∧
    (∃ (s : State) (cls : Nat) (x : Shape), s.b.on dLINKS = true ∧ s.b.staged (cls % 8) = some x ∧ x.mode = 1) :=
  ⟨⟨(die []), 1, by decide⟩,
    ⟨(die [(F.MON_CTRL_EN.key, 1)] (fun b => b.setPort 1 { state := 2 })), 1, _, _, by decide, by decide, by decide, by decide, by decide, by decide, rfl, rfl, by decide⟩,
    ⟨(die [(F.MON_CTRL_EN.key, 1)] (fun b => b.setPort 1 { state := 2, bulk := { credit := 512 }, fwd := [{ seq := 0, cls := 3, lenb := 5, content := .bytes [1, 2, 3, 4, 5] }] })), 1, 3, { q := 4096, cls := 3, cost := 1, len := 5, sor := true }, _, _, by decide, by decide, by decide, by decide, by decide, by decide, rfl, rfl, by decide, by decide⟩,
    ⟨(die [(F.MON_CTRL_EN.key, 1), (F.QUE_CTRL_EN.key, 1), (F.SELF_LDI_BOUND.key, 1), ((F.QUE_CFG_EN.ix 3).key, 1), ((F.QUE_SIZE_KIB.ix 3).key, 1)] (fun b => (b.emit 3 1 1 1 0 0 [1, 2, 3, 4, 5, 6, 7, 8]).setPort 0 { state := 2, bulk := { credit := 512 } })), 0, 0, 0, { q := 3, cls := 0, cost := 1, len := 56, sor := true, item := some 0 }, _, _, by decide, by decide, by decide, by decide, by decide, by decide, rfl, rfl, by decide, by decide⟩,
    ⟨(die [(F.MON_CLASS_SEL_CLASS.key, 3)]), .mgmt, 5, _, _, by decide, by decide, rfl, rfl⟩,
    ⟨(die [] (fun b => { b with mon := { b.mon with staged := [some { rate := 4, burst := 7, mode := 1 }] } })), 8, { rate := 4, burst := 7, mode := 1 }, by decide, by decide, by decide⟩⟩

theorem wit_MonarchChoice_2 :
    (∃ (s : State) (cls : Nat) (x : Shape) (k : Nat) (old : List (Nat × Int)) (c : Block) (d : Block), s.b.on dLINKS = true ∧ s.b.staged (cls % 8) = some x ∧ x.mode ≠ 1 ∧ x.mode ≠ 2 ∧ k = (cls % 8) ∧ old = ((List.range (portCount s.b.syn.agg)).map (fun n => (n, s.b.tokens n k))) ∧ c = ((s.b.setf (F.MON_SHAPE_ACT_RATE.ix k) x.rate).setf (F.MON_SHAPE_ACT_BURST.ix k) x.burst) ∧ d = (old.foldl (fun (b : Block) y => b.setMonPort y.1 ((b.monPort y.1).updC k (fun z => { z with tokens := min y.2 ((b.burst k : Nat) : Int), at_ := b.clk.aon }))) c)) ∧
    (∃ (s : State) (cls : Nat) (x : Shape) (k : Nat) (old : List (Nat × Int)) (c : Block) (d : Block), s.b.on dLINKS = true ∧ s.b.staged (cls % 8) = some x ∧ x.mode = 2 ∧ s.b.shapeIdle (cls % 8) = true ∧ k = (cls % 8) ∧ old = ((List.range (portCount s.b.syn.agg)).map (fun n => (n, s.b.tokens n k))) ∧ c = ((s.b.setf (F.MON_SHAPE_ACT_RATE.ix k) x.rate).setf (F.MON_SHAPE_ACT_BURST.ix k) x.burst) ∧ d = (old.foldl (fun (b : Block) y => b.setMonPort y.1 ((b.monPort y.1).updC k (fun z => { z with tokens := min y.2 ((b.burst k : Nat) : Int), at_ := b.clk.aon }))) c)) ∧
    (∃ (s : State) (cls : Nat) (x : Shape), s.b.on dLINKS = true ∧ s.b.staged (cls % 8) = some x ∧ x.mode = 2 ∧ s.b.shapeIdle (cls % 8) = false) ∧
    (∃ (s : State) (cls st en : Nat) (g : Gate), s.b.on dLINKS = true ∧ s.b.is F.ANT_STATUS_TIME_VALID = true ∧ g = ((s.b.mon.gates[cls % 8]?).getD {}) ∧ g.window = some (st, en) ∧ st ≤ s.b.clk.core ∧ s.b.clk.core < en) ∧
    (∃ (s : State) (cls st en : Nat) (g : Gate), s.b.on dLINKS = true ∧ s.b.is F.ANT_STATUS_TIME_VALID = true ∧ g = ((s.b.mon.gates[cls % 8]?).getD {}) ∧ g.window = some (st, en) ∧ en ≤ s.b.clk.core) :=
  ⟨⟨(die [] (fun b => { b with mon := { b.mon with staged := [some { rate := 4, burst := 7, mode := 0 }] } })), 8, { rate := 4, burst := 7, mode := 0 }, _, _, _, _, by decide, by decide, by decide, by decide, rfl, rfl, rfl, rfl⟩,
    ⟨(die [] (fun b => { b with mon := { b.mon with staged := [some { rate := 4, burst := 7, mode := 2 }] } })), 8, { rate := 4, burst := 7, mode := 2 }, _, _, _, _, by decide, by decide, by decide, by decide, rfl, rfl, rfl, rfl⟩,
    ⟨(die [(F.QUE_CTRL_EN.key, 1), (F.SELF_LDI_BOUND.key, 1), ((F.QUE_CFG_EN.ix 3).key, 1), ((F.QUE_SIZE_KIB.ix 3).key, 1), ((F.MON_SHAPE_ACT_BURST.ix 0).key, 1)] (fun b => { (b.emit 3 1 1 1 0 0 [1, 2, 3, 4, 5, 6, 7, 8]) with mon := { b.mon with staged := [some { rate := 4, burst := 7, mode := 2 }] } })), 8, { rate := 4, burst := 7, mode := 2 }, by decide, by decide, by decide, by decide⟩,
    ⟨(die [(F.ANT_STATUS_TIME_VALID.key, 1)] (fun b => { b with mon := { b.mon with gates := [{ window := some (0, 5) }] } })), 8, 0, 5, _, by decide, by decide, rfl, by decide, by decide, by decide⟩,
    ⟨(die [(F.ANT_STATUS_TIME_VALID.key, 1)] (fun b => { b with clk := { b.clk with core := 9 }, mon := { b.mon with gates := [{ window := some (0, 5), closed := true }] } })), 8, 0, 5, _, by decide, by decide, rfl, by decide, by decide⟩⟩

theorem wit_RecordsReceived_1 :
    (∃ (s : State) (port : Nat) (bytes : List Byte) (bad : List Nat) (u : Block), u = (({ s.b with vrd := { s.b.vrd with driftBad := s.b.vrd.driftBad ++ bad } }).unstage port 0) ∧ u.syn.agg = true ∧ u.on dQUEUE = true ∧ u.is F.QUE_CTRL_EN = true ∧ parseRec bytes = none) ∧
    (∃ (s : State) (port seq : Nat) (bytes : List Byte) (bad : List Nat) (r : Rec) (u : Block), u = (({ s.b with vrd := { s.b.vrd with driftBad := s.b.vrd.driftBad ++ bad } }).unstage port 0) ∧ u.syn.agg = true ∧ u.on dQUEUE = true ∧ u.is F.QUE_CTRL_EN = true ∧ u.isT = true ∧ parseRec bytes = some (r, seq) ∧ r.epoch ≠ 0 ∧ u.binding r.ldi r.epoch = false) ∧
    (∃ (s : State) (port : Nat) (bytes : List Byte) (bad : List Nat) (u : Block), u = (({ s.b with vrd := { s.b.vrd with driftBad := s.b.vrd.driftBad ++ bad } }).unstage port 0) ∧ u.syn.agg = false) ∧
    (∃ (b : Block) (r : Rec) (seq : Nat) (bytes : List Byte) (c : Block), b.coc.flush = false ∧ before48 seq (b.key r.ldi r.epoch r.stream).acc = true ∧ c = (b.count F.QUE_ACC_STAT_DUP)) ∧
    (∃ (b : Block) (r : Rec) (seq : Nat) (bytes : List Byte), b.coc.flush = false ∧ before48 seq (b.key r.ldi r.epoch r.stream).acc = false ∧ before48 seq (b.key r.ldi r.epoch r.stream).next = true) ∧
    (∃ (b : Block) (r : Rec) (seq : Nat) (bytes : List Byte) (a : Block) (c : Block), before48 seq (b.key r.ldi r.epoch r.stream).acc = false ∧ before48 seq (b.key r.ldi r.epoch r.stream).next = false ∧ seq ≠ (b.key r.ldi r.epoch r.stream).next ∧ a = (b.reportArrived r seq) ∧ a.coc.flush = false ∧ c = (a.count F.QUE_ACC_STAT_GAP)) :=
  ⟨⟨(aggr [(F.QUE_CTRL_EN.key, 1)]), 5, [1, 2, 3], [7], _, rfl, by decide, by decide, by decide, by decide⟩,
    ⟨(aggr [(F.QUE_CTRL_EN.key, 1), (F.ROLE_STATUS_ROLE.key, 1)]), 5, 9, (Rec.whole { typ := 1, fmt := 1, epoch := 4, ldi := 7, sev := 0, stream := 2, phase := 0, wall := 0, bytes := [] } 9), [7], { typ := 1, fmt := 1, epoch := 4, ldi := 7, sev := 0, stream := 2, phase := 0, wall := 0, bytes := [] }, _, rfl, by decide +kernel, by decide +kernel, by decide +kernel, by decide +kernel, by decide +kernel, by decide +kernel, by decide +kernel⟩,
    ⟨(die []), 5, [1, 2, 3], [], _, rfl, by decide⟩,
    ⟨(({ (die []).b with que := { (die []).b.que with keys := [{ ldi := 7, epoch := 4, stream := 2, acc := 5, next := 6 }] } })), { typ := 1, fmt := 1, epoch := 4, ldi := 7, sev := 0, stream := 2, phase := 0, wall := 0, bytes := [] }, 4, [], _, by decide, by decide, rfl⟩,
    ⟨(({ (die []).b with que := { (die []).b.que with keys := [{ ldi := 7, epoch := 4, stream := 2, acc := 5, next := 6 }] } })), { typ := 1, fmt := 1, epoch := 4, ldi := 7, sev := 0, stream := 2, phase := 0, wall := 0, bytes := [] }, 5, [], by decide, by decide, by decide⟩,
    ⟨(({ (die []).b with que := { (die []).b.que with keys := [{ ldi := 7, epoch := 4, stream := 2, acc := 5, next := 6 }] } })), { typ := 1, fmt := 1, epoch := 4, ldi := 7, sev := 0, stream := 2, phase := 0, wall := 0, bytes := [] }, 7, [], _, _, by decide, by decide, by decide, rfl, by decide, rfl⟩⟩

theorem wit_RecordsReceived_2 :
    (∃ (b : Block) (r : Rec) (bytes : List Byte) (k : OwnKey) (a : Block) (c : Block), k = (b.key r.ldi r.epoch r.stream) ∧ before48 k.next k.acc = false ∧ before48 k.next k.next = false ∧ a = (b.reportArrived r k.next) ∧ a.coc.flush = false ∧ c = ({ a with vrd := { a.vrd with found := a.vrd.found.filter (fun x => x != (r.ldi, r.epoch, r.stream, k.next)) } })) ∧
    (∃ (b : Block) (r : Rec) (seq : Nat), r.typ ≠ 0x60) ∧
    (∃ (b : Block) (r : Rec) (seq : Nat) (c : Block), r.typ = 0x60 ∧ b.vrd.found.contains (r.ldi, r.epoch, r.stream, seq) = false ∧ c = ({ b with vrd := { b.vrd with found := (r.ldi, r.epoch, r.stream, seq) :: b.vrd.found } })) ∧
    (∃ (s : State) (ldi epoch stream next acc : Nat) (c : Block) (l : List Mirror), s.b.syn.agg = true ∧ s.b.mirrorUp = true ∧ epoch ≠ 0 ∧ c = (s.b.unstage (if (s.b.port 130).state = 2 then 130 else 131) 0) ∧ l = ((c.que.mirror.filter (fun x => match x with | .stream a b d _ _ => !(a == ldi && b == epoch && d == stream) | _ => true)) ++ [.stream ldi epoch stream next acc])) ∧
    (∃ (s : State) (bytes : List Byte) (r : Rec) (seq : Nat) (port : Nat) (c : Block), s.b.syn.agg = true ∧ s.b.mirrorUp = true ∧ parseRec bytes = some (r, seq) ∧ port = (if (s.b.port 130).state = 2 then 130 else 131) ∧ c = (s.b.unstage port 0)) :=
  ⟨⟨(({ (die []).b with que := { (die []).b.que with keys := [{ ldi := 7, epoch := 4, stream := 2, acc := 5, next := 6 }] } })), { typ := 1, fmt := 1, epoch := 4, ldi := 7, sev := 0, stream := 2, phase := 0, wall := 0, bytes := [] }, [1], _, _, _, rfl, by decide, by decide, rfl, by decide, rfl⟩,
    ⟨(die []).b, { typ := 1 }, 7, by decide⟩,
    ⟨(die []).b, { typ := 0x60 }, 7, _, by decide, by decide, rfl⟩,
    ⟨(aggr [] (fun b => { b.setPort 130 { state := 2 } with que := { b.que with mirror := [.stream 7 4 2 1 1] } })), 7, 4, 2, 5, 3, _, _, by decide, by decide, by decide, rfl, rfl⟩,
    ⟨(aggr [] (fun b => b.setPort 130 { state := 2 })), (Rec.whole { typ := 1, fmt := 1, epoch := 4, ldi := 7, sev := 0, stream := 2, phase := 0, wall := 0, bytes := [] } 9), { typ := 1, fmt := 1, epoch := 4, ldi := 7, sev := 0, stream := 2, phase := 0, wall := 0, bytes := [] }, 9, _, _, by decide +kernel, by decide +kernel, by decide +kernel, rfl, rfl⟩⟩

theorem wit_AcceptAndRetransmit_1 :
    (∃ (s : State) (port epoch ldi : Nat) (gap : Bool) (es : List AcceptEntry) (u : Block), u = (s.b.unstage port 2) ∧ u.syn.agg = false ∧ epoch ≠ u.f F.SELF_EPOCH_EPOCH) ∧
    (∃ (s : State) (port epoch ldi : Nat) (gap : Bool) (es : List AcceptEntry) (u : Block), u = (s.b.unstage port 2) ∧ u.syn.agg = false ∧ u.on dQUEUE = true ∧ u.is F.SELF_LDI_BOUND = true ∧ epoch = u.f F.SELF_EPOCH_EPOCH ∧ ldi = u.f F.SELF_LDI_INDEX) ∧
    (∃ (b : Block) (e : AcceptEntry) (st : StreamSt) (top : Nat) (keep : Item → Bool) (qs : SMap QueSt), st = (b.que.streams.getD e.stream {}) ∧ top = ((e.seq + 1) % 2 ^ 48) ∧ before48 st.acc top = true ∧ keep = (fun i => !(i.body.stream == e.stream && (match i.seq with | some s => before48 s top | none => false))) ∧ qs = (b.que.queues.map (fun q => (q.1, { q.2 with items := q.2.items.filter keep })))) ∧
    (∃ (b : Block) (e : AcceptEntry), before48 (StreamSt.acc (b.que.streams.getD e.stream {})) ((e.seq + 1) % 2 ^ 48) = false) ∧
    (∃ (s : State) (port p epoch ldi : Nat) (gap : Bool) (es : List AcceptEntry) (u : Block), u = (s.b.unstage port 2) ∧ u.syn.agg = true ∧ u.fab.via.find ldi = some p ∧ p ≠ port) ∧
    (∃ (s : State) (ldi : Nat) (k : OwnKey) (c : Block), s.b.syn.agg = true ∧ s.b.on dQUEUE = true ∧ k.dueSince = some 0 ∧ s.b.ns (100 * s.b.f F.QUE_ACC_CFG_COALESCE) ≤ s.b.clk.core ∧ s.b.toReport ldi = [k] ∧ c = (s.b.setKey { k with reported := k.sure, dueSince := if k.sure = k.acc then none else some s.b.clk.core })) :=
  ⟨⟨(die []), 0, 5, 7, false, [], _, rfl, by decide, by decide⟩,
    ⟨(die [(F.SELF_LDI_BOUND.key, 1), (F.SELF_EPOCH_EPOCH.key, 5), (F.SELF_LDI_INDEX.key, 7)]), 0, 5, 7, false, [{ stream := 3, seq := 9 }], _, rfl, by decide, by decide, by decide, by decide, by decide⟩,
    ⟨(die []).b, { stream := 3, seq := 9 }, _, _, _, _, rfl, rfl, by decide, rfl, rfl⟩,
    ⟨(die []).b, { stream := 3, seq := 2 ^ 48 - 1 }, by decide⟩,
    ⟨(aggr [] (fun b => { b with fab := { b.fab with via := [(7, 4)] } })), 0, 4, 5, 7, false, [], _, rfl, by decide, by decide, by decide⟩,
    ⟨(aggr [(F.QUE_ACC_CFG_COALESCE.key, 0)] (fun b => { b with que := { b.que with keys := [{ ldi := 7, epoch := 4, stream := 2, acc := 5, next := 6, sure := 5, dueSince := some 0 }] } })), 7, { ldi := 7, epoch := 4, stream := 2, acc := 5, next := 6, sure := 5, dueSince := some 0 }, _, by decide, by decide, by decide, by decide, by decide, rfl⟩⟩

theorem wit_AcceptAndRetransmit_2 :
    (∃ (s : State) (ldi : Nat), s.b.syn.agg = true ∧ s.b.on dQUEUE = true ∧ s.b.toReport ldi = []) ∧
    (∃ (s : State) (stream : Nat) (mine : Item → Bool) (n : Nat) (qs : SMap QueSt), s.b.syn.agg = false ∧ s.b.on dQUEUE = true ∧ s.b.outstanding stream = true ∧ StreamSt.progress (s.b.que.streams.getD stream {}) + s.b.us (atLeast1 (s.b.f F.QUE_HOLD_CFG_RTO)) ≤ s.b.clk.core ∧ mine = (fun i => i.body.stream == stream && i.seq.isSome && i.sent) ∧ n = (s.b.que.queues.foldl (fun a q => a + (q.2.items.filter mine).length) 0) ∧ qs = (s.b.que.queues.map (fun q => (q.1, { q.2 with items := q.2.items.map (fun i => if mine i then { i with sent := false, off := 0, ctx := none } else i) })))) ∧
    (∃ (s : State) (stream : Nat), s.b.outstanding stream = false) ∧
    (∃ (epoch ldi : Nat) (gap : Bool) (es : List AcceptEntry), epoch < 2 ^ 16 ∧ ldi < 2 ^ 20 ∧ es ≠ [] ∧ es.length ≤ 23 ∧ es.all (fun e => decide (e.stream < 2 ^ 16) && decide (e.seq < 2 ^ 48)) = true) :=
  ⟨⟨(aggr []), 7, by decide, by decide, by decide⟩,
    ⟨(die [] (fun b => { b with clk := { b.clk with core := 90000000 }, que := { b.que with queues := [(1, { items := [{ body := { typ := 1, fmt := 1, epoch := 4, ldi := 7, sev := 0, stream := 2, phase := 0, wall := 0, bytes := [] }, seq := some 3, sent := true }] })] } })), 2, _, _, _, by decide, by decide, by decide, by decide, rfl, rfl, rfl⟩,
    ⟨(die []), 2, by decide⟩,
    ⟨65535, (2 ^ 20 - 1), true, [{ stream := 65535, seq := 2 ^ 48 - 1 }, { stream := 2, seq := 7 }], by decide, by decide, by decide, by decide, by decide⟩⟩

theorem wit_FlushAndPush_1 :
    (∃ (s : State) (q : Nat) (l : Loss) (k : Nat) (x : QueSt), k = (s.b.qnum q) ∧ x = (s.b.queue k) ∧ x.loss = some l ∧ s.b.takes k = true ∧ s.b.room k 88 l.sev = true) ∧
    (∃ (s : State) (m : Master) (q : Nat) (d : Block) (gone : List Item) (kept : List Item) (c : Block) (launched : List (Nat × Nat)), s.b.respCode m 0xA020 0xF true 1 = 0 ∧ q = (s.b.qnum (s.b.f F.QUE_SEL_QUEUE)) ∧ (s.b.queue q).flushing = false ∧ d = (((s.b.cutDrains).doomDrain q false).doomDrain q true) ∧ d.que.push = none ∧ gone = ((d.queue q).items.filter (fun i => i.seq.isNone)) ∧ kept = ((d.queue q).items.filter (fun i => i.seq.isSome)) ∧ c = ((d.setQueue q { d.queue q with items := kept, flushing := d.drainDoomed q false || d.drainDoomed q true }).count (F.QUE_DROPS_FLUSHED.ix q) gone.length) ∧ launched = (c.mon.launched.filter (fun l => !(gone.any (fun i => i.num == l.2))))) ∧
    (∃ (s : State) (q : Nat), (s.b.queue (s.b.qnum q)).flushing = true ∧ s.b.que.push = none ∧ s.b.drainDoomed (s.b.qnum q) false = false ∧ s.b.drainDoomed (s.b.qnum q) true = false) ∧
    (∃ (s : State) (m : Master) (word : Nat) (q : Nat) (len : Nat) (sev : Nat), s.b.respCode m 0xA034 0xF true word = 0 ∧ word % 8 = 1 ∧ s.b.que.push = none ∧ q = (s.b.qnum (s.b.f F.QUE_SEL_QUEUE)) ∧ len = (bits word 16 16) ∧ sev = (bits word 5 3) ∧ s.b.takes q = true ∧ 4 * (12 + 2 * len) ≤ s.b.capacity q ∧ s.b.holdRoom s.b.holdUsed (4 * (12 + 2 * len)) sev = true ∧ s.b.room q (4 * (12 + 2 * len)) sev = true) ∧
    (∃ (s : State) (m : Master) (word : Nat) (q : Nat), s.b.respCode m 0xA034 0xF true word = 0 ∧ word % 8 = 1 ∧ s.b.que.push = none ∧ q = (s.b.qnum (s.b.f F.QUE_SEL_QUEUE)) ∧ s.b.takes q = false) ∧
    (∃ (s : State) (m : Master) (word : Nat), s.b.respCode m 0xA034 0xF true word = 0 ∧ word % 8 ≠ 0 ∧ word % 8 ≠ 1 ∧ word % 8 ≠ 2 ∧ word % 8 ≠ 4) :=
  ⟨⟨(die [(F.QUE_CTRL_EN.key, 1), ((F.QUE_CFG_EN.ix 3).key, 1), ((F.QUE_SIZE_KIB.ix 3).key, 1)] (fun b => { b with que := { b.que with queues := [(3, { loss := some { items := 1, bytes := 56, first := 0, last := 0, sev := 2 } })] } })), 3, { items := 1, bytes := 56, first := 0, last := 0, sev := 2 }, _, _, rfl, rfl, by decide, by decide, by decide⟩,
    ⟨(die [(F.QUE_SEL_QUEUE.key, 3)]), .mgmt, _, _, _, _, _, _, by decide, rfl, by decide, rfl, by decide, rfl, rfl, rfl, rfl⟩,
    ⟨(die [] (fun b => b.setQueue 3 { flushing := true })), 3, by decide, by decide, by decide, by decide⟩,
    ⟨(die [(F.QUE_SEL_QUEUE.key, 3), (F.QUE_CTRL_EN.key, 1), ((F.QUE_CFG_EN.ix 3).key, 1), ((F.QUE_SIZE_KIB.ix 3).key, 1)]), .mgmt, 0x20001, _, _, _, by decide, by decide, by decide, rfl, rfl, rfl, by decide, by decide, by decide, by decide⟩,
    ⟨(die [(F.QUE_SEL_QUEUE.key, 3)]), .mgmt, 0x20001, _, by decide, by decide, by decide, rfl, by decide⟩,
    ⟨(die []), .mgmt, 0x20003, by decide, by decide, by decide, by decide, by decide⟩⟩

theorem wit_FlushAndPush_2 :
    (∃ (s : State) (m : Master) (word : Nat) (p : Push), s.b.respCode m 0xA030 0xF true word = 0 ∧ s.b.que.push = some p ∧ p.waiting = false) ∧
    (∃ (s : State) (m : Master) (word : Nat), s.b.respCode m 0xA030 0xF true word = 0 ∧ s.b.que.push = none) ∧
    (∃ (s : State) (m : Master) (p : Push) (r : Rec) (c : Block), s.b.respCode m 0xA034 0xF true 2 = 0 ∧ s.b.que.push = some p ∧ p.waiting = false ∧ p.doomed = false ∧ c = ({ s.b with que := { s.b.que with push := none } }) ∧ c.pushRec p = some r) ∧
    (∃ (s : State) (m : Master) (p : Push) (c : Block), s.b.respCode m 0xA034 0xF true 2 = 0 ∧ s.b.que.push = some p ∧ p.waiting = false ∧ p.doomed = false ∧ c = ({ s.b with que := { s.b.que with push := none } }) ∧ p.words.length ≠ 12 + 2 * p.len) ∧
    (∃ (s : State) (m : Master) (p : Push), s.b.respCode m 0xA034 0xF true 4 = 0 ∧ s.b.que.push = some p ∧ p.waiting = true) ∧
    (∃ (s : State) (m : Master) (p : Push) (c : Block), s.b.respCode m 0xA034 0xF true 4 = 0 ∧ s.b.que.push = some p ∧ p.waiting = false ∧ c = ({ s.b with que := { s.b.que with push := none } })) :=
  ⟨⟨(die [] (fun b => { b with que := { b.que with push := some { queue := 3, len := 2, sev := 1 } } })), .mgmt, 7, { queue := 3, len := 2, sev := 1 }, by decide, by decide, by decide⟩,
    ⟨(die []), .mgmt, 7, by decide, by decide⟩,
    ⟨(die [] (fun b => { b with que := { b.que with push := some { queue := 3, len := 0, sev := 0, words := [0xE0, 0, 0, 0, 0, 0, 0, 0, 0, 0, 0, 0] } } })), .mgmt, { queue := 3, len := 0, sev := 0, words := [0xE0, 0, 0, 0, 0, 0, 0, 0, 0, 0, 0, 0] }, { typ := 0xE0, fmt := 0, epoch := 0, ldi := 0, sev := 0, stream := 0, phase := 0, wall := 0, bytes := [] }, _, by decide, by decide, by decide, by decide, rfl, by decide⟩,
    ⟨(die [] (fun b => { b with que := { b.que with push := some { queue := 3, len := 2, sev := 1 } } })), .mgmt, { queue := 3, len := 2, sev := 1 }, _, by decide, by decide, by decide, by decide, rfl, by decide⟩,
    ⟨(die [] (fun b => { b with que := { b.que with push := some { queue := 3, len := 2, sev := 1, waiting := true } } })), .mgmt, { queue := 3, len := 2, sev := 1, waiting := true }, by decide, by decide, by decide⟩,
    ⟨(die [] (fun b => { b with que := { b.que with push := some { queue := 3, len := 2, sev := 1 } } })), .mgmt, { queue := 3, len := 2, sev := 1 }, _, by decide, by decide, by decide, rfl⟩⟩

theorem wit_FlushAndPush_3 :
    (∃ (s : State) (p : Push), s.b.que.push = some p ∧ p.waiting = true ∧ s.b.takes p.queue = true ∧ s.b.room p.queue (4 * (12 + 2 * p.len)) p.sev = true) ∧
    (∃ (s : State) (p : Push) (c : Block), s.b.que.push = some p ∧ p.waiting = true ∧ s.b.takes p.queue = false ∧ c = ({ s.b with que := { s.b.que with push := none } })) :=
  ⟨⟨(die [(F.QUE_CTRL_EN.key, 1), ((F.QUE_CFG_EN.ix 3).key, 1), ((F.QUE_SIZE_KIB.ix 3).key, 1)] (fun b => { b with que := { b.que with push := some { queue := 3, len := 2, sev := 1, waiting := true } } })), { queue := 3, len := 2, sev := 1, waiting := true }, by decide, by decide, by decide, by decide⟩,
    ⟨(die [] (fun b => { b with que := { b.que with push := some { queue := 3, len := 2, sev := 1, waiting := true } } })), { queue := 3, len := 2, sev := 1, waiting := true }, _, by decide, by decide, by decide, rfl⟩⟩

theorem wit_RecoveryAndRehearsal_1 :
    (∃ (s : State) (key : Nat) (m : MirrorUpd) (ldi epoch stream seq : Nat) (bytes : List Byte) (c : Block) (k : OwnKey) (held : List Held), s.b.syn.agg = true ∧ s.b.on dQUEUE = true ∧ s.b.que.mirrorOut.find? (fun x => x.num == key) = some m ∧ m.upd = .record ldi epoch stream seq bytes ∧ c = ({ s.b with que := { s.b.que with mirrorOut := s.b.que.mirrorOut.filter (fun x => x.num != key) } }) ∧ k = (c.key ldi epoch stream) ∧ held = (k.held.map (fun h => if h.seq = seq then { h with mirrored := true } else h))) ∧
    (∃ (s : State) (key : Nat), s.b.syn.agg = true ∧ s.b.on dQUEUE = true ∧ s.b.que.mirrorOut.find? (fun x => x.num == key) = none ∧ (s.b.procOf 4 0).isSome = false) ∧
    (∃ (s : State) (p : Proc), s.b.on dQUEUE = true ∧ s.b.que.procs = [p] ∧ p.stalled = false ∧ p.renewed + s.b.takeoverTime / 4 ≤ s.b.clk.core) ∧
    (∃ (s : State) (who : Nat) (p : Proc) (p2 : Proc) (remote : List Proc) (c : Block) (d : Block), s.b.syn.agg = true ∧ s.b.on dQUEUE = true ∧ s.b.que.remote.find? (fun x => decide (x.renewed + s.b.takeoverTime ≤ s.b.clk.core)) = some p ∧ p2 = ({ p with ctrl := who % 4, repoch := (p.repoch + 1) % 65536, renewed := s.b.clk.core, stalled := false }) ∧ remote = (s.b.que.remote.filter (fun x => !(x.proc == p.proc && x.ldi == p.ldi))) ∧ c = (({ s.b with que := { s.b.que with remote := remote } }).raiseCtr (2032 + p.proc) p2.repoch) ∧ d = (c.raise Ev.QUE_REC_TAKEOVER [(p.proc, 8), (p2.repoch, 16)]) ∧ d.vsbOn = true) ∧
    (∃ (s : State) (who : Nat) (p : Proc) (p2 : Proc) (remote : List Proc) (c : Block) (d : Block), s.b.syn.agg = true ∧ s.b.on dQUEUE = true ∧ s.b.que.remote.find? (fun x => decide (x.renewed + s.b.takeoverTime ≤ s.b.clk.core)) = some p ∧ p2 = ({ p with ctrl := who % 4, repoch := (p.repoch + 1) % 65536, renewed := s.b.clk.core, stalled := false }) ∧ remote = (s.b.que.remote.filter (fun x => !(x.proc == p.proc && x.ldi == p.ldi))) ∧ c = (({ s.b with que := { s.b.que with remote := remote } }).raiseCtr (2032 + p.proc) p2.repoch) ∧ d = (c.raise Ev.QUE_REC_TAKEOVER [(p.proc, 8), (p2.repoch, 16)]) ∧ d.vsbOn = false) ∧
    (∃ (s : State) (who : Nat), s.b.que.remote = []) :=
  ⟨⟨(aggr [] (fun b => { b with que := { b.que with mirrorOut := [{ upd := .record 7 4 2 0 [], num := 3 }] } })), 3, { upd := .record 7 4 2 0 [], num := 3 }, 7, 4, 2, 0, [], _, _, _, by decide, by decide, by decide, by decide, rfl, rfl, rfl⟩,
    ⟨(aggr []), 3, by decide, by decide, by decide, by decide⟩,
    ⟨(aggr [] (fun b => { b with clk := { b.clk with core := 90000000 }, que := { b.que with procs := [{ proc := 1, ldi := 7 }] } })), { proc := 1, ldi := 7 }, by decide, by decide, by decide, by decide⟩,
    ⟨(aggr [] (fun b => { b with clk := { b.clk with core := 90000000 }, que := { b.que with remote := [{ proc := 5, ldi := 7, repoch := 2 }] } })), 1, { proc := 5, ldi := 7, repoch := 2 }, _, _, _, _, by decide, by decide, by decide, rfl, rfl, rfl, rfl, by decide⟩,
    ⟨(aggr [(F.STW_VSB_CFG_EN.key, 0)] (fun b => { b with clk := { b.clk with core := 90000000 }, que := { b.que with remote := [{ proc := 5, ldi := 7, repoch := 2 }] } })), 1, { proc := 5, ldi := 7, repoch := 2 }, _, _, _, _, by decide, by decide, by decide, rfl, rfl, rfl, rfl, by decide⟩,
    ⟨(aggr []), 1, by decide⟩⟩

theorem wit_RecoveryAndRehearsal_2 :
    (∃ (s : State) (m : Master) (word : Nat) (c : Block) (n : Nat) (at_ : Nat), s.b.respCode m 0xA084 0xF true word = 0 ∧ bit word 4 = 1 ∧ c = (s.b.writeFields 0xA084 word) ∧ n = (c.f F.QUE_INJ_SEL_SLOT) ∧ at_ = (c.f (F.QUE_INJ_AT_LO_AT.ix n) + 2 ^ 32 * c.f (F.QUE_INJ_AT_HI_AT.ix n))) ∧
    (∃ (s : State) (slot : Nat), s.b.injDue (slot % 8) = false) ∧
    (∃ (s : State) (slot : Nat) (n : Nat) (c : Block), n = (slot % 8) ∧ s.b.injDue n = true ∧ s.b.on dQUEUE = true ∧ s.b.f (F.QUE_INJ_CFG_PERIOD.ix n) = 0 ∧ c = ({ s.b with que := { s.b.que with injArmed := s.b.que.injArmed.del n, injRepeat := s.b.que.injRepeat.del n } }) ∧ c.injRefused = true ∧ 1 ≤ s.b.f (F.QUE_INJ_CFG_KIND.ix n) ∧ s.b.f (F.QUE_INJ_CFG_KIND.ix n) ≤ 5) ∧
    (∃ (s : State) (slot : Nat) (n : Nat) (c : Block) (k : Nat) (at_ : Nat) (d : Block), n = (slot % 8) ∧ s.b.injDue n = true ∧ s.b.on dQUEUE = true ∧ s.b.f (F.QUE_INJ_CFG_PERIOD.ix n) = 0 ∧ c = ({ s.b with que := { s.b.que with injArmed := s.b.que.injArmed.del n, injRepeat := s.b.que.injRepeat.del n } }) ∧ c.injRefused = false ∧ k = (s.b.f (F.QUE_INJ_CFG_KIND.ix n)) ∧ 1 ≤ k ∧ k ≤ 5 ∧ at_ = (c.f (F.QUE_INJ_CFG_TARGET.ix n)) ∧ d = ({ c with que := { c.que with inj := some { slot := n, kind := k, start := c.clk.core, target := at_ } } })) ∧
    (∃ (s : State) (slot : Nat) (i : Inj) (us : Nat) (c : Block), s.b.que.inj = some i ∧ i.slot = slot ∧ s.b.injOver i = true ∧ us = ((s.b.clk.core - i.start) / s.b.syn.coreMHz) ∧ c = ({ s.b with que := { s.b.que with inj := none, muteUntil := none } })) :=
  ⟨⟨(die [(F.QUE_INJ_SEL_SLOT.key, 3), (F.SEC_BASE_RIGHTS.key, 4)]), .mgmt, 0x11, _, _, _, by decide, by decide, rfl, rfl, rfl⟩,
    ⟨(die []), 3, by decide⟩,
    ⟨(aggr [((F.QUE_INJ_CFG_KIND.ix 3).key, 2), ((F.QUE_INJ_CFG_TRIG.ix 3).key, 1)] (fun b => { b with que := { b.que with injArmed := [(3, 0)] } })), 3, _, _, rfl, by decide, by decide, by decide, rfl, by decide, by decide, by decide⟩,
    ⟨(die [((F.QUE_INJ_CFG_KIND.ix 3).key, 2)] (fun b => { b with que := { b.que with injArmed := [(3, 0)] } })), 3, _, _, _, _, _, rfl, by decide, by decide, by decide, rfl, by decide, rfl, by decide, by decide, rfl, rfl⟩,
    ⟨(die [] (fun b => { b with que := { b.que with inj := some { slot := 3, kind := 1, start := 0, target := 7 } } })), 3, { slot := 3, kind := 1, start := 0, target := 7 }, _, _, by decide, by decide, by decide, rfl, rfl⟩⟩

theorem wit_SwarmMessages_1 :
    (∃ (s : State) (port : Nat) (p : Partial) (u : Block), s.b.syn.agg = true ∧ u = (s.b.unstage port 1) ∧ u.swarmOn = true ∧ u.swm.refused.contains p.tag = false ∧ u.swm.freed.contains p.tag = true) ∧
    (∃ (s : State) (port : Nat) (p : Partial) (t : Txn) (u : Block), s.b.syn.agg = true ∧ u = (s.b.unstage port 1) ∧ u.swarmOn = true ∧ u.swm.refused.contains p.tag = false ∧ u.swm.freed.contains p.tag = false ∧ u.txn p.tag = some t ∧ t.ghost = false ∧ t.state = 0 ∧ wallBeyond u.wall t.w (u.cutAfter t) = false ∧ t.expect.contains p.child = false) ∧
    (∃ (s : State) (port : Nat) (p : Partial) (t : Txn) (u : Block), s.b.syn.agg = true ∧ u = (s.b.unstage port 1) ∧ u.swarmOn = true ∧ u.swm.refused.contains p.tag = false ∧ u.swm.freed.contains p.tag = false ∧ u.txn p.tag = some t ∧ t.ghost = false ∧ t.state = 0 ∧ wallBeyond u.wall t.w (u.cutAfter t) = false ∧ t.expect.contains p.child = true ∧ t.heard.contains p.child = false ∧ p.sound = true) ∧
    (∃ (s : State) (port : Nat) (p : Partial) (t : Txn) (u : Block), s.b.syn.agg = true ∧ u = (s.b.unstage port 1) ∧ u.swarmOn = true ∧ u.swm.refused.contains p.tag = false ∧ u.swm.freed.contains p.tag = false ∧ u.txn p.tag = some t ∧ t.ghost = false ∧ t.state = 0 ∧ wallBeyond u.wall t.w (u.cutAfter t) = false ∧ t.expect.contains p.child = true ∧ t.heard.contains p.child = false ∧ p.sound = false ∧ t.resent.contains p.child = false) ∧
    (∃ (s : State) (tag : Nat) (t : Txn), s.b.txn tag = some t ∧ s.b.swarmOn = true ∧ t.state = 0 ∧ wallPast s.b.wall t.w (s.b.cutAfter t) = true) ∧
    (∃ (s : State) (tag : Nat), s.b.txn tag = none) :=
  ⟨⟨(aggr [(F.SWM_CTRL_EN.key, 1), (F.ROLE_STATUS_ROLE.key, 1)] (fun b => { b with swm := { b.swm with freed := [9] } })), 3, { tag := 9, child := 4, w := 0 }, _, by decide, rfl, by decide, by decide, by decide⟩,
    ⟨(aggr [(F.SWM_CTRL_EN.key, 1), (F.ROLE_STATUS_ROLE.key, 1)] (fun b => { b with swm := { b.swm with txns := [{ tag := 9, w := 0, colls := [], expect := [5] }] } })), 3, { tag := 9, child := 4, w := 0 }, { tag := 9, w := 0, colls := [], expect := [5] }, _, by decide, rfl, by decide, by decide, by decide, by decide, by decide, by decide, by decide, by decide⟩,
    ⟨(aggr [(F.SWM_CTRL_EN.key, 1), (F.ROLE_STATUS_ROLE.key, 1)] (fun b => { b with swm := { b.swm with txns := [{ tag := 9, w := 0, colls := [], expect := [4] }] } })), 3, { tag := 9, child := 4, w := 0 }, { tag := 9, w := 0, colls := [], expect := [4] }, _, by decide, rfl, by decide, by decide, by decide, by decide, by decide, by decide, by decide, by decide, by decide, by decide⟩,
    ⟨(aggr [(F.SWM_CTRL_EN.key, 1), (F.ROLE_STATUS_ROLE.key, 1)] (fun b => { b with swm := { b.swm with txns := [{ tag := 9, w := 0, colls := [], expect := [4] }] } })), 3, { tag := 9, child := 4, w := 0, cols := [{ elems := [.acc { res := 1 }] }] }, { tag := 9, w := 0, colls := [], expect := [4] }, _, by decide, rfl, by decide, by decide, by decide, by decide, by decide, by decide, by decide, by decide, by decide, by decide, by decide⟩,
    ⟨(aggr [(F.SWM_CTRL_EN.key, 1), (F.ROLE_STATUS_ROLE.key, 1)] (fun b => { b with ant := { b.ant with fine := 2 ^ 90 }, swm := { b.swm with txns := [{ tag := 9, w := 0, colls := [], expect := [4] }] } })), 9, { tag := 9, w := 0, colls := [], expect := [4] }, by decide, by decide, by decide, by decide⟩,
    ⟨(aggr []), 9, by decide⟩⟩

theorem wit_SwarmMessages_2 :
    (∃ (s : State) (port tag code : Nat) (t : Txn) (u : Block), s.b.on dSWARM = true ∧ u = (s.b.unstage port 2) ∧ u.syn.agg = true ∧ u.swm.freed.contains tag = false ∧ u.txn tag = some t) ∧
    (∃ (s : State) (port tag code : Nat) (u : Block) (mine : List OpenTag), s.b.on dSWARM = true ∧ u = (s.b.unstage port 2) ∧ u.syn.agg = false ∧ u.swm.freed.contains tag = false ∧ mine = (u.swm.mine.filter (fun o => o.tag != tag))) ∧
    (∃ (s : State) (port tag code : Nat) (u : Block), s.b.on dSWARM = true ∧ u = (s.b.unstage port 2) ∧ u.swm.freed.contains tag = true) ∧
    (∃ (s : State) (tag : Nat) (t : Txn), s.b.on dSWARM = true ∧ s.b.txn tag = some t ∧ wallPast s.b.wall t.w (s.b.graceAfter t.deadline) = true) ∧
    (∃ (s : State) (port tag : Nat) (t : Txn) (p : Partial) (u : Block), u = (s.b.unstage port 2) ∧ u.on dSWARM = true ∧ u.txn tag = some t ∧ t.sent = some p) ∧
    (∃ (s : State) (port tag w : Nat) (l : List Coll) (u : Block) (c : Block), u = (s.b.unstage port 2) ∧ u.swarmOn = true ∧ u.tagBatch tag = some l ∧ u.syn.agg = true ∧ u.newTag tag = true ∧ (u.isRoot = true ∨ u.expected l ≠ []) ∧ u.entryFree (tagSw tag) = true ∧ c = ({ u with swm := { u.swm with txns := u.swm.txns ++ [{ tag := tag, w := w, colls := l, expect := u.expected l }] } })) :=
  ⟨⟨(aggr [] (fun b => { b with swm := { b.swm with txns := [{ tag := 9, w := 0, colls := [], expect := [4] }] } })), 3, 9, 1, { tag := 9, w := 0, colls := [], expect := [4] }, _, by decide, rfl, by decide, by decide, by decide⟩,
    ⟨(die [] (fun b => { b with swm := { b.swm with mine := [{ tag := 9, w := 0, deadline := 1000 }] } })), 0, 9, 1, _, _, by decide, rfl, by decide, by decide, rfl⟩,
    ⟨(aggr [] (fun b => { b with swm := { b.swm with freed := [9] } })), 3, 9, 1, _, by decide, rfl, by decide⟩,
    ⟨(aggr [] (fun b => { b with ant := { b.ant with fine := 2 ^ 90 }, swm := { b.swm with txns := [{ tag := 9, w := 0, colls := [], expect := [4] }] } })), 9, { tag := 9, w := 0, colls := [], expect := [4] }, by decide, by decide, by decide⟩,
    ⟨(aggr [] (fun b => { b with swm := { b.swm with txns := [{ tag := 9, w := 0, colls := [], expect := [4], sent := some { tag := 9, child := 4, w := 0 } }] } })), 3, 9, { tag := 9, w := 0, colls := [], expect := [4], sent := some { tag := 9, child := 4, w := 0 } }, { tag := 9, child := 4, w := 0 }, _, rfl, by decide, by decide, by decide⟩,
    ⟨(aggr [(F.SWM_CTRL_EN.key, 1), (F.ROLE_STATUS_ROLE.key, 1), ((F.SWM_COLL_CFG_EN.ix 3).key, 1), ((F.SWM_COLL_CFG_SW.ix 3).key, 1), (F.SWM_TXN_LIMIT_LIMIT.key, 9)] (fun b => { b with fab := { b.fab with actingRoot := true, topo := { b.fab.topo with isRoot := true } } })), 128, (swTag true 3 1 0), 0, [(aggr [((F.SWM_COLL_CFG_EN.ix 3).key, 1), ((F.SWM_COLL_CFG_SW.ix 3).key, 1)]).b.coll 3], _, _, rfl, by decide, by decide, by decide, by decide, .inl (by decide), by decide, rfl⟩⟩

theorem wit_SwarmMessages_3 :
    (∃ (s : State) (port tag w : Nat) (l : List Coll) (u : Block), u = (s.b.unstage port 2) ∧ u.swarmOn = true ∧ u.tagBatch tag = some l ∧ u.syn.agg = false ∧ tagSw tag = true ∧ u.is F.SELF_LDI_BOUND = true ∧ l.all (fun x => u.inGroup x.group u.selfLdi) = true ∧ u.newTag tag = true ∧ u.swm.mine.any (fun o => o.tag == tag) = false) ∧
    (∃ (s : State) (port tag w : Nat) (u : Block), u = (s.b.unstage port 2) ∧ u.swarmOn = true ∧ u.syn.agg = true ∧ u.tagBatch tag = none) :=
  ⟨⟨(die [(F.SWM_CTRL_EN.key, 1), (F.ROLE_STATUS_ROLE.key, 1), ((F.SWM_COLL_CFG_EN.ix 3).key, 1), ((F.SWM_COLL_CFG_SW.ix 3).key, 1), (F.SELF_LDI_BOUND.key, 1), (F.SELF_LDI_INDEX.key, 7)] (fun b => { b with fab := { b.fab with topo := { b.fab.topo with groups := [[(7, 7)]] } } })), 0, (swTag true 3 1 0), 0, [(die [((F.SWM_COLL_CFG_EN.ix 3).key, 1), ((F.SWM_COLL_CFG_SW.ix 3).key, 1)]).b.coll 3], _, rfl, by decide, by decide, by decide, by decide, by decide, by decide, by decide, by decide⟩,
    ⟨(aggr [(F.SWM_CTRL_EN.key, 1), (F.ROLE_STATUS_ROLE.key, 1)]), 128, 9, 0, _, rfl, by decide, by decide, by decide⟩⟩

theorem wit_SwarmCommands_1 :
    (∃ (s : State) (tag : Nat) (t : Txn), s.b.txn tag = some t ∧ s.b.swarmOn = true ∧ t.state = 1 ∧ s.b.freeLanes ≠ [] ∧ t.first = none) ∧
    (∃ (s : State) (tag lane op fmt ex ob : Nat) (t : Txn), s.b.txn tag = some t ∧ s.b.swarmOn = true ∧ t.state = 1 ∧ t.first = none ∧ s.b.freeLanes.filter (fun l => l != lane) ≠ [] ∧ s.b.freeLanes ≠ [] ∧ resEq ex ob = false) ∧
    (∃ (s : State) (tag lane op fmt ex ob : Nat) (t : Txn), s.b.txn tag = some t ∧ s.b.swarmOn = true ∧ t.state = 1 ∧ t.first = none ∧ s.b.freeLanes.filter (fun l => l != lane) ≠ [] ∧ s.b.freeLanes ≠ [] ∧ resEq ex ob = true) ∧
    (∃ (s : State) (tag : Nat), s.b.txn tag = none) ∧
    (∃ (s : State) (m : Master) (word : Nat) (c : Block) (n : Nat), s.b.respCode m 0x5050 0xF true word = 0 ∧ c = (s.b.writeFields 0x5050 word) ∧ c.swarmOn = true ∧ c.isRoot = true ∧ c.is (F.SWM_COLL_CFG_EN.ix (word % 4096)) = true ∧ c.is (F.SWM_COLL_CFG_SW.ix (word % 4096)) = true ∧ n = ((c.swm.launches + 1) % 2 ^ 40)) ∧
    (∃ (s : State) (m : Master) (word : Nat) (c : Block), s.b.respCode m 0x5050 0xF true word = 0 ∧ c = (s.b.writeFields 0x5050 word) ∧ c.isRoot = false) :=
  ⟨⟨(aggr [(F.SWM_CTRL_EN.key, 1), (F.ROLE_STATUS_ROLE.key, 1)] (fun b => { b with swm := { b.swm with txns := [{ tag := 9, w := 0, colls := [], expect := [4], state := 1 }] } })), 9, { tag := 9, w := 0, colls := [], expect := [4], state := 1 }, by decide, by decide, by decide, by decide, by decide⟩,
    ⟨(aggr [(F.SWM_CTRL_EN.key, 1), (F.ROLE_STATUS_ROLE.key, 1)] (fun b => { b with swm := { b.swm with txns := [{ tag := 9, w := 0, colls := [], expect := [4], state := 1 }] } })), 9, 3, 3, 1, 5, 6, { tag := 9, w := 0, colls := [], expect := [4], state := 1 }, by decide, by decide, by decide, by decide, by decide, by decide, by decide⟩,
    ⟨(aggr [(F.SWM_CTRL_EN.key, 1), (F.ROLE_STATUS_ROLE.key, 1)] (fun b => { b with swm := { b.swm with txns := [{ tag := 9, w := 0, colls := [], expect := [4], state := 1 }] } })), 9, 3, 3, 1, 5, 5, { tag := 9, w := 0, colls := [], expect := [4], state := 1 }, by decide, by decide, by decide, by decide, by decide, by decide, by decide⟩,
    ⟨(aggr []), 9, by decide⟩,
    ⟨(aggr [(F.SWM_CTRL_EN.key, 1), (F.ROLE_STATUS_ROLE.key, 1), ((F.SWM_COLL_CFG_EN.ix 3).key, 1), ((F.SWM_COLL_CFG_SW.ix 3).key, 1)] (fun b => { b with fab := { b.fab with actingRoot := true, topo := { b.fab.topo with isRoot := true } } })), .mgmt, 0x1003, _, _, by decide, rfl, by decide, by decide, by decide, by decide, rfl⟩,
    ⟨(die [(F.SWM_CTRL_EN.key, 1), (F.ROLE_STATUS_ROLE.key, 1)]), .mgmt, 0x1003, _, by decide, rfl, by decide⟩⟩

theorem wit_SwarmCommands_2 :
    (∃ (s : State) (m : Master) (word : Nat) (c : Block), s.b.respCode m 0x5050 0xF true word = 0 ∧ c = (s.b.writeFields 0x5050 word) ∧ c.swarmOn = true ∧ c.isRoot = true) ∧
    (∃ (s : State) (m : Master) (word : Nat) (c : Block), s.b.respCode m 0x5050 0xF true word = 0 ∧ c = (s.b.writeFields 0x5050 word)) ∧
    (∃ (s : State) (m : Master) (k word : Nat) (off : Nat) (c : Block), off = (0x5100 + 4 * (k % 8)) ∧ s.b.respCode m off 0xF true word = 0 ∧ c = (s.b.writeFields off word) ∧ c.freeLanes ≠ []) ∧
    (∃ (s : State) (m : Master), s.b.respCode m 0x5010 0xF false 0 = 0) :=
  ⟨⟨(aggr [(F.SWM_CTRL_EN.key, 1), (F.ROLE_STATUS_ROLE.key, 1)] (fun b => { b with fab := { b.fab with actingRoot := true, topo := { b.fab.topo with isRoot := true } } })), .mgmt, 0x2003, _, by decide, rfl, by decide, by decide⟩,
    ⟨(aggr []), .mgmt, 0x4003, _, by decide, rfl⟩,
    ⟨(aggr []), .mgmt, 2, 0xFF, _, _, rfl, by decide, rfl, by decide⟩,
    ⟨(die []), .mgmt, by decide⟩⟩

theorem wit_HawkmothPasses_1 :
    (∃ (s : State) (ens : Nat) (t : Nat × Nat × Nat) (hwk : Hwk), s.b.hwk.triggers.find? (fun x => x.1 == ens && decide (x.2.1 ≤ s.b.clk.core)) = some t ∧ s.b.on dHAWK = true ∧ s.b.hwk.queue.length < 8 ∧ hwk = ({ s.b.hwk with triggers := s.b.hwk.triggers.erase t, queue := s.b.hwk.queue ++ [{ ens := ens, phase := t.2.2, wall := s.b.wall }] })) ∧
    (∃ (s : State) (ens : Nat), s.b.hwk.triggers = []) ∧
    (∃ (s : State) (q : PassReq) (l : List PassReq) (c : Block) (r : List (Nat × Row) × Block) (x : List (Nat × Row) × Block) (b : Block), s.b.hwk.queue = q :: l ∧ s.b.on dHAWK = true ∧ s.b.is F.HWK_CTRL_EN = true ∧ s.b.hwk.pass = none ∧ s.b.hwk.swap = none ∧ s.b.hwk.active.isSome = true ∧ c = ({ s.b with hwk := { s.b.hwk with queue := l } }) ∧ r = (c.copyBatch q.ens 0) ∧ x = (r.2.copyBatch q.ens r.1.length) ∧ b = (x.2.readAhead q.ens (r.1.length + x.1.length)) ∧ b.freeTiles ≠ []) ∧
    (∃ (s : State), s.b.hwk.queue = []) ∧
    (∃ (s : State) (faults : List TreeFault), s.b.hwk.pass = none) ∧
    (∃ (s : State) (p : Pass) (m : Model) (e : Ens) (ss : List Score) (r : List (Nat × Row) × Block) (b : Block), s.b.hwk.pass = some p ∧ s.b.hwk.active = some m ∧ s.b.on dHAWK = true ∧ p.batch ≠ [] ∧ s.b.freeTiles ≠ [] ∧ s.b.hwk.lost = false ∧ e = (m.ensemble p.req.ens) ∧ ss = (p.batch.zipIdx.map (fun v => scoreRow m e v.1.1 v.1.2 (s.b.lostOuts e [] v.2))) ∧ r = (s.b.copyBatch p.req.ens p.next) ∧ b = (r.2.readAhead p.req.ens (p.next + r.1.length))) :=
  ⟨⟨(aggr [] (fun b => { b with hwk := { b.hwk with triggers := [(2, 0, 7)] } })), 2, (2, 0, 7), _, by decide, by decide, by decide, rfl⟩,
    ⟨(aggr []), 2, by decide⟩,
    ⟨(aggr [(F.HWK_CTRL_EN.key, 1)] (fun b => { b with hwk := { b.hwk with queue := [{ ens := 2, phase := 3, wall := 0 }], active := some { featfmt := [], ens := [] } } })), { ens := 2, phase := 3, wall := 0 }, [], _, _, _, _, by decide, by decide, by decide, by decide, by decide, by decide, rfl, rfl, rfl, rfl, by decide⟩,
    ⟨(aggr []), by decide⟩,
    ⟨(aggr []), [], by decide⟩,
    ⟨(aggr [] (fun b => { b with hwk := { b.hwk with pass := some { req := { ens := 2, phase := 3, wall := 0 }, batch := [(0, {})], next := 1 }, active := some { featfmt := [], ens := [] } } })), { req := { ens := 2, phase := 3, wall := 0 }, batch := [(0, {})], next := 1 }, { featfmt := [], ens := [] }, _, _, _, _, by decide, by decide, by decide, by decide, by decide, by decide, rfl, rfl, rfl, rfl⟩⟩

theorem wit_HawkmothPasses_2 :
    (∃ (s : State) (p : Pass) (c : Block), s.b.hwk.pass = some p ∧ s.b.on dHAWK = true ∧ p.batch = [] ∧ s.b.ensCount p.req.ens ≤ p.done.length ∧ s.b.is (F.HWK_ENS_CFG_EMIT.ix p.req.ens) = false ∧ c = ({ s.b with hwk := { s.b.hwk with pass := none, copying := s.b.hwk.swap.isSome } })) ∧
    (∃ (s : State) (m : Model) (c : Block), s.b.on dHAWK = true ∧ s.b.hwk.swap = some m ∧ s.b.hwk.copying = true ∧ c = ({ s.b with hwk := { s.b.hwk with badTrees := [], active := some m, swap := none, copying := false } })) ∧
    (∃ (s : State) (m : Master) (word : Nat), s.b.respCode m 0x6010 0xF true word = 0 ∧ s.b.hwk.pass = none) ∧
    (∃ (s : State) (faults : List TreeFault), s.b.hwk.lpass = none) ∧
    (∃ (s : State) (phase wall : Nat) (r : Row) (m : Model) (sc : Score), s.b.hwk.lpass = some (phase, wall, r) ∧ s.b.hwk.lmodel = some m ∧ s.b.on dHAWK = true ∧ s.b.freeTiles ≠ [] ∧ s.b.hwk.lost = false ∧ sc = (scoreLocal m (m.ensemble 0) r (s.b.lostOuts (m.ensemble 0) [] 0)) ∧ hits ((sc.outs.head?.map (fun o => o.1)).getD 0) (s.b.f F.HWK_LOCAL_TH_TH) = false ∧ s.b.hwk.hold = 0 ∧ s.b.is F.HWK_LOCAL_CFG_EMIT = false) ∧
    (∃ (s : State) (phase wall : Nat) (r : Row) (m : Model) (sc : Score) (c : Block) (h : Block) (nf : Nat) (e : Block), s.b.hwk.lpass = some (phase, wall, r) ∧ s.b.hwk.lmodel = some m ∧ s.b.on dHAWK = true ∧ s.b.freeTiles ≠ [] ∧ s.b.hwk.lost = false ∧ sc = (scoreLocal m (m.ensemble 0) r (s.b.lostOuts (m.ensemble 0) [] 0)) ∧ (s.b.lostOuts (m.ensemble 0) [] 0).contains 0 = false ∧ hits ((sc.outs.head?.map (fun o => o.1)).getD 0) (s.b.f F.HWK_LOCAL_TH_TH) = true ∧ c = (({ s.b with hwk := { s.b.hwk with lpass := none, lmodel := none, lost := false } }).raise Ev.HWK_LOCAL_HIT) ∧ h = ({ c with hwk := { c.hwk with hold := s.b.f F.HWK_LOCAL_CFG_HOLD } }) ∧ nf = ((s.b.localFeats.getLast?.getD 0) + 1) ∧ e = (h.emitAt (h.f F.HWK_LOCAL_DEST_QUEUE) (h.f F.HWK_LOCAL_DEST_STREAM) 0x22 3 0 0 phase wall (featRowPayload (h.f F.HWK_LOCAL_CFG_IDX) nf r))) :=
  ⟨⟨(aggr [] (fun b => { b with hwk := { b.hwk with pass := some { req := { ens := 2, phase := 3, wall := 0 }, batch := [], next := 1, done := [{ entity := 0, outs := [] }] }, active := some { featfmt := [], ens := [] } } })), { req := { ens := 2, phase := 3, wall := 0 }, batch := [], next := 1, done := [{ entity := 0, outs := [] }] }, _, by decide, by decide, by decide, by decide, by decide, rfl⟩,
    ⟨(aggr [] (fun b => { b with hwk := { b.hwk with swap := some { featfmt := [], ens := [] }, copying := true } })), { featfmt := [], ens := [] }, _, by decide, by decide, by decide, rfl⟩,
    ⟨(aggr []), .mgmt, 3, by decide, by decide⟩,
    ⟨(die []), [], by decide⟩,
    ⟨(die [(F.HWK_LOCAL_TH_TH.key, 0x3F800000)] (fun b => { b with hwk := { b.hwk with lpass := some (3, 4, {}), lmodel := some { featfmt := [], ens := [] } } })), 3, 4, {}, { featfmt := [], ens := [] }, _, by decide, by decide, by decide, by decide, by decide, rfl, by decide, by decide, by decide⟩,
    ⟨(die [(F.HWK_LOCAL_CFG_HOLD.key, 2), (F.HWK_LOCAL_TH_TH.key, 0x80000000)] (fun b => { b with hwk := { b.hwk with lpass := some (3, 4, {}), lmodel := some { featfmt := [], ens := [] } } })), 3, 4, {}, { featfmt := [], ens := [] }, _, _, _, _, _, by decide, by decide, by decide, by decide, by decide, rfl, by decide, by decide, rfl, rfl, rfl, rfl⟩⟩

theorem wit_HawkmothPasses_3 :
    (∃ (s : State) (phase wall : Nat) (r : Row) (m : Model), s.b.hwk.lpass = some (phase, wall, r) ∧ s.b.hwk.lmodel = some m ∧ s.b.on dHAWK = true ∧ (s.b.freeTiles = [] ∨ s.b.hwk.lost = true) ∧ s.b.hwk.hold = 0 ∧ s.b.is F.HWK_LOCAL_CFG_EMIT = false) ∧
    (∃ (s : State) (m : Master) (x : Feat), s.b.respCode m 0x60A4 0xF false 0 = 0 ∧ s.b.syn.agg = true ∧ x = (SMap.getD (s.b.row (s.b.f F.HWK_ROW_SEL_ENTITY)).feats (s.b.f F.HWK_ROW_SEL_FEATURE) {})) :=
  ⟨⟨(die [] (fun b => { b with hwk := { b.hwk with lpass := some (3, 4, {}), lmodel := some { featfmt := [], ens := [] }, lost := true } })), 3, 4, {}, { featfmt := [], ens := [] }, by decide, by decide, by decide, .inr (by decide), by decide, by decide⟩,
    ⟨(aggr []), .mgmt, _, by decide, by decide, rfl⟩⟩

theorem wit_RoundsAndEnergy_1 :
    (∃ (s : State) (step idx : Nat) (r : Round), s.b.vrd.rounds.find? (fun x => x.step == step && x.idx == idx) = some r ∧ s.b.verdictRoot = true ∧ wallPast s.b.wall r.w ((100 * min 100000 (s.b.f F.VRD_PLAN_OFFSET) : Nat) : Int) = true) ∧
    (∃ (s : State) (step idx : Nat) (r : Round), s.b.vrd.rounds.find? (fun x => x.step == step && x.idx == idx) = some r ∧ wallPast s.b.wall r.w ((100 * min 100000 (s.b.f F.VRD_PLAN_OFFSET) : Nat) : Int) = false) ∧
    (∃ (s : State) (c : Closed) (closed : List Closed), s.b.verdictRoot = true ∧ s.b.vrd.closed.reverse.find? (fun x => x.any && !x.gone && decide (x.at_ + 2 * s.b.wbPeriod ≤ s.b.clk.core)) = some c ∧ closed = (s.b.vrd.closed.map (fun x => if x = c then { x with gone := true } else x)) ∧ c.any = true ∧ c.gone = false) ∧
    (∃ (s : State), s.b.vrd.closed = []) ∧
    (∃ (s : State) (port : Nat) (t : TraySum) (u : Block) (c : Block), u = (s.b.unstage port 2) ∧ u.syn.agg = true ∧ u.isRoot = true ∧ u.vrd.taken.contains t = false ∧ c = ({ u with vrd := { u.vrd with taken := (t :: u.vrd.taken).take 4096 } })) ∧
    (∃ (s : State) (port : Nat) (t : TraySum) (u : Block) (c : Block), u = (s.b.unstage port 2) ∧ u.syn.agg = true ∧ u.isRoot = false ∧ u.vrd.taken.contains t = false ∧ c = ({ u with vrd := { u.vrd with taken := (t :: u.vrd.taken).take 4096 } })) :=
  ⟨⟨(aggr [(F.VRD_CTRL_EN.key, 1)] (fun b => { b with ant := { b.ant with fine := 2 ^ 90 }, vrd := { b.vrd with rounds := [{ step := 5, idx := 3, w := 0 }] }, fab := { b.fab with actingRoot := true, topo := { b.fab.topo with isRoot := true } } })), 5, 3, { step := 5, idx := 3, w := 0 }, by decide, by decide, by decide⟩,
    ⟨(aggr [(F.VRD_CTRL_EN.key, 1)] (fun b => { b with vrd := { b.vrd with rounds := [{ step := 5, idx := 3, w := 0 }] }, fab := { b.fab with actingRoot := true, topo := { b.fab.topo with isRoot := true } } })), 5, 3, { step := 5, idx := 3, w := 0 }, by decide, by decide⟩,
    ⟨(aggr [(F.VRD_CTRL_EN.key, 1)] (fun b => { b with vrd := { b.vrd with closed := [{ step := 5, idx := 3, at_ := 0, fleet := 0, nopeer := true, any := true }] }, fab := { b.fab with actingRoot := true, topo := { b.fab.topo with isRoot := true } } })), { step := 5, idx := 3, at_ := 0, fleet := 0, nopeer := true, any := true }, _, by decide, by decide, rfl, by decide, by decide⟩,
    ⟨(aggr []), by decide⟩,
    ⟨(aggr [] (fun b => { b with fab := { b.fab with actingRoot := true, topo := { b.fab.topo with isRoot := true } } })), 3, { lai := 4, step := 5, idx := 3, n := 9, median := none, entries := [] }, _, _, rfl, by decide, by decide, by decide, rfl⟩,
    ⟨(aggr [] (fun b => { b with fab := { b.fab with topo := { b.fab.topo with isRoot := false } } })), 3, { lai := 4, step := 5, idx := 3, n := 9, median := none, entries := [] }, _, _, rfl, by decide, by decide, by decide, rfl⟩⟩

theorem wit_RoundsAndEnergy_2 :
    (∃ (s : State) (port : Nat) (t : TraySum) (u : Block), u = (s.b.unstage port 2) ∧ u.syn.agg = true ∧ u.vrd.taken.contains t = true) ∧
    (∃ (s : State) (k : Nat) (c : Block), s.b.vrd.nextK = some k ∧ s.b.energyOn = true ∧ s.b.intervalPast k (s.b.f F.VRD_EN_CFG_CLOSE) = true ∧ c = (s.b.closeInterval (s.b.intervalState k) false false)) ∧
    (∃ (s : State) (k : Nat), s.b.vrd.nextK = some k ∧ s.b.intervalPast k (s.b.f F.VRD_EN_CFG_CLOSE) = false) ∧
    (∃ (s : State) (m : Master) (word : Nat) (i : Nat) (c : Block) (t : Tariff) (old : List Tariff), s.b.respCode m 0x7218 0xF true word = 0 ∧ s.b.syn.agg = true ∧ i = (s.b.f F.TARIFF_SEL_ENTRY) ∧ c = (s.b.writeFields 0x7218 word) ∧ c.energyOn = false ∧ t = ({ at_ := c.f (F.TARIFF_AT_LO_AT_LO.ix i) + word % 2 ^ 16 * 2 ^ 32, price := c.f (F.TARIFF_PRICE_PRICE.ix i), valid := bit word 31 == 1, since := 0 }) ∧ old = ((c.vrd.tariffs.getD i []).filter (fun x => decide (x.since < 0)))) ∧
    (∃ (s : State) (m : Master) (word : Nat), s.b.respCode m 0x7218 0xF true word = 0 ∧ s.b.syn.agg = false) :=
  ⟨⟨(aggr [] (fun b => { b with vrd := { b.vrd with taken := [{ lai := 4, step := 5, idx := 3, n := 9, median := none, entries := [] }] } })), 3, { lai := 4, step := 5, idx := 3, n := 9, median := none, entries := [] }, _, rfl, by decide, by decide⟩,
    ⟨(aggr [(F.VRD_CTRL_ENERGY.key, 1), (F.VRD_EN_CFG_LEN.key, 60)] (fun b => { b with ant := { b.ant with fine := 2 ^ 90 }, vrd := { b.vrd with nextK := some 0 }, fab := { b.fab with actingRoot := true, topo := { b.fab.topo with isRoot := true } } })), 0, _, by decide, by decide, by decide, rfl⟩,
    ⟨(aggr [(F.VRD_CTRL_ENERGY.key, 1)] (fun b => { b with vrd := { b.vrd with nextK := some 0 } })), 0, by decide, by decide⟩,
    ⟨(aggr []), .mgmt, 0x80000001, _, _, _, _, by decide, by decide, rfl, rfl, by decide, rfl, rfl⟩,
    ⟨(die []), .mgmt, 0x80000001, by decide, by decide⟩⟩

theorem wit_SilkwormJobs_1 :
    (∃ (s : State) (e : Nat) (j : SlkJob) (z : List Byte × Nat × Option (List Nat × List Nat)) (p : Rec), s.b.jobOn e = some j ∧ s.b.on dCODEC = true ∧ j.since + s.b.takeTime (j.body.bytes.length - j.base) + 64 ≤ s.b.clk.core ∧ j.trace = none ∧ z = (deflate j.body.bytes s.b.slkDepth s.b.slkBlock (s.b.slkCtx (j.ctx.getD 0))) ∧ p = (packedRec j.body (j.ctx.getD 0) z.1 z.2.1) ∧ p.bytes.length < j.body.bytes.length) ∧
    (∃ (s : State) (e : Nat) (j : SlkJob) (z : List Byte × Nat × Option (List Nat × List Nat)) (p : Rec), s.b.jobOn e = some j ∧ s.b.on dCODEC = true ∧ j.since + s.b.takeTime (j.body.bytes.length - j.base) + 64 ≤ s.b.clk.core ∧ j.trace = none ∧ z = (deflate j.body.bytes s.b.slkDepth s.b.slkBlock (s.b.slkCtx (j.ctx.getD 0))) ∧ p = (packedRec j.body (j.ctx.getD 0) z.1 z.2.1) ∧ j.body.bytes.length ≤ p.bytes.length) ∧
    (∃ (s : State) (e : Nat) (j : SlkJob) (c : Block), s.b.jobOn e = some j ∧ s.b.on dCODEC = true ∧ j.since + s.b.takeTime (j.body.bytes.length - j.base) + 64 ≤ s.b.clk.core ∧ j.trace = none ∧ c = ((s.b.raise Ev.SLK_CHECK [(j.ctx.getD 0, 8), (j.body.typ, 8)]).failJob j)) ∧
    (∃ (s : State) (e : Nat) (chk : Bool) (j : SlkJob), s.b.jobOn e = some j ∧ s.b.clk.core < j.since + s.b.takeTime (j.body.bytes.length - j.base) + 64) ∧
    (∃ (s : State) (e n : Nat) (j : SlkJob) (r : Nat × Nat), s.b.jobOn e = some j ∧ s.b.on dCODEC = true ∧ s.b.traceWaits j.queue (s.b.jobOut j) = true ∧ j.trace = some n ∧ r = (progressAt j.body.bytes s.b.slkDepth s.b.slkBlock (j.base + s.b.takenIn (s.b.clk.core - j.since)) (s.b.slkCtx (j.ctx.getD 0)))) ∧
    (∃ (s : State) (e : Nat), s.b.jobOn e = none) :=
  ⟨⟨(die [] (fun b => { b with clk := { b.clk with core := 9000 }, slk := { b.slk with jobs := [{ num := 0, queue := 3, body := { typ := 1, fmt := 1, epoch := 0, ldi := 0, sev := 0, stream := 2, phase := 0, wall := 0, bytes := List.replicate 64 7 }, ctx := some 4, engine := some 0 }] } })), 0, { num := 0, queue := 3, body := { typ := 1, fmt := 1, epoch := 0, ldi := 0, sev := 0, stream := 2, phase := 0, wall := 0, bytes := List.replicate 64 7 }, ctx := some 4, engine := some 0 }, _, _, by decide +kernel, by decide +kernel, by decide +kernel, by decide +kernel, rfl, rfl, by decide +kernel⟩,
    ⟨(die [] (fun b => { b with clk := { b.clk with core := 9000 }, slk := { b.slk with jobs := [{ num := 0, queue := 3, body := { typ := 1, fmt := 1, epoch := 0, ldi := 0, sev := 0, stream := 2, phase := 0, wall := 0, bytes := [1, 2, 3, 4, 5, 6, 7, 8] }, ctx := some 4, engine := some 0 }] } })), 0, { num := 0, queue := 3, body := { typ := 1, fmt := 1, epoch := 0, ldi := 0, sev := 0, stream := 2, phase := 0, wall := 0, bytes := [1, 2, 3, 4, 5, 6, 7, 8] }, ctx := some 4, engine := some 0 }, _, _, by decide +kernel, by decide +kernel, by decide +kernel, by decide +kernel, rfl, rfl, by decide +kernel⟩,
    ⟨(die [] (fun b => { b with clk := { b.clk with core := 9000 }, slk := { b.slk with jobs := [{ num := 0, queue := 3, body := { typ := 1, fmt := 1, epoch := 0, ldi := 0, sev := 0, stream := 2, phase := 0, wall := 0, bytes := [1, 2, 3, 4, 5, 6, 7, 8] }, ctx := some 4, engine := some 0 }] } })), 0, { num := 0, queue := 3, body := { typ := 1, fmt := 1, epoch := 0, ldi := 0, sev := 0, stream := 2, phase := 0, wall := 0, bytes := [1, 2, 3, 4, 5, 6, 7, 8] }, ctx := some 4, engine := some 0 }, _, by decide, by decide, by decide, by decide, rfl⟩,
    ⟨(die [] (fun b => { b with slk := { b.slk with jobs := [{ num := 0, queue := 3, body := { typ := 1, fmt := 1, epoch := 0, ldi := 0, sev := 0, stream := 2, phase := 0, wall := 0, bytes := [1, 2, 3, 4, 5, 6, 7, 8] }, ctx := some 4, engine := some 0 }] } })), 0, true, { num := 0, queue := 3, body := { typ := 1, fmt := 1, epoch := 0, ldi := 0, sev := 0, stream := 2, phase := 0, wall := 0, bytes := [1, 2, 3, 4, 5, 6, 7, 8] }, ctx := some 4, engine := some 0 }, by decide, by decide⟩,
    ⟨(die [(F.QUE_CTRL_EN.key, 1), ((F.QUE_CFG_EN.ix 3).key, 1), ((F.QUE_CFG_FULL.ix 3).key, 0), ((F.QUE_SIZE_KIB.ix 3).key, 1)] (fun b => { b with que := { b.que with queues := [(3, { items := [{ body := { typ := 1, fmt := 1, epoch := 0, ldi := 0, sev := 0, stream := 2, phase := 0, wall := 0, bytes := List.replicate 960 0 } }] })] }, slk := { b.slk with jobs := [{ num := 0, queue := 3, body := { typ := 1, fmt := 1, epoch := 0, ldi := 0, sev := 0, stream := 2, phase := 0, wall := 0, bytes := [1, 2, 3, 4, 5, 6, 7, 8] }, ctx := some 16, trace := some 0, engine := some 0 }] } })), 0, 0, { num := 0, queue := 3, body := { typ := 1, fmt := 1, epoch := 0, ldi := 0, sev := 0, stream := 2, phase := 0, wall := 0, bytes := [1, 2, 3, 4, 5, 6, 7, 8] }, ctx := some 16, trace := some 0, engine := some 0 }, _, by decide +kernel, by decide +kernel, by decide +kernel, by decide +kernel, rfl⟩,
    ⟨(die []), 0, by decide⟩⟩

theorem wit_SilkwormJobs_2 :
    (∃ (s : State) (buf : Nat) (j : SlkJob), s.b.slk.jobs.find? (fun x => x.trace == some buf && x.stopped) = some j ∧ s.b.on dCODEC = true ∧ s.b.traceWaits j.queue (s.b.jobOut j) = false) ∧
    (∃ (s : State) (m : Master) (word : Nat) (c : Block) (n : Nat), s.b.respCode m 0xB024 0xF true word = 0 ∧ c = (s.b.writeFields 0xB024 word) ∧ n = (if c.syn.agg then c.f F.SLK_RULE_SEL_RULE else c.f F.SLK_RULE_SEL_RULE % 16)) ∧
    (∃ (s : State) (m : Master) (word : Nat), s.b.respCode m 0xB010 0xF true word = 0) :=
  ⟨⟨(die [] (fun b => { b with slk := { b.slk with jobs := [{ num := 0, queue := 3, body := { typ := 1, fmt := 1, epoch := 0, ldi := 0, sev := 0, stream := 2, phase := 0, wall := 0, bytes := [1, 2, 3, 4, 5, 6, 7, 8] }, ctx := some 16, trace := some 0, stopped := true }] } })), 0, { num := 0, queue := 3, body := { typ := 1, fmt := 1, epoch := 0, ldi := 0, sev := 0, stream := 2, phase := 0, wall := 0, bytes := [1, 2, 3, 4, 5, 6, 7, 8] }, ctx := some 16, trace := some 0, stopped := true }, by decide, by decide, by decide⟩,
    ⟨(die [(F.SLK_RULE_SEL_RULE.key, 4)] (fun b => { b with slk := { b.slk with ctxs := [(4, ([], []))] } })), .mgmt, 0x20000, _, _, by decide, rfl, rfl⟩,
    ⟨(die []), .mgmt, 1, by decide⟩⟩

theorem wit_JournalAndMedium_1 :
    (∃ (s : State) (t : Nat) (c : Block), c = (s.b.consume) ∧ c.mayClose = true ∧ c.coc.flush = false ∧ c.coc.bufSince = some t ∧ t + c.us (atLeast1 (c.f F.COC_CFG_GTIME)) ≤ c.clk.core) ∧
    (∃ (s : State) (c : Block), c = (s.b.consume) ∧ c.coc.flush = false ∧ c.coc.bufSince = none) ∧
    (∃ (s : State) (c : Block), c = (s.b.consume) ∧ c.mayClose = true ∧ c.coc.flush = true ∧ c.coc.buf = [] ∧ c.coc.flushG = none ∧ c.coc.progs = [] ∧ c.coc.raises = []) ∧
    (∃ (s : State) (ch tgt : Nat) (g : Geo), s.b.syn.agg = true ∧ s.b.on dSTORE = true ∧ bit s.b.syn.nvmPresent ch = 1 ∧ tgt < 8 ∧ g.good = true) ∧
    (∃ (s : State) (ch tgt : Nat), s.b.syn.agg = true ∧ s.b.on dSTORE = true ∧ bit s.b.syn.nvmPresent ch = 1 ∧ tgt < 8) ∧
    (∃ (s : State) (ch tgt blk page : Nat) (c : Coc), s.b.syn.agg = true ∧ s.b.on dSTORE = true ∧ c = ({ s.b.coc with failing := s.b.coc.failing.del (ch * 8 + tgt) })) :=
  ⟨⟨(aggr [(F.COC_CTRL_EN.key, 1), (F.COC_STATUS_STATE.key, 2)] (fun b => { b with clk := { b.clk with core := 9000000 }, coc := { b.coc with bufSince := some 0 } })), 0, _, rfl, by decide, by decide, by decide, by decide⟩,
    ⟨(aggr [(F.COC_CTRL_EN.key, 1), (F.COC_STATUS_STATE.key, 2)]), _, rfl, by decide, by decide⟩,
    ⟨(aggr [(F.COC_CTRL_EN.key, 1), (F.COC_STATUS_STATE.key, 2)] (fun b => { b with coc := { b.coc with flush := true } })), _, rfl, by decide, by decide, by decide, by decide, by decide, by decide⟩,
    ⟨(aggr [] (fun b => { b with syn := { b.syn with nvmPresent := 0xFFFF } })), 3, 1, { pageKib := 16, spare := 96, pages := 256, blocks := 1000, progUs := 500, lpddr := true }, by decide, by decide, by decide, by decide, by decide⟩,
    ⟨(aggr [] (fun b => { b with syn := { b.syn with nvmPresent := 0xFFFF } })), 3, 1, by decide, by decide, by decide, by decide⟩,
    ⟨(aggr []), 3, 1, 7, 9, _, by decide, by decide, rfl⟩⟩

theorem wit_JournalAndMedium_2 :
    (∃ (s : State) (ch tgt blk page : Nat) (l : Ladder), s.b.syn.agg = true ∧ s.b.on dSTORE = true ∧ l.step = 1 ∧ l.fixed ≤ s.b.f F.COC_SCRUB_TH) ∧
    (∃ (s : State) (slot v : Nat) (l : List (Nat × Nat × Bool)), s.b.syn.agg = true ∧ s.b.on dSTORE = true ∧ s.b.coc.raises = (slot, v, false) :: l) ∧
    (∃ (s : State) (ch tgt t : Nat), s.b.coc.failing.find (ch * 8 + tgt) = some t ∧ t + aonUs 1000 ≤ s.b.clk.aon) ∧
    (∃ (s : State) (ch tgt : Nat), s.b.coc.failing.find (ch * 8 + tgt) = none) ∧
    (∃ (s : State) (ch tgt blk page : Nat) (l : Ladder), s.b.coc.patrolled ch tgt blk page = false) ∧
    (∃ (s : State) (ch tgt blk page : Nat) (l : Ladder), s.b.syn.agg = true ∧ s.b.cocReady = true ∧ s.b.threadRuns 6 = true ∧ s.b.coc.patrolled ch tgt blk page = true ∧ s.b.f F.COC_SCRUB_AGE = 0) :=
  ⟨⟨(aggr []), 3, 1, 7, 9, { step := 1, fixed := 2 }, by decide, by decide, by decide, by decide⟩,
    ⟨(aggr [] (fun b => { b with coc := { b.coc with raises := [(5, 9, false)] } })), 5, 9, [], by decide, by decide, by decide⟩,
    ⟨(aggr [] (fun b => { b with clk := { b.clk with aon := 900000 }, coc := { b.coc with failing := [(25, 0)] } })), 3, 1, 0, by decide, by decide⟩,
    ⟨(aggr []), 3, 1, by decide⟩,
    ⟨(aggr []), 3, 1, 7, 9, { step := 1, fixed := 2 }, by decide⟩,
    ⟨(aggr [(F.COC_CTRL_EN.key, 1), (F.COC_STATUS_STATE.key, 2), (F.COC_SCRUB_AGE.key, 0)] (fun b => { b with coc := { b.coc with groups := [{ gseq := 1, entries := [], flushed := false, data := [{ ch := 3, tgt := 1, blk := 7, page := 9, first := true }], at_ := 0 }] } })), 3, 1, 7, 9, { step := 3, fixed := 2 }, by decide, by decide, by decide, by decide, by decide⟩⟩

theorem wit_JournalAndMedium_3 :
    (∃ (s : State) (bad : List (Nat × Nat × Nat)), s.b.on dSTORE = true ∧ s.b.f F.COC_STATUS_STATE = 1 ∧ s.b.syn.agg = true ∧ s.b.coc.capKib * 1024 < 320 * 10 ^ 9) ∧
    (∃ (s : State) (c : Block), s.b.on dSTORE = true ∧ s.b.f F.COC_STATUS_STATE = 1 ∧ s.b.syn.agg = false ∧ c = ((s.b.setf F.COC_STATUS_STATE 2).raise Ev.COC_RECOVERED)) ∧
    (∃ (s : State) (t : Nat), s.b.coc.since = some t ∧ s.b.syn.agg = true ∧ s.b.f F.COC_STATUS_STATE ≠ 2 ∧ t + aonUs 1000000 ≤ s.b.clk.aon) ∧
    (∃ (s : State), s.b.f F.COC_STATUS_STATE = 2) :=
  ⟨⟨(aggr [(F.COC_STATUS_STATE.key, 1)]), [], by decide, by decide, by decide, by decide⟩,
    ⟨(die [(F.COC_STATUS_STATE.key, 1)]), _, by decide, by decide, by decide, rfl⟩,
    ⟨(aggr [] (fun b => { b with clk := { b.clk with aon := 90000000 }, coc := { b.coc with since := some 0 } })), 0, by decide, by decide, by decide, by decide⟩,
    ⟨(aggr [(F.COC_STATUS_STATE.key, 2)]), by decide⟩⟩

theorem wit_CursorsAndReleases_1 :
    (∃ (s : State) (m : Master) (word : Nat) (c : Block) (n : Nat), s.b.respCode m 0xC10C 0xF true (word / 8 * 8 + 1) = 0 ∧ c = (s.b.writeFields 0xC10C word) ∧ c.f F.COC_STATUS_STATE = 2 ∧ n = (c.curNum) ∧ (c.curMove n 1).2 = none) ∧
    (∃ (s : State) (m : Master) (word : Nat) (r : JRec) (c : Block) (n : Nat), s.b.respCode m 0xC10C 0xF true (word / 8 * 8 + 2) = 0 ∧ c = (s.b.writeFields 0xC10C word) ∧ c.f F.COC_STATUS_STATE = 2 ∧ n = (c.curNum) ∧ (c.curMove n 2).2 = some r) ∧
    (∃ (s : State) (m : Master) (word : Nat) (r : JRec) (c : Block) (n : Nat), s.b.respCode m 0xC10C 0xF true (word / 8 * 8 + 1) = 0 ∧ c = (s.b.writeFields 0xC10C word) ∧ c.f F.COC_STATUS_STATE = 2 ∧ n = (c.curNum) ∧ (c.curMove n 1).2 = some r) ∧
    (∃ (s : State) (m : Master) (word : Nat) (r : JRec) (c : Block) (n : Nat), s.b.respCode m 0xC10C 0xF true (word / 8 * 8 + 4) = 0 ∧ c = (s.b.writeFields 0xC10C word) ∧ c.f F.COC_STATUS_STATE = 2 ∧ n = (c.curNum) ∧ (c.curMove n 4).2 = some r) ∧
    (∃ (s : State) (m : Master) (word : Nat) (r : JRec) (c : Block) (n : Nat), s.b.respCode m 0xC10C 0xF true (word / 8 * 8 + 5) = 0 ∧ c = (s.b.writeFields 0xC10C word) ∧ c.f F.COC_STATUS_STATE = 2 ∧ n = (c.curNum) ∧ (c.curMove n 5).2 = some r) ∧
    (∃ (s : State) (m : Master) (word : Nat) (r : JRec) (c : Block) (n : Nat), s.b.respCode m 0xC10C 0xF true (word / 8 * 8 + 3) = 0 ∧ c = (s.b.writeFields 0xC10C word) ∧ c.f F.COC_STATUS_STATE = 2 ∧ n = (c.curNum) ∧ (c.curMove n 3).2 = some r) :=
  ⟨⟨(aggr [(F.COC_STATUS_STATE.key, 2)]), .mgmt, 1, _, _, by decide, rfl, by decide, rfl, by decide⟩,
    ⟨(die [(F.COC_STATUS_STATE.key, 2)] (fun b => { b with coc := { b.coc with nextJ := 1, nor := [{ r := { ldi := 7, epoch := 4, stream := 2, seq := 0, sev := 0, bytes := [] }, first := false, done := true }] } })), .mgmt, 2, { ldi := 7, epoch := 4, stream := 2, seq := 0, sev := 0, bytes := [] }, _, _, by decide, rfl, by decide, rfl, by decide⟩,
    ⟨(die [(F.COC_STATUS_STATE.key, 2)] (fun b => { b with coc := { b.coc with nextJ := 1, nor := [{ r := { ldi := 7, epoch := 4, stream := 2, seq := 0, sev := 0, bytes := [] }, first := false, done := true }] } })), .mgmt, 1, { ldi := 7, epoch := 4, stream := 2, seq := 0, sev := 0, bytes := [] }, _, _, by decide, rfl, by decide, rfl, by decide⟩,
    ⟨(die [(F.COC_STATUS_STATE.key, 2)] (fun b => { b with coc := { b.coc with nextJ := 2, nor := [{ r := { ldi := 7, epoch := 4, stream := 2, seq := 0, sev := 0, bytes := [], jpos := 1 }, first := false, done := true }], cursors := [{ pos := 2 }] } })), .mgmt, 4, { ldi := 7, epoch := 4, stream := 2, seq := 0, sev := 0, bytes := [], jpos := 1 }, _, _, by decide, rfl, by decide, rfl, by decide⟩,
    ⟨(die [(F.COC_STATUS_STATE.key, 2), ((F.COC_CUR_POS_LO_POS_LO.ix 0).key, 3)] (fun b => { b with coc := { b.coc with nextJ := 4, nor := [{ r := { ldi := 7, epoch := 4, stream := 2, seq := 0, sev := 0, bytes := [], jpos := 3 }, first := false, done := true }] } })), .mgmt, 5, { ldi := 7, epoch := 4, stream := 2, seq := 0, sev := 0, bytes := [], jpos := 3 }, _, _, by decide, rfl, by decide, rfl, by decide⟩,
    ⟨(die [(F.COC_STATUS_STATE.key, 2)] (fun b => { b with coc := { b.coc with nextJ := 2, nor := [{ r := { ldi := 7, epoch := 4, stream := 2, seq := 0, sev := 0, bytes := [], jpos := 1 }, first := false, done := true }] } })), .mgmt, 3, { ldi := 7, epoch := 4, stream := 2, seq := 0, sev := 0, bytes := [], jpos := 1 }, _, _, by decide, rfl, by decide, rfl, by decide⟩⟩

theorem wit_CursorsAndReleases_2 :
    (∃ (s : State) (m : Master) (word : Nat) (c : Block) (n : Nat), s.b.respCode m 0xC10C 0xF true (word / 8 * 8 + 4) = 0 ∧ c = (s.b.writeFields 0xC10C word) ∧ c.f F.COC_STATUS_STATE = 2 ∧ n = (c.curNum) ∧ (c.curMove n 4).2 = none) ∧
    (∃ (s : State) (m : Master) (word : Nat) (c : Block) (n : Nat), s.b.respCode m 0xC10C 0xF true (word / 8 * 8 + 5) = 0 ∧ c = (s.b.writeFields 0xC10C word) ∧ c.f F.COC_STATUS_STATE = 2 ∧ n = (c.curNum) ∧ (c.curMove n 5).2 = none) ∧
    (∃ (s : State) (m : Master) (word : Nat) (c : Block) (j : Nat) (d : Block), s.b.respCode m 0xC10C 0xF true (word / 8 * 8 + 6) = 0 ∧ c = (s.b.writeFields 0xC10C word) ∧ c.syn.agg = true ∧ c.is (F.COC_CUR_CTRL_AREA.ix c.curNum) = false ∧ c.f F.COC_STATUS_STATE = 2 ∧ j = ((c.cursor c.curNum).pos + 1) ∧ j ≤ c.coc.nextJ ∧ c.coc.rel < j ∧ d = ({ c with coc := ({ c.coc with rel := j } : Coc).reclaim }) ∧ d.is F.COC_STATUS_FULL = false) ∧
    (∃ (s : State) (m : Master) (word : Nat) (c : Block), s.b.respCode m 0xC10C 0xF true (word / 8 * 8 + 6) = 0 ∧ c = (s.b.writeFields 0xC10C word) ∧ (c.syn.agg = false ∨ (c.cursor c.curNum).pos + 1 ≤ c.coc.rel)) ∧
    (∃ (s : State) (n stat pos : Nat) (r : JRec) (k : Nat) (x : Cursor) (c : Block), k = (n % 4) ∧ x = (s.b.cursor k) ∧ x.load = some (stat, pos, some r) ∧ c = ((s.b.setCursor k { x with load := none, pos := pos, loaded := some r }).setf (F.COC_CUR_INFO_TAG.ix k) (r.tag (s.b.is (F.COC_CUR_CTRL_AREA.ix k))))) ∧
    (∃ (s : State) (m : Master), s.b.respCode m 0xC040 0xF false 0 = 0) :=
  ⟨⟨(aggr [(F.COC_STATUS_STATE.key, 2)]), .mgmt, 4, _, _, by decide, rfl, by decide, rfl, by decide⟩,
    ⟨(aggr [(F.COC_STATUS_STATE.key, 2)] (fun b => { b with coc := { b.coc with nextJ := 9 } })), .mgmt, 5, _, _, by decide, rfl, by decide, rfl, by decide⟩,
    ⟨(aggr [(F.COC_STATUS_STATE.key, 2)] (fun b => { b with coc := { b.coc with nextJ := 9, cursors := [{ pos := 4 }] } })), .mgmt, 6, _, _, _, by decide, rfl, by decide, by decide, by decide, rfl, by decide, by decide, rfl, by decide⟩,
    ⟨(die [(F.COC_STATUS_STATE.key, 2)]), .mgmt, 6, _, by decide, rfl, by decide⟩,
    ⟨(aggr [] (fun b => { b with coc := { b.coc with cursors := [{ load := some (0, 6, some { ldi := 7, epoch := 4, stream := 2, seq := 0, sev := 0, bytes := [] }) }] } })), 4, 0, 6, { ldi := 7, epoch := 4, stream := 2, seq := 0, sev := 0, bytes := [] }, _, _, _, rfl, rfl, by decide, rfl⟩,
    ⟨(aggr []), .mgmt, by decide⟩⟩

theorem wit_CursorsAndReleases_3 :
    (∃ (s : State) (m : Master), s.b.respCode m 0xC048 0xF false 0 = 0) ∧
    (∃ (s : State) (m : Master) (n : Nat), s.b.respCode m 0xC104 0xF false 0 = 0 ∧ n = (s.b.curNum)) ∧
    (∃ (s : State) (m : Master) (v : Nat), s.b.respCode m 0xC204 0xF false 0 = 0 ∧ v = (s.b.coc.ctr s.b.ctrSlot)) :=
  ⟨⟨(aggr []), .mgmt, by decide⟩,
    ⟨(aggr []), .mgmt, _, by decide, rfl⟩,
    ⟨(aggr []), .mgmt, _, by decide, rfl⟩⟩

theorem wit_CountersAndLongOperations_1 :
    (∃ (s : State) (m : Master) (slot : Nat) (v : Nat), s.b.respCode m 0xC20C 0xF true 1 = 0 ∧ s.b.syn.agg = true ∧ 2048 ≤ s.b.f F.COC_MCTR_SEL_SLOT ∧ slot = (s.b.f F.COC_MCTR_SEL_SLOT) ∧ v = (s.b.f F.COC_MCTR_LO_VAL_LO + 2 ^ 32 * s.b.f F.COC_MCTR_HI_VAL_HI) ∧ s.b.coc.raises = [] ∧ s.b.coc.ctr slot < v) ∧
    (∃ (s : State) (m : Master), s.b.respCode m 0xC20C 0xF true 1 = 0 ∧ s.b.f F.COC_MCTR_SEL_SLOT < 2048) ∧
    (∃ (s : State) (slot v : Nat) (x : Bool), s.b.on dSTORE = true ∧ s.b.syn.agg = true ∧ s.b.coc.raises = [(slot, v, x)] ∧ v ≤ s.b.coc.logA.getD slot 0 ∧ v ≤ s.b.coc.logB.getD slot 0 ∧ (s.b.fab.topo.homeLdis ++ s.b.fab.topo.buddyLdis)[slot]? = none) ∧
    (∃ (s : State) (m : Master), s.b.respCode m 0xC060 0xF true 1 = 0 ∧ s.b.f F.COC_STATUS_STATE = 2 ∧ s.b.coc.op = none ∧ s.b.coc.flush = false) ∧
    (∃ (s : State) (m : Master) (force : Bool), s.b.respCode m 0xC060 0xF true (if force then 6 else 2) = 0 ∧ s.b.f F.COC_STATUS_STATE < 2) ∧
    (∃ (s : State) (m : Master), s.b.respCode m 0xC060 0xF true 2 = 0 ∧ s.b.syn.agg = false ∧ s.b.f F.COC_STATUS_STATE = 2 ∧ s.b.coc.op = none ∧ s.b.coc.flush = false ∧ (s.b.index false).any (fun r => decide (s.b.coc.rel ≤ r.jpos)) = false ∧ s.b.coc.progs = []) :=
  ⟨⟨(aggr [(F.COC_MCTR_SEL_SLOT.key, 3000), (F.COC_MCTR_LO_VAL_LO.key, 9)]), .mgmt, _, _, by decide, by decide, by decide, rfl, rfl, by decide, by decide⟩,
    ⟨(aggr [(F.COC_MCTR_SEL_SLOT.key, 300), (F.COC_MCTR_LO_VAL_LO.key, 9)]), .mgmt, by decide, by decide⟩,
    ⟨(aggr [] (fun b => { b with fab := { b.fab with topo := { b.fab.topo with homeLdis := [], buddyLdis := [] } }, coc := { b.coc with raises := [(3000, 9, true)], logA := [(3000, 9)], logB := [(3000, 9)] } })), 3000, 9, true, by decide, by decide, by decide, by decide, by decide, by decide⟩,
    ⟨(aggr [(F.COC_STATUS_STATE.key, 2), (F.SEC_BASE_RIGHTS.key, 2)]), .mgmt, by decide, by decide, by decide, by decide⟩,
    ⟨(aggr [(F.SEC_BASE_RIGHTS.key, 2)]), .mgmt, true, by decide, by decide⟩,
    ⟨(die [(F.COC_STATUS_STATE.key, 2), (F.SEC_BASE_RIGHTS.key, 2)]), .mgmt, by decide, by decide, by decide, by decide, by decide, by decide, by decide⟩⟩

theorem wit_CountersAndLongOperations_2 :
    (∃ (s : State) (c : Block), s.b.on dSTORE = true ∧ s.b.coc.opStop = false ∧ 2 ≤ s.b.f F.COC_STATUS_STATE ∧ s.b.coc.op = some .clear ∧ c = ({ s.b with coc := { s.b.coc.cleared with op := none }, busy := if s.b.busy = some .clear then none else s.b.busy })) ∧
    (∃ (s : State), s.b.coc.op = none) ∧
    (∃ (s : State) (r : NorRec) (l : List NorRec), s.b.syn.agg = false ∧ s.b.on dSTORE = true ∧ s.b.coc.nor = r :: l ∧ r.done = false) ∧
    (∃ (s : State), s.b.coc.flushG = none) ∧
    (∃ (s : State) (g : Nat) (c : Block), s.b.coc.flushG = some g ∧ s.b.flushing = true ∧ s.b.coc.progs.any (fun p => p.gseq == g) = false ∧ c = ({ s.b with coc := { s.b.coc with flushed := true } })) :=
  ⟨⟨(aggr [(F.COC_STATUS_STATE.key, 2)] (fun b => { b with busy := some .clear, coc := { b.coc with op := some .clear } })), _, by decide, by decide, by decide, by decide, rfl⟩,
    ⟨(aggr []), by decide⟩,
    ⟨(die [] (fun b => { b with coc := { b.coc with nor := [{ r := { ldi := 7, epoch := 4, stream := 2, seq := 0, sev := 0, bytes := [] }, first := false }] } })), { r := { ldi := 7, epoch := 4, stream := 2, seq := 0, sev := 0, bytes := [] }, first := false }, [], by decide, by decide, by decide, by decide⟩,
    ⟨(aggr []), by decide⟩,
    ⟨(aggr [(F.COC_STATUS_STATE.key, 2)] (fun b => { b with coc := { b.coc with flush := true, flushG := some 3 } })), 3, _, by decide, by decide, by decide, rfl⟩⟩

theorem wit_ImageLoads_1 :
    (∃ (s : State) (m : Master) (word : Nat) (w : Nat) (c : Block) (d : Block), w = (setBit word 2 1) ∧ s.b.respCode m 0xD008 0xF true w = 0 ∧ bits w 2 5 = 1 ∧ c = (s.b.writeFields 0xD008 w) ∧ c.f F.FIM_CMD_SRC ≠ 1 ∧ d = ({ c with hwk := { c.hwk with staged := none }, fim := { c.fim with load := some { src := c.f F.FIM_CMD_SRC, roll := none }, stage := [] } })) ∧
    (∃ (s : State) (m : Master) (word : Nat) (w : Nat) (c : Block) (d : Block) (e : Block), w = (setBit word 2 1) ∧ s.b.respCode m 0xD008 0xF true w = 0 ∧ bits w 2 5 = 1 ∧ c = (s.b.writeFields 0xD008 w) ∧ c.f F.FIM_CMD_SRC = 1 ∧ c.hasStore = true ∧ d = ({ c with hwk := { c.hwk with staged := none }, fim := { c.fim with load := some { src := 1, roll := none }, stage := [] } }) ∧ e = (({ d with fim := { d.fim.setCopy d.otherCopy none with prevOk := false } }).setf F.FIM_PREV_BUILD_BUILD 0)) ∧
    (∃ (s : State) (m : Master) (word : Nat) (w : Nat), w = (setBit word 2 1) ∧ s.b.respCode m 0xD008 0xF true w = 0 ∧ bits w 3 4 ≠ 0) ∧
    (∃ (s : State) (m : Master) (word : Nat) (x : ImgLoad) (w : Nat) (c : Block), w = (setBit word 3 1) ∧ s.b.respCode m 0xD008 0xF true w = 0 ∧ bits w 2 5 = 2 ∧ c = (s.b.writeFields 0xD008 w) ∧ s.b.fim.load = some x) ∧
    (∃ (s : State) (m : Master) (word : Nat) (w : Nat), w = (setBit word 3 1) ∧ s.b.respCode m 0xD008 0xF true w = 0 ∧ s.b.fim.load = none ∧ bits w 2 5 = 2) ∧
    (∃ (s : State) (m : Master) (word : Nat) (x : ImgLoad), s.b.respCode m 0xD00C 0xF true word = 0 ∧ s.b.fim.load = some x ∧ x.src = 0 ∧ x.words ≠ []) :=
  ⟨⟨(die [(F.FIM_STATUS_STATE.key, 2), (F.SEC_BASE_RIGHTS.key, 2)]), .mgmt, 3, _, _, _, rfl, by decide, by decide, rfl, by decide, rfl⟩,
    ⟨(aggr [(F.FIM_PREV_BUILD_BUILD.key, 6)] (fun b => { b with fim := { b.fim with prevOk := true } })), .mgmt, 1, _, _, _, _, rfl, by decide, by decide, rfl, by decide, by decide, rfl, rfl⟩,
    ⟨(die []), .mgmt, 0x118, _, rfl, by decide, by decide⟩,
    ⟨(die [(F.FIM_STATUS_STATE.key, 1)] (fun b => { b with fim := { b.fim with load := some { src := 0 } } })), .mgmt, 0, { src := 0 }, _, _, rfl, by decide, by decide, rfl, by decide⟩,
    ⟨(die []), .mgmt, 0, _, rfl, by decide, by decide, by decide⟩,
    ⟨(die [] (fun b => { b with fim := { b.fim with load := some { src := 0, words := [4] } } })), .mgmt, 9, { src := 0, words := [4] }, by decide, by decide, by decide, by decide⟩⟩

theorem wit_ImageLoads_2 :
    (∃ (s : State) (m : Master) (word : Nat) (x : ImgLoad) (d : Block), s.b.respCode m 0xD00C 0xF true word = 0 ∧ s.b.fim.load = some x ∧ x.src = 0 ∧ x.words = [] ∧ s.b.hasStore = true ∧ d = (({ s.b with fim := { s.b.fim.setCopy s.b.otherCopy none with prevOk := false } }).setf F.FIM_PREV_BUILD_BUILD 0)) ∧
    (∃ (s : State) (m : Master) (word : Nat), s.b.respCode m 0xD00C 0xF true word = 0 ∧ s.b.fim.load = none) ∧
    (∃ (s : State) (x : ImgLoad) (dram : List Byte), s.b.fim.load = some x ∧ x.src = 0 ∧ 4 * x.words.length < s.b.f F.FIM_SIZE_BYTES) ∧
    (∃ (s : State) (x : ImgLoad) (dram l : List Byte) (e : ImgErr) (c : Block) (d : Block), s.b.on dSTEWARD = true ∧ s.b.fim.load = some x ∧ s.b.loadBytes x dram = some l ∧ c = (({ s.b with fim := { s.b.fim with load := none } }).setf F.FIM_STG_BUILD_BUILD (imgBuild l)) ∧ c.imgCheck l (x.src != 0 || 4 * x.words.length == s.b.f F.FIM_SIZE_BYTES) = some e ∧ x.src ≠ 2 ∧ e.1 ≠ 5 ∧ e.1 ≠ 6 ∧ d = ((((c.setf F.FIM_ERR_CODE e.1).setf F.FIM_ERR_SECTION e.2.1).setf F.FIM_ERR_REGION e.2.2).setf F.FIM_STATUS_STATE 3)) ∧
    (∃ (s : State) (x : ImgLoad) (dram l : List Byte) (e : ImgErr) (c : Block), s.b.on dSTEWARD = true ∧ s.b.fim.load = some x ∧ s.b.loadBytes x dram = some l ∧ c = (({ s.b with fim := { s.b.fim with load := none } }).setf F.FIM_STG_BUILD_BUILD (imgBuild l)) ∧ c.imgCheck l (x.src != 0 || 4 * x.words.length == s.b.f F.FIM_SIZE_BYTES) = some e) ∧
    (∃ (s : State) (x : ImgLoad) (dram l : List Byte) (c : Block) (d : Block) (g : Fim) (h : Fim), s.b.on dSTEWARD = true ∧ s.b.fim.load = some x ∧ x.roll = none ∧ s.b.loadBytes x dram = some l ∧ c = (({ s.b with fim := { s.b.fim with load := none } }).setf F.FIM_STG_BUILD_BUILD (imgBuild l)) ∧ c.imgCheck l (x.src != 0 || 4 * x.words.length == s.b.f F.FIM_SIZE_BYTES) = none ∧ d = (((((c.setf F.FIM_ERR_CODE 0).setf F.FIM_ERR_SECTION 0).setf F.FIM_ERR_REGION 0x1F).setf F.FIM_STATUS_STATE 2).setf F.FIM_STATUS_LEVEL (imgLevel l)) ∧ g = ({ d.fim with stage := l, stageSrc := x.src }) ∧ h = (if x.src < 2 ∧ d.hasStore then g.setCopy d.otherCopy (some { bytes := l, ploc := d.f F.SELF_PLOC_PLOC }) else g)) :=
  ⟨⟨(aggr [] (fun b => { b with fim := { b.fim with prevOk := true, load := some { src := 0 } } })), .mgmt, 9, { src := 0 }, _, by decide, by decide, by decide, by decide, by decide, rfl⟩,
    ⟨(die []), .mgmt, 9, by decide, by decide⟩,
    ⟨(die [(F.FIM_SIZE_BYTES.key, 8)] (fun b => { b with fim := { b.fim with load := some { src := 0 } } })), { src := 0 }, [], by decide, by decide, by decide⟩,
    ⟨(imgDie [(F.FIM_SIZE_BYTES.key, 0)] (fun b => { b with fim := { b.fim with load := some { src := 0 } } })), { src := 0 }, [], [], (1, 0, 31), _, _, by decide +kernel, by decide +kernel, by decide +kernel, rfl, by decide +kernel, by decide +kernel, by decide +kernel, by decide +kernel, rfl⟩,
    ⟨(imgDie [(F.FIM_SIZE_BYTES.key, 0)] (fun b => { b with fim := { b.fim with load := some { src := 0 } } })), { src := 0 }, [], [], (1, 0, 31), _, by decide +kernel, by decide +kernel, by decide +kernel, rfl, by decide +kernel⟩,
    ⟨(imgDie [(F.FIM_SIZE_BYTES.key, 264)] (fun b => { b with fim := { b.fim with load := some { src := 3 } , x := some { bytes := tstImage, ploc := 0 } }, coc := { b.coc with logA := [(62, 1)], logB := [(62, 1)] } })), { src := 3 }, [], tstImage, _, _, _, _, by decide +kernel, by decide +kernel, by decide +kernel, by decide +kernel, rfl, by decide +kernel, rfl, rfl, rfl⟩⟩

theorem wit_ImageLoads_3 :
    (∃ (b : Block) (l : List Byte) (k : Nat), (liveSlots b.sec.keys).find? (fun k => b.sec.crcOk && slotKeyId b.sec.keys k == leAt (slice l (l.length - 112) 112) 0 4) = some k ∧ ecdsaVerify (l.take (l.length - 112)) (slotKey b.sec.keys k).1 (slotKey b.sec.keys k).2 (ofBe (slice (slice l (l.length - 112) 112) 16 48)) (ofBe (slice (slice l (l.length - 112) 112) 64 48)) = false) ∧
    (∃ (b : Block) (l : List Byte), (liveSlots b.sec.keys).find? (fun k => b.sec.crcOk && slotKeyId b.sec.keys k == leAt (slice l (l.length - 112) 112) 0 4) = none) ∧
    (∃ (b : Block) (l : List Byte), leAt l 4 1 % 4 ≠ b.f F.ROLE_STATUS_STRAP) ∧
    (∃ (b : Block) (l : List Byte), b.is F.FIM_STATUS_NEED = true ∧ b.fim.digA.map (fun x => x.1) ≠ some (sha384 l) ∧ b.fim.digP.map (fun x => x.1) ≠ some (sha384 l)) :=
  ⟨⟨((imgDie []).b), (tstImage.take 168 ++ List.replicate 96 0), 0, by decide +kernel, by decide +kernel⟩,
    ⟨((die []).b), tstImage, by decide +kernel⟩,
    ⟨((die [(F.ROLE_STATUS_STRAP.key, 1)]).b), tstImage, by decide +kernel⟩,
    ⟨((die [(F.FIM_STATUS_NEED.key, 1)]).b), tstImage, by decide +kernel, by decide +kernel, by decide +kernel⟩⟩

theorem wit_CommitsAndRollback_1 :
    (∃ (s : State) (m : Master) (word : Nat) (w : Nat) (c : Block) (d : Block), w = (setBit word 4 1) ∧ s.b.respCode m 0xD008 0xF true w = 0 ∧ bits w 2 5 = 4 ∧ c = (s.b.writeFields 0xD008 w) ∧ c.f F.FIM_STATUS_STATE ≠ 2 ∧ d = (((c.setf F.FIM_ERR_CODE 0xFF).setf F.FIM_ERR_SECTION 0).setf F.FIM_ERR_REGION 0x1F)) ∧
    (∃ (s : State) (m : Master) (word : Nat) (l : List Byte) (w : Nat) (c : Block) (d : Block), w = (setBit word 4 1) ∧ s.b.respCode m 0xD008 0xF true w = 0 ∧ bits w 2 5 = 4 ∧ c = (s.b.writeFields 0xD008 w) ∧ c.f F.FIM_STATUS_STATE = 2 ∧ c.syn.agg = true ∧ imgBody c.fim.stage 5 = some l ∧ c.hwk.staged = none ∧ c.is F.PWR_STATUS_CHRYS = false ∧ d = (((c.setf F.FIM_ERR_CODE 0xB).setf F.FIM_ERR_SECTION 0).setf F.FIM_ERR_REGION 0x1F)) ∧
    (∃ (s : State) (m : Master) (word : Nat) (w : Nat) (c : Block) (e : Commit), w = (setBit word 4 1) ∧ s.b.respCode m 0xD008 0xF true w = 0 ∧ bits w 2 5 = 4 ∧ c = (s.b.writeFields 0xD008 w) ∧ c.f F.FIM_STATUS_STATE = 2 ∧ (c.syn.agg = false ∨ imgBody c.fim.stage 5 = none ∨ c.hwk.staged.isSome = true ∨ c.is F.PWR_STATUS_CHRYS = true) ∧ e = ({ since := c.clk.core, idx := c.f F.FIM_CMD_IDX, any := c.is F.FIM_CMD_ANY, now := c.f F.ROLE_STATUS_ROLE == 3 })) ∧
    (∃ (s : State) (c : Commit), s.b.fim.commit = some c ∧ c.applied = false ∧ c.now = false ∧ c.since + s.b.us 30000 ≤ s.b.clk.core) ∧
    (∃ (s : State) (c : Commit), s.b.fim.commit = some c ∧ (c.applied = true ∨ c.now = true ∨ s.b.clk.core < c.since + s.b.us 30000)) ∧
    (∃ (s : State) (c : Commit), s.b.on dSTEWARD = true ∧ s.b.fim.commit = some c ∧ c.applied = false ∧ c.now = true ∧ s.b.is F.PWR_STATUS_CHRYS = false) :=
  ⟨⟨(die []), .mgmt, 0, _, _, _, rfl, by decide, by decide, rfl, by decide, rfl⟩,
    ⟨(aggr [(F.FIM_STATUS_STATE.key, 2)] (fun b => { b with fim := { b.fim with stage := List.replicate 6 0 ++ [1, 0] ++ List.replicate 56 0 ++ [5, 0, 0, 0, 0, 0, 0, 0] } })), .mgmt, 0, [], _, _, _, rfl, by decide, by decide, rfl, by decide, by decide, by decide, by decide, by decide, rfl⟩,
    ⟨(die [(F.FIM_STATUS_STATE.key, 2)]), .mgmt, 0x500, _, _, _, rfl, by decide, by decide, rfl, by decide, by decide, rfl⟩,
    ⟨(die [(F.FIM_STATUS_STATE.key, 4)] (fun b => { b with clk := { b.clk with core := 10 ^ 9 }, busy := some .commit, fim := { b.fim with commit := some { since := 5, idx := 0, any := false, now := false } } })), { since := 5, idx := 0, any := false, now := false }, by decide, by decide, by decide, by decide⟩,
    ⟨(die [(F.FIM_STATUS_STATE.key, 4)] (fun b => { b with busy := some .commit, fim := { b.fim with commit := some { since := 5, idx := 0, any := false, now := false } } })), { since := 5, idx := 0, any := false, now := false }, by decide, by decide⟩,
    ⟨(imgDie [(F.FIM_STATUS_STATE.key, 4), (F.ROLE_STATUS_ROLE.key, 3)] (fun b => { b with busy := some .commit, fim := { b.fim with stage := tstImage, commit := some { since := 5, idx := 0, any := false, now := true } } })), { since := 5, idx := 0, any := false, now := true }, by decide +kernel, by decide +kernel, by decide +kernel, by decide +kernel, by decide +kernel⟩⟩

theorem wit_CommitsAndRollback_2 :
    (∃ (s : State) (c : Commit) (r : FireReq) (d : Block), s.b.on dSTEWARD = true ∧ s.b.fim.commit = some c ∧ c.applied = false ∧ c.now = false ∧ s.b.dueFire = some r ∧ s.b.isBoundary (s.b.fireCause r) = true ∧ (c.any = true ∨ c.idx = r.idx) ∧ d = (s.b.commitApply (s.b.firePhase r))) ∧
    (∃ (s : State) (c : Commit), s.b.fim.commit = some c ∧ c.applied = false ∧ c.now = false ∧ s.b.dueFire = none) ∧
    (∃ (s : State) (c : Commit) (d : Block) (l : List Byte) (g : Block) (e : Block), s.b.fim.commit = some c ∧ c.applied = true ∧ c.gen = 0 ∧ s.b.hasStore = true ∧ s.b.fim.stageSrc ≠ 3 ∧ d = (({ s.b with fim := { s.b.fim with prevOk := s.b.fim.actOk } }).setf F.FIM_PREV_BUILD_BUILD (if s.b.fim.actOk then s.b.f F.FIM_ACT_BUILD_BUILD else 0)) ∧ l = (d.fim.stage) ∧ g = ({ d with sec := { d.sec with signer := (liveSlots d.sec.keys).find? (fun k => slotKeyId d.sec.keys k == leAt l (l.length - 112) 4) } }) ∧ e = (((g.setf F.FIM_ACT_BUILD_BUILD (imgBuild l)).setf F.FIM_TOPO_TOPO (imgTopo l % 2 ^ 32)).setf F.FIM_STATUS_STATE 0)) ∧
    (∃ (s : State) (c : Commit), s.b.fim.commit = some c ∧ c.applied = true ∧ c.gen ≠ 0 ∧ s.b.syn.agg = true ∧ s.b.coc.ctrBoth (s.b.imgSlot (s.b.activeCopy.getD true)) c.gen = true) ∧
    (∃ (s : State) (c : Commit), s.b.fim.commit = some c ∧ c.applied = true ∧ c.gen ≠ 0 ∧ s.b.syn.agg = true ∧ s.b.coc.ctrBoth (s.b.imgSlot (s.b.activeCopy.getD true)) c.gen = false) ∧
    (∃ (s : State) (m : Master) (word : Nat) (w : Nat) (c : Block), w = (setBit word 5 1) ∧ s.b.respCode m 0xD008 0xF true w = 0 ∧ bits w 2 5 = 8 ∧ c = (s.b.writeFields 0xD008 w) ∧ c.fim.prevOk = false) :=
  ⟨⟨(imgDie [(F.FIM_STATUS_STATE.key, 4), (F.ROLE_STATUS_ROLE.key, 0), (F.ANT_STATUS_TIME_VALID.key, 1)] (fun b => { b with clk := { b.clk with core := 10 }, ant := { b.ant with fireQ := [{ idx := 5, step := 2, due := 9, cause := 0, acts := 0, bcn := false, pos := 0 }] }, busy := some .commit, fim := { b.fim with stage := tstImage, commit := some { since := 5, idx := 5, any := false, now := false } } })), { since := 5, idx := 5, any := false, now := false }, { idx := 5, step := 2, due := 9, cause := 0, acts := 0, bcn := false, pos := 0 }, _, by decide +kernel, by decide +kernel, by decide +kernel, by decide +kernel, by decide +kernel, by decide +kernel, by decide +kernel, rfl⟩,
    ⟨(die [] (fun b => { b with fim := { b.fim with commit := some { since := 5, idx := 5, any := false, now := false } } })), { since := 5, idx := 5, any := false, now := false }, by decide, by decide, by decide, by decide⟩,
    ⟨(aggr [(F.FIM_STATUS_STATE.key, 4)] (fun b => { b with busy := some .commit, fim := { b.fim with stage := tstImage, actOk := true, commit := some { since := 5, idx := 5, any := false, now := false, applied := true } } })), { since := 5, idx := 5, any := false, now := false, applied := true }, _, _, _, _, by decide, by decide, by decide, by decide, by decide, rfl, rfl, rfl, rfl⟩,
    ⟨(aggr [(F.FIM_STATUS_STATE.key, 4)] (fun b => { b with coc := { b.coc with logA := [(2046, 1)], logB := [(2046, 1)] }, busy := some .commit, fim := { b.fim with stage := tstImage, actOk := true, commit := some { since := 5, idx := 5, any := false, now := false, applied := true, gen := 1 } } })), { since := 5, idx := 5, any := false, now := false, applied := true, gen := 1 }, by decide, by decide, by decide, by decide, by decide⟩,
    ⟨(aggr [(F.FIM_STATUS_STATE.key, 4)] (fun b => { b with coc := { b.coc with logA := [(2046, 1)] }, busy := some .commit, fim := { b.fim with stage := tstImage, actOk := true, commit := some { since := 5, idx := 5, any := false, now := false, applied := true, gen := 1 } } })), { since := 5, idx := 5, any := false, now := false, applied := true, gen := 1 }, by decide, by decide, by decide, by decide, by decide⟩,
    ⟨(die []), .mgmt, 0, _, _, rfl, by decide, by decide, rfl, by decide⟩⟩

theorem wit_CommitsAndRollback_3 :
    (∃ (s : State) (m : Master) (word : Nat) (w : Nat) (c : Block) (d : Block), w = (setBit word 5 1) ∧ s.b.respCode m 0xD008 0xF true w = 0 ∧ bits w 2 5 = 8 ∧ c = (s.b.writeFields 0xD008 w) ∧ c.fim.prevOk = true ∧ d = ({ c with hwk := { c.hwk with staged := none }, fim := { c.fim with load := some { src := 2, roll := some (c.f F.FIM_CMD_IDX, c.is F.FIM_CMD_ANY) }, stage := [] } })) ∧
    (∃ (s : State) (m : Master) (word : Nat) (w : Nat) (c : Block), w = (setBit word 6 1) ∧ s.b.respCode m 0xD008 0xF true w = 0 ∧ bits w 2 5 = 16 ∧ c = (s.b.writeFields 0xD008 w) ∧ c.fim.prob = true) ∧
    (∃ (s : State) (m : Master) (word : Nat) (w : Nat) (c : Block), w = (setBit word 6 1) ∧ s.b.respCode m 0xD008 0xF true w = 0 ∧ bits w 2 5 = 16 ∧ c = (s.b.writeFields 0xD008 w) ∧ c.fim.prob = false) ∧
    (∃ (s : State), s.b.fim.prob = true ∧ s.b.f F.FIM_PROB_BOUNDARIES ≠ 0 ∧ s.b.f F.FIM_PROB_BOUNDARIES ≤ s.b.fim.probSeen) ∧
    (∃ (s : State), (s.b.f F.FIM_PROB_BOUNDARIES = 0 ∨ s.b.fim.probSeen < s.b.f F.FIM_PROB_BOUNDARIES)) ∧
    (∃ (s : State) (m : Master) (word : Nat) (l : List Byte), s.b.respCode m 0x600C 0xF true (setBit word 0 1) = 0 ∧ s.b.syn.agg = true ∧ s.b.f F.FIM_STATUS_STATE = 2 ∧ imgBody s.b.fim.stage 5 = some l) :=
  ⟨⟨(die [] (fun b => { b with fim := { b.fim with prevOk := true } })), .mgmt, 0x580, _, _, _, rfl, by decide, by decide, rfl, by decide, rfl⟩,
    ⟨(die [] (fun b => { b with fim := { b.fim with prob := true } })), .mgmt, 0, _, _, rfl, by decide, by decide, rfl, by decide⟩,
    ⟨(die []), .mgmt, 0, _, _, rfl, by decide, by decide, rfl, by decide⟩,
    ⟨(die [(F.FIM_PROB_BOUNDARIES.key, 16)] (fun b => { b with fim := { b.fim with prob := true, probSeen := 16 } })), by decide, by decide, by decide⟩,
    ⟨(die [(F.FIM_PROB_BOUNDARIES.key, 16)] (fun b => { b with fim := { b.fim with prob := true, probSeen := 15 } })), by decide⟩,
    ⟨(aggr [(F.FIM_STATUS_STATE.key, 2)] (fun b => { b with fim := { b.fim with stage := List.replicate 6 0 ++ [1, 0] ++ List.replicate 56 0 ++ [5, 0, 0, 0, 0, 0, 0, 0] } })), .mgmt, 0, [], by decide, by decide, by decide, by decide⟩⟩

theorem wit_CommitsAndRollback_4 :
    (∃ (s : State) (m : Master) (word : Nat), s.b.respCode m 0x600C 0xF true (setBit word 0 1) = 0 ∧ (s.b.syn.agg = false ∨ s.b.f F.FIM_STATUS_STATE ≠ 2 ∨ imgBody s.b.fim.stage 5 = none)) ∧
    (∃ (s : State) (l : List Byte) (c : Block) (no : Nat × Nat × Nat × Nat → Block), s.b.hwk.expanding = some l ∧ s.b.fim.rollWait = none ∧ c = ({ s.b with hwk := { s.b.hwk with expanding := none }, busy := if s.b.busy = some BusyOp.expand then none else s.b.busy }) ∧ no = (fun e => (((({ c with hwk := { c.hwk with staged := none } }).setf F.HWK_EXPAND_ERR e.1).setf F.HWK_EXPAND_ERR_ENS e.2.1).setf F.HWK_EXPAND_ERR_TREE e.2.2.1).setf F.HWK_EXPAND_ERR_NODE e.2.2.2)) ∧
    (∃ (s : State), s.b.hwk.expanding = none) :=
  ⟨⟨(aggr []), .mgmt, 0, by decide, by decide⟩,
    ⟨(aggr [] (fun b => { b with busy := some .expand, hwk := { b.hwk with expanding := some [] } })), [], _, _, by decide, by decide, rfl, rfl⟩,
    ⟨(aggr []), by decide⟩⟩

theorem wit_SelfTests_1 :
    (∃ (s : State) (temp vdd : Nat), s.b.on dSTEWARD = true ∧ (s.b.is F.INT_STATUS_RANGE = true ∨ outOfRange temp (vdd % 65536) = false)) ∧
    (∃ (s : State) (temp vdd : Nat) (c : Block), s.b.on dSTEWARD = true ∧ s.b.is F.INT_STATUS_RANGE = false ∧ outOfRange temp (vdd % 65536) = true ∧ c = (((s.b.setf F.INT_SENSE_TEMP temp).setf F.INT_SENSE_VDD vdd).setf F.INT_STATUS_RANGE 1)) ∧
    (∃ (temp vdd : Nat), temp < 32768 ∧ (840 < temp ∨ vdd < 650 ∨ 950 < vdd)) ∧
    (∃ (temp vdd : Nat), (temp ≤ 840 ∨ (65456 ≤ temp ∧ temp < 65536)) ∧ 650 ≤ vdd ∧ vdd ≤ 950) ∧
    (∃ (s : State), s.b.on dSTEWARD = true ∧ s.b.is F.INT_CTRL_ST_EN = true ∧ s.b.int.waitSince = none ∧ s.b.int.dueAt + s.b.us (1000 * atLeast1 (s.b.f F.INT_ST_CFG_PERIOD)) ≤ s.b.clk.core) ∧
    (∃ (s : State), (s.b.is F.INT_CTRL_ST_EN = false ∨ s.b.int.waitSince.isSome = true)) :=
  ⟨⟨(die [(F.INT_STATUS_RANGE.key, 1)]), 240, 800, by decide, by decide⟩,
    ⟨(die []), 841, 800, _, by decide, by decide, by decide, rfl⟩,
    ⟨841, 800, by decide, by decide⟩,
    ⟨65456, 950, by decide, by decide, by decide⟩,
    ⟨(die [(F.INT_CTRL_ST_EN.key, 1), (F.INT_ST_CFG_PERIOD.key, 0)] (fun b => { b with clk := { b.clk with core := 10 ^ 8 } })), by decide, by decide, by decide, by decide⟩,
    ⟨(die []), by decide⟩⟩

theorem wit_SelfTests_2 :
    (∃ (s : State) (k : Nat) (i : Nat) (c : Block) (d : Block), s.b.on dSTEWARD = true ∧ s.b.int.waitSince.isSome = true ∧ s.b.int.running = none ∧ s.b.int.confQ = [] ∧ k = (s.b.duePart.1) ∧ i = (s.b.duePart.2) ∧ s.b.partIdle k i = true ∧ s.b.lastOfKind k i = false ∧ c = (s.b.setPart k i (fun x => { x with test := true })) ∧ d = ({ c with int := { c.int with due := c.int.due + 1, waitSince := none } })) ∧
    (∃ (s : State), (s.b.int.waitSince = none ∨ s.b.int.running.isSome = true ∨ s.b.int.confQ ≠ [] ∨ s.b.partIdle s.b.duePart.1 s.b.duePart.2 = false ∨ s.b.lastOfKind s.b.duePart.1 s.b.duePart.2 = true)) ∧
    (∃ (s : State) (t0 : Nat), s.b.on dSTEWARD = true ∧ s.b.int.waitSince = some t0 ∧ t0 + s.b.us (atLeast1 (s.b.f F.INT_ST_CFG_WAIT)) ≤ s.b.clk.core) ∧
    (∃ (s : State) (t0 : Nat), s.b.int.waitSince = some t0 ∧ s.b.clk.core < t0 + s.b.us (atLeast1 (s.b.f F.INT_ST_CFG_WAIT))) ∧
    (∃ (s : State) (r : TestRun), s.b.int.running = some r ∧ 1 < r.left) ∧
    (∃ (s : State) (r : TestRun) (pass : Bool) (c : Block) (part : Nat), s.b.int.running = some r ∧ r.left ≤ 1 ∧ r.unfence = false ∧ r.confirm = none ∧ c = ((s.b.setRun none).setPart r.kind r.index (fun x => { x with test := false })) ∧ part = (if r.kind = 0 then 4 * r.index else r.index)) :=
  ⟨⟨(die [] (fun b => { b with int := { b.int with waitSince := some 0 } })), _, _, _, _, by decide, by decide, by decide, by decide, rfl, rfl, by decide, by decide, rfl, rfl⟩,
    ⟨(die []), by decide⟩,
    ⟨(die [(F.INT_ST_CFG_WAIT.key, 1)] (fun b => { b with clk := { b.clk with core := 10 ^ 8 }, int := { b.int with waitSince := some 5 } })), 5, by decide, by decide, by decide⟩,
    ⟨(die [(F.INT_ST_CFG_WAIT.key, 1)] (fun b => { b with int := { b.int with waitSince := some 5 } })), 5, by decide, by decide⟩,
    ⟨(die [] (fun b => { b with int := { b.int with running := some { kind := 3, index := 4, left := 3, confirm := some 9 } } })), { kind := 3, index := 4, left := 3, confirm := some 9 }, by decide, by decide⟩,
    ⟨(die [(F.INT_CTRL_EN.key, 1)] (fun b => { b with int := { b.int with running := some { kind := 3, index := 4, left := 1 } } })), { kind := 3, index := 4, left := 1 }, false, _, _, by decide, by decide, by decide, by decide, rfl, rfl⟩⟩

theorem wit_SelfTests_3 :
    (∃ (s : State) (r : TestRun) (pass : Bool) (c : Block), s.b.int.running = some r ∧ r.left ≤ 1 ∧ r.unfence = true ∧ c = ((s.b.setRun none).setPart r.kind r.index (fun x => { x with test := false, fault := x.fault && !pass }))) ∧
    (∃ (s : State) (r : TestRun) (n : Nat) (c : Block), s.b.int.running = some r ∧ r.unfence = false ∧ r.confirm = some n ∧ c = ((s.b.setRun none).faultPart r.kind r.index 2 (some n))) ∧
    (∃ (s : State) (r : TestRun) (n : Nat) (b0 : Block) (ts : List Nat) (c : Block) (d : Block), s.b.int.running = some r ∧ r.left ≤ 1 ∧ r.unfence = false ∧ r.confirm = some n ∧ b0 = (s.b.setRun none) ∧ ts = (b0.clk.aon :: b0.recentTrans (b0.part r.kind r.index)) ∧ ts.length < atLeast1 (s.b.f F.INT_CLASS_TLIMIT) ∧ c = (b0.setPart r.kind r.index (fun x => { x with trans := ts })) ∧ d = ((c.setPart r.kind r.index (fun x => { x with test := false, cls := 1 })).raise Ev.INT_TRANSIENT (c.argsOf (some n)))) ∧
    (∃ (s : State) (r : TestRun) (l : List TestRun) (c : Block), s.b.on dSTEWARD = true ∧ s.b.int.running = none ∧ s.b.int.confQ = r :: l ∧ c = ((({ s.b with int := { s.b.int with confQ := l } }).setPart r.kind r.index (fun x => { x with test := true })).setRun (some r))) ∧
    (∃ (s : State) (r : TestRun) (l : List TestRun) (c : Block), s.b.on dSTEWARD = true ∧ s.b.int.running = none ∧ s.b.int.confQ = [] ∧ s.b.int.unfQ = r :: l ∧ c = ((({ s.b with int := { s.b.int with unfQ := l } }).setPart r.kind r.index (fun x => { x with test := true })).setRun (some r))) ∧
    (∃ (s : State), (s.b.int.running.isSome = true ∨ (s.b.int.confQ = [] ∧ s.b.int.unfQ = []))) :=
  ⟨⟨(die [] (fun b => { b with int := { b.int with running := some { kind := 3, index := 4, left := 1, unfence := true } } })), { kind := 3, index := 4, left := 1, unfence := true }, false, _, by decide, by decide, by decide, rfl⟩,
    ⟨(die [] (fun b => { b with int := { b.int with running := some { kind := 3, index := 4, left := 2, confirm := some 9 } } })), { kind := 3, index := 4, left := 2, confirm := some 9 }, 9, _, by decide, by decide, by decide, rfl⟩,
    ⟨(die [(F.INT_CLASS_TLIMIT.key, 3)] (fun b => { b with int := { b.int with running := some { kind := 3, index := 4, left := 1, confirm := some 9 } } })), { kind := 3, index := 4, left := 1, confirm := some 9 }, 9, _, _, _, _, by decide, by decide, by decide, by decide, rfl, rfl, by decide, rfl, rfl⟩,
    ⟨(die [] (fun b => { b with int := { b.int with confQ := [{ kind := 3, index := 4, left := 3, confirm := some 9 }] } })), { kind := 3, index := 4, left := 3, confirm := some 9 }, [], _, by decide, by decide, by decide, rfl⟩,
    ⟨(die [] (fun b => { b with int := { b.int with unfQ := [{ kind := 3, index := 4, left := 3, unfence := true }] } })), { kind := 3, index := 4, left := 3, unfence := true }, [], _, by decide, by decide, by decide, by decide, rfl⟩,
    ⟨(die []), by decide⟩⟩

theorem wit_SelfTests_4 :
    (∃ (s : State) (m : Master) (k : Nat) (i : Nat), s.b.respCode m 0xE024 0xF true 0x4000 = 0 ∧ k = (s.b.f F.INT_PART_SEL_KIND) ∧ i = (s.b.f F.INT_PART_SEL_INDEX) ∧ k ≠ 4 ∧ (s.b.part k i).fault = true) ∧
    (∃ (s : State) (m : Master) (i : Nat) (c : Block), s.b.respCode m 0xE024 0xF true 0x4000 = 0 ∧ s.b.f F.INT_PART_SEL_KIND = 4 ∧ i = (s.b.f F.INT_PART_SEL_INDEX) ∧ (s.b.part 4 i).fault = true ∧ c = (s.b.setPart 4 i (fun x => { x with fault := false }))) ∧
    (∃ (s : State) (m : Master), s.b.respCode m 0xE024 0xF true 0x4000 = 0 ∧ (s.b.part (s.b.f F.INT_PART_SEL_KIND) (s.b.f F.INT_PART_SEL_INDEX)).fault = false) ∧
    (∃ (s : State) (m : Master) (word : Nat), s.b.respCode m 0xE030 0xF true word = 0 ∧ s.b.syn.agg = false) ∧
    (∃ (s : State) (m : Master), s.b.respCode m 0xE050 0xF false 0 = 0 ∧ s.b.int.last = none) ∧
    (∃ (s : State) (m : Master) (r : Report) (c : Block), s.b.respCode m 0xE050 0xF false 0 = 0 ∧ s.b.int.last = some r ∧ c = ((((s.b.setf F.INT_LAST_INFO_UNIT r.unit).setf F.INT_LAST_INFO_CLASS r.cls).setf F.INT_LAST_INFO_OP r.op).setf F.INT_LAST_INFO_PART r.part)) :=
  ⟨⟨(die [(F.INT_PART_SEL_KIND.key, 3), (F.INT_PART_SEL_INDEX.key, 4), (F.SEC_BASE_RIGHTS.key, 2)] (fun b => b.setPart 3 4 (fun x => { x with fault := true }))), .mgmt, _, _, by decide, rfl, rfl, by decide, by decide⟩,
    ⟨(die [(F.INT_PART_SEL_KIND.key, 4), (F.INT_PART_SEL_INDEX.key, 6), (F.SEC_BASE_RIGHTS.key, 2)] (fun b => b.setPart 4 6 (fun x => { x with fault := true }))), .mgmt, _, _, by decide, by decide, rfl, by decide, rfl⟩,
    ⟨(die []), .mgmt, by decide, by decide⟩,
    ⟨(die []), .mgmt, 6, by decide, by decide⟩,
    ⟨(die []), .mgmt, by decide, by decide⟩,
    ⟨(die [] (fun b => { b with int := { b.int with last := some { rnum := 3, unit := 1, op := 0, fmt := 0, cls := 2, flags := 0, part := 5, temp := 0, vdd := 0, exp := 0, obs := 0, ctx := 0, phase := 0, wall := 0, ref := 0 } } })), .mgmt, { rnum := 3, unit := 1, op := 0, fmt := 0, cls := 2, flags := 0, part := 5, temp := 0, vdd := 0, exp := 0, obs := 0, ctx := 0, phase := 0, wall := 0, ref := 0 }, _, by decide, by decide, rfl⟩⟩

theorem wit_ShadowRecomputation_1 :
    (∃ (s : State) (cls id digest : Nat), s.b.shadowOn = true ∧ s.b.int.opCount + 1 < 2 ^ s.b.f F.INT_SHD_CFG_SHIFT) ∧
    (∃ (s : State) (cls id digest n : Nat) (k : Nat) (c : Block) (x : Sample), s.b.shadowOn = true ∧ 2 ^ s.b.f F.INT_SHD_CFG_SHIFT ≤ s.b.int.opCount + 1 ∧ freeTag s.b.int.samples = some n ∧ k = (s.b.f F.INT_SHD_STAT_TARGET) ∧ c = ({ s.b with int := { s.b.int with opCount := 0 } }) ∧ x = ({ core := k, cls := cls % 256, id := id % 2 ^ 48, d0 := digest % 2 ^ 64, step := s.b.ant.step, tag := n, on := c.nextCore k })) ∧
    (∃ (s : State) (cls id digest : Nat), s.b.shadowOn = true ∧ 2 ^ s.b.f F.INT_SHD_CFG_SHIFT ≤ s.b.int.opCount + 1 ∧ freeTag s.b.int.samples = none) ∧
    (∃ (s : State) (cls id digest : Nat), s.b.shadowOn = false) ∧
    (∃ (s : State) (x : Sample) (l : List Sample), s.b.int.samples = x :: l ∧ x.waiting = true ∧ l.any (fun y => y.tag == x.tag) = false) ∧
    (∃ (s : State), s.b.int.samples.any (fun x => x.waiting) = false) :=
  ⟨⟨(die [(F.INT_CTRL_SHD_EN.key, 1), (F.INT_SHD_CFG_SHIFT.key, 10)]), 33, 7, 9, by decide, by decide⟩,
    ⟨(die [(F.INT_CTRL_SHD_EN.key, 1), (F.INT_SHD_CFG_SHIFT.key, 0)]), 33, 7, 9, 0, _, _, _, by decide, by decide, by decide, rfl, rfl, rfl⟩,
    ⟨(die [(F.INT_CTRL_SHD_EN.key, 1), (F.INT_SHD_CFG_SHIFT.key, 0)] (fun b => { b with int := { b.int with samples := (List.range 16).map (fun i => { core := 0, cls := 1, id := 2, d0 := 3, step := 4, tag := i, on := 1 }) } })), 33, 7, 9, by decide, by decide, by decide⟩,
    ⟨(die []), 33, 7, 9, by decide⟩,
    ⟨(die [] (fun b => { b with int := { b.int with samples := [{ core := 0, cls := 1, id := 2, d0 := 3, step := 4, tag := 5, on := 1 }] } })), { core := 0, cls := 1, id := 2, d0 := 3, step := 4, tag := 5, on := 1 }, [], by decide, by decide, by decide⟩,
    ⟨(die []), by decide⟩⟩

theorem wit_ShadowRecomputation_2 :
    (∃ (s : State) (tag digest : Nat) (x : Sample), s.b.int.samples.find? (fun y => y.tag == tag && !y.waiting) = some x ∧ x.stage = 0 ∧ digest = x.d0) ∧
    (∃ (s : State) (tag digest : Nat) (x : Sample) (c : Block), s.b.int.samples.find? (fun y => y.tag == tag && !y.waiting) = some x ∧ x.stage = 0 ∧ digest ≠ x.d0 ∧ c = ((s.b.count F.INT_SHD_COUNT_MISMATCH).raise Ev.INT_SHD_MISMATCH (s.b.count F.INT_SHD_COUNT_MISMATCH).intArgs)) ∧
    (∃ (s : State) (tag digest : Nat) (x : Sample) (c : Block) (d : Block) (e : Block), s.b.int.samples.find? (fun y => y.tag == tag && !y.waiting) = some x ∧ x.stage = 1 ∧ digest = x.d1 ∧ s.b.int.replayed.contains x.step = false ∧ s.b.ant.step - x.step ≤ s.b.f F.INT_SHD_CFG_MAXAGE ∧ c = ({ s.b with int := { s.b.int with replayed := (x.step :: s.b.int.replayed).take 256 }, pins := { s.b.pins with shdReplay := some x.step } }) ∧ d = ((c.raise Ev.INT_REPLAY c.intArgs).setPart 4 x.core (fun y => { y with test := true })) ∧ e = ({ d with pins := { d.pins with shdFence := some (x.core, true) } })) ∧
    (∃ (s : State) (tag digest : Nat) (x : Sample) (d : Block) (e : Block), s.b.int.samples.find? (fun y => y.tag == tag && !y.waiting) = some x ∧ x.stage = 1 ∧ digest = x.d1 ∧ (s.b.int.replayed.contains x.step = true ∨ s.b.f F.INT_SHD_CFG_MAXAGE < s.b.ant.step - x.step) ∧ d = (s.b.setPart 4 x.core (fun y => { y with test := true })) ∧ e = ({ d with pins := { d.pins with shdFence := some (x.core, true) } })) ∧
    (∃ (s : State) (tag digest : Nat) (x : Sample) (d : Block) (e : Block), s.b.int.samples.find? (fun y => y.tag == tag && !y.waiting) = some x ∧ x.stage = 1 ∧ digest ≠ x.d1 ∧ digest = x.d0 ∧ d = (s.b.setPart 4 x.chk (fun y => { y with test := true })) ∧ e = ({ d with pins := { d.pins with shdFence := some (x.chk, true) } })) ∧
    (∃ (s : State) (tag digest : Nat) (x : Sample), s.b.int.samples.find? (fun y => y.tag == tag && !y.waiting) = some x ∧ x.stage = 1 ∧ digest ≠ x.d1 ∧ digest ≠ x.d0) :=
  ⟨⟨(die [] (fun b => { b with int := { b.int with samples := [{ core := 0, cls := 1, id := 2, d0 := 3, step := 4, tag := 5, on := 1, waiting := false }] } })), 5, 3, { core := 0, cls := 1, id := 2, d0 := 3, step := 4, tag := 5, on := 1, waiting := false }, by decide, by decide, by decide⟩,
    ⟨(die [] (fun b => { b with int := { b.int with samples := [{ core := 0, cls := 1, id := 2, d0 := 3, step := 4, tag := 5, on := 1, waiting := false }] } })), 5, 4, { core := 0, cls := 1, id := 2, d0 := 3, step := 4, tag := 5, on := 1, waiting := false }, _, by decide, by decide, by decide, rfl⟩,
    ⟨(die [(F.INT_SHD_CFG_MAXAGE.key, 4)] (fun b => { b with int := { b.int with samples := [{ core := 0, cls := 1, id := 2, d0 := 3, step := 4, tag := 5, on := 2, stage := 1, d1 := 8, chk := 1, waiting := false }] } })), 5, 8, { core := 0, cls := 1, id := 2, d0 := 3, step := 4, tag := 5, on := 2, stage := 1, d1 := 8, chk := 1, waiting := false }, _, _, _, by decide, by decide, by decide, by decide, by decide, rfl, rfl, rfl⟩,
    ⟨(die [(F.INT_SHD_CFG_MAXAGE.key, 4)] (fun b => { b with int := { b.int with replayed := [4], samples := [{ core := 0, cls := 1, id := 2, d0 := 3, step := 4, tag := 5, on := 2, stage := 1, d1 := 8, chk := 1, waiting := false }] } })), 5, 8, { core := 0, cls := 1, id := 2, d0 := 3, step := 4, tag := 5, on := 2, stage := 1, d1 := 8, chk := 1, waiting := false }, _, _, by decide, by decide, by decide, by decide, rfl, rfl⟩,
    ⟨(die [] (fun b => { b with int := { b.int with samples := [{ core := 0, cls := 1, id := 2, d0 := 3, step := 4, tag := 5, on := 2, stage := 1, d1 := 8, chk := 1, waiting := false }] } })), 5, 3, { core := 0, cls := 1, id := 2, d0 := 3, step := 4, tag := 5, on := 2, stage := 1, d1 := 8, chk := 1, waiting := false }, _, _, by decide, by decide, by decide, by decide, rfl, rfl⟩,
    ⟨(die [] (fun b => { b with int := { b.int with samples := [{ core := 0, cls := 1, id := 2, d0 := 3, step := 4, tag := 5, on := 2, stage := 1, d1 := 8, chk := 1, waiting := false }] } })), 5, 9, { core := 0, cls := 1, id := 2, d0 := 3, step := 4, tag := 5, on := 2, stage := 1, d1 := 8, chk := 1, waiting := false }, by decide, by decide, by decide, by decide⟩⟩

theorem wit_ShadowRecomputation_3 :
    (∃ (s : State) (tag digest : Nat) (x : Sample) (right : Nat), s.b.int.samples.find? (fun y => y.tag == tag && !y.waiting) = some x ∧ (x.stage = 2 ∨ x.stage = 3) ∧ x.runs + 1 < atLeast1 (s.b.f F.INT_ST_CFG_REPEAT) ∧ right = (if x.stage = 2 then x.d1 else x.d0)) ∧
    (∃ (s : State) (tag digest : Nat) (x : Sample) (c : Block) (d : Block), s.b.int.samples.find? (fun y => y.tag == tag && !y.waiting) = some x ∧ x.stage = 2 ∧ atLeast1 (s.b.f F.INT_ST_CFG_REPEAT) ≤ x.runs + 1 ∧ (x.bad ≠ 0 ∨ digest ≠ x.d1) ∧ c = (s.b.dropSample tag) ∧ d = ((c.report 4 x.cls 0 2 x.on x.d1 x.d0 x.id false false (x.step + if c.int.replayed.contains x.step then 2 ^ 63 else 0)).faultPart 4 x.on 2)) ∧
    (∃ (s : State) (tag t0 : Nat) (x : Sample) (c : Block), s.b.int.samples.find? (fun y => y.tag == tag) = some x ∧ x.asked = some t0 ∧ t0 + s.b.us (atLeast1 (s.b.f F.INT_SHD_CFG_TMO)) ≤ s.b.clk.core ∧ x.stage < 2 ∧ c = ((s.b.dropSample tag).count F.INT_SHD_COUNT_LOST)) ∧
    (∃ (s : State) (tag t0 : Nat) (x : Sample), s.b.int.samples.find? (fun y => y.tag == tag) = some x ∧ x.asked = some t0 ∧ s.b.clk.core < t0 + s.b.us (atLeast1 (s.b.f F.INT_SHD_CFG_TMO))) ∧
    (∃ (s : State) (c : Nat) (d : Block), c = (s.b.f F.INT_SHD_STAT_TARGET) ∧ s.b.shadowOn = true ∧ s.b.int.dwellStep + atLeast1 (s.b.f F.INT_SHD_CFG_DWELL) ≤ s.b.ant.step ∧ s.b.int.samples.any (fun x => x.core == c) = false ∧ d = ({ s.b with int := { s.b.int with dwellStep := s.b.ant.step } })) ∧
    (∃ (s : State), s.b.int.samples.any (fun x => x.core == s.b.f F.INT_SHD_STAT_TARGET) = true) :=
  ⟨⟨(die [(F.INT_ST_CFG_REPEAT.key, 3)] (fun b => { b with int := { b.int with samples := [{ core := 0, cls := 1, id := 2, d0 := 3, step := 4, tag := 5, on := 0, stage := 2, d1 := 8, chk := 1, waiting := false }] } })), 5, 9, { core := 0, cls := 1, id := 2, d0 := 3, step := 4, tag := 5, on := 0, stage := 2, d1 := 8, chk := 1, waiting := false }, _, by decide, by decide, by decide, rfl⟩,
    ⟨(die [(F.INT_ST_CFG_REPEAT.key, 1), (F.INT_CTRL_EN.key, 1)] (fun b => { b with int := { b.int with samples := [{ core := 0, cls := 1, id := 2, d0 := 3, step := 4, tag := 5, on := 0, stage := 2, d1 := 8, chk := 1, waiting := false }] } })), 5, 9, { core := 0, cls := 1, id := 2, d0 := 3, step := 4, tag := 5, on := 0, stage := 2, d1 := 8, chk := 1, waiting := false }, _, _, by decide, by decide, by decide, by decide, rfl, rfl⟩,
    ⟨(die [(F.INT_SHD_CFG_TMO.key, 1)] (fun b => { b with clk := { b.clk with core := 10 ^ 6 }, int := { b.int with samples := [{ core := 0, cls := 1, id := 2, d0 := 3, step := 4, tag := 5, on := 1, waiting := false, asked := some 4 }] } })), 5, 4, { core := 0, cls := 1, id := 2, d0 := 3, step := 4, tag := 5, on := 1, waiting := false, asked := some 4 }, _, by decide, by decide, by decide, by decide, rfl⟩,
    ⟨(die [(F.INT_SHD_CFG_TMO.key, 1)] (fun b => { b with int := { b.int with samples := [{ core := 0, cls := 1, id := 2, d0 := 3, step := 4, tag := 5, on := 1, waiting := false, asked := some 4 }] } })), 5, 4, { core := 0, cls := 1, id := 2, d0 := 3, step := 4, tag := 5, on := 1, waiting := false, asked := some 4 }, by decide, by decide, by decide⟩,
    ⟨(die [(F.INT_CTRL_SHD_EN.key, 1), (F.INT_SHD_CFG_DWELL.key, 1)] (fun b => { b with ant := { b.ant with step := 9 } })), _, _, rfl, by decide, by decide, by decide, rfl⟩,
    ⟨(die [] (fun b => { b with int := { b.int with samples := [{ core := 0, cls := 1, id := 2, d0 := 3, step := 4, tag := 5, on := 1 }] } })), by decide⟩⟩

theorem wit_ShadowRecomputation_4 :
    (∃ (b : Block) (c : Nat) (n : Nat), n = (b.nextCore c) ∧ c < b.syn.hostUnits ∧ (List.range b.syn.hostUnits).any (fun x => !b.coreFenced x) = true) :=
  ⟨({ (die []).b with syn := { (die []).b.syn with hostUnits := 8 } }), 7, _, rfl, by decide, by decide⟩

theorem wit_StewardLoadAndPosts_1 :
    (∃ (s : State) (c : Block), s.b.on dSTEWARD = true ∧ s.b.stw.recheck + s.b.us 1000 ≤ s.b.clk.core ∧ c = ({ s.b with stw := { s.b.stw with recheck := s.b.clk.core } })) ∧
    (∃ (s : State), s.b.clk.core < s.b.stw.recheck + s.b.us 1000) ∧
    (∃ (b : Block) (duty : Nat), b.postOk duty = true) ∧
    (∃ (b : Block) (duty : Nat), b.postOk duty = false) ∧
    (∃ (s : State) (ready : Nat) (total : Nat) (c : Block) (d : Block), total = (s.b.us 1000) ∧ s.b.on dSTEWARD = true ∧ s.b.stw.windowStart + total ≤ s.b.clk.core ∧ s.b.is F.STW_CTRL_SHED_EN = false ∧ s.b.f F.STW_STATUS_LEVEL = 0 ∧ 100 * min ready total < s.b.f F.STW_SHED_HIGH * total ∧ c = ({ s.b with stw := { s.b.stw with windowStart := s.b.clk.core, hiRun := 0, loRun := 0 } }) ∧ d = ((c.setf F.STW_STATUS_LOAD (100 * min ready total / total)).count (F.STW_HIST_WINDOWS.ix (min 15 (16 * min ready total / total))))) ∧
    (∃ (s : State) (ready : Nat) (total : Nat) (lv : Nat) (c : Block) (d : Block), total = (s.b.us 1000) ∧ s.b.on dSTEWARD = true ∧ s.b.stw.windowStart + total ≤ s.b.clk.core ∧ s.b.is F.STW_CTRL_SHED_EN = true ∧ lv = (s.b.f F.STW_STATUS_LEVEL) ∧ lv < 3 ∧ s.b.f F.STW_SHED_HIGH * total ≤ 100 * min ready total ∧ s.b.f F.STW_SHED_LOW < s.b.f F.STW_SHED_HIGH ∧ atLeast1 (s.b.f F.STW_SHED_SPAN) ≤ s.b.stw.hiRun + 1 ∧ c = ({ s.b with stw := { s.b.stw with windowStart := s.b.clk.core, hiRun := 0, loRun := 0 } }) ∧ d = (((c.setf F.STW_STATUS_LOAD (100 * min ready total / total)).count (F.STW_HIST_WINDOWS.ix (min 15 (16 * min ready total / total)))).raise Ev.STW_OVERLOAD)) :=
  ⟨⟨(die [] (fun b => { b with clk := { b.clk with core := 10 ^ 7 } })), _, by decide, by decide, rfl⟩,
    ⟨(die []), by decide⟩,
    ⟨((die []).b), 3, by decide⟩,
    ⟨({ (die []).b with stw := { (die []).b.stw with posts := [64] } }), 0, by decide⟩,
    ⟨(die [(F.STW_CTRL_SHED_EN.key, 0), (F.STW_SHED_HIGH.key, 90)] (fun b => { b with clk := { b.clk with core := 10 ^ 7 } })), 5, _, _, _, rfl, by decide, by decide, by decide, by decide, by decide, rfl, rfl⟩,
    ⟨(die [(F.STW_CTRL_SHED_EN.key, 1), (F.STW_SHED_HIGH.key, 90), (F.STW_SHED_LOW.key, 60), (F.STW_SHED_SPAN.key, 1)] (fun b => { b with clk := { b.clk with core := 10 ^ 7 } })), 10000000, _, _, _, _, rfl, by decide, by decide, by decide, rfl, by decide, by decide, by decide, by decide, rfl, rfl⟩⟩

theorem wit_StewardLoadAndPosts_2 :
    (∃ (level hiRun loRun span : Nat) (hi lo : Bool) (x : Nat × Nat × Nat), level ≤ 3 ∧ x = (shedLevel level hiRun loRun span hi lo)) ∧
    (∃ (s : State) (duty : Nat), s.b.on dSTEWARD = true ∧ duty < 4 ∧ duty ∉ s.b.stw.warned ∧ s.b.wdogTime ≤ 2 * (s.b.clk.aon - (s.b.stw.checkIn[duty]?).getD 0)) ∧
    (∃ (s : State) (duty : Nat), (4 ≤ duty ∨ duty ∈ s.b.stw.warned ∨ 2 * (s.b.clk.aon - (s.b.stw.checkIn[duty]?).getD 0) < s.b.wdogTime)) ∧
    (∃ (s : State) (duty : Nat), s.b.on dSTEWARD = true ∧ duty < 4 ∧ s.b.wdogTime ≤ s.b.clk.aon - (s.b.stw.checkIn[duty]?).getD 0) ∧
    (∃ (s : State) (duty : Nat), (4 ≤ duty ∨ s.b.clk.aon - (s.b.stw.checkIn[duty]?).getD 0 < s.b.wdogTime)) :=
  ⟨⟨2, 3, 4, 10, true, false, _, by decide, rfl⟩,
    ⟨(die [(F.STW_WDOG_TIMEOUT.key, 1)] (fun b => { b with clk := { b.clk with aon := 10 ^ 7 } })), 2, by decide, by decide, by decide, by decide⟩,
    ⟨(die []), 5, by decide⟩,
    ⟨(die [(F.STW_WDOG_TIMEOUT.key, 1)] (fun b => { b with clk := { b.clk with aon := 10 ^ 7 }, stw := { b.stw with warned := [2] } })), 2, by decide, by decide, by decide⟩,
    ⟨(die []), 5, by decide⟩⟩

theorem wit_SyncCounters_1 :
    (∃ (s : State) (m : Master) (i n : Nat) (x : SynCtr) (c : Block), s.b.respCode m 0xF100 0xF true (i % 4096 + n % 65536 * 65536) = 0 ∧ x = (s.b.ctr (i % 4096)) ∧ c = ({ s.b with syn_ := { s.b.syn_ with results := s.b.syn_.results.put m.num ⟨x.v, 0, x.ovf, x.unf⟩ } })) ∧
    (∃ (s : State) (m : Master) (i n : Nat), s.b.respCode m 0xF100 0xF true (i % 4096 + 4096 + n % 65536 * 65536) = 0 ∧ i % 4096 < 256) ∧
    (∃ (s : State) (m : Master) (i n : Nat) (x : SynCtr) (c : Block), s.b.respCode m 0xF100 0xF true (i % 4096 + 4096 + n % 65536 * 65536) = 0 ∧ 256 ≤ i % 4096 ∧ x = (s.b.ctr (i % 4096)) ∧ x.v + n % 65536 ≤ 0xFFFF ∧ c = ((s.b.setCtr (i % 4096) { x with v := x.v + n % 65536 }).synAnswer m.num (i % 4096) 0)) ∧
    (∃ (s : State) (m : Master) (i n : Nat) (x : SynCtr) (c : Block) (d : Block), s.b.respCode m 0xF100 0xF true (i % 4096 + 4096 + n % 65536 * 65536) = 0 ∧ 256 ≤ i % 4096 ∧ x = (s.b.ctr (i % 4096)) ∧ 0xFFFF < x.v + n % 65536 ∧ c = ((s.b.setCtr (i % 4096) { x with v := 0xFFFF, ovf := true }).synAnswer m.num (i % 4096) 2) ∧ d = ((((c.setf F.SYN_FAULT_INDEX (i % 4096)).setf F.SYN_FAULT_KIND 0).setf F.SYN_FAULT_VALID 1).raise Ev.STW_SYN_OVERFLOW [(i % 4096, 16), (m.num, 8)])) ∧
    (∃ (s : State) (w i n : Nat) (x : SynCtr), s.b.on dSTEWARD = true ∧ x = (s.b.ctr (i % 4096)) ∧ n % 65536 ≤ x.v) ∧
    (∃ (s : State) (w i n : Nat) (x : SynCtr) (c : Block), s.b.on dSTEWARD = true ∧ x = (s.b.ctr (i % 4096)) ∧ x.v < n % 65536 ∧ c = ((s.b.setCtr (i % 4096) { x with v := 0, unf := true }).synAnswer (8 + w % 8) (i % 4096) 3)) :=
  ⟨⟨(die [] (fun b => b.setCtr 300 { v := 7 })), .mgmt, 300, 0, _, _, by decide, rfl, rfl⟩,
    ⟨(die [(F.SEC_BASE_RIGHTS.key, 2)]), .mgmt, 255, 1, by decide, by decide⟩,
    ⟨(die [(F.SEC_BASE_RIGHTS.key, 2)] (fun b => b.setCtr 256 { v := 65530 })), .mgmt, 256, 5, _, _, by decide, by decide, rfl, by decide, rfl⟩,
    ⟨(die [(F.SEC_BASE_RIGHTS.key, 2)] (fun b => b.setCtr 256 { v := 65530 })), .mgmt, 256, 6, _, _, _, by decide, by decide, rfl, by decide, rfl, rfl⟩,
    ⟨(die [] (fun b => b.setCtr 3 { v := 5 })), 2, 3, 5, _, by decide, rfl, by decide⟩,
    ⟨(die [] (fun b => b.setCtr 3 { v := 5 })), 2, 3, 6, _, _, by decide, rfl, by decide, rfl⟩⟩

theorem wit_SyncCounters_2 :
    (∃ (s : State) (w i n : Nat) (x : SynCtr), s.b.on dSTEWARD = true ∧ x = (s.b.ctr (i % 4096)) ∧ n % 65536 ≤ x.v) ∧
    (∃ (s : State) (w i n : Nat) (x : SynCtr) (c : Block), s.b.on dSTEWARD = true ∧ x = (s.b.ctr (i % 4096)) ∧ x.v < n % 65536 ∧ c = ((s.b.setCtr (i % 4096) x).synAnswer (8 + w % 8) (i % 4096) 1)) ∧
    (∃ (s : State) (w i n : Nat) (x : SynCtr), s.b.on dSTEWARD = true ∧ x = (s.b.ctr (i % 4096)) ∧ s.b.syn_.waiters.any (fun y => y.2.1 == i % 4096) = false) ∧
    (∃ (s : State) (w i n : Nat), s.b.on dSTEWARD = true ∧ s.b.syn_.waiters.any (fun y => y.2.1 == i % 4096) = true) ∧
    (∃ (s : State) (w i n : Nat) (x : SynCtr), s.b.on dSTEWARD = true ∧ x = (s.b.ctr (i % 4096))) ∧
    (∃ (s : State) (w op i n : Nat), s.b.on dSTEWARD = true) :=
  ⟨⟨(die [] (fun b => b.setCtr 3 { v := 5 })), 2, 3, 5, _, by decide, rfl, by decide⟩,
    ⟨(die [] (fun b => b.setCtr 3 { v := 5 })), 2, 3, 6, _, _, by decide, rfl, by decide, rfl⟩,
    ⟨(die []), 2, 3, 6, _, by decide, rfl, by decide⟩,
    ⟨(die [] (fun b => { b with syn_ := { b.syn_ with waiters := [(1, 3, 9)] } })), 2, 3, 6, by decide, by decide⟩,
    ⟨(die []), 2, 3, 6, _, by decide, rfl⟩,
    ⟨(die []), 2, 7, 3, 6, by decide⟩⟩

theorem wit_SyncCounters_3 :
    (∃ (s : State) (w i n : Nat), s.b.on dSTEWARD = true) ∧
    (∃ (s : State) (w i n : Nat) (x : SynCtr), s.b.on dSTEWARD = true ∧ x = (s.b.ctr (i % 4096)) ∧ x.v + n % 65536 ≤ 0xFFFF) ∧
    (∃ (s : State) (m : Master) (op i n : Nat), s.b.respCode m 0xF100 0xF true (i % 4096 + (6 + op % 2) * 4096 + n % 65536 * 65536) = 0) ∧
    (∃ (s : State) (m : Master) (i n : Nat) (x : SynCtr), s.b.respCode m 0xF100 0xF true (i % 4096 + 8192 + n % 65536 * 65536) = 0 ∧ 256 ≤ i % 4096 ∧ x = (s.b.ctr (i % 4096)) ∧ n % 65536 ≤ x.v) ∧
    (∃ (s : State) (m : Master) (i n : Nat) (x : SynCtr), s.b.respCode m 0xF100 0xF true (i % 4096 + 12288 + n % 65536 * 65536) = 0 ∧ 256 ≤ i % 4096 ∧ x = (s.b.ctr (i % 4096)) ∧ n % 65536 ≤ x.v) ∧
    (∃ (s : State) (m : Master) (i n : Nat) (x : SynCtr), s.b.respCode m 0xF100 0xF true (i % 4096 + 12288 + n % 65536 * 65536) = 0 ∧ 256 ≤ i % 4096 ∧ x = (s.b.ctr (i % 4096)) ∧ x.v < n % 65536) :=
  ⟨⟨(die []), 2, 3, 6, by decide⟩,
    ⟨(die [] (fun b => b.setCtr 3 { v := 5 })), 2, 3, 5, _, by decide, rfl, by decide⟩,
    ⟨(die [(F.SEC_BASE_RIGHTS.key, 2)]), .mgmt, 7, 256, 3, by decide⟩,
    ⟨(die [(F.SEC_BASE_RIGHTS.key, 2)] (fun b => b.setCtr 256 { v := 5 })), .mgmt, 256, 5, _, by decide, by decide, rfl, by decide⟩,
    ⟨(die [(F.SEC_BASE_RIGHTS.key, 2)] (fun b => b.setCtr 256 { v := 5 })), .mgmt, 256, 5, _, by decide, by decide, rfl, by decide⟩,
    ⟨(die [(F.SEC_BASE_RIGHTS.key, 2)] (fun b => b.setCtr 256 { v := 5 })), .mgmt, 256, 6, _, by decide, by decide, rfl, by decide⟩⟩

theorem wit_SyncCounters_4 :
    (∃ (s : State) (m : Master) (i n : Nat) (x : SynCtr), s.b.respCode m 0xF100 0xF true (i % 4096 + 16384 + n % 65536 * 65536) = 0 ∧ 256 ≤ i % 4096 ∧ x = (s.b.ctr (i % 4096)) ∧ s.b.syn_.waiters.any (fun y => y.2.1 == i % 4096) = false) ∧
    (∃ (s : State) (m : Master) (i n : Nat) (x : SynCtr), s.b.respCode m 0xF100 0xF true (i % 4096 + 20480 + n % 65536 * 65536) = 0 ∧ 256 ≤ i % 4096 ∧ x = (s.b.ctr (i % 4096))) ∧
    (∃ (s : State) (w i n : Nat), s.b.on dSTEWARD = false) ∧
    (∃ (c : SynCtr) (n : Nat), c.v < 65536) :=
  ⟨⟨(die [(F.SEC_BASE_RIGHTS.key, 2)] (fun b => b.setCtr 256 { v := 5 })), .mgmt, 256, 3, _, by decide, by decide, rfl, by decide⟩,
    ⟨(die [(F.SEC_BASE_RIGHTS.key, 2)] (fun b => b.setCtr 256 { v := 5 })), .mgmt, 256, 3, _, by decide, by decide, rfl⟩,
    ⟨(State.reset), 2, 3, 6, by decide⟩,
    ⟨{ v := 65530 }, 6, by decide⟩⟩

theorem wit_Interrupts_1 :
    (∃ (s : State) (n : Nat) (level : Bool) (k : Nat) (c : Block), k = (n % 32) ∧ s.b.on dSTEWARD = true ∧ s.b.inMode k = 2 ∧ c = ({ s.b with irq := { s.b.irq with inLvl := setBit s.b.irq.inLvl k (if level then 1 else 0) } })) ∧
    (∃ (s : State) (n : Nat) (level : Bool) (k : Nat) (c : Block), k = (n % 32) ∧ s.b.on dSTEWARD = true ∧ s.b.inMode k = 0 ∧ c = ({ s.b with irq := { s.b.irq with inLvl := setBit s.b.irq.inLvl k (if level then 1 else 0) } })) ∧
    (∃ (s : State) (n : Nat) (k : Nat), k = (n % 32) ∧ s.b.dom dSTEWARD = 1 ∧ s.b.on dSTEWARD = false ∧ (s.b.irq.latchMode[k]?).getD 0 = 3 ∧ bit s.b.irq.inLvl k = 1) ∧
    (∃ (s : State) (m : Master), s.b.respCode m 0xF210 0xF false 0 = 0) ∧
    (∃ (s : State) (m : Master) (t0 : Nat), (t0 = 1 ∨ t0 = 2 ∨ t0 = 3) ∧ s.b.respCode m (0xF210 + 16 * t0) 0xF false 0 = 0 ∧ pickClaim s.b.prio (s.b.eligibles t0) = none) ∧
    (∃ (s : State) (m : Master) (t0 k : Nat) (x : IrqTgt) (c : Block), (t0 = 1 ∨ t0 = 2 ∨ t0 = 3) ∧ s.b.respCode m (0xF210 + 16 * t0) 0xF false 0 = 0 ∧ pickClaim s.b.prio (s.b.eligibles t0) = some k ∧ x = (s.b.tgt t0) ∧ c = (s.b.setTgt t0 { x with stack := (k, x.rp) :: x.stack, rp := s.b.prio k })) :=
  ⟨⟨(die [((F.IRQ_SRC_CFG_MODE.ix 483).key, 2)]), 3, true, _, _, rfl, by decide, by decide, rfl⟩,
    ⟨(die []), 3, true, _, _, rfl, by decide, by decide, rfl⟩,
    ⟨(die [] (fun b => { (b.setDom dSTEWARD 1) with irq := { b.irq with inLvl := 8, latchMode := [0, 0, 0, 3] } })), 3, _, rfl, by decide, by decide, by decide, by decide⟩,
    ⟨(die []), .mgmt, by decide⟩,
    ⟨(die []), .mgmt, 3, by decide +kernel, by decide +kernel, by decide +kernel⟩,
    ⟨(die [((srcFld 70).key, 1), ((F.IRQ_SRC_CFG_EN.ix 70).key, 1), ((F.IRQ_SRC_CFG_TGT.ix 70).key, 1), ((F.IRQ_SRC_CFG_PRIO.ix 70).key, 5)]), .mgmt, 1, 70, _, _, by decide +kernel, by decide +kernel, by decide +kernel, rfl, rfl⟩⟩

theorem wit_Interrupts_2 :
    (∃ (s : State) (w : Nat) (k : Nat) (x : IrqTgt), s.b.threadRuns 4 = true ∧ pickClaim s.b.prio (s.b.eligibles 0) = some k ∧ x = (s.b.tgt 0)) ∧
    (∃ (b : Block) (t0 k : Nat), pickClaim b.prio (b.eligibles t0) = some k) ∧
    (∃ (s : State) (m : Master) (t0 src rp : Nat) (rest : List (Nat × Nat)) (x : IrqTgt) (c : Block), t0 < 4 ∧ src < 512 ∧ s.b.respCode m (0xF214 + 16 * t0) 0xF true src = 0 ∧ x = (s.b.tgt t0) ∧ x.stack = (src, rp) :: rest ∧ s.b.pends src = false ∧ c = (s.b.setTgt t0 { x with stack := rest, rp := rp }) ∧ c.pends src = false) ∧
    (∃ (s : State) (w src rp : Nat) (rest : List (Nat × Nat)) (x : IrqTgt) (c : Block), src < 512 ∧ s.b.threadRuns 4 = true ∧ x = (s.b.tgt 0) ∧ x.stack = (src, rp) :: rest ∧ s.b.pends src = false ∧ c = (s.b.setTgt 0 { x with stack := rest, rp := rp }) ∧ c.pends src = false) ∧
    (∃ (s : State) (m : Master) (t0 src : Nat), t0 < 4 ∧ src < 512 ∧ s.b.respCode m (0xF214 + 16 * t0) 0xF true src = 0 ∧ ((s.b.tgt t0).stack.head?).map (fun p => p.1) ≠ some src) ∧
    (∃ (s : State) (n : Nat), s.b.on dSTEWARD = true) :=
  ⟨⟨(die [((srcFld 70).key, 1), ((F.IRQ_SRC_CFG_EN.ix 70).key, 1), ((F.IRQ_SRC_CFG_PRIO.ix 70).key, 5)]), 4, 70, _, by decide +kernel, by decide +kernel, rfl⟩,
    ⟨((die [((srcFld 70).key, 1), ((F.IRQ_SRC_CFG_EN.ix 70).key, 1), ((F.IRQ_SRC_CFG_PRIO.ix 70).key, 5)]).b), 0, 70, by decide +kernel⟩,
    ⟨(die [(F.SEC_BASE_RIGHTS.key, 2)] (fun b => b.setTgt 1 { stack := [(70, 0)], rp := 5 })), .mgmt, 1, 70, 0, [], _, _, by decide, by decide, by decide, rfl, by decide, by decide, rfl, by decide⟩,
    ⟨(die [] (fun b => b.setTgt 0 { stack := [(70, 0)], rp := 5 })), 4, 70, 0, [], _, _, by decide, by decide, rfl, by decide, by decide, rfl, by decide⟩,
    ⟨(die [(F.SEC_BASE_RIGHTS.key, 2)]), .mgmt, 1, 70, by decide, by decide, by decide, by decide⟩,
    ⟨(die []), 6, by decide⟩⟩

theorem wit_Interrupts_3 :
    (∃ (b : Block) (t0 : Nat), b.eligibles t0 = []) ∧
    (∃ (s : State) (src e : Nat) (g : Guard), g = (s.b.irq.guards.getD src {}) ∧ g.holdEnd = some e ∧ e ≤ s.b.clk.core) ∧
    (∃ (s : State) (src : Nat), (s.b.irq.guards.getD src {}).holdEnd = none) ∧
    (∃ (s : State) (src e : Nat) (g : Guard), g = (s.b.irq.guards.getD src {}) ∧ g.holdEnd = none ∧ g.lastEnd = some e ∧ e + s.b.stormWin < s.b.clk.core) ∧
    (∃ (s : State) (src : Nat), (s.b.irq.guards.getD src {}).lastEnd = none) :=
  ⟨⟨((die []).b), 3, by decide +kernel⟩,
    ⟨(die [] (fun b => { b with clk := { b.clk with core := 10 }, irq := { b.irq with guards := [(70, { begins := [], count := 1, lastEnd := none, holdEnd := some 5 })] } })), 70, 5, _, rfl, by decide, by decide⟩,
    ⟨(die []), 70, by decide⟩,
    ⟨(die [(F.IRQ_STORM_WIN.key, 1)] (fun b => { b with clk := { b.clk with core := 10 ^ 6 }, irq := { b.irq with guards := [(70, { begins := [], count := 1, lastEnd := some 5, holdEnd := none })] } })), 70, 5, _, rfl, by decide, by decide, by decide⟩,
    ⟨(die []), 70, by decide⟩⟩

theorem wit_EventLogAndWatcher_1 :
    (∃ (s : State) (l : List LogEntry) (c : Block), l = (s.b.evl.uncarried) ∧ s.b.threadRuns 5 = true ∧ s.b.is F.STW_CTRL_LOG_EMIT = true ∧ (64 ≤ l.length ∨ l.head?.any (fun e => decide (e.time + s.b.us 1000 ≤ s.b.clk.core)) = true) ∧ c = ({ s.b with evl := { s.b.evl with carried := ((l.take 64).getLast?).elim s.b.evl.carried (fun e => e.seqno) } })) ∧
    (∃ (s : State), (s.b.is F.STW_CTRL_LOG_EMIT = false ∨ s.b.shed 5 = true ∨ s.b.evl.uncarried = [])) ∧
    (∃ (s : State) (m : Master) (n : Nat) (e : LogEntry) (c : Block), n < 2 ^ 32 ∧ s.b.respCode m 0xF038 0xF true n = 0 ∧ c = (s.b.setf F.STW_LOG_SEL_SEQNO n) ∧ s.b.evl.ring.find? (fun x => x.seqno == n) = some e) ∧
    (∃ (s : State) (m : Master) (n : Nat) (c : Block), n < 2 ^ 32 ∧ s.b.respCode m 0xF038 0xF true n = 0 ∧ c = (s.b.setf F.STW_LOG_SEL_SEQNO n) ∧ s.b.evl.ring.find? (fun x => x.seqno == n) = none) ∧
    (∃ (s : State), s.b.f F.PWR_WAKE_TIMER_US ≠ 0 ∧ s.b.f F.PWR_WAKE_TIMER_US ≤ (s.b.clk.aon - s.b.pwr.timerFrom) / 25) ∧
    (∃ (s : State), ((s.b.clk.aon - s.b.pwr.timerFrom) / 25 < s.b.f F.PWR_WAKE_TIMER_US ∨ s.b.f F.PWR_WAKE_TIMER_US = 0)) :=
  ⟨⟨(die [(F.STW_CTRL_LOG_EMIT.key, 1)] (fun b => { b with clk := { b.clk with core := 10 ^ 7 }, evl := { b.evl with ring := [{ seqno := 1, source := 4 }], next := 2 } })), _, _, rfl, by decide, by decide, by decide, rfl⟩,
    ⟨(die []), by decide⟩,
    ⟨(die [] (fun b => { b with evl := { b.evl with ring := [{ seqno := 7, source := 4 }] } })), .mgmt, 7, { seqno := 7, source := 4 }, _, by decide, by decide, rfl, by decide⟩,
    ⟨(die []), .mgmt, 7, _, by decide, by decide, rfl, by decide⟩,
    ⟨(die [(F.PWR_WAKE_TIMER_US.key, 4)] (fun b => { b with clk := { b.clk with aon := 100 } })), by decide, by decide⟩,
    ⟨(die [(F.PWR_WAKE_TIMER_US.key, 4)] (fun b => { b with clk := { b.clk with aon := 99 } })), by decide⟩⟩

theorem wit_EventLogAndWatcher_2 :
    (∃ (s : State) (n : Nat) (k : Nat), k = (n % 32) ∧ (s.b.is (F.PWR_WAKE_SRC_EN.at k) = false ∨ s.b.watched (s.b.f (F.PWR_WAKE_SRC_SRC.at k)) = false)) ∧
    (∃ (s : State) (n : Nat) (q : PSeq) (k : Nat) (c : Block), k = (n % 32) ∧ s.b.is (F.PWR_WAKE_SRC_EN.at k) = true ∧ s.b.watched (s.b.f (F.PWR_WAKE_SRC_SRC.at k)) = true ∧ s.b.pwr.seq = some q ∧ q.kind = .entry ∧ c = (s.b.setf ⟨0x10880, k, 1, 0⟩ 1)) ∧
    (∃ (s : State) (n : Nat) (k : Nat) (c : Block), k = (n % 32) ∧ s.b.is (F.PWR_WAKE_SRC_EN.at k) = true ∧ s.b.watched (s.b.f (F.PWR_WAKE_SRC_SRC.at k)) = true ∧ s.b.pwr.seq = none ∧ c = (s.b.setf ⟨0x10880, k, 1, 0⟩ 1)) :=
  ⟨⟨(die []), 35, _, rfl, by decide⟩,
    ⟨(die [((F.PWR_WAKE_SRC_EN.at 3).key, 1), ((F.PWR_WAKE_SRC_SRC.at 3).key, 0x220)] (fun b => { b with vsb := { b.vsb with seen := true }, pwr := { b.pwr with seq := some { kind := .entry, wait := .answer, dom := 4, todo := [], since := 0 } } })), 3, { kind := .entry, wait := .answer, dom := 4, todo := [], since := 0 }, _, _, rfl, by decide, by decide, by decide, by decide, rfl⟩,
    ⟨(die [((F.PWR_WAKE_SRC_EN.at 3).key, 1), ((F.PWR_WAKE_SRC_SRC.at 3).key, 0x220)] (fun b => { b with vsb := { b.vsb with seen := true } })), 3, _, _, rfl, by decide, by decide, by decide, rfl⟩⟩

theorem wit_Sideband_1 :
    (∃ (s : State) (f : VsbFrame) (acked : Bool) (c : Block) (d : Block) (o : Option VsbOut), s.b.vsbOn = true ∧ f.dest ≠ 0x3F ∧ s.b.is F.STW_VSB_STATUS_SOLO = false ∧ s.b.vsb.out = none ∧ c = ({ s.b with vsb := { s.b.vsb with queue := s.b.vsb.queue.filter (fun x => x != f) } }) ∧ d = ((c.vsbPut f).checkIn 3) ∧ o = (if acked then (if f.request then some { frame := f, tries := 0, sentAt := d.clk.aon, acked := true } else none) else some { frame := f, tries := 0, sentAt := d.clk.aon, acked := false })) ∧
    (∃ (s : State) (f : VsbFrame) (acked : Bool) (c : Block), s.b.vsbOn = true ∧ f.dest = 0x3F ∧ (f.typ = 4 ∨ s.b.is F.STW_VSB_STATUS_SOLO = false) ∧ c = ({ s.b with vsb := { s.b.vsb with queue := s.b.vsb.queue.filter (fun x => x != f) } })) ∧
    (∃ (s : State) (f : VsbFrame) (acked : Bool), s.b.vsbOn = true ∧ s.b.is F.STW_VSB_STATUS_SOLO = false) ∧
    (∃ (s : State) (f : VsbFrame) (won acked : Bool), s.b.vsbOn = true ∧ s.b.is F.STW_VSB_STATUS_SOLO = true ∧ f.dest ≠ 0x3F) ∧
    (∃ (s : State) (src status value : Nat) (o : VsbOut) (c : Block), s.b.vsbOn = true ∧ c = (s.b.vsbHeard src) ∧ c.vsb.out = some o ∧ o.acked = true ∧ o.frame.dest = src) ∧
    (∃ (s : State) (src status value : Nat) (c : Block), s.b.vsbOn = true ∧ c = (s.b.vsbHeard src) ∧ c.vsb.out = none) :=
  ⟨⟨(die []), { dest := 4, src := 1, typ := 1, payload := [0, 0, 0, 0] }, false, _, _, _, by decide, by decide, by decide, by decide, rfl, rfl, rfl⟩,
    ⟨(die []), { dest := 0x3F, src := 1, typ := 4 }, false, _, by decide, by decide, .inl (by decide), rfl⟩,
    ⟨(die []), { dest := 4, src := 1, typ := 1 }, false, by decide, by decide⟩,
    ⟨(die [(F.STW_VSB_STATUS_SOLO.key, 1)]), { dest := 4, src := 1, typ := 1 }, true, false, by decide, by decide, by decide⟩,
    ⟨(die [] (fun b => { b with vsb := { b.vsb with out := some { frame := { dest := 4, src := 1, typ := 1 }, acked := true } } })), 4, 0, 9, { frame := { dest := 4, src := 1, typ := 1 }, acked := true }, _, by decide, rfl, by decide, by decide, by decide⟩,
    ⟨(die []), 4, 0, 9, _, by decide, rfl, by decide⟩⟩

theorem wit_Sideband_2 :
    (∃ (b : Block) (src : Nat) (c : Block), src = b.vsbAddr ∧ c = (b.count F.STW_VSB_STAT_FRAMES)) ∧
    (∃ (s : State) (src ploc role : Nat) (solo : Bool) (c : Block) (d : Block) (e : Block) (v : Block), s.b.vsbOn = true ∧ src ≠ s.b.vsbAddr ∧ s.b.is F.STW_VSB_STATUS_SOLO = true ∧ c = (s.b.count F.STW_VSB_STAT_FRAMES) ∧ d = ({ c with vsb := { c.vsb with seen := true, heard := some c.clk.aon } }) ∧ d.vsbAddr = s.b.vsbAddr ∧ d.is F.STW_VSB_STATUS_SOLO = true ∧ e = ((d.setf F.STW_VSB_STATUS_SOLO 0).raise Ev.STW_VSB_REJOIN) ∧ v = (e.vsbPut (e.vsbBeacon false))) ∧
    (∃ (s : State) (src ploc role : Nat) (solo : Bool), s.b.vsbOn = false) ∧
    (∃ (s : State) (src proc ldi step repoch : Nat), s.b.vsbOn = true) ∧
    (∃ (s : State) (acked : Bool) (o : VsbOut) (c : Block) (n : Option VsbOut), s.b.vsb.out = some o ∧ o.acked = false ∧ o.tries < atLeast1 (s.b.f F.STW_VSB_CFG_RETRY) ∧ o.sentAt + aonUs (100 * 2 ^ o.tries) ≤ s.b.clk.aon ∧ c = (s.b.vsbPut o.frame) ∧ n = (if acked then (if o.frame.request then some { frame := o.frame, tries := o.tries + 1, sentAt := c.clk.aon, acked := true } else none) else some { frame := o.frame, tries := o.tries + 1, sentAt := c.clk.aon, acked := false })) ∧
    (∃ (s : State) (acked : Bool) (o : VsbOut), s.b.vsb.out = some o ∧ o.acked = false ∧ atLeast1 (s.b.f F.STW_VSB_CFG_RETRY) ≤ o.tries ∧ s.b.vsb.heard.any (fun n => decide (s.b.clk.aon - n ≤ aonUs 10000)) = true) :=
  ⟨⟨((die []).b), ((die []).b.vsbAddr), _, by decide, rfl⟩,
    ⟨(die [(F.STW_VSB_STATUS_SOLO.key, 1)]), 4, 9, 0, false, _, _, _, _, by decide, by decide, by decide, rfl, rfl, by decide, by decide, rfl, rfl⟩,
    ⟨(die [(F.STW_VSB_CFG_EN.key, 0)] (fun b => b.setf F.STW_VSB_CFG_EN 0)), 4, 9, 0, false, by decide⟩,
    ⟨(die []), 4, 1, 2, 3, 4, by decide⟩,
    ⟨(die [(F.STW_VSB_CFG_RETRY.key, 3)] (fun b => { b with clk := { b.clk with aon := 10 ^ 6 }, vsb := { b.vsb with out := some { frame := { dest := 4, src := 1, typ := 1 } } } })), true, { frame := { dest := 4, src := 1, typ := 1 } }, _, _, by decide, by decide, by decide, by decide, rfl, rfl⟩,
    ⟨(die [(F.STW_VSB_CFG_RETRY.key, 3)] (fun b => { b with vsb := { b.vsb with heard := some 0, out := some { frame := { dest := 4, src := 1, typ := 1 }, tries := 3 } } })), true, { frame := { dest := 4, src := 1, typ := 1 }, tries := 3 }, by decide, by decide, by decide, by decide⟩⟩

theorem wit_Sideband_3 :
    (∃ (s : State) (acked : Bool) (o : VsbOut) (gone : List VsbFrame) (c : Block), s.b.vsb.out = some o ∧ o.acked = false ∧ atLeast1 (s.b.f F.STW_VSB_CFG_RETRY) ≤ o.tries ∧ s.b.vsb.heard = none ∧ gone = (o.frame :: s.b.vsb.queue.filter (fun x => x.dest != 0x3F)) ∧ c = ({ s.b with vsb := { s.b.vsb with out := none, queue := s.b.vsb.queue.filter (fun x => x.dest == 0x3F), failed := gone ++ s.b.vsb.failed, lone := gone, beaconIv := aonUs 1000, beaconAt := s.b.clk.aon + aonUs 1000 } })) ∧
    (∃ (s : State) (acked : Bool), s.b.vsb.out = none) ∧
    (∃ (s : State) (acked : Bool) (o : VsbOut) (c : Block) (n : Option VsbOut), s.b.vsb.out = some o ∧ o.acked = true ∧ o.sentAt + aonUs 1000 ≤ s.b.clk.aon ∧ c = (s.b.vsbPut o.frame) ∧ n = (if acked then (if o.frame.request then some { frame := o.frame, tries := 0, sentAt := c.clk.aon, acked := true } else none) else some { frame := o.frame, tries := 0, sentAt := c.clk.aon, acked := false })) ∧
    (∃ (s : State) (acked : Bool), s.b.vsb.out = none) ∧
    (∃ (s : State), s.b.vsbOn = true) ∧
    (∃ (s : State) (iv : Nat) (c : Block), s.b.vsbOn = true ∧ s.b.is F.STW_VSB_STATUS_SOLO = true ∧ s.b.vsb.beaconAt ≤ s.b.clk.aon ∧ iv = (min (2 * s.b.vsb.beaconIv) (aonUs (10000 * atLeast1 (s.b.f F.STW_VSB_CFG_BMAX)))) ∧ c = (s.b.vsbPut (s.b.vsbBeacon true))) :=
  ⟨⟨(die [(F.STW_VSB_CFG_RETRY.key, 3)] (fun b => { b with vsb := { b.vsb with out := some { frame := { dest := 4, src := 1, typ := 1 }, tries := 3 } } })), true, { frame := { dest := 4, src := 1, typ := 1 }, tries := 3 }, _, _, by decide, by decide, by decide, by decide, rfl, rfl⟩,
    ⟨(die []), true, by decide⟩,
    ⟨(die [] (fun b => { b with clk := { b.clk with aon := 10 ^ 6 }, vsb := { b.vsb with out := some { frame := { dest := 4, src := 1, typ := 1 }, acked := true } } })), true, { frame := { dest := 4, src := 1, typ := 1 }, acked := true }, _, _, by decide, by decide, by decide, rfl, rfl⟩,
    ⟨(die []), true, by decide⟩,
    ⟨(die []), by decide⟩,
    ⟨(die [(F.STW_VSB_STATUS_SOLO.key, 1)]), _, _, by decide, by decide, by decide, rfl, rfl⟩⟩

theorem wit_Sideband_4 :
    (∃ (s : State), s.b.is F.STW_VSB_STATUS_SOLO = false) ∧
    (∃ (s : State), s.b.vsbOn = true) :=
  ⟨⟨(die []), by decide⟩,
    ⟨(die []), by decide⟩⟩

theorem wit_UnlockAndLockout_1 :
    (∃ (s : State) (m : Master) (v : Nat) (c : Block), s.b.respCode m 0x11050 0xF true 1 = 0 ∧ v = (s.b.fresh.1) ∧ c = (s.b.fresh.2)) ∧
    (∃ (s : State) (m : Master) (word : Nat), s.b.respCode m 0x11050 0xF true (word / 16 * 16 + 2) = 0 ∧ s.b.lockedOut m = true) ∧
    (∃ (s : State) (m : Master) (word : Nat), s.b.respCode m 0x11050 0xF true (word / 16 * 16 + 2) = 0 ∧ s.b.lockedOut m = false ∧ s.b.liveNonce m = none) ∧
    (∃ (s : State) (m : Master) (word v : Nat) (c : Block), s.b.respCode m 0x11050 0xF true (word / 16 * 16 + 2) = 0 ∧ s.b.lockedOut m = false ∧ s.b.liveNonce m = some v ∧ hmac256 (keyBytes s.b.sec.keys 0x330 32) (s.b.chalMsg m v word) = (s.b.sec.of m).respBytes ∧ c = (s.b.setSec m (fun x => { x with nonce := none, result := 0, resp := [0, 0, 0, 0, 0, 0, 0, 0], fails := 0, addR := x.addR ||| bits word 4 4, addP := x.addP ||| bits word 8 8 }))) ∧
    (∃ (s : State) (m : Master) (word v : Nat) (n : Nat) (c : Block), s.b.respCode m 0x11050 0xF true (word / 16 * 16 + 2) = 0 ∧ s.b.lockedOut m = false ∧ s.b.liveNonce m = some v ∧ hmac256 (keyBytes s.b.sec.keys 0x330 32) (s.b.chalMsg m v word) ≠ (s.b.sec.of m).respBytes ∧ n = ((s.b.sec.of m).fails + 1) ∧ n < 3 ∧ c = (s.b.setSec m (fun x => { x with nonce := none, result := 1, resp := [0, 0, 0, 0, 0, 0, 0, 0], fails := n }))) ∧
    (∃ (s : State) (m : Master) (word : Nat), s.b.respCode m 0x11050 0xF true (word / 16 * 16 + 4) = 0 ∧ s.b.lockedOut m = true) :=
  ⟨⟨(die []), .mgmt, _, _, by decide, rfl, rfl⟩,
    ⟨(die [] (fun b => b.setSec .mgmt (fun x => { x with lockEnd := some 9 }))), .mgmt, 0x10, by decide, by decide⟩,
    ⟨(die [] (fun b => b.setSec .mgmt (fun x => { x with lockEnd := none }))), .mgmt, 0x10, by decide, by decide, by decide⟩,
    ⟨(die [] (fun b => b.setSec .mgmt (fun x => { x with lockEnd := none, nonce := some (5, 9), resp := (List.range 8).map (fun i => leAt (hmac256 (List.replicate 32 0) (b.chalMsg .mgmt 5 0xFF20)) (4 * i) 4) }))), .mgmt, 0xFF20, 5, _, by decide +kernel, by decide +kernel, by decide +kernel, by decide +kernel, rfl⟩,
    ⟨(die [] (fun b => b.setSec .mgmt (fun x => { x with lockEnd := none, nonce := some (5, 9) }))), .mgmt, 0xFF20, 5, _, _, by decide +kernel, by decide +kernel, by decide +kernel, by decide +kernel, rfl, by decide +kernel, rfl⟩,
    ⟨(die [] (fun b => b.setSec .mgmt (fun x => { x with lockEnd := some 9 }))), .mgmt, 0x10, by decide, by decide⟩⟩

theorem wit_UnlockAndLockout_2 :
    (∃ (s : State) (m : Master) (word : Nat), s.b.respCode m 0x11050 0xF true (word / 16 * 16 + 4) = 0 ∧ s.b.lockedOut m = false ∧ (s.b.sealed = true ∨ s.b.pwDigest = List.replicate 32 0xFF)) ∧
    (∃ (s : State) (m : Master) (word : Nat) (c : Block), s.b.respCode m 0x11050 0xF true (word / 16 * 16 + 4) = 0 ∧ s.b.lockedOut m = false ∧ s.b.sealed = false ∧ s.b.pwDigest ≠ List.replicate 32 0xFF ∧ sha256 (s.b.sec.of m).respBytes = s.b.pwDigest ∧ c = (s.b.setSec m (fun x => { x with result := 0, resp := [0, 0, 0, 0, 0, 0, 0, 0], fails := 0, addR := x.addR ||| bits word 4 3, addP := x.addP ||| bits word 8 8 }))) ∧
    (∃ (s : State) (m : Master) (word : Nat) (n : Nat) (c : Block) (d : Block), s.b.respCode m 0x11050 0xF true (word / 16 * 16 + 4) = 0 ∧ s.b.lockedOut m = false ∧ s.b.sealed = false ∧ s.b.pwDigest ≠ List.replicate 32 0xFF ∧ sha256 (s.b.sec.of m).respBytes ≠ s.b.pwDigest ∧ n = ((s.b.sec.of m).fails + 1) ∧ 3 ≤ n ∧ c = ((s.b.setSec m (fun x => { x with result := 1, resp := [0, 0, 0, 0, 0, 0, 0, 0], fails := n })).raise Ev.SEC_UNLOCK_FAIL [(m.num, 8)]) ∧ d = (c.setSec m (fun x => { x with lockEnd := some (c.clk.aon + min 1024 (2 ^ (n - 3)) * 25000000) }))) ∧
    (∃ (s : State) (m : Master) (c : Block), s.b.respCode m 0x11050 0xF true 8 = 0 ∧ c = (s.b.setSec m (fun x => { x with addR := 0, addP := 0 }))) ∧
    (∃ (s : State) (m : Master), (s.b.liveNonce m).isSome = true) ∧
    (∃ (s : State) (m : Master), s.b.liveNonce m = none) :=
  ⟨⟨(die [] (fun b => { b with sec := { b.sec with keys := [(0x370, 1)], mgmt := { b.sec.mgmt with lockEnd := none } } })), .mgmt, 0x10, by decide, by decide, by decide⟩,
    ⟨(die [] (fun b => { b with sec := { b.sec with keys := (sha256 (List.replicate 32 0)).zipIdx.map (fun p => (0x350 + p.2, p.1)), mgmt := { b.sec.mgmt with lockEnd := none } } })), .mgmt, 0x10, _, by decide +kernel, by decide +kernel, by decide +kernel, by decide +kernel, by decide +kernel, rfl⟩,
    ⟨(die [] (fun b => { b with sec := { b.sec with mgmt := { b.sec.mgmt with lockEnd := none, fails := 2 } } })), .mgmt, 0x10, _, _, _, by decide +kernel, by decide +kernel, by decide +kernel, by decide +kernel, by decide +kernel, rfl, by decide +kernel, rfl, rfl⟩,
    ⟨(die []), .mgmt, _, by decide, rfl⟩,
    ⟨(die [] (fun b => b.setSec .mgmt (fun x => { x with nonce := some (5, 9) }))), .mgmt, by decide⟩,
    ⟨(die [] (fun b => b.setSec .mgmt (fun x => { x with nonce := some (5, 0) }))), .mgmt, by decide⟩⟩

theorem wit_UnlockAndLockout_3 :
    (∃ (s : State) (m : Master), s.b.lockedOut m = true) ∧
    (∃ (s : State) (m : Master), s.b.lockedOut m = false) ∧
    (∃ (b : Block) (m n : Master) (f : MasterSec → MasterSec), m ≠ n) :=
  ⟨⟨(die [] (fun b => b.setSec .mgmt (fun x => { x with lockEnd := some 9 }))), .mgmt, by decide⟩,
    ⟨(die [] (fun b => b.setSec .mgmt (fun x => { x with lockEnd := some 0 }))), .mgmt, by decide⟩,
    ⟨((die []).b), .mgmt, .vsb, (fun x => { x with fails := 4 }), by decide⟩⟩

theorem wit_RevocationAndTestPort_1 :
    (∃ (s : State) (m : Master) (k : Nat), s.b.respCode m 0x11078 0xF true 8 = 0 ∧ k = (s.b.f F.SEC_KEY_SEL_SLOT) ∧ (s.b.sec.signer = some k ∨ liveSlots s.b.sec.keys = [k])) ∧
    (∃ (s : State) (m : Master) (k : Nat), s.b.respCode m 0x11078 0xF true 8 = 0 ∧ k = (s.b.f F.SEC_KEY_SEL_SLOT) ∧ s.b.sec.signer ≠ some k ∧ liveSlots s.b.sec.keys ≠ [k] ∧ s.b.sec.pgm = none) ∧
    (∃ (s : State) (k : Nat) (i : Nat) (c : Block), s.b.sec.pgm = some k ∧ i = (102 * k + 101) ∧ c = ({ s.b with sec := { s.b.sec with pgm := none, otp := s.b.sec.otp.put i 1, keys := s.b.sec.keys.put i 1 } })) ∧
    (∃ (k : SMap Byte) (n : Nat), n < 8) ∧
    (∃ (s : State) (code : Nat), (code = 0x30 ∨ code = 0x31) ∧ bit (s.b.rights .test) 0 = 0) ∧
    (∃ (s : State) (m : MasterSec) (v : MasterSec), bit (s.b.rights .test) 0 = 1 ∧ m = ({ s.b.sec.mgmt with addR := 0, addP := 0, nonce := none }) ∧ v = ({ s.b.sec.vsb with addR := 0, addP := 0, nonce := none })) :=
  ⟨⟨(die [] (fun b => { b with sec := { b.sec with signer := some 0, mgmt := { b.sec.mgmt with addR := 8 } } })), .mgmt, _, by decide, rfl, by decide⟩,
    ⟨(die [] (fun b => { b with sec := { b.sec with mgmt := { b.sec.mgmt with addR := 8 } } })), .mgmt, _, by decide, rfl, by decide, by decide, by decide⟩,
    ⟨(die [] (fun b => { b with sec := { b.sec with pgm := some 3 } })), 3, _, _, by decide, rfl, rfl⟩,
    ⟨[], 3, by decide⟩,
    ⟨(die []), 0x31, by decide, by decide⟩,
    ⟨(die [] (fun b => { b with sec := { b.sec with test := { b.sec.test with addR := 1 } } })), _, _, by decide, rfl, rfl⟩⟩

theorem wit_RevocationAndTestPort_2 :
    (∃ (s : State), bit (s.b.rights .test) 0 = 1) ∧
    (∃ (s : State) (code : Nat), code ≠ 0x30 ∧ code ≠ 0x31) :=
  ⟨⟨(die [] (fun b => { b with sec := { b.sec with test := { b.sec.test with addR := 1 } } })), by decide⟩,
    ⟨(die []), 0x10, by decide, by decide⟩⟩

theorem wit_SleepAndWake_1 :
    (∃ (s : State) (m : Master) (word : Nat) (c : Block) (d : Block), s.b.respCode m 0x1000C 0xF true word = 0 ∧ c = (s.b.setf F.PWR_SLEEP_WAIT (bits word 8 8)) ∧ c.pwr.seq = none ∧ c.is F.PWR_STATUS_ASLEEP = false ∧ c.holding = false ∧ c.pwr.pfLow = true ∧ d = ({ c with pwr := { c.pwr with stopped := [], woken := false, refusal := some (0, 0xE, 0) } })) ∧
    (∃ (s : State) (m : Master) (word : Nat) (c : Block) (d : Block), s.b.respCode m 0x1000C 0xF true word = 0 ∧ c = (s.b.setf F.PWR_SLEEP_WAIT (bits word 8 8)) ∧ c.pwr.seq = none ∧ c.is F.PWR_STATUS_ASLEEP = false ∧ c.holding = false ∧ c.pwr.pfLow = false ∧ c.syn.agg = true ∧ c.is F.COC_CTRL_EN = true ∧ c.target dSTORE = 0 ∧ d = ({ c with pwr := { c.pwr with stopped := [], woken := false, refusal := some (0, 0xD, 0) } })) ∧
    (∃ (s : State) (m : Master) (word d : Nat) (l : List Nat) (c : Block) (e : Block), s.b.respCode m 0x1000C 0xF true word = 0 ∧ c = (s.b.setf F.PWR_SLEEP_WAIT (bits word 8 8)) ∧ c.pwr.seq = none ∧ c.is F.PWR_STATUS_ASLEEP = false ∧ c.holding = false ∧ c.goRefused = none ∧ e = ({ c with pwr := { c.pwr with stopped := [], woken := false, late := false } }) ∧ e.toStop = d :: l) ∧
    (∃ (s : State) (m : Master) (word : Nat) (c : Block), s.b.respCode m 0x1000C 0xF true word = 0 ∧ c = (s.b.setf F.PWR_SLEEP_WAIT (bits word 8 8)) ∧ (c.pwr.seq.isSome = true ∨ c.is F.PWR_STATUS_ASLEEP = true ∨ c.holding = true)) ∧
    (∃ (b : Block) (d : Nat), d ∈ b.toStop) ∧
    (∃ (s : State) (q : PSeq) (c : Block), s.b.pwr.seq = some q ∧ q.kind = .entry ∧ q.wait = .answer ∧ s.b.refuseReason q.dom = none ∧ c = (s.b.request q.dom (s.b.target q.dom))) :=
  ⟨⟨(die [] (fun b => { b with pwr := { b.pwr with pfLow := true } })), .mgmt, 0x1001, _, _, by decide, rfl, by decide, by decide, by decide, by decide, rfl⟩,
    ⟨(aggr [(F.COC_CTRL_EN.key, 1), (F.PWR_DOM_TGT_TGT.key, 0)]), .mgmt, 0x1001, _, _, by decide, rfl, by decide, by decide, by decide, by decide, by decide, by decide, by decide, rfl⟩,
    ⟨(die [(F.PWR_DOM_TGT_TGT.key, 0xAAAAAA - 2 ^ 22 - 2 ^ 20)] (fun b => { b with pwr := { b.pwr with start := .good } })), .mgmt, 0x1001, 11, [10], _, _, by decide, rfl, by decide, by decide, by decide, by decide, rfl, by decide⟩,
    ⟨(die [(F.PWR_STATUS_ASLEEP.key, 1)]), .mgmt, 0x1001, _, by decide, rfl, by decide⟩,
    ⟨((die [(F.PWR_DOM_TGT_TGT.key, 0)]).b), 11, by decide⟩,
    ⟨(die [] (fun b => { b with pwr := { b.pwr with seq := some { kind := .entry, wait := .answer, dom := 4, todo := [], since := 0 } } })), { kind := .entry, wait := .answer, dom := 4, todo := [], since := 0 }, _, by decide, by decide, by decide, by decide, rfl⟩⟩

theorem wit_SleepAndWake_2 :
    (∃ (s : State) (q : PSeq) (r : Nat) (mask : Nat) (c : Block), s.b.pwr.seq = some q ∧ q.kind = .entry ∧ q.wait = .answer ∧ s.b.refuseReason q.dom = some r ∧ mask = (domMask (s.b.pwr.stopped.map (fun p => p.1))) ∧ c = ({ s.b with pwr := { s.b.pwr with refusal := some (q.dom, r, mask) } })) ∧
    (∃ (s : State), s.b.pwr.seq = none) ∧
    (∃ (s : State) (q : PSeq) (mask : Nat) (c : Block), s.b.pwr.seq = some q ∧ q.kind = .entry ∧ q.wait = .answer ∧ q.since + aonUs (atLeast1 (s.b.f F.PWR_SLEEP_WAIT)) ≤ s.b.clk.aon ∧ mask = (domMask (s.b.pwr.stopped.map (fun p => p.1))) ∧ c = ({ s.b with pwr := { s.b.pwr with refusal := some (q.dom, 0xC, mask) } })) ∧
    (∃ (s : State) (q : PSeq), s.b.pwr.seq = some q ∧ (q.wait ≠ .answer ∨ s.b.clk.aon < q.since + aonUs (atLeast1 (s.b.f F.PWR_SLEEP_WAIT)))) ∧
    (∃ (s : State) (d : Nat) (q : PSeq) (v : Nat) (c : Block) (e : Block), s.b.pwr.seq = some q ∧ q.wait = .ack ∧ q.dom = d ∧ q.kind = .entry ∧ v = (s.b.pwr.req.getD d 0) ∧ c = ((s.b.stopUnit d (v != 1)).setDom d v) ∧ e = ({ c with pwr := { c.pwr with stopped := (d, v != 1) :: c.pwr.stopped } })) ∧
    (∃ (s : State) (d : Nat) (q : PSeq) (c : Block), s.b.pwr.seq = some q ∧ q.wait = .ack ∧ q.dom = d ∧ q.kind ≠ .entry ∧ c = (s.b.returned d)) :=
  ⟨⟨(die [] (fun b => { b with ant := { b.ant with fireQ := [{ idx := 5, step := 2, due := 9, cause := 0, acts := 0, bcn := false, pos := 0 }] }, pwr := { b.pwr with stopped := [(6, false)], seq := some { kind := .entry, wait := .answer, dom := 2, todo := [], since := 0 } } })), { kind := .entry, wait := .answer, dom := 2, todo := [], since := 0 }, 2, _, _, by decide, by decide, by decide, by decide, rfl, rfl⟩,
    ⟨(die []), by decide⟩,
    ⟨(die [(F.PWR_SLEEP_WAIT.key, 16)] (fun b => { b with clk := { b.clk with aon := 400 }, pwr := { b.pwr with seq := some { kind := .entry, wait := .answer, dom := 4, todo := [], since := 0 } } })), { kind := .entry, wait := .answer, dom := 4, todo := [], since := 0 }, _, _, by decide, by decide, by decide, by decide, rfl, rfl⟩,
    ⟨(die [(F.PWR_SLEEP_WAIT.key, 16)] (fun b => { b with clk := { b.clk with aon := 399 }, pwr := { b.pwr with seq := some { kind := .entry, wait := .answer, dom := 4, todo := [], since := 0 } } })), { kind := .entry, wait := .answer, dom := 4, todo := [], since := 0 }, by decide, by decide⟩,
    ⟨(die [] (fun b => { b with pwr := { b.pwr with req := [(4, 1)], seq := some { kind := .entry, wait := .ack, dom := 4, todo := [], since := 0 } } })), 4, { kind := .entry, wait := .ack, dom := 4, todo := [], since := 0 }, _, _, _, by decide, by decide, by decide, by decide, rfl, rfl, rfl⟩,
    ⟨(die [] (fun b => { b with pwr := { b.pwr with seq := some { kind := .wake, wait := .ack, dom := 7, todo := [], since := 0 } } })), 7, { kind := .wake, wait := .ack, dom := 7, todo := [], since := 0 }, _, by decide, by decide, by decide, by decide, rfl⟩⟩

theorem wit_SleepAndWake_3 :
    (∃ (s : State) (d : Nat) (q : PSeq), s.b.pwr.seq = some q ∧ (q.wait ≠ .ack ∨ q.dom ≠ d)) ∧
    (∃ (s : State) (d : Nat) (q : PSeq) (c : Block), s.b.pwr.seq = some q ∧ q.wait = .ack ∧ q.dom = d ∧ q.since + aonUs 100 ≤ s.b.clk.aon ∧ q.kind ≠ .entry ∧ c = ((s.b.setDom d 3).raise Ev.PWR_SWITCH_FAULT [(d, 8)])) ∧
    (∃ (s : State) (d : Nat) (q : PSeq), s.b.pwr.seq = some q ∧ s.b.clk.aon < q.since + aonUs 100) ∧
    (∃ (s : State) (q : PSeq), s.b.pwr.seq = some q ∧ q.wait = .gap ∧ q.since + atLeast1 (s.b.f F.RST_GAP_CYCLES) ≤ s.b.clk.aon ∧ q.kind = .start) ∧
    (∃ (s : State) (q : PSeq), s.b.pwr.seq = some q ∧ q.wait = .gap ∧ q.since + atLeast1 (s.b.f F.RST_GAP_CYCLES) ≤ s.b.clk.aon ∧ q.kind ≠ .start) ∧
    (∃ (s : State) (q : PSeq), s.b.pwr.seq = some q ∧ (q.wait ≠ .gap ∨ s.b.clk.aon < q.since + atLeast1 (s.b.f F.RST_GAP_CYCLES))) :=
  ⟨⟨(die [] (fun b => { b with pwr := { b.pwr with seq := some { kind := .wake, wait := .ack, dom := 7, todo := [], since := 0 } } })), 8, { kind := .wake, wait := .ack, dom := 7, todo := [], since := 0 }, by decide, by decide⟩,
    ⟨(die [] (fun b => { b with clk := { b.clk with aon := 2500 }, pwr := { b.pwr with seq := some { kind := .wake, wait := .ack, dom := 7, todo := [], since := 0 } } })), 7, { kind := .wake, wait := .ack, dom := 7, todo := [], since := 0 }, _, by decide, by decide, by decide, by decide, by decide, rfl⟩,
    ⟨(die [] (fun b => { b with clk := { b.clk with aon := 2499 }, pwr := { b.pwr with seq := some { kind := .wake, wait := .ack, dom := 7, todo := [], since := 0 } } })), 7, { kind := .wake, wait := .ack, dom := 7, todo := [], since := 0 }, by decide, by decide⟩,
    ⟨(die [(F.RST_GAP_CYCLES.key, 16)] (fun b => { b with clk := { b.clk with aon := 16 }, pwr := { b.pwr with seq := some { kind := .start, wait := .gap, dom := 1, todo := [5, 4], since := 0 } } })), { kind := .start, wait := .gap, dom := 1, todo := [5, 4], since := 0 }, by decide, by decide, by decide, by decide⟩,
    ⟨(die [(F.RST_GAP_CYCLES.key, 16)] (fun b => { b with clk := { b.clk with aon := 16 }, pwr := { b.pwr with seq := some { kind := .wake, wait := .gap, dom := 1, todo := [], since := 0 } } })), { kind := .wake, wait := .gap, dom := 1, todo := [], since := 0 }, by decide, by decide, by decide, by decide⟩,
    ⟨(die [(F.RST_GAP_CYCLES.key, 16)] (fun b => { b with clk := { b.clk with aon := 15 }, pwr := { b.pwr with seq := some { kind := .start, wait := .gap, dom := 1, todo := [5, 4], since := 0 } } })), { kind := .start, wait := .gap, dom := 1, todo := [5, 4], since := 0 }, by decide, by decide⟩⟩

theorem wit_SleepAndWake_4 :
    (∃ (s : State) (m : Master) (word : Nat) (c : Block), s.b.respCode m 0x1000C 0xF true word = 0 ∧ c = (s.b.setf F.PWR_SLEEP_WAIT (bits word 8 8)) ∧ c.pwr.seq = none) :=
  ⟨(die [(F.PWR_STATUS_ASLEEP.key, 1)] (fun b => { b with pwr := { b.pwr with stopped := [(7, false)] } })), .mgmt, 0x1002, _, by decide, rfl, by decide⟩

theorem wit_PowerFailAndResets_1 :
    (∃ (s : State) (c : Block) (d : Block), s.b.pwr.seq = none ∧ s.b.holding = false ∧ c = (({ s.b with pwr := { s.b.pwr with pfLow := true } }).setf F.PWR_STATUS_PF 1) ∧ d = ((c.raise Ev.PWR_PF_WARN).pfBegin) ∧ c.pwr.start = s.b.pwr.start ∧ d.pwr.seq = none) ∧
    (∃ (s : State) (c : Block), s.b.holding = false ∧ c = (({ s.b with pwr := { s.b.pwr with pfLow := false } }).setf F.PWR_STATUS_PF 0)) ∧
    (∃ (s : State) (n : Nat) (c : Block) (d : Block), s.b.pwr.start = .hold n ∧ c = (({ s.b with pwr := { s.b.pwr with pfLow := false } }).setf F.PWR_STATUS_PF 0) ∧ d = ({ c with pwr := { c.pwr with start := .hold c.clk.aon } })) ∧
    (∃ (s : State), s.b.flushing = false) ∧
    (∃ (s : State), s.b.flushing = true) ∧
    (∃ (b : Block) (k : Nat) (c : Block), (k = 2 ∨ k = 3 ∨ k = 4 ∨ k = 5) ∧ c = (b.resetCore k)) :=
  ⟨⟨(die []), _, _, by decide, by decide, rfl, rfl, by decide, by decide⟩,
    ⟨(die []), _, by decide, rfl⟩,
    ⟨(State.reset), 0, _, _, by decide, rfl, rfl⟩,
    ⟨(die []), by decide⟩,
    ⟨(die [] (fun b => { b with coc := { b.coc with flush := true } })), by decide⟩,
    ⟨((die []).b), 3, _, by decide, rfl⟩⟩

theorem wit_PowerFailAndResets_2 :
    (∃ (s : State) (m : Master) (key : Nat), s.b.respCode m 0x10104 0xF true (key % 65536 * 65536 + 1) = 0 ∧ key % 65536 ≠ 0xA5C3) ∧
    (∃ (s : State) (m : Master) (key : Nat), s.b.respCode m 0x10104 0xF true (key % 65536 * 65536 + 1) = 0 ∧ key % 65536 = 0xA5C3 ∧ s.b.flushing = false) ∧
    (∃ (s : State) (m : Master) (word : Nat), s.b.respCode m 0x10108 0xF true word = 0 ∧ bits word 16 16 ≠ 0xA5C3) ∧
    (∃ (s : State) (m : Master) (word : Nat), s.b.respCode m 0x10108 0xF true word = 0 ∧ bits word 16 16 = 0xA5C3 ∧ (s.b.pwr.seq.isSome = true ∨ s.b.is F.PWR_STATUS_ASLEEP = true ∨ s.b.flushing = true)) ∧
    (∃ (s : State) (m : Master) (word : Nat), s.b.respCode m 0x10108 0xF true word = 0 ∧ bits word 16 16 = 0xA5C3 ∧ s.b.pwr.seq = none ∧ s.b.is F.PWR_STATUS_ASLEEP = false ∧ s.b.flushing = false ∧ s.b.holding = false ∧ (s.b.unitDoms word).all (fun d => s.b.on d) = true) ∧
    (∃ (s : State) (n : Nat), s.b.pwr.start = .hold n ∧ (s.b.clk.aon < n + 50000 ∨ s.b.pwr.pfLow = true)) :=
  ⟨⟨(die []), .mgmt, 0xA5C4, by decide, by decide⟩,
    ⟨(die []), .mgmt, 0xA5C3, by decide, by decide, by decide⟩,
    ⟨(die []), .mgmt, 0x80, by decide, by decide⟩,
    ⟨(die [(F.PWR_STATUS_ASLEEP.key, 1)]), .mgmt, 0xA5C30080, by decide, by decide, by decide⟩,
    ⟨(die [(F.RST_STAT_UREF.key, 0)] (fun b => { b with pwr := { b.pwr with start := .good } })), .mgmt, 0xA5C30080, by decide, by decide, by decide, by decide, by decide, by decide, by decide⟩,
    ⟨(State.reset), 0, by decide, by decide⟩⟩

theorem wit_PowerFailAndResets_3 :
    (∃ (s : State) (n d : Nat) (l : List Nat) (c : Block) (e : Block), s.b.pwr.start = .hold n ∧ n + 50000 ≤ s.b.clk.aon ∧ s.b.pwr.pfLow = false ∧ c = ((s.b.setf F.RST_STAT_GOOD 0).count F.RST_STAT_BOOTS) ∧ c.is F.ROLE_STATUS_STRAP_BAD = false ∧ c.f F.RST_STAT_FAILS < 3 ∧ releaseOrder.filter (fun d => !domAbsent c.syn.agg d) = d :: l ∧ e = ({ c with pwr := { c.pwr with start := .release } })) ∧
    (∃ (s : State) (n : Nat) (c : Block) (d : Block) (e : Block), s.b.pwr.start = .hold n ∧ n + 50000 ≤ s.b.clk.aon ∧ s.b.pwr.pfLow = false ∧ c = ((s.b.setf F.RST_STAT_GOOD 0).count F.RST_STAT_BOOTS) ∧ c.is F.ROLE_STATUS_STRAP_BAD = false ∧ 3 ≤ c.f F.RST_STAT_FAILS ∧ d = ((((c.stopUnit dTRACE true).setf F.PWR_STATUS_CHRYS 1).setf F.RST_STAT_CHRYS 1).setf F.RST_STAT_CCAUSE 1) ∧ e = ({ d with pwr := { d.pwr with start := .release } })) ∧
    (∃ (s : State) (n : Nat), s.b.pwr.start = .running n ∧ n + atLeast1 (s.b.f F.RST_START_GOOD) * 25000000 ≤ s.b.clk.aon) ∧
    (∃ (s : State) (n : Nat), s.b.pwr.start = .running n ∧ s.b.clk.aon < n + atLeast1 (s.b.f F.RST_START_GOOD) * 25000000) ∧
    (∃ (s : State) (n : Nat) (k : Nat) (c : Block), s.b.pwr.start = .noImage n ∧ s.b.hasStore = true ∧ s.b.is F.RST_STAT_CHRYS = false ∧ n + atLeast1 (s.b.f F.RST_START_LIMIT) * 25000000 ≤ s.b.clk.aon ∧ k = (min 3 (s.b.f F.RST_STAT_FAILS + 1)) ∧ c = (((s.b.setf F.RST_STAT_FAILS k).setf F.RST_STAT_LAST 3).raise Ev.PWR_START_FAIL [(3, 8), (k, 8)])) ∧
    (∃ (s : State), s.b.hasStore = false) :=
  ⟨⟨(die [] (fun b => { b with clk := { b.clk with aon := 50000 }, pwr := { b.pwr with start := .hold 0 } })), 0, 1, [5, 4, 3, 2, 6, 7, 8, 9, 10, 11], _, _, by decide, by decide, by decide, rfl, by decide, by decide, by decide, rfl⟩,
    ⟨(die [(F.RST_STAT_FAILS.key, 3)] (fun b => { b with clk := { b.clk with aon := 50000 }, pwr := { b.pwr with start := .hold 0 } })), 0, _, _, _, by decide, by decide, by decide, rfl, by decide, by decide, rfl, rfl⟩,
    ⟨(die [(F.RST_START_GOOD.key, 1)] (fun b => { b with clk := { b.clk with aon := 25000000 }, pwr := { b.pwr with start := .running 0 } })), 0, by decide, by decide⟩,
    ⟨(die [(F.RST_START_GOOD.key, 1)] (fun b => { b with clk := { b.clk with aon := 24999999 }, pwr := { b.pwr with start := .running 0 } })), 0, by decide, by decide⟩,
    ⟨(aggr [(F.RST_START_LIMIT.key, 1)] (fun b => { b with clk := { b.clk with aon := 25000000 }, pwr := { b.pwr with start := .noImage 0 } })), 0, _, _, by decide, by decide, by decide, by decide, rfl, rfl⟩,
    ⟨(die []), by decide⟩⟩

theorem wit_PowerFailAndResets_4 :
    (∃ (s : State) (n : Nat), s.b.pwr.start = .failed n ∧ n + 25000000 ≤ s.b.clk.aon ∧ s.b.flushing = false) ∧
    (∃ (s : State) (n : Nat), s.b.pwr.start = .failed n ∧ s.b.clk.aon < n + 25000000) :=
  ⟨⟨(die [] (fun b => { b with clk := { b.clk with aon := 25000000 }, pwr := { b.pwr with start := .failed 0 } })), 0, by decide, by decide, by decide⟩,
    ⟨(die [] (fun b => { b with clk := { b.clk with aon := 24999999 }, pwr := { b.pwr with start := .failed 0 } })), 0, by decide, by decide⟩⟩

theorem wit_RetainedMemory :
    (∃ (s : State) (m : Master) (data : Nat), s.b.respCode m 0x10304 0xF true data = 0 ∧ 0x4000 ≤ s.b.retAddr) ∧
    (∃ (s : State) (m : Master) (data a : Nat), (a < s.b.retAddr ∨ s.b.retAddr + 4 ≤ a)) ∧
    (∃ (s : State) (m : Master) (data : Nat), s.b.respCode m 0x10304 0xF true data = 0 ∧ s.b.retAddr < 0x4000) ∧
    (∃ (s : State) (m : Master) (data : Nat), s.b.respCode m 0x10304 0xF false 0 = 0 ∧ 0x4000 ≤ s.b.retAddr) ∧
    (∃ (s : State) (m : Master) (wr : Bool) (data : Nat), s.b.respCode m 0x10304 0xF wr (if wr then data else 0) ≠ 0) ∧
    (∃ (b : Block) (c : Block), b.f F.PWR_RET_ADDR_WORD = 0x3FFF ∧ c = (b.retAdvance)) :=
  ⟨⟨(die [(F.PWR_RET_ADDR_WORD.key, 0x1000)]), .mgmt, 0x12345678, by decide, by decide⟩,
    ⟨(die [(F.PWR_RET_ADDR_WORD.key, 0x1000)]), .mgmt, 0x12345678, 0x4004, by decide⟩,
    ⟨(die [(F.PWR_RET_ADDR_WORD.key, 0x0FFF)]), .mgmt, 0x12345678, by decide, by decide⟩,
    ⟨(die [(F.PWR_RET_ADDR_WORD.key, 0x3FFF)]), .mgmt, 0, by decide, by decide⟩,
    ⟨(aggr [] (fun b => { b with busy := some .commit })), .mgmt, true, 7, by decide⟩,
    ⟨((die [(F.PWR_RET_ADDR_WORD.key, 0x3FFF)]).b), _, by decide, rfl⟩⟩

theorem wit_MemoryChecks_1 :
    (∃ (s : State), s.b.on dSTEWARD = true) ∧
    (∃ (s : State) (addr tag : Nat) (c : Block), s.b.on dSTEWARD = true ∧ c = ((s.b.count F.INT_ECC_UNCORR).report 7 0 0 5 0 0 0 addr)) ∧
    (∃ (s : State) (addr e : Nat) (c : Block) (d : Block), s.b.on dSTEWARD = true ∧ c = ((s.b.count F.INT_ECC_UNCORR).report 7 0 0 5 0 0 0 addr) ∧ d = (c.raise Ev.INT_UNCORR c.intArgs)) ∧
    (∃ (s : State) (addr a : Nat), s.b.on dSTEWARD = true ∧ 0x4000 ≤ a ∧ a < 0x10000) ∧
    (∃ (s : State) (addr : Nat) (what : SramHeld), s.b.on dSTEWARD = true) ∧
    (∃ (s : State) (addr a x : Nat), 0x4000 ≤ a ∧ a < 0x10000 ∧ (x < a / 8 * 8 ∨ a / 8 * 8 + 8 ≤ x)) :=
  ⟨⟨(die []), by decide⟩,
    ⟨(aggr [(F.INT_CTRL_EN.key, 1)]), 64, 9, _, by decide, rfl⟩,
    ⟨(aggr [(F.INT_CTRL_EN.key, 1)]), 64, 9, _, _, by decide, rfl, rfl⟩,
    ⟨({ (die []) with mem := [(0x4005, 7)] }), 0, 0x4001, by decide, by decide, by decide⟩,
    ⟨(die []), 64, .probe 3 true, by decide⟩,
    ⟨({ (die []) with mem := [(0x4008, 7)] }), 0, 0x4001, 0x4008, by decide, by decide, by decide⟩⟩

theorem wit_MemoryChecks_2 :
    (∃ (s : State) (w : SramWord), s.b.on dSTEWARD = false) ∧
    (∃ (s : State) (ch tag addr chk : Nat) (data : List Byte) (err : Bool) (held : SramHeld) (k : Nat), s.b.syn.agg = true ∧ k = (ch % 8 * 1024 + tag % 1024) ∧ s.b.mp.late.contains k = true) ∧
    (∃ (s : State) (ch tag addr chk : Nat) (data : List Byte) (held : SramHeld), s.b.mp.late.contains (ch % 8 * 1024 + tag % 1024) = false ∧ crc32c (leBytes 8 addr ++ slice data 0 64) = chk) ∧
    (∃ (s : State) (ch tag addr chk : Nat) (data : List Byte) (err : Bool) (held : SramHeld), s.b.syn.agg = true ∧ s.b.mp.late.contains (ch % 8 * 1024 + tag % 1024) = false ∧ (err = true ∨ crc32c (leBytes 8 addr ++ slice data 0 64) ≠ chk)) ∧
    (∃ (s : State) (ch tag addr chk : Nat) (data : List Byte) (err : Bool) (held : SramHeld), s.b.syn.agg = false) ∧
    (∃ (s : State) (ch tag addr : Nat) (k : Nat) (b0 : Block) (c : Block), s.b.syn.agg = true ∧ k = (ch % 8 * 1024 + tag % 1024) ∧ s.b.mp.late.contains k = false ∧ b0 = ({ s.b with mp := { late := k :: s.b.mp.late } }) ∧ c = ((b0.count F.INT_ECC_DRAM).report 8 0 0 5 0 0 0 (addr * 64))) :=
  ⟨⟨(State.reset), .corrected, by decide⟩,
    ⟨(aggr [] (fun b => { b with mp := { late := [1029] } })), 1, 5, 9, 0, [], true, .other, _, by decide, rfl, by decide⟩,
    ⟨(aggr []), 1, 5, 9, (crc32c (leBytes 8 9 ++ slice (List.replicate 64 3) 0 64)), (List.replicate 64 3), .other, by decide +kernel, by decide +kernel⟩,
    ⟨(aggr []), 1, 5, 9, 4, (List.replicate 64 3), false, .other, by decide +kernel, by decide +kernel, by decide +kernel⟩,
    ⟨(die []), 1, 5, 9, 4, [], true, .other, by decide⟩,
    ⟨(aggr []), 1, 5, 9, _, _, _, by decide, rfl, by decide, rfl, rfl⟩⟩

theorem wit_MemoryChecks_3 :
    (∃ (s : State) (ch tag addr : Nat) (held : SramHeld) (k : Nat), s.b.syn.agg = true ∧ k = (ch % 8 * 1024 + tag % 1024) ∧ s.b.mp.late.contains k = false) ∧
    (∃ (s : State) (ch tag addr : Nat) (held : SramHeld), (s.b.syn.agg = false ∨ s.b.mp.late.contains (ch % 8 * 1024 + tag % 1024) = true)) ∧
    (∃ (s : State) (level : Bool), s.b.syn.agg = true) :=
  ⟨⟨(aggr []), 1, 5, 9, .txn 4, _, by decide, rfl, by decide⟩,
    ⟨(die []), 1, 5, 9, .other, by decide⟩,
    ⟨(aggr []), true, by decide⟩⟩

theorem wit_AccessCodes_1 :
    (∃ (b : Block) (m : Master) (off strb data : Nat) (wr : Bool), b.busy.isSome = true) ∧
    (∃ (b : Block) (m : Master) (off strb data : Nat) (wr : Bool), b.busy = none ∧ ((0x12000 ≤ off ∧ off < 0x20000) ∨ 0x40000 ≤ off ∨ (m = .vsb ∧ off % 4 ≠ 0))) ∧
    (∃ (b : Block) (m : Master) (off strb data : Nat) (wr : Bool), b.busy = none ∧ (off < 0x12000 ∨ (0x20000 ≤ off ∧ off < 0x40000)) ∧ m ≠ .vsb ∧ (strb ≠ 0xF ∨ off % 4 ≠ 0)) ∧
    (∃ (b : Block) (m : Master) (off data : Nat) (wr : Bool), b.busy = none ∧ (off < 0x12000 ∨ (0x20000 ≤ off ∧ off < 0x40000)) ∧ off % 4 = 0 ∧ b.granted m off wr data = false) ∧
    (∃ (b : Block) (m : Master) (off data : Nat) (wr : Bool), b.busy = none ∧ (off < 0x12000 ∨ (0x20000 ≤ off ∧ off < 0x40000)) ∧ off % 4 = 0 ∧ b.granted m off wr data = true ∧ absentRegion b.syn.agg off = false ∧ offDom off ≠ 0 ∧ b.on (offDom off) = false) ∧
    (∃ (b : Block) (m : Master) (off data : Nat) (wr : Bool), b.busy = none ∧ (off < 0x12000 ∨ (0x20000 ≤ off ∧ off < 0x40000)) ∧ off % 4 = 0 ∧ b.granted m off wr data = true ∧ (absentRegion b.syn.agg off = true ∨ offDom off = 0 ∨ b.on (offDom off) = true)) :=
  ⟨⟨({ (die []).b with busy := some .commit }), .mgmt, 0x13000, 0xF, 0, true, by decide⟩,
    ⟨((die []).b), .mgmt, 0x12000, 3, 0, true, by decide, by decide⟩,
    ⟨((die []).b), .mgmt, 0x11FFE, 0xF, 0, true, by decide, by decide, by decide, by decide⟩,
    ⟨((die []).b), .test, 0x2000, 0, true, by decide, by decide, by decide, by decide⟩,
    ⟨(State.reset.b), .mgmt, 0x2000, 0, false, by decide, by decide, by decide, by decide, by decide, by decide, by decide⟩,
    ⟨((die []).b), .mgmt, 0x2000, 0, false, by decide, by decide, by decide, by decide, by decide⟩⟩

theorem wit_AccessCodes_2 :
    (∃ (s : State) (m : Master) (off strb data hw : Nat) (k : Nat), k = (s.b.respCode m off strb true data) ∧ k ≠ 0 ∧ k ≠ 2 ∧ off ≠ 0x11078) ∧
    (∃ (s : State) (m : Master) (off strb data hw : Nat), s.b.respCode m off strb true data = 2 ∧ off ≠ 0x11078) ∧
    (∃ (s : State) (m : Master) (off strb upd : Nat) (k : Nat), k = (s.b.respCode m off strb false 0) ∧ k ≠ 0 ∧ k ≠ 2) ∧
    (∃ (s : State) (m : Master) (off data : Nat) (k : Nat), k = (s.b.respCode m off 0xF true data) ∧ k ≠ 0 ∧ k ≠ 2 ∧ off ≠ 0x11078) :=
  ⟨⟨(aggr [] (fun b => { b with busy := some .commit })), .mgmt, 0x2000, 0xF, 3, 0, _, rfl, by decide, by decide, by decide⟩,
    ⟨(die []), .test, 0x2000, 0xF, 3, 0, by decide, by decide⟩,
    ⟨(State.reset), .mgmt, 0x201C, 0xF, 3, _, rfl, by decide, by decide⟩,
    ⟨(State.reset), .mgmt, 0x5050, 0x3000, _, rfl, by decide, by decide, by decide⟩⟩

theorem wit_RegisterAccesses_1 :
    (∃ (s : State) (m : Master) (off data hw : Nat), s.b.respCode m off 0xF true data = 0 ∧ off ≠ 0x11078 ∧ off ≠ 0x10304 ∧ absentRegion s.b.syn.agg off = false) ∧
    (∃ (s : State) (m : Master) (off data hw : Nat), s.b.respCode m off 0xF true data = 0 ∧ off ≠ 0x11078 ∧ off ≠ 0x10304 ∧ absentRegion s.b.syn.agg off = true) ∧
    (∃ (s : State) (m : Master) (off data : Nat), s.b.respCode m off 0xF true data = 0 ∧ off ≠ 0x11078 ∧ off ≠ 0x10304 ∧ absentRegion s.b.syn.agg off = false ∧ (regAt s.b.syn.agg off).isSome = true ∧ manyCmds off data = true ∧ off ≠ 0xA034 ∧ off ≠ 0xC060) ∧
    (∃ (s : State) (m : Master) (data : Nat) (c : Block), s.b.respCode m 0xA034 0xF true data = 0 ∧ manyCmds 0xA034 data = true ∧ c = ((s.b.writeFields 0xA034 data).raise Ev.QUE_PUSH_BAD)) ∧
    (∃ (s : State) (m : Master) (data hw : Nat), s.b.respCode m 0x10008 0xF true data = 0) ∧
    (∃ (s : State) (m : Master) (data hw : Nat), s.b.respCode m 0xF010 0xF true data = 0 ∧ s.b.locked = true) :=
  ⟨⟨(die []), .mgmt, 0x10008, 0x555555, 0, by decide, by decide, by decide, by decide⟩,
    ⟨(aggr []), .mgmt, 0x2010, 0x555555, 0, by decide, by decide, by decide, by decide⟩,
    ⟨(aggr []), .mgmt, 0x5050, 0x3005, by decide, by decide, by decide, by decide, by decide, by decide, by decide, by decide⟩,
    ⟨(aggr []), .mgmt, 7, _, by decide, by decide, rfl⟩,
    ⟨(die []), .mgmt, 0x1555555, 0, by decide⟩,
    ⟨(die [(F.ROLE_STATUS_ROLE.key, 0), (F.SEC_BASE_RIGHTS.key, 2)]), .mgmt, 0x155, 0, by decide, by decide⟩⟩

theorem wit_RegisterAccesses_2 :
    (∃ (s : State) (m : Master) (data hw : Nat), s.b.respCode m 0xF010 0xF true data = 0 ∧ s.b.locked = false) ∧
    (∃ (s : State) (m : Master) (data hw n : Nat), s.b.respCode m 0xF008 0xF true data = 0 ∧ n < 14) ∧
    (∃ (s : State) (m : Master) (upd : Nat), s.b.respCode m 0xF01C 0xF false 0 = 0) ∧
    (∃ (s : State) (m : Master) (off upd : Nat) (r : Nat × Block), s.b.respCode m off 0xF false 0 = 0 ∧ r = (s.b.busRead s.mem m off upd)) ∧
    (∃ (b : Block) (mem : Memory) (m : Master) (off upd : Nat), absentRegion b.syn.agg off = true) ∧
    (∃ (s : State) (m : Master) (word : Nat) (n : Nat) (c : Block), s.b.respCode m 0x8004 0xF true word = 0 ∧ n = (s.b.selPort) ∧ c = (Block.regEffects s.b (s.b.writeFields 0x8004 word))) :=
  ⟨⟨(die [(F.ROLE_STATUS_ROLE.key, 3), (F.SEC_BASE_RIGHTS.key, 2)]), .mgmt, 0x155, 0, by decide, by decide⟩,
    ⟨(die [(F.SEC_BASE_RIGHTS.key, 2), ((srcFld 450).key, 1)]), .mgmt, 4, 0, 2, by decide, by decide⟩,
    ⟨(die [(F.SEC_BASE_RIGHTS.key, 2), (F.STW_POSTS_LOST.key, 9)]), .mgmt, 1, by decide⟩,
    ⟨(die [(F.STW_POSTS_LOST.key, 9)]), .mgmt, 0xF01C, 1, _, by decide, rfl⟩,
    ⟨((aggr []).b), [], .mgmt, 0x2010, 0, by decide⟩,
    ⟨(die []), .mgmt, 1, _, _, by decide, rfl, rfl⟩⟩

theorem wit_RegisterAccesses_3 :
    (∃ (s : State) (src off : Nat) (c : Block) (d : Block), s.b.vsbOn = true ∧ c = (s.b.vsbHeard src) ∧ d = (c.regRead s.mem .vsb off 0xF 0)) ∧
    (∃ (s : State) (src off value : Nat) (c : Block) (d : Block), s.b.vsbOn = true ∧ off ≠ 0x10304 ∧ c = (s.b.vsbHeard src) ∧ d = (c.regWrite .vsb off 0xF value 0)) ∧
    (∃ (s : State) (src value : Nat) (c : Block) (d : Block), s.b.vsbOn = true ∧ c = (s.b.vsbHeard src) ∧ c.respCode .vsb 0x10304 0xF true value = 0 ∧ 0x4000 ≤ c.retAddr ∧ d = (c.regWrite .vsb 0x10304 0xF value 0)) ∧
    (∃ (s : State) (src off value : Nat), s.b.vsbOn = false) :=
  ⟨⟨(die []), 4, 0x10008, _, _, by decide, rfl, rfl⟩,
    ⟨(die []), 4, 0x10008, 0x555555, _, _, by decide, by decide, rfl, rfl⟩,
    ⟨(die [(F.PWR_RET_ADDR_WORD.key, 0x1000)]), 4, 0x555555, _, _, by decide, rfl, by decide, by decide, rfl⟩,
    ⟨(die [(F.STW_VSB_CFG_EN.key, 0)] (fun b => b.setf F.STW_VSB_CFG_EN 0)), 4, 0x10008, 0x555555, by decide⟩⟩

end Sys2Proof.Tests
end

section
namespace Sys2Proof.Machine

/-! Accesses that a port refuses (R9, R381) -/

/-- A narrower or misaligned access of the management port is BUSY, BADADDR or ALIGN: never OK, never DENIED. -/
theorem Block.respCode_mgmt_narrow (b : Block) {off strb : Nat} (wr : Bool) (data : Nat) (h : strb ≠ 0xF ∨ off % 4 ≠ 0) :
    b.respCode .mgmt off strb wr data ≠ 0 ∧ b.respCode .mgmt off strb wr data ≠ 2 := by
  unfold Block.respCode
  rw [if_pos h]
  repeat' split
  all_goals decide

/-- A write whose code is neither OK nor DENIED shows its code and acts on nothing. -/
theorem Block.write_refused (b : Block) (m : Master) (off data : Nat) (act : Block → Block) (strb : Nat)
    (h : b.respCode m off strb true data ≠ 0 ∧ b.respCode m off strb true data ≠ 2) :
    b.write m off data act strb = b.answer m (b.respCode m off strb true data) 0 := by
  simp [Block.write, h.1, h.2]

/-- A read whose code is neither OK nor DENIED shows its code and acts on nothing. -/
theorem Block.read_refused (b : Block) (m : Master) (off : Nat) (act : Block → Nat × Block) (strb : Nat)
    (h : b.respCode m off strb false 0 ≠ 0 ∧ b.respCode m off strb false 0 ≠ 2) :
    b.read m off act strb = b.answer m (b.respCode m off strb false 0) 0 := by
  simp [Block.read, h.1, h.2]

/-- A write that is not OK stores nothing in the retained memory (R364). -/
theorem Block.retStore_refused (b : Block) (m : Master) (off strb word : Nat) (mem : Memory)
    (h : b.respCode m off strb true word ≠ 0) : b.retStore m off strb word mem = mem := by
  simp [Block.retStore, h]

/-- An event leaves the management port's response. -/
@[simp] theorem Block.raise_rspMgmt (b : Block) (src : Nat) (args : List (Nat × Nat)) : (b.raise src args).rspMgmt = b.rspMgmt := by
  have : (b.raise src args).noEvents.rspMgmt = b.noEvents.rspMgmt := by rw [Block.noEvents_raise]
  exact this

/-- Whatever a read does, the management port shows 32 bits after it (R9). -/
theorem Block.read_mgmt_data_lt (b : Block) (off : Nat) (act : Block → Nat × Block) (strb : Nat) :
    (b.read .mgmt off act strb).rspMgmt.data < 2 ^ 32 := by
  have hcut : ∀ (c : Block) (code data : Nat), (c.answer .mgmt code data).rspMgmt.data < 2 ^ 32 :=
    fun _ _ data => Nat.mod_lt data (by decide)
  unfold Block.read
  dsimp only
  split
  · exact hcut _ _ _
  · split
    · rw [Block.raise_rspMgmt]; exact hcut _ _ _
    · exact hcut _ _ _

/-- A register write goes to the block and, at PWR_RET_DATA, to the retained memory. -/
theorem exec_registerWrite (m : Master) (off strb data hw : Nat) (s : State) :
    exec (.registerWrite m off strb data hw) s =
      .next { s with mem := s.b.retStore m off strb data s.mem, b := s.b.regWrite m off strb data hw } := rfl

/-- A register read goes to the block alone. -/
theorem exec_rcFieldRead (m : Master) (off strb upd : Nat) (s : State) :
    exec (.rcFieldRead m off strb upd) s = .next (s.put (s.b.regRead s.mem m off strb upd)) := rfl

/-- Settles O6, each clause from the one lemma on reads or writes that the port refuses. -/
theorem accessWidth : Obligations.AccessWidth := by
  unfold Obligations.AccessWidth
  refine ⟨?_, ?_, ?_⟩
  · intro s t off strb upd h
    cases h
    exact Block.read_mgmt_data_lt s.b off _ strb
  · intro s off strb data hw h
    have hcode := s.b.respCode_mgmt_narrow true data h
    have hnot : ¬(off = 0x11078 ∧ bit data 3 = 1 ∧ strb = 0xF) := by omega
    have hmem := s.b.retStore_refused .mgmt off strb data s.mem hcode.1
    have hblock : s.b.regWrite .mgmt off strb data hw = s.b.answer .mgmt _ 0 :=
      (if_neg hnot).trans (Block.write_refused s.b .mgmt off data _ strb hcode)
    refine ⟨_, hcode.1, ?_⟩
    rw [exec_registerWrite, hmem, hblock]
    rfl
  · intro s off strb upd h
    have hcode := s.b.respCode_mgmt_narrow false 0 h
    have hblock : s.b.regRead s.mem .mgmt off strb upd = s.b.answer .mgmt _ 0 := Block.read_refused s.b .mgmt off _ strb hcode
    refine ⟨_, hcode.1, ?_⟩
    rw [exec_rcFieldRead, hblock]

/-! The front of the queue, and the machine at reset -/

/-- Settles O1: a step is defined by its front command. -/
theorem stepRunsFront : Obligations.StepRunsFront := by
  unfold Obligations.StepRunsFront
  exact fun c rest s => step_cons s c rest

/-- The field table after reset lists the strapped VSB address alone, so every other field reads its reset value (R10). -/
theorem State.reset_f {x : Fld} (h : x.key ≠ 0xF084 * 32) : State.reset.b.f x = x.rst := by
  simp [Block.f, State.reset, SMap.getD, SMap.find, h.symm]

/-- Settles O3: registers by `State.reset_f`, of which the domains' states are a case; the rest is read off the reset state. -/
theorem resetState : Obligations.ResetState := by
  unfold Obligations.ResetState
  refine ⟨⟨rfl, rfl, rfl⟩, fun x h => State.reset_f h, ?_, ?_⟩
  · intro d h1 h11
    have hkey : (domFld d).key ≠ 0xF084 * 32 := by
      unfold Fld.key domFld; dsimp only; omega
    have hdom : State.reset.b.dom d = 0 := by
      rw [Block.dom, State.reset_f hkey, domFld, if_neg (by omega)]
    exact ⟨hdom, by simp [Block.on, hdom]⟩
  · intro m
    cases m <;> rfl

/-! Little-endian fields in a byte list (R112) -/

@[simp] theorem leBytes_length (n x : Nat) : (leBytes n x).length = n := by
  induction n generalizing x with
  | zero => rfl
  | succ n ih => simp [leBytes, ih]

/-- Reading n little-endian bytes back gives the number cut to 8 n bits. -/
@[simp] theorem ofLe_leBytes (n x : Nat) : ofLe (leBytes n x) = x % 2 ^ (8 * n) := by
  induction n generalizing x with
  | zero => simp [leBytes, ofLe, Nat.mod_one]
  | succ n ih =>
    have hpow : 2 ^ (8 * (n + 1)) = 256 * 2 ^ (8 * n) := by rw [Nat.mul_succ, Nat.pow_add, Nat.mul_comm]
    rw [leBytes, ofLe, ih, BitVec.toNat_ofNat, hpow, Nat.mod_mul]

/-- The field at the front of a layout reads as the number that was laid out. -/
theorem leAt_leBytes_append (n x : Nat) (t : List Byte) : leAt (leBytes n x ++ t) 0 n = x % 2 ^ (8 * n) := by
  simp [leAt, List.take_left' (leBytes_length n x)]

/-- A field further on reads past the one at the front. -/
theorem leAt_leBytes_skip {n i : Nat} (h : n ≤ i) (x m : Nat) (t : List Byte) :
    leAt (leBytes n x ++ t) i m = leAt t (i - n) m := by
  simp [leAt, List.drop_append, List.drop_eq_nil_of_le, h]

/-! The check word fits its four bytes (R227) -/

theorem crcBit_lt {c : Nat} (h : c < 2 ^ 32) : crcBit c < 2 ^ 32 := by
  unfold crcBit
  split
  · exact Nat.xor_lt_two_pow (by omega) (by decide)
  · omega

theorem crcByte_lt {c : Nat} (b : Byte) (h : c < 2 ^ 32) : crcByte c b < 2 ^ 32 := by
  have hb : b.toNat < 2 ^ 32 := b.isLt.trans (by decide)
  unfold crcByte
  iterate 8 apply crcBit_lt
  exact Nat.xor_lt_two_pow h hb

theorem foldl_crcByte_lt (bs : List Byte) {c : Nat} (h : c < 2 ^ 32) : bs.foldl crcByte c < 2 ^ 32 := by
  induction bs generalizing c with
  | nil => exact h
  | cons b t ih => exact ih (crcByte_lt b h)

theorem crc32c_lt (bs : List Byte) : crc32c bs < 2 ^ 32 :=
  Nat.xor_lt_two_pow (foldl_crcByte_lt bs (by decide)) (by decide)

/-! The header of Table 10-1 -/

@[simp] theorem Rec.head_length (r : Rec) (seq : Nat) : (r.head seq).length = 44 := by simp [Rec.head]

/-- What a reader finds at the places of Table 10-1, whatever follows the header (R227). -/
theorem Rec.head_fields (r : Rec) (seq : Nat) (t : List Byte) :
    leAt (r.head seq ++ t) 0 1 = r.typ % 2 ^ 8 ∧
    leAt (r.head seq ++ t) 1 1 = r.fmt % 16 + r.flags % 16 * 16 ∧
    leAt (r.head seq ++ t) 2 2 = r.bytes.length / 8 % 2 ^ 16 ∧
    leAt (r.head seq ++ t) 4 2 = r.stream % 2 ^ 16 ∧
    leAt (r.head seq ++ t) 6 2 = r.epoch % 2 ^ 16 ∧
    leAt (r.head seq ++ t) 8 4 = r.ldi % 2 ^ 20 + r.sev % 8 * 2 ^ 20 + r.cls % 8 * 2 ^ 23 ∧
    leAt (r.head seq ++ t) 12 6 = seq % 2 ^ 48 ∧
    leAt (r.head seq ++ t) 18 6 = 0 ∧
    leAt (r.head seq ++ t) 24 8 = r.phase % 2 ^ 64 ∧
    leAt (r.head seq ++ t) 32 8 = r.wall % 2 ^ 64 ∧
    leAt (r.head seq ++ t) 40 4 = 0 := by
  simp only [Rec.head, List.append_assoc]
  simp [leAt_leBytes_append, leAt_leBytes_skip]
  omega

/-- The word of bytes 8 to 11 holds LDI, severity and class side by side, its six reserved bits 0. -/
theorem ldiWord_bits {ldi sev cls : Nat} (hl : ldi < 2 ^ 20) (hs : sev < 2 ^ 3) (hc : cls < 2 ^ 3) :
    bits (ldi % 2 ^ 20 + sev % 8 * 2 ^ 20 + cls % 8 * 2 ^ 23) 0 20 = ldi ∧
    bits (ldi % 2 ^ 20 + sev % 8 * 2 ^ 20 + cls % 8 * 2 ^ 23) 20 3 = sev ∧
    bits (ldi % 2 ^ 20 + sev % 8 * 2 ^ 20 + cls % 8 * 2 ^ 23) 23 3 = cls ∧
    bits (ldi % 2 ^ 20 + sev % 8 * 2 ^ 20 + cls % 8 * 2 ^ 23) 26 6 = 0 := by
  unfold bits
  omega

/-- The header check stands in bytes 44 to 47. -/
theorem leAt_after_head (r : Rec) (seq x : Nat) (t : List Byte) (hx : x < 2 ^ 32) :
    leAt (r.head seq ++ (leBytes 4 x ++ t)) 44 4 = x := by
  have hdrop : (r.head seq ++ (leBytes 4 x ++ t)).drop 44 = leBytes 4 x ++ t := List.drop_left' (r.head_length seq)
  rw [leAt, hdrop, List.take_left' (leBytes_length 4 x), ofLe_leBytes, Nat.mod_eq_of_lt hx]

/-- Settles O10: field by field, what `parseRec` reads at a place of Table 10-1 is what `Rec.whole` laid there. -/
theorem recordRoundTrip : Obligations.RecordRoundTrip := by
  unfold Obligations.RecordRoundTrip
  intro r seq hraw htyp hfmt hflags hstream hepoch hldi hsev hcls hphase hwall hmod hlen hseq
  have hwhole : r.whole seq = r.head seq ++ (leBytes 4 (crc32c (r.head seq)) ++ r.bytes) := by
    simp [Rec.whole, hraw]
  have hcheck := leAt_after_head r seq _ r.bytes (crc32c_lt (r.head seq))
  have htake : (r.whole seq).take 44 = r.head seq := by rw [hwhole]; exact List.take_left' (r.head_length seq)
  have hpayload : (r.whole seq).drop 48 = r.bytes := by
    rw [hwhole, ← List.append_assoc]; exact List.drop_left' (by simp)
  have hsize : (r.whole seq).length = 48 + r.bytes.length := by simp [hwhole]; omega
  obtain ⟨typ, fmtFlags, len, stream, epoch, ldiWord, sq, rsv, phase, wall, rsv'⟩ :=
    r.head_fields seq (leBytes 4 (crc32c (r.head seq)) ++ r.bytes)
  obtain ⟨ldi, sev, cls, rsvBits⟩ := ldiWord_bits hldi hsev hcls
  rw [← hwhole] at hcheck typ fmtFlags len stream epoch ldiWord sq rsv phase wall rsv'
  have hLen : 8 * (r.bytes.length / 8 % 2 ^ 16) = r.bytes.length := by omega
  have hFmt : (r.fmt % 16 + r.flags % 16 * 16) % 16 = r.fmt := by omega
  have hFlags : (r.fmt % 16 + r.flags % 16 * 16) / 16 = r.flags := by omega
  unfold parseRec
  simp only [hcheck, htake, hpayload, hsize, typ, fmtFlags, len, stream, epoch, ldiWord, sq, rsv, phase, wall, rsv',
    ldi, sev, cls, rsvBits, hLen, hFmt, hFlags, Nat.mod_eq_of_lt htyp, Nat.mod_eq_of_lt hstream, Nat.mod_eq_of_lt hepoch,
    Nat.mod_eq_of_lt hseq, Nat.mod_eq_of_lt hphase, Nat.mod_eq_of_lt hwall]
  simp [← hraw]

/-! A write of STW_EVENTS that raises an event (R10, R330) -/

/-- A die with STEWARD ON in which SHED_EN = 0 stands beside LEVEL = 1. R330 has LEVEL 0 there, but no premise of O60 says so. -/
def shedLevelUnheld : State :=
  { b := { flds := [(F.STW_CTRL_SHED_EN.key, 0), (F.STW_STATUS_LEVEL.key, 1), ((domFld dSTEWARD).key, 2)], pwr := { held := [] } } }

/-- The management port may write STW_EVENTS there. -/
theorem shedLevelUnheld_respCode : shedLevelUnheld.b.respCode .mgmt 0xF008 0xF true 0 = 0 := by decide

/-- STW_SHED does not pend there. -/
theorem shedLevelUnheld_pends : shedLevelUnheld.b.pends Ev.STW_SHED = false := by decide

/-- A write of 0 to STW_EVENTS there has `Block.regEffects` hold LEVEL at 0, which raises STW_SHED. -/
theorem shedLevelUnheld_write_pends :
    (shedLevelUnheld.b.regWrite .mgmt 0xF008 0xF 0 0).pends Ev.STW_SHED = true := by decide

/-- Refutes O60 in its clause on STW_EVENTS: every plain write ends in `Block.regEffects`, which sets LEVEL to 0 and raises STW_SHED where
SHED_EN = 0 and LEVEL is not 0, so bit 0 of STW_EVENTS becomes 1 though neither the hardware operand nor the old value has it. -/
theorem not_registerAccesses : ¬ Obligations.RegisterAccesses := by
  unfold Obligations.RegisterAccesses
  rintro ⟨-, -, -, -, -, -, -, hW1C, -⟩
  obtain ⟨t, hexec, hpends⟩ := hW1C shedLevelUnheld .mgmt 0 0 0 shedLevelUnheld_respCode (by decide)
  rw [exec_registerWrite] at hexec
  cases hexec
  have hclaim : true = (bits 0 0 1 == 1 || shedLevelUnheld.b.pends Ev.STW_SHED && bits 0 0 1 == 0) :=
    shedLevelUnheld_write_pends.symm.trans hpends
  rw [shedLevelUnheld_pends] at hclaim
  exact absurd hclaim (by decide)

end Sys2Proof.Machine
end

section
namespace Sys2Proof.Machine

/-! The commands of discovery and set-up: each is its function on the block -/

section
variable (s : State)

theorem exec_discoverReceived (port lai : Nat) (tags : List Nat) (fromBuddy : Bool) (lat : Nat) :
    exec (.discoverReceived port lai tags fromBuddy lat) s = .next (s.put (s.b.discover port lai tags fromBuddy lat)) := rfl

theorem exec_jobStart : exec .jobStart s = .next (s.put s.b.jobStart) := rfl

theorem exec_setupVerifyTimeout : exec .setupVerifyTimeout s = .next (s.put s.b.verifyTimeout) := rfl

theorem exec_routeReceived (port ldi : Nat) (via : Route) :
    exec (.routeReceived port ldi via) s = .next (s.put (s.b.route port ldi via.lai via.epoch)) := rfl

end

/-! Discovery (R25, R29, R30) -/

/-- A latency check writes the measured latencies and two status fields: the ports stand (R25). -/
@[simp] theorem Block.latencyCheck_kl (b : Block) (port lat : Nat) : (b.latencyCheck port lat).kl = b.kl := by
  unfold Block.latencyCheck
  dsimp only
  split <;> simp

/-- The links of an aggregator are read off its ports alone. -/
theorem Block.allLinks_congr {b c : Block} (h : c.kl = b.kl) : c.allLinks = b.allLinks := by
  simp [Block.allLinks, Block.port, h]

section
variable {b u c d : Block} {port lai lat : Nat} {tags : List Nat}

/-- The buddy's DISCOVER at an aggregator with its PLOC set: tags are compared, and a standby root speaks in its turn (R30). -/
theorem Block.discover_buddy (hu : u = b.unstage port 2) (hagg : u.syn.agg = true) (hploc : u.f F.SELF_PLOC_PLOC ≠ 0xFFFFFFFF)
    (hc : c = ({ u with fab := { u.fab with nbr := u.fab.nbr.put lai port } } : Block).setb F.KL_SETUP_STATUS_SHARED_DOMAIN
      (sharedTag tags u.fab.topo.tags)) :
    b.discover port lai tags true lat =
      if u.fab.topo.isStandby then
        (c.sendAll c.downLinks (.discover u.selfLai u.fab.topo.tags)).sendMsg port (.discover u.selfLai u.fab.topo.tags)
      else c := by
  subst hu hc
  unfold Block.discover
  dsimp only
  rw [if_neg (by simp [hagg, hploc]), if_pos rfl]
  rfl

/-- A DISCOVER from above at an aggregator with its PLOC set: the latency is judged, discovery goes on below and to the buddy, and is
answered (R25). -/
theorem Block.discover_above (hu : u = b.unstage 128 2) (hagg : u.syn.agg = true) (hploc : u.f F.SELF_PLOC_PLOC ≠ 0xFFFFFFFF)
    (hc : c = { u with fab := { u.fab with nbr := u.fab.nbr.put lai 128 } }) (hd : d = c.latencyCheck 128 lat) :
    b.discover 128 lai tags false lat =
      (d.sendAll (d.allLinks.filter (fun n => decide (n < 128 ∨ 130 ≤ n))) (.discover c.selfLai c.fab.topo.tags)).sendMsg 128
        (.discover c.selfLai c.fab.topo.tags) := by
  subst hu hd
  rw [Block.allLinks_congr (Block.latencyCheck_kl c 128 lat)]
  unfold Block.discover
  dsimp only
  rw [if_neg (by simp [hagg, hploc]), if_neg Bool.false_ne_true, if_pos (Or.inl rfl), hc]

end

/-! Job starts (R37, R38) -/

section
variable {b : Block} (hagg : b.syn.agg = true) (hon : b.on dLINKS = true) (hrole : b.f F.ROLE_STATUS_ROLE ≠ 3)
include hagg hon hrole

/-- Where a rebind is in progress, a job start waits (R38). -/
theorem Block.jobStart_waits (hreb : b.fab.rebinds ≠ []) : b.jobStart = { b with fab := { b.fab with jobWaits := true } } := by
  unfold Block.jobStart
  rw [if_neg (by simp [hagg, hon, hrole]), if_pos hreb]

/-- Without one it sets up, cold where this aggregator finds something against a warm set-up (R37). -/
theorem Block.jobStart_sets_up (hreb : b.fab.rebinds = []) :
    b.jobStart = if b.mayWarm then b.fresh.2.setUp (b.fresh.1 % 2 == 0) else b.setUp false := by
  unfold Block.jobStart
  rw [if_neg (by simp [hagg, hon, hrole]), if_neg (by simp [hreb])]

end

/-- A cold set-up below the root learns its ports afresh and waits for those below (R37). -/
theorem Block.setUp_cold {b c : Block} {binds : SMap Bind} (hroot : b.fab.topo.isRoot = false)
    (hbinds : binds = List.map (fun (p : Nat × Bind) => (p.1, { p.2 with port := none })) b.fab.binds)
    (hc : c = b.setb F.KL_SETUP_STATUS_WARM false) :
    b.setUp false =
      ({ c with fab := { c.fab with verifyFrom := none, nbr := [], binds := binds } } : Block).setf F.KL_SETUP_STATUS_STATE 1 := by
  subst hbinds hc
  unfold Block.setUp
  dsimp only
  rw [if_neg Bool.false_ne_true, if_neg (by simp [hroot])]
  rfl

/-- 2 ms after a warm start, what has not answered is dead, and the set-up is ready (R37). -/
theorem Block.verifyTimeout_due {b c : Block} {since : Nat} {dead : SMap Bind} (hfrom : b.fab.verifyFrom = some since)
    (hdue : since + b.us 2000 ≤ b.clk.core)
    (hdead : dead = b.fab.binds.filter (fun p => b.actingHome p.1 && p.2.epoch != 0 && p.2.alive && decide (p.2.heard < since)))
    (hc : c = (({ b with fab := { b.fab with verifyFrom := none } } : Block).setf F.KL_SETUP_STATUS_MISSING (sat 16 dead.length)).setf
      F.KL_SETUP_STATUS_STATE 3) :
    b.verifyTimeout = dead.foldl (fun b p => b.declareDead p.1) c := by
  subst hdead hc
  unfold Block.verifyTimeout
  rw [hfrom]
  exact if_pos hdue

/-! Routes (R33) -/

/-- A route announced at an aggregator that is no T-role is kept by LDI, and passed on below the root (R33). -/
theorem Block.route_kept {b u c : Block} {port ldi lai epoch : Nat} (hu : u = b.unstage port 2) (hagg : u.syn.agg = true)
    (hT : u.isT = false)
    (hc : c = { u with fab := { u.fab with
      routes := u.fab.routes.put ldi (((u.fab.nbr.find? (fun p => p.2 == port)).map (fun p => p.1)).getD lai),
      routeEpochs := u.fab.routeEpochs.put ldi epoch } }) :
    b.route port ldi lai epoch = if c.isRoot then c else c.sendAll upstream (.route ldi c.selfLai epoch) := by
  subst hu hc
  unfold Block.route
  exact if_pos ⟨hagg, by simp [hT]⟩

/-- Settles O13, clause by clause from the lemmas on DISCOVER, the job start, its verification and routes. -/
theorem discoveryAndSetup : Obligations.DiscoveryAndSetup := by
  unfold Obligations.DiscoveryAndSetup
  refine ⟨?_, ?_, ?_, ?_, ?_, ?_, ?_, ?_⟩
  · intro s port lai lat tags u hu hagg hploc hstandby
    rw [exec_discoverReceived, Block.discover_buddy hu hagg hploc rfl, if_neg (by simp [hstandby])]
  · intro s port lai lat tags u hu hagg hploc hstandby c hc
    rw [exec_discoverReceived, Block.discover_buddy hu hagg hploc hc, if_pos hstandby]
  · intro s lai lat tags u hu hagg hploc c hc d hd
    rw [exec_discoverReceived, Block.discover_above hu hagg hploc hc hd]
  · intro s hagg hon hrole hstate hroot hreb binds hbinds c hc
    have hcold : s.b.mayWarm = false := by simp [Block.mayWarm, hstate]
    rw [exec_jobStart, Block.jobStart_sets_up hagg hon hrole hreb, hcold, if_neg Bool.false_ne_true, Block.setUp_cold hroot hbinds hc]
  · intro s hagg hon hrole hreb
    rw [exec_jobStart, Block.jobStart_waits hagg hon hrole hreb]
  · intro s hagg hon hrole hreb hstate hdigest hpower hlinks
    have hwarm : s.b.mayWarm = true := by
      unfold Block.mayWarm
      rw [hlinks]
      simp [hstate, hdigest, hpower]
    exact ⟨s.b.fresh.1 % 2 == 0, by rw [exec_jobStart, Block.jobStart_sets_up hagg hon hrole hreb, if_pos hwarm]⟩
  · intro s since hfrom hdue dead hdead c hc
    rw [exec_setupVerifyTimeout, Block.verifyTimeout_due hfrom hdue hdead hc]
  · intro s port ldi via u hu hagg hT c hc hroot
    rw [exec_routeReceived, Block.route_kept hu hagg hT hc, if_neg (by simp [hroot]), upstream]

end Sys2Proof.Machine
end

section
namespace Sys2Proof.Machine

/-! The commands of binding, and contributions: each is its function on the block -/

section
variable (s : State)

theorem exec_bindReceived (port ldi epoch : Nat) :
    exec (.bindReceived port ldi epoch) s = .next (s.put (s.b.bind_ port ldi epoch)) := rfl

theorem exec_unbindReceived (port ldi epoch : Nat) :
    exec (.unbindReceived port ldi epoch) s = .next (s.put (s.b.unbind_ port ldi epoch)) := rfl

theorem exec_deadTimeout (ldi : Nat) : exec (.deadTimeout ldi) s = .next (s.put (s.b.deadTimeout ldi)) := rfl

theorem exec_bindRepeat (ldi : Nat) : exec (.bindRepeat ldi) s = .next (s.put (s.b.sendBind ldi)) := rfl

theorem exec_bindAckReceived (port ldi epoch : Nat) :
    exec (.bindAckReceived port ldi epoch) s = .next (s.put ((s.b.unstage port 2).bindAcked port ldi epoch).setupCheck.setupResume) := rfl

theorem exec_unbindRepeat (ldi epoch : Nat) :
    exec (.unbindRepeat ldi epoch) s =
      .next (s.put ((s.b.fab.unbinds.filter (fun u => u.1 == ldi && u.2.1 == epoch)).foldl
        (fun b u => b.sendMsg u.2.2 (.unbind ldi epoch)) s.b)) := rfl

theorem exec_unbindAckReceived (port ldi epoch : Nat) :
    exec (.unbindAckReceived port ldi epoch) s = .next (s.put ((s.b.unstage port 2).unbindAcked port ldi epoch)) := rfl

theorem exec_contributionReceived (port : Nat) (x : Contrib) :
    exec (.contributionReceived port x) s = .next (s.put (s.b.contribution port x)) := rfl

end

/-! BIND and UNBIND at a D-role (R29, R35, R247, R397) -/

section
variable {b u c : Block} {port ldi epoch : Nat} (hu : u = b.unstage port 2) (hagg : u.syn.agg = false)
include hu hagg

/-- UNBIND ends the binding, with all that the D-role held for it, and is answered (R35, R247). -/
theorem Block.unbind_answered :
    b.unbind_ port ldi epoch =
      (({ u with que := { u.que with queues := [], streams := [], push := none }, slk := { u.slk with jobs := [] },
                 mon := { u.mon with launched := [] }, fab := { u.fab with released := true } } : Block).setf F.SELF_LDI_BOUND 0).sendMsg
        port (.unbindAck ldi epoch) := by
  subst hu
  unfold Block.unbind_
  exact if_neg (by simp [hagg])

variable (hepoch : epoch ≠ 0) (hploc : u.f F.SELF_PLOC_PLOC ≠ 0xFFFFFFFF)
include hepoch hploc

/-- A BIND is answered; one that is not in force already ends what is, and is taken (R29, R397). -/
theorem Block.bind_answered {same : Bool}
    (hsame : same = (u.is F.SELF_LDI_BOUND && u.f F.SELF_LDI_INDEX == ldi && u.f F.SELF_EPOCH_EPOCH == epoch))
    (hc : c = if u.is F.SELF_LDI_BOUND ∧ ¬same then u.dropHold else u) :
    b.bind_ port ldi epoch =
      (if same then c else
        ((({ c with que := { c.que with streams := [] }, fab := { c.fab with released := false } } : Block).setf F.SELF_LDI_INDEX ldi).setf
          F.SELF_LDI_BOUND 1).setf F.SELF_EPOCH_EPOCH epoch).sendMsg port (.bindAck ldi epoch) := by
  subst hu hsame hc
  unfold Block.bind_
  exact if_neg (by simp [hagg, hepoch, hploc])

/-- A BIND that repeats the binding in force changes nothing (R397). -/
theorem Block.bind_repeated (hbound : u.is F.SELF_LDI_BOUND = true) (hldi : u.f F.SELF_LDI_INDEX = ldi)
    (hsame : u.f F.SELF_EPOCH_EPOCH = epoch) : b.bind_ port ldi epoch = u.sendMsg port (.bindAck ldi epoch) := by
  rw [Block.bind_answered hu hagg hepoch hploc (same := true) (by simp [hbound, hldi, hsame]) (if_neg (by simp)).symm, if_pos rfl]

/-- Any other is taken, and what the D-role held for an old binding goes first (R29, R397). -/
theorem Block.bind_taken (hnew : u.is F.SELF_LDI_BOUND = false ∨ u.f F.SELF_EPOCH_EPOCH ≠ epoch)
    (hc : c = if u.is F.SELF_LDI_BOUND then u.dropHold else u) :
    b.bind_ port ldi epoch =
      (((({ c with que := { c.que with streams := [] }, fab := { c.fab with released := false } } : Block).setf F.SELF_LDI_INDEX ldi).setf
        F.SELF_LDI_BOUND 1).setf F.SELF_EPOCH_EPOCH epoch).sendMsg port (.bindAck ldi epoch) := by
  have hother : false = (u.is F.SELF_LDI_BOUND && u.f F.SELF_LDI_INDEX == ldi && u.f F.SELF_EPOCH_EPOCH == epoch) := by
    rcases hnew with h | h <;> simp [h]
  rw [Block.bind_answered hu hagg hepoch hploc hother (hc.trans (by simp)), if_neg Bool.false_ne_true]

end

/-! The acting home: the dead timeout and the rebind (R32, R33) -/

/-- A bound LDI not heard for the dead timeout is declared dead (R32). -/
theorem Block.deadTimeout_due {b : Block} {ldi : Nat} {x : Bind} (hhome : b.actingHome ldi = true) (hrejoin : b.fab.rejoining = false)
    (hreb : b.fab.rebinds.any (fun r => r.ldi == ldi) = false) (hx : x = b.fab.binds.getD ldi {}) (hepoch : x.epoch ≠ 0)
    (halive : x.alive = true) (hperiod : b.wbPeriod ≠ 0) (hdue : x.heard + b.fab.topo.deadPeriods * b.wbPeriod ≤ b.clk.core) :
    b.deadTimeout ldi = b.declareDead ldi := by
  subst hx
  unfold Block.deadTimeout
  dsimp only
  rw [if_neg (by simp [hhome, hrejoin, hreb]), if_neg hepoch, if_pos ⟨halive, hperiod, hdue⟩]

/-- While a rebind waits for its BIND_ACK, BIND goes to its spare (R33). -/
theorem Block.sendBind_waiting {b : Block} {ldi : Nat} {r : Rebind}
    (hr : b.fab.rebinds.find? (fun x => x.ldi == ldi && x.step == 2) = some r) : b.sendBind ldi = b.sendMsg r.port (.bind r.ldi r.epoch) := by
  unfold Block.sendBind
  rw [hr]

/-- The BIND_ACK it waits for binds the port, announces the route and ends the rebind (R33, R34). -/
theorem Block.bindAcked_waiting {b a c d : Block} {port ldi epoch : Nat} {r : Rebind}
    (hr : b.fab.rebinds.find? (fun x => x.ldi == ldi && x.step == 2 && x.epoch == epoch) = some r)
    (ha : a = { b with fab := { b.fab with rebinds := b.fab.rebinds.filter (fun x => x.ldi != ldi),
                                           pendingMembers := b.fab.pendingMembers ++ [ldi] } })
    (hc : c = a.updBind ldi (fun x => { x with port := some port, learned := a.arrivalUi, heard := a.clk.core }))
    (hd : d = (c.markStep 1 ldi 3).markStep 1 ldi 4) :
    b.bindAcked port ldi epoch = (((d.sendAll upstream (.route ldi c.selfLai epoch)).markStep 1 ldi 5).clearDie ldi).endProc 1 ldi := by
  subst hd hc ha
  unfold Block.bindAcked
  rw [hr]

/-! UNBIND at the acting home (R35) -/

/-- A unit that joins the spare pool leaves the list of those told to unbind. -/
@[simp] theorem Block.joinPool_unbinds (b : Block) (port ldi epoch : Nat) : (b.joinPool port ldi epoch).fab.unbinds = b.fab.unbinds := rfl

/-- The answer to the one UNBIND that is out ends its procedure: the unit joins the spare pool (R35, R247). -/
theorem Block.unbindAcked_only {b : Block} {port ldi epoch : Nat} (hout : b.fab.unbinds = [(ldi, epoch, port)]) :
    b.unbindAcked port ldi epoch =
      ((({ b with fab := { b.fab with unbinds := [] } } : Block).joinPool port ldi epoch).markStep 5 ldi 1).endProc 5 ldi := by
  unfold Block.unbindAcked
  simp [hout]

/-! Contributions (R28, R142) -/

section
variable {b u : Block} {port : Nat} {x : Contrib} (hu : u = b.unstage port 1) (hagg : u.syn.agg = true)
include hu hagg

/-- A contribution that names no binding in force is quarantined, and its sender told to unbind (R28, R35). -/
theorem Block.contribution_unbound (hbind : u.binding x.ldi x.epoch = false) :
    b.contribution port x = (u.quarantineUnit x).startUnbind port x.ldi x.epoch := by
  subst hu
  unfold Block.contribution
  dsimp only
  rw [if_neg (by simp [hagg]), if_pos (by simp [hbind])]

/-- One of the bound unit, on its port, goes to its entry; what is late gives a lag (R142, R147). -/
theorem Block.contribution_bound {v : Block} (hbind : u.binding x.ldi x.epoch = true) (hlearn : u.learn port x.ldi = (true, v)) :
    b.contribution port x =
      if (v.takeContrib x).1 then ((v.takeContrib x).2.openedSince v.tags).lateLag x else (v.takeContrib x).2.openedSince v.tags := by
  subst hu
  unfold Block.contribution
  dsimp only
  rw [if_neg (by simp [hagg]), if_neg (by simp [hbind]), hlearn, if_pos rfl]

end

/-- Settles O14: BIND and UNBIND at the D-role, then the acting home's side, then contributions. -/
theorem bindingAndRebind : Obligations.BindingAndRebind := by
  unfold Obligations.BindingAndRebind
  refine ⟨?_, ?_, ?_, ?_, ?_, ?_, ?_, ?_, ?_, ?_, ?_⟩
  · intro s port ldi epoch u hu hagg hepoch hploc hfree
    rw [exec_bindReceived, Block.bind_taken hu hagg hepoch hploc (Or.inl hfree) (if_neg (by simp [hfree])).symm]
  · intro s port ldi epoch u hu hagg hepoch hploc hbound hldi hsame
    rw [exec_bindReceived, Block.bind_repeated hu hagg hepoch hploc hbound hldi hsame]
  · intro s port ldi epoch u hu hagg hepoch hploc hbound hother c hc
    rw [exec_bindReceived, Block.bind_taken hu hagg hepoch hploc (Or.inr hother) (hc.trans (if_pos hbound).symm)]
  · intro s port ldi epoch u hu hagg
    rw [exec_unbindReceived, Block.unbind_answered hu hagg]
  · intro s ldi hhome hrejoin hreb x hx hepoch halive hperiod hdue
    rw [exec_deadTimeout, Block.deadTimeout_due hhome hrejoin hreb hx hepoch halive hperiod hdue, Block.declareDead, Block.updBind]
  · intro s ldi r hr
    rw [exec_bindRepeat, Block.sendBind_waiting hr]
  · intro s port ldi epoch r u hu hr a ha c hc d hd
    rw [exec_bindAckReceived, ← hu, Block.bindAcked_waiting hr ha hc hd, upstream]
  · intro s ldi epoch port hout
    rw [exec_unbindRepeat, hout]
    simp
  · intro s port ldi epoch u hu hout
    rw [exec_unbindAckReceived, ← hu, Block.unbindAcked_only hout]
  · intro s port x u hu hagg hbind
    rw [exec_contributionReceived, Block.contribution_unbound hu hagg hbind]
  · intro s port x v u hu hagg hbind hlearn hlate
    rw [exec_contributionReceived, Block.contribution_bound hu hagg hbind hlearn, if_neg (by simp [hlate])]

end Sys2Proof.Machine
end

section
namespace Sys2Proof.Machine

/-! The commands of heartbeats and of training: each is its function on the block -/

section
variable (s : State)

theorem exec_heartbeatSend : exec .heartbeatSend s = .next (s.put s.b.heartbeatSend) := rfl

theorem exec_heartbeatReceived (port lai : Nat) (acting : Bool) :
    exec (.heartbeatReceived port lai acting) s = .next (s.put (s.b.heartbeat port lai acting).setupCheck) := rfl

theorem exec_heartbeatLoss : exec .heartbeatLoss s = .next (s.put (if s.b.on dLINKS then s.b.heartbeatLoss else s.b)) := rfl

theorem exec_heartbeatWithholdEnd : exec .heartbeatWithholdEnd s = .next (s.put s.b.withholdEnd) := rfl

theorem exec_trainingDone (port locked : Nat) :
    exec (.trainingDone port locked) s =
      .next (s.put (s.b.onPort port (fun b =>
        if (b.port port).state ≠ 2 ∧ ((b.trainingDone port locked).port port).state = 2 then
          (b.trainingDone port locked).portUp port b.mirrorUp
        else b.trainingDone port locked))) := rfl

end

/-! Heartbeats sent and heard (R22, R40) -/

/-- A heartbeat that is due and not muted goes out on every link (R40). -/
theorem Block.heartbeatSend_due {b c : Block} (hagg : b.syn.agg = true) (hon : b.on dLINKS = true)
    (hdue : b.fab.hbSent + b.us 100 ≤ b.clk.core) (hrole : b.f F.ROLE_STATUS_ROLE ≠ 3)
    (hc : c = { b with fab := { b.fab with hbSent := b.clk.core } }) (hmute : c.hbMuted = false) :
    b.heartbeatSend = c.sendAll c.allLinks (.heartbeat c.selfLai c.fab.takeOver) := by
  subst hc
  unfold Block.heartbeatSend
  dsimp only
  rw [if_pos ⟨hagg, hon, hdue, hrole⟩, if_neg (by simp [hmute])]

section
variable {b u : Block} {lai : Nat} (acting : Bool) (hlai : lai = u.fab.topo.parent)
include hlai

/-- One on link A of a D-role within L of the last goes on with the run that makes the A path (R22). -/
theorem Block.heartbeat_goes_on {since : Nat} (hu : u = b.unstage 0 2) (hagg : u.syn.agg = false) (hlast : u.fab.hbLast = some since)
    (hclose : u.clk.core < since + u.lossTime) :
    b.heartbeat 0 lai acting = ({ u with fab := { u.fab with hbLast := some u.clk.core } } : Block).returnNow := by
  subst hu
  unfold Block.heartbeat
  dsimp only
  rw [if_neg (by simp [hagg]), if_pos ⟨rfl, hlai⟩, hlast]
  simp [Nat.not_le.mpr hclose]

/-- The first one there begins such a run (R22). -/
theorem Block.heartbeat_first (hu : u = b.unstage 0 2) (hagg : u.syn.agg = false) (hlast : u.fab.hbLast = none) :
    b.heartbeat 0 lai acting =
      ({ u with fab := { u.fab with hbFrom := some u.clk.core, hbLast := some u.clk.core } } : Block).returnNow := by
  subst hu
  unfold Block.heartbeat
  dsimp only
  rw [if_neg (by simp [hagg]), if_pos ⟨rfl, hlai⟩, hlast]
  simp

/-- One of an aggregator's parent on U0 keeps the parent (R40). -/
theorem Block.heartbeat_of_parent (hu : u = b.unstage 128 2) (hagg : u.syn.agg = true) :
    b.heartbeat 128 lai acting =
      { u with fab := { u.fab with nbr := u.fab.nbr.put lai 128, parentLast := u.clk.core, parentLost := false } } := by
  subst hu
  unfold Block.heartbeat
  dsimp only
  rw [if_pos hagg, if_neg (by decide), if_pos ⟨rfl, hlai⟩]

end

/-! Heartbeats lost (R22, R23, R40) -/

@[simp] theorem Block.raiseIf_false (b : Block) (src : Nat) (args : List (Nat × Nat)) : b.raiseIf false src args = b := rfl

@[simp] theorem Block.rewind_fab (b : Block) : b.rewind.fab = b.fab := rfl

@[simp] theorem Block.followPath_fab (b : Block) : b.followPath.fab = b.fab := by
  unfold Block.followPath Block.setParent
  split
  · rfl
  · split <;> rfl

/-- The move to U1 leaves what the aggregator knows of its buddy (R23). -/
@[simp] theorem Block.goU1_buddyLost (b : Block) : b.goU1.fab.buddyLost = b.fab.buddyLost := by
  unfold Block.goU1
  split <;> simp

/-- With a time parent elsewhere, a lost uplink moves the aggregator to U1, at once while its time is not valid (R23). -/
theorem Block.uplinkLost_elsewhere {b c : Block} (hparent : b.parentPort ≠ some 128)
    (hc : c = { b with fab := { b.fab with parentLost := true, toU1 := !b.fab.onU1 } }) :
    b.uplinkLost = if b.is F.ANT_STATUS_TIME_VALID then c else c.goU1 := by
  have hstill : c.parentPort ≠ some 128 := by rw [hc]; exact hparent
  have hvalid : b.is F.ANT_STATUS_TIME_VALID = c.is F.ANT_STATUS_TIME_VALID := by rw [hc]; rfl
  unfold Block.uplinkLost
  rw [← hc, hvalid]
  dsimp only
  rw [if_neg hstill]

/-- An aggregator that has lost its parent, and knows its buddy to be lost, does no more than move (R23, R40). -/
theorem Block.heartbeatLoss_parent {b : Block} (hagg : b.syn.agg = true) (hheld : b.fab.parentLost = false)
    (hroot : b.fab.topo.isRoot = false) (hdue : b.fab.parentLast + b.lossTime ≤ b.clk.core)
    (hbuddy : b.uplinkLost.fab.buddyLost = true) : b.heartbeatLoss = b.uplinkLost := by
  have hlost : ¬b.fab.parentLost ∧ ¬b.fab.topo.isRoot ∧ b.fab.parentLast + b.lossTime ≤ b.clk.core := by simp [hheld, hroot, hdue]
  unfold Block.heartbeatLoss
  dsimp only
  rw [if_pos hagg, if_pos hlost]
  exact if_neg (fun h => h.1 hbuddy)

/-- An aggregator that loses a buddy in sync, its parent being lost before, starts to take the buddy's place (R40). -/
theorem Block.heartbeatLoss_buddy {b : Block} (hagg : b.syn.agg = true) (hparent : b.fab.parentLost = true)
    (hheld : b.fab.buddyLost = false) (hdue : b.fab.buddyLast + b.lossTime ≤ b.clk.core) (hsync : b.fab.buddySynced = true) :
    b.heartbeatLoss = ({ b with fab := { b.fab with buddyLost := true } } : Block).startProc 2 0 := by
  have hknown : ¬(¬b.fab.parentLost ∧ ¬b.fab.topo.isRoot ∧ b.fab.parentLast + b.lossTime ≤ b.clk.core) := fun h => h.1 hparent
  have hlost : ¬b.fab.buddyLost ∧ b.fab.buddyLast + b.lossTime ≤ b.clk.core := by simp [hheld, hdue]
  have hquiet : b.raiseIf (!b.fab.buddySynced) Ev.QUE_DUAL_FAULT = b := by simp [hsync]
  unfold Block.heartbeatLoss
  dsimp only
  rw [if_pos hagg, if_neg hknown, if_pos hlost, hquiet]

/-- A D-role whose link A has trained and that has heard none for L moves to its B path, its time parent being elsewhere (R22). -/
theorem Block.heartbeatLoss_die {b c : Block} {since : Nat} (hagg : b.syn.agg = false) (hlive : (b.port 0).live = true)
    (hsince : b.fab.hbLast.getD b.fab.parentLast = since) (hdue : since + b.lossTime ≤ b.clk.core)
    (hc : c = { b with fab := { b.fab with hbFrom := none, hbLast := none, parentLast := b.clk.core } }) (hparent : c.parentPort ≠ some 0) :
    b.heartbeatLoss = c.moveToB := by
  subst hc hsince
  unfold Block.heartbeatLoss
  dsimp only
  rw [if_neg (by simp [hagg]), if_pos ⟨hlive, hdue⟩, if_neg hparent]

/-- Withholding ends when its time is over (R285). -/
theorem Block.withholdEnd_due {b : Block} {t : Nat} (ht : b.fab.withheld = some t) (hdue : t ≤ b.clk.core) :
    b.withholdEnd = b.startRejoin false := by
  unfold Block.withholdEnd
  rw [ht]
  exact if_pos hdue

/-! A port that finishes training (R214) -/

/-- While LINKS is ON, a port of the build is acted on. -/
theorem Block.onPort_eq {b : Block} {port : Nat} (f : Block → Block) (hon : b.on dLINKS = true) (hport : port < portCount b.syn.agg) :
    b.onPort port f = f b := if_pos ⟨hon, hport⟩

@[simp] theorem Block.port_updPort_same (b : Block) (n : Nat) (f : Port → Port) : (b.updPort n f).port n = f (b.port n) := by
  simp [Block.updPort, Block.setPort, Block.port]

/-- An event leaves the ports. -/
@[simp] theorem Block.raise_port (b : Block) (src : Nat) (args : List (Nat × Nat)) (n : Nat) : (b.raise src args).port n = b.port n := by
  have hkl : (b.raise src args).noEvents.kl = b.noEvents.kl := by rw [Block.noEvents_raise]
  exact congrArg (fun k : Links => k.ports.getD n {}) hkl

@[simp] theorem Port.setChan_state (p : Port) (vc : Nat) (c : Chan) : (p.setChan vc c).state = p.state := by
  unfold Port.setChan
  split <;> rfl

@[simp] theorem Port.begun_state (p : Port) (vc lenb now mhz : Nat) : (p.begun vc lenb now mhz).state = p.state := rfl

/-- A frame that starts leaves the port's state. -/
@[simp] theorem Port.startNext_state (p : Port) (vc now stamp mhz : Nat) : (p.startNext vc now stamp mhz).state = p.state := by
  unfold Port.startNext
  dsimp only
  split
  · rfl
  · split
    · split <;> simp
    · split <;> simp
    · rfl

@[simp] theorem Port.drain_state (p : Port) (now stamp mhz : Nat) : (p.drain now stamp mhz).state = p.state := by simp [Port.drain]

/-- The measurement of INTERNAL leaves the build and its wiring (R58). -/
@[simp] theorem Block.measureAsym_syn (b : Block) (port : Nat) : (b.measureAsym port).syn = b.syn := by
  unfold Block.measureAsym
  dsimp only
  split <;> simp

/-- The wired lanes are read off the build. -/
theorem Block.wired_congr {b c : Block} (h : c.syn = b.syn) (port : Nat) : c.wired port = b.wired port := by
  simp [Block.wired, h]

/-- A port has a width where a lane is good, whatever its register or features allow (R214 step 6). -/
theorem chooseWidth_ne_zero {good maxw : Nat} {width2 : Bool} : chooseWidth good maxw width2 ≠ 0 ↔ 1 ≤ good := by
  unfold chooseWidth
  split
  · omega
  · split
    · omega
    · split <;> omega

/-- Training that has agreed, with a good lane left, takes the port to ACTIVE (R214). -/
theorem Block.trainingDone_active {b : Block} {port locked : Nat} (htrain : (b.port port).state = 1 ∨ (b.port port).state = 3)
    (hagreed : (b.port port).agreed = true) (hneg : (b.port port).negFail = false)
    (hgood : 1 ≤ pop4 (b.wired port &&& locked &&& (15 - (b.port port).excl % 16))) :
    ((b.trainingDone port locked).port port).state = 2 := by
  rw [← Block.wired_congr (b.measureAsym_syn port)] at hgood
  unfold Block.trainingDone
  dsimp only
  rw [if_pos ⟨htrain, hagreed, by simp [hneg]⟩, if_neg (chooseWidth_ne_zero.mpr hgood)]
  simp

/-- Settles O15: heartbeats sent and heard, then their loss, then withholding, then a port that comes up. -/
theorem heartbeatsAndPaths : Obligations.HeartbeatsAndPaths := by
  unfold Obligations.HeartbeatsAndPaths
  refine ⟨?_, ?_, ?_, ?_, ?_, ?_, ?_, ?_, ?_, ?_⟩
  · intro s hagg hon hdue hrole c hc hmute
    rw [exec_heartbeatSend, Block.heartbeatSend_due hagg hon hdue hrole hc hmute]
  · intro s lai since acting u hu hagg hlai hlast hclose c hc
    rw [exec_heartbeatReceived, Block.heartbeat_goes_on acting hlai hu hagg hlast hclose, hc]
  · intro s lai acting u hu hagg hlai hlast c hc
    rw [exec_heartbeatReceived, Block.heartbeat_first acting hlai hu hagg hlast, hc]
  · intro s lai acting u hu hagg hlai
    rw [exec_heartbeatReceived, Block.heartbeat_of_parent acting hlai hu hagg]
  · intro s since hon hagg hlive hsince hdue c hc hparent
    rw [exec_heartbeatLoss, if_pos hon, Block.heartbeatLoss_die hagg hlive hsince hdue hc hparent]
  · intro s hon hagg hheld hroot hdue hbuddy hvalid hparent
    have hmove := (Block.uplinkLost_elsewhere hparent rfl).trans (if_pos hvalid)
    rw [exec_heartbeatLoss, if_pos hon, Block.heartbeatLoss_parent hagg hheld hroot hdue (by rw [hmove]; exact hbuddy), hmove]
  · intro s hon hagg hheld hroot hdue hbuddy hinvalid hparent c hc
    have hmove := (Block.uplinkLost_elsewhere hparent hc).trans (if_neg (by simp [hinvalid]))
    have hkept : c.goU1.fab.buddyLost = true := by rw [Block.goU1_buddyLost, hc]; exact hbuddy
    rw [exec_heartbeatLoss, if_pos hon, Block.heartbeatLoss_parent hagg hheld hroot hdue (by rw [hmove]; exact hkept), hmove]
  · intro s hon hagg hparent hheld hdue hsync
    rw [exec_heartbeatLoss, if_pos hon, Block.heartbeatLoss_buddy hagg hparent hheld hdue hsync]
  · intro s t ht hdue
    rw [exec_heartbeatWithholdEnd, Block.withholdEnd_due ht hdue]
  · intro s port locked hon hport hstate hagreed hneg hwidth c hc
    have hactive := Block.trainingDone_active (Or.inl hstate) hagreed hneg (chooseWidth_ne_zero.mp hwidth)
    rw [exec_trainingDone, Block.onPort_eq _ hon hport, if_pos ⟨by rw [hstate]; decide, hactive⟩, hc]

end Sys2Proof.Machine
end

section
namespace Sys2Proof.Machine

/-! The commands of records and of the mirror: each is its function on the block -/

section
variable (s : State)

theorem exec_recordReceived (port : Nat) (bytes : List Byte) (bad : List Nat) :
    exec (.recordReceived port bytes bad) s =
      .next (s.put (Block.recordReceived { s.b with vrd := { s.b.vrd with driftBad := s.b.vrd.driftBad ++ bad } } port bytes).driftReports) :=
  rfl

theorem exec_mirrorReceived (x : Mirror) : exec (.mirrorReceived x) s = .next (s.put (s.b.mirrorReceived x)) := rfl

end

/-! Records received (R28, R229, R246) -/

section
variable {b u : Block} {port : Nat} {bytes : List Byte} (hu : u = b.unstage port 0)
include hu

/-- A D-role takes no record. -/
theorem Block.recordReceived_die (hagg : u.syn.agg = false) : b.recordReceived port bytes = u := by
  subst hu
  unfold Block.recordReceived
  exact if_pos (by simp [hagg])

variable (hagg : u.syn.agg = true) (hon : u.on dQUEUE = true) (hen : u.is F.QUE_CTRL_EN = true)
include hagg hon hen

/-- A header that fails is counted and said (R229). -/
theorem Block.recordReceived_bad (hparse : parseRec bytes = none) :
    b.recordReceived port bytes = (u.count F.QUE_ACC_STAT_HDRBAD).raise Ev.QUE_HDR_BAD := by
  subst hu
  unfold Block.recordReceived
  dsimp only
  rw [if_neg (by simp [hagg, hon, hen]), hparse]

/-- A T-role judges a record that parses, by its binding (R28). -/
theorem Block.recordReceived_judged {r : Rec} {seq : Nat} (hT : u.isT = true) (hparse : parseRec bytes = some (r, seq)) :
    b.recordReceived port bytes = u.judgeRecord port { r with raw := none } seq bytes (decide (128 ≤ port)) := by
  subst hu
  unfold Block.recordReceived
  dsimp only
  rw [if_neg (by simp [hagg, hon, hen]), hparse]
  dsimp only
  rw [if_pos (Or.inl hT)]

end

/-- At a T-role a die's record that names no binding in force is quarantined, and its sender told to unbind (R28, R35, R246). -/
theorem Block.judgeRecord_unbound {b : Block} {r : Rec} (port seq : Nat) (bytes : List Byte) (relayed : Bool) (hT : b.isT = true)
    (hepoch : r.epoch ≠ 0) (hbind : b.binding r.ldi r.epoch = false) :
    b.judgeRecord port r seq bytes relayed = (b.quarantine r bytes).startUnbind port r.ldi r.epoch := by
  unfold Block.judgeRecord
  rw [if_neg hepoch, if_neg (by simp [hT]), if_pos (by simp [hbind])]

/-! The owner's stream (R196, R241) -/

/-- A record that is no host's report makes no finding (R196). -/
theorem Block.reportArrived_other {b : Block} {r : Rec} (seq : Nat) (htyp : r.typ ≠ 0x60) : b.reportArrived r seq = b := by
  unfold Block.reportArrived
  exact if_pos (Or.inl htyp)

/-- A host's report that has not come before makes its finding, and is noted (R196). -/
theorem Block.reportArrived_first {b c : Block} {r : Rec} {seq : Nat} (htyp : r.typ = 0x60)
    (hnew : b.vrd.found.contains (r.ldi, r.epoch, r.stream, seq) = false)
    (hc : c = { b with vrd := { b.vrd with found := (r.ldi, r.epoch, r.stream, seq) :: b.vrd.found } }) :
    b.reportArrived r seq = c.corrupt r.ldi r.bytes := by
  subst hc
  unfold Block.reportArrived
  dsimp only
  exact if_neg (by rw [hnew]; simp [htyp])

section
variable {b : Block} {r : Rec} {seq : Nat} (bytes : List Byte)

/-- A duplicate is counted and answered at once with what is accepted (R241). -/
theorem Block.ownRecord_duplicate {c : Block} (hflush : b.coc.flush = false)
    (hold : before48 seq (b.key r.ldi r.epoch r.stream).acc = true) (hc : c = b.count F.QUE_ACC_STAT_DUP) :
    b.ownRecord r seq bytes =
      c.sendAccept r.ldi r.epoch false [{ stream := r.stream, seq := accValue (c.key r.ldi r.epoch r.stream).sure }] := by
  subst hc
  unfold Block.ownRecord
  dsimp only
  rw [if_pos (Or.inl hold), if_neg (by simp [hflush]), if_pos hold]

variable (hnew : before48 seq (b.key r.ldi r.epoch r.stream).acc = false)
include hnew

/-- One already held changes nothing (R241). -/
theorem Block.ownRecord_held (hflush : b.coc.flush = false) (hheld : before48 seq (b.key r.ldi r.epoch r.stream).next = true) :
    b.ownRecord r seq bytes = b := by
  unfold Block.ownRecord
  dsimp only
  rw [if_pos (Or.inr hheld), if_neg (by simp [hflush]), if_neg (by simp [hnew]), if_pos hheld]

/-- One not held yet makes a report's finding; then it is held where it is the next in line, and else counted, answered with GAP and said
(R196, R241). -/
theorem Block.ownRecord_ahead {a g c : Block} (hahead : before48 seq (b.key r.ldi r.epoch r.stream).next = false)
    (ha : a = b.reportArrived r seq) (hflush : a.coc.flush = false) (hg : g = a.count F.QUE_ACC_STAT_GAP)
    (hc : c = { a with vrd := { a.vrd with found := a.vrd.found.filter (fun x => x != (r.ldi, r.epoch, r.stream, seq)) } }) :
    b.ownRecord r seq bytes =
      if seq ≠ (b.key r.ldi r.epoch r.stream).next then
        (g.sendAccept r.ldi r.epoch true [{ stream := r.stream, seq := accValue (g.key r.ldi r.epoch r.stream).sure }]).raise Ev.QUE_GAP
          [(r.ldi, 20), (r.epoch, 16), (r.stream, 16)]
      else c.hold r.ldi r.epoch r.stream seq r.sev bytes := by
  have hunseen : ¬(before48 seq (b.key r.ldi r.epoch r.stream).acc ∨ before48 seq (b.key r.ldi r.epoch r.stream).next) := by
    simp [hnew, hahead]
  subst ha hg hc
  unfold Block.ownRecord
  dsimp only
  rw [if_neg hunseen, if_neg (by simp [hflush]), if_neg (by simp [hnew]), if_neg (by simp [hahead])]

end

/-! The mirror's receiving end (R237, R245) -/

section
variable {b : Block} (hagg : b.syn.agg = true) (hup : b.mirrorUp = true)
include hagg hup

/-- A stream's state comes by the mirror link in use, and is taken (R245). -/
theorem Block.mirrorReceived_stream (ldi epoch stream next acc : Nat) :
    b.mirrorReceived (.stream ldi epoch stream next acc) = (b.unstage b.mirrorPort 0).takeMirror (.stream ldi epoch stream next acc) := by
  unfold Block.mirrorReceived
  exact if_neg (by simp [hagg, hup])

/-- A relayed record is confirmed, and judged as one received (R237). -/
theorem Block.mirrorReceived_relay {c : Block} {r : Rec} {seq : Nat} {bytes : List Byte} (hparse : parseRec bytes = some (r, seq))
    (hc : c = b.unstage b.mirrorPort 0) :
    b.mirrorReceived (.relay bytes) =
      Block.judgeRecord { c with que := { c.que with confirmed := c.que.confirmed + 1 } } b.mirrorPort r seq bytes true := by
  subst hc
  unfold Block.mirrorReceived
  rw [if_neg (by simp [hagg, hup])]
  dsimp only
  rw [hparse]

end

/-- The state of a die's stream is kept and counted as confirmed (R245). -/
theorem Block.takeMirror_stream {b : Block} {ldi epoch stream next acc : Nat} (hepoch : epoch ≠ 0) :
    b.takeMirror (.stream ldi epoch stream next acc) =
      { b with que := { b.que with mirror := putMirror b.que.mirror (.stream ldi epoch stream next acc),
                                   confirmed := b.que.confirmed + 1 } } := by
  unfold Block.takeMirror
  exact if_neg (fun h => hepoch h.1)

/-- Settles O32: records received, then the owner's cases in the order of SEQ, then reports, then the mirror. -/
theorem recordsReceived : Obligations.RecordsReceived := by
  unfold Obligations.RecordsReceived
  refine ⟨?_, ?_, ?_, ?_, ?_, ?_, ?_, ?_, ?_, ?_, ?_⟩
  · intro s port bytes bad u hu hagg hon hen hparse
    rw [exec_recordReceived, Block.recordReceived_bad hu hagg hon hen hparse]
  · intro s port seq bytes bad r u hu hagg hon hen hT hparse hepoch hbind
    have hquarantined := Block.judgeRecord_unbound (r := { r with raw := none }) port seq bytes (decide (128 ≤ port)) hT hepoch hbind
    rw [exec_recordReceived, Block.recordReceived_judged hu hagg hon hen hT hparse, hquarantined]
  · intro s port bytes bad u hu hagg
    rw [exec_recordReceived, Block.recordReceived_die hu hagg]
  · intro b r seq bytes hflush hold c hc
    rw [Block.ownRecord_duplicate bytes hflush hold hc, accValue]
  · intro b r seq bytes hflush hnew hheld
    rw [Block.ownRecord_held bytes hnew hflush hheld]
  · intro b r seq bytes hnew hahead hbeyond a ha hflush c hc
    rw [Block.ownRecord_ahead bytes hnew hahead ha hflush hc rfl, if_pos hbeyond, accValue]
  · intro b r bytes k hk hnew hahead a ha hflush c hc
    subst hk
    rw [Block.ownRecord_ahead bytes hnew hahead ha hflush rfl hc, if_neg (not_not_intro rfl)]
  · intro b r seq htyp
    rw [Block.reportArrived_other seq htyp]
  · intro b r seq htyp hfresh c hc
    rw [Block.reportArrived_first htyp hfresh hc]
  · intro s ldi epoch stream next acc hagg hup hepoch c hc l hl
    rw [exec_mirrorReceived, Block.mirrorReceived_stream hagg hup, Block.takeMirror_stream hepoch, Block.mirrorPort, ← hc, hl]
    rfl
  · intro s bytes r seq hagg hup hparse port hport c hc
    subst hport
    rw [exec_mirrorReceived, Block.mirrorReceived_relay hagg hup hparse hc, Block.mirrorPort]

end Sys2Proof.Machine
end

section
namespace Sys2Proof.Machine

/-! The commands of rounds and of the energy account: each is its function on the block -/

section
variable (s : State)

theorem exec_roundClose (step idx : Nat) : exec (.roundClose step idx) s = .next (s.put (s.b.roundDue step idx)) := rfl

theorem exec_supplementEmit : exec .supplementEmit s = .next (s.put s.b.suppDue) := rfl

theorem exec_traySumReceived (port : Nat) (t : TraySum) :
    exec (.traySumReceived port t) s = .next (s.put ((s.b.unstage port 2).traySum t)) := rfl

theorem exec_intervalClose : exec .intervalClose s = .next (s.put s.b.intervalClose) := rfl

theorem exec_tariffWrite (m : Master) (word : Nat) :
    exec (.tariffWrite m word) s = .next (s.put (s.b.write m 0x7218 word (fun b => if b.syn.agg then b.tariffWrite word else b))) := rfl

end

/-! Rounds and supplements (R184, R185) -/

/-- An open round closes at the acting root once its time has come, and not before (R184). -/
theorem Block.roundDue_open {b : Block} {step idx : Nat} {r : Round}
    (hr : b.vrd.rounds.find? (fun x => x.step == step && x.idx == idx) = some r) :
    b.roundDue step idx =
      if b.verdictRoot ∧ wallPast b.wall r.w ((100 * min 100000 (b.f F.VRD_PLAN_OFFSET) : Nat) : Int) then b.closeRound r else b := by
  unfold Block.roundDue
  rw [hr]

/-- The oldest supplement that is due goes out (R185). -/
theorem Block.suppDue_some {b : Block} {c : Closed} (hroot : b.verdictRoot = true)
    (hc : b.vrd.closed.reverse.find? (fun x => x.any && !x.gone && decide (x.at_ + 2 * b.wbPeriod ≤ b.clk.core)) = some c) :
    b.suppDue = b.emitSupp c := by
  unfold Block.suppDue
  rw [if_pos hroot, hc]

/-- With no round closed there is no supplement. -/
theorem Block.suppDue_none {b : Block} (hnone : b.vrd.closed = []) : b.suppDue = b := by
  unfold Block.suppDue
  rw [hnone]
  exact ite_self b

/-- A supplement that has something to say, and has not gone, goes out once (R185). -/
theorem Block.emitSupp_open {b : Block} {c : Closed} {closed : List Closed} (hany : c.any = true) (hgone : c.gone = false)
    (hclosed : closed = b.vrd.closed.map (fun x => if x = c then { x with gone := true } else x)) :
    b.emitSupp c =
      (Block.emitVerdict { b with vrd := { b.vrd with closed := closed } } c.step c.idx true c.nopeer c.fleet c.trays c.entries).raise
        Ev.VRD_AFTER_PLAN := by
  subst hclosed
  unfold Block.emitSupp
  exact if_pos ⟨hany, by simp [hgone]⟩

/-! TRAY_SUM (R23, R189) -/

/-- A copy of one taken before is dropped (log entry 148). -/
theorem Block.traySum_copy {b : Block} {t : TraySum} (htaken : b.vrd.taken.contains t = true) : b.traySum t = b := by
  unfold Block.traySum
  exact if_pos (Or.inr htaken)

/-- A new one is noted; the root takes it, any other aggregator sends it on by both links (R23, R189). -/
theorem Block.traySum_new {b c : Block} {t : TraySum} (hagg : b.syn.agg = true) (hnew : b.vrd.taken.contains t = false)
    (hc : c = { b with vrd := { b.vrd with taken := (t :: b.vrd.taken).take 4096 } }) :
    b.traySum t = if b.isRoot then c.takeSum t else c.sendAll upstream (.traySum t) := by
  subst hc
  unfold Block.traySum
  exact if_neg (by rw [hnew]; simp [hagg])

/-! Intervals and tariffs (R200, R201, R205) -/

/-- The next interval to close does so once its end and CLOSE have passed, and not before (R200). -/
theorem Block.intervalClose_next {b c : Block} {k : Nat} (hk : b.vrd.nextK = some k)
    (hc : c = b.closeInterval (b.intervalState k) false false) :
    b.intervalClose =
      if b.energyOn ∧ b.intervalPast k (b.f F.VRD_EN_CFG_CLOSE) then { c with vrd := { c.vrd with nextK := some (k + 1) } } else b := by
  subst hc
  unfold Block.intervalClose
  rw [hk]

/-- An access that is OK acts and answers OK (R381). -/
theorem Block.write_ok {b : Block} {m : Master} {off data : Nat} (act : Block → Block) (hok : b.respCode m off 0xF true data = 0) :
    b.write m off data act = (act b).answer m 0 0 := by
  unfold Block.write
  exact if_pos hok

/-- TARIFF_AT_HI has a copy for each entry that TARIFF_SEL names. -/
theorem regAt_tariffAtHi : regAt true 0x7218 = some (⟨0x7218, 1, 4, 0x7210, .agg, [⟨0, 16, .rw, 0⟩, ⟨31, 1, .rw, 0⟩]⟩, 0) := by decide

/-- Writing TARIFF_AT_HI leaves the selector. -/
theorem Block.writeFields_tariffSel {b : Block} (word : Nat) (hagg : b.syn.agg = true) :
    (b.writeFields 0x7218 word).f F.TARIFF_SEL_ENTRY = b.f F.TARIFF_SEL_ENTRY := by
  unfold Block.writeFields
  rw [hagg, regAt_tariffAtHi]
  simp only [List.foldl, Block.writeField]
  rw [Block.f_setf_other _ _ ?_, Block.f_setf_other _ _ ?_]
  all_goals
    simp only [Fld.key, RField.at, F.TARIFF_SEL_ENTRY]
    omega

/-- While no account is kept, a write of TARIFF_AT_HI puts the entry as a whole, good from the first interval on (R201, R205). -/
theorem Block.tariffSet_no_account {b : Block} {word i : Nat} {t : Tariff} {old : List Tariff} (hoff : b.energyOn = false)
    (hi : i = b.f F.TARIFF_SEL_ENTRY)
    (ht : t = { at_ := b.f (F.TARIFF_AT_LO_AT_LO.ix i) + word % 2 ^ 16 * 2 ^ 32, price := b.f (F.TARIFF_PRICE_PRICE.ix i),
                valid := bit word 31 == 1, since := 0 })
    (hold : old = (b.vrd.tariffs.getD i []).filter (fun x => decide (x.since < 0))) :
    b.tariffSet word = { b with vrd := { b.vrd with tariffs := b.vrd.tariffs.put i (t :: old) } } := by
  subst hi ht hold
  have hstill : ∀ x : Vrd, Block.energyOn { b with vrd := x } = false := fun _ => hoff
  unfold Block.tariffSet
  simp only [hoff, hstill, Bool.false_and, Block.raiseIf_false, Bool.false_eq_true, if_false]

/-- Settles O39: rounds and supplements, then TRAY_SUM, then intervals, then tariffs. -/
theorem roundsAndEnergy : Obligations.RoundsAndEnergy := by
  unfold Obligations.RoundsAndEnergy
  refine ⟨?_, ?_, ?_, ?_, ?_, ?_, ?_, ?_, ?_, ?_, ?_⟩
  · intro s step idx r hr hroot hpast
    rw [exec_roundClose, Block.roundDue_open hr, if_pos ⟨hroot, hpast⟩]
  · intro s step idx r hr hearly
    rw [exec_roundClose, Block.roundDue_open hr, hearly, if_neg (by simp)]
  · intro s c hroot hc closed hclosed hany hgone
    rw [exec_supplementEmit, Block.suppDue_some hroot hc, Block.emitSupp_open hany hgone hclosed]
  · intro s hnone
    rw [exec_supplementEmit, Block.suppDue_none hnone]
  · intro s port t u hu hagg hroot hnew c hc
    rw [exec_traySumReceived, ← hu, Block.traySum_new hagg hnew hc, if_pos hroot]
  · intro s port t u hu hagg hroot hnew c hc
    rw [exec_traySumReceived, ← hu, Block.traySum_new hagg hnew hc, if_neg (by simp [hroot])]
  · intro s port t u hu _ htaken
    rw [exec_traySumReceived, ← hu, Block.traySum_copy htaken]
  · intro s k hk hon hpast c hc
    rw [exec_intervalClose, Block.intervalClose_next hk hc, if_pos ⟨hon, hpast⟩]
  · intro s k hk hearly
    rw [exec_intervalClose, Block.intervalClose_next hk rfl, if_neg (by simp [hearly])]
  · intro s m word hok hagg i hi c hc hoff t ht old hold
    have hsel : i = c.f F.TARIFF_SEL_ENTRY := by rw [hc, Block.writeFields_tariffSel word hagg, hi]
    rw [exec_tariffWrite, Block.write_ok _ hok, if_pos hagg, Block.tariffWrite, ← hc, Block.tariffSet_no_account hoff hsel ht hold]
  · intro s m word hok hagg
    rw [exec_tariffWrite, Block.write_ok _ hok, if_neg (by simp [hagg])]

end Sys2Proof.Machine
end

section
namespace Sys2Proof.Machine

/-! What an idle cycle leaves (R61, R377, log entry 2) -/

/-- The parts of the block that no activity of an idle cycle writes: the build, the clocks (`Block.tick` moves them on by itself), the key
store, the Fabric Image state and the sync counters. -/
def Block.idlePart (b : Block) : Synth × Clk × Sec × Fim × Syn := (b.syn, b.clk, b.sec, b.fim, b.syn_)

/-- What keeps all but records and what they change keeps the idle part. -/
theorem Block.idlePart_of_noRecords {b c : Block} (h : c.noRecords = b.noRecords) : c.idlePart = b.idlePart := by
  have hparts : c.noRecords.idlePart = b.noRecords.idlePart := congrArg Block.idlePart h
  exact hparts

@[simp] theorem Block.idlePart_setf (b : Block) (x : Fld) (v : Nat) : (b.setf x v).idlePart = b.idlePart := rfl

@[simp] theorem Block.idlePart_runTime (b : Block) : b.runTime.idlePart = b.idlePart := by
  unfold Block.runTime
  dsimp only
  repeat' split
  all_goals rfl

@[simp] theorem Block.idlePart_linkCycle (b : Block) : b.linkCycle.idlePart = b.idlePart := by
  unfold Block.linkCycle
  split <;> rfl

@[simp] theorem Block.idlePart_opTurn (b : Block) : b.opTurn.idlePart = b.idlePart := by
  unfold Block.opTurn Block.opResume
  repeat' split
  all_goals rfl

/-- In the D build no queue has a consumer that takes items by itself (R233). -/
theorem Block.consume_die {b : Block} (hagg : b.syn.agg = false) : b.consume = b := by
  unfold Block.consume
  exact if_pos (Or.inl (by simp [hagg]))

@[simp] theorem Block.idlePart_irqLine (b : Block) (t : Nat) : (b.irqLine t).idlePart = b.idlePart := by
  unfold Block.irqLine
  dsimp only
  repeat' split
  all_goals rfl

@[simp] theorem Block.idlePart_irqLines (b : Block) : b.irqLines.idlePart = b.idlePart := by
  unfold Block.irqLines
  split
  · exact foldl_keeps Block.idlePart _ Block.idlePart_irqLine _ b
  · rfl

@[simp] theorem Block.idlePart_cycleEnd (b : Block) : b.cycleEnd.idlePart = b.idlePart := rfl

@[simp] theorem Block.idlePart_showFireQ (b : Block) : b.showFireQ.idlePart = b.idlePart := rfl

@[simp] theorem Block.idlePart_logCycle (b : Block) : b.logCycle.idlePart = b.idlePart := by
  unfold Block.logCycle
  split <;> rfl

@[simp] theorem Block.noRecords_report (b : Block) (unit op fmt cls part exp obs ctx : Nat) (selftest recovered : Bool) (ref : Nat)
    (at_ : Option Seen) : (b.report unit op fmt cls part exp obs ctx selftest recovered ref at_).noRecords = b.noRecords := by
  unfold Block.report Block.sendReport
  dsimp only
  split <;> simp

@[simp] theorem Block.idlePart_driftReport (b : Block) (ch : Nat) : (b.driftReport ch).idlePart = b.idlePart :=
  (Block.idlePart_of_noRecords (Block.noRecords_report b.fresh.2.fresh.2 _ _ _ _ _ _ _ _ _ _ _ _)).trans rfl

@[simp] theorem Block.idlePart_driftReports (b : Block) : b.driftReports.idlePart = b.idlePart := by
  unfold Block.driftReports
  split
  · rfl
  · exact foldl_keeps Block.idlePart _ Block.idlePart_driftReport _ _

/-- An idle cycle of the D build moves its clocks on and leaves the rest of the idle part. -/
theorem Block.idlePart_tick_die {b : Block} (hagg : b.syn.agg = false) :
    b.tick.idlePart = (b.syn, b.clk.next b.syn.coreMHz, b.sec, b.fim, b.syn_) := by
  have hparts : b.runTime.linkCycle.opTurn.idlePart = b.idlePart := by simp
  have hsyn : b.runTime.linkCycle.opTurn.syn.agg = false := (congrArg (fun p => p.1.agg) hparts).trans hagg
  have hcycle : b.runTime.linkCycle.opTurn.consume.irqLines.cycleEnd.idlePart = b.idlePart := by
    rw [Block.idlePart_cycleEnd, Block.idlePart_irqLines, Block.consume_die hsyn, hparts]
  unfold Block.tick
  rw [Block.idlePart_driftReports, Block.idlePart_logCycle, Block.idlePart_showFireQ]
  simp only [Block.idlePart, Prod.mk.injEq] at hcycle ⊢
  obtain ⟨hs, hclk, hsec, hfim, hsync⟩ := hcycle
  exact ⟨hs, by rw [hs, hclk], hsec, hfim, hsync⟩

/-- CLK_AON follows CLK_CORE at its own pace (R377). -/
theorem Clk.next_counts (c : Clk) (coreMHz : Nat) :
    (c.next coreMHz).core = c.core + 1 ∧ ((c.next coreMHz).aon = c.aon ∨ (c.next coreMHz).aon = c.aon + 1) := by
  unfold Clk.next
  dsimp only
  split
  · exact ⟨rfl, Or.inr rfl⟩
  · exact ⟨rfl, Or.inl rfl⟩

/-- With no command waiting one cycle passes (log entry 2). -/
theorem step_idle {s : State} (hidle : s.pending = []) : step s = .next (s.put s.b.tick) := by
  obtain ⟨pending, mem, b⟩ := s
  cases hidle
  rfl

/-- Settles O2: an idle step is one tick, of which `Block.idlePart_tick_die` says what stands. -/
theorem idleStep : Obligations.IdleStep := by
  unfold Obligations.IdleStep
  refine ⟨fun s hidle => step_idle hidle, ?_⟩
  intro s hidle hagg
  have hparts := Block.idlePart_tick_die hagg
  simp only [Block.idlePart, Prod.mk.injEq] at hparts
  obtain ⟨-, hclk, hsec, hfim, hsync⟩ := hparts
  obtain ⟨hcore, haon⟩ := s.b.clk.next_counts s.b.syn.coreMHz
  rw [← hclk] at hcore haon
  refine ⟨s.put s.b.tick, step_idle hidle, ?_⟩
  dsimp only [State.put]
  exact ⟨hcore, haon, rfl, hidle, hsec, hfim, hsync⟩

end Sys2Proof.Machine
end

section
namespace Sys2Proof.Machine

/-! The commands of the phase port, of fires and of launches: each is its function on the block -/

section
variable (s : State)

theorem exec_phaseLoad (value : Nat) (rise : Bool) (adv : Nat) :
    exec (.phaseLoad value rise adv) s = .next (s.put (s.b.portCycle (some value) rise adv)) := rfl

theorem exec_stepStrobe (adv : Nat) : exec (.stepStrobe adv) s = .next (s.put (s.b.portCycle none true adv)) := rfl

theorem exec_phaseAdvance (adv : Nat) : exec (.phaseAdvance adv) s = .next (s.put (s.b.portCycle none false adv)) := rfl

theorem exec_stepTimeout : exec .stepTimeout s = .next (s.put s.b.stepLate) := rfl

theorem exec_phaseLoRead (m : Master) : exec (.phaseLoRead m) s = .next (s.put (s.b.read m 0x1010 Block.phaseLo)) := rfl

theorem exec_wingbeatFire : exec .wingbeatFire s = .next (s.put s.b.fire) := rfl

theorem exec_beaconReceived (port ldi epoch step pos idx wall : Nat) :
    exec (.beaconReceived port ldi epoch step pos idx wall) s = .next (s.put (s.b.beacon port ldi epoch step pos idx wall)) := rfl

theorem exec_beaconLost : exec .beaconLost s = .next (s.put s.b.beaconLate) := rfl

theorem exec_timeWingbeat : exec .timeWingbeat s = .next (s.put s.b.timeWingbeat) := rfl

theorem exec_wbMarkReceived (port step idx wall : Nat) :
    exec (.wbMarkReceived port step idx wall) s = .next (s.put (s.b.wbMark port step idx wall)) := rfl

theorem exec_launchArm (m : Master) (word : Nat) :
    exec (.launchArm m word) s = .next (s.put (s.b.write m 0x1204 (setBit word 18 1) (fun b => b.launchArm (setBit word 18 1)))) := rfl

theorem exec_launchFire (slot : Nat) : exec (.launchFire slot) s = .next (s.put (s.b.launchFire (slot % 32))) := rfl

end

/-! Reads that are OK (R381) -/

/-- A read that is OK acts and answers its data. -/
theorem Block.read_ok {b : Block} {m : Master} {off strb : Nat} (act : Block → Nat × Block) (hok : b.respCode m off strb false 0 = 0) :
    b.read m off act strb = (act b).2.answer m 0 (act b).1 := by
  unfold Block.read
  exact if_pos hok

/-! The aggregator build has no phase (R42) -/

section
variable {b : Block} (hagg : b.syn.agg = true)
include hagg

theorem Block.phase_agg : b.phase = 0 := by
  unfold Block.phase
  exact if_pos hagg

theorem Block.phsrc_agg : b.phsrc = 2 := by
  unfold Block.phsrc
  exact if_pos hagg

theorem Block.portFollowed_agg : b.portFollowed = false := by simp [Block.portFollowed, hagg]

/-- A trigger of kind "phase" is never reached there. -/
theorem Block.launchReached_phase_agg {l : Launch} (hkind : l.kind = 1) : b.launchReached l = false := by
  simp [Block.launchReached, hkind, hagg]

/-- ANT_PHASE_HI reads 0 there, and has no field that a read clears. -/
theorem Block.busRead_phaseHi_agg (mem : Memory) (m : Master) (upd : Nat) : b.busRead mem m 0x1014 upd = (0, b) := by
  have hview : b.view m 0x1014 = 0 := by
    unfold Block.view
    rw [hagg]
    exact if_pos hagg
  have hclear : b.rcClear 0x1014 upd = b := by
    unfold Block.rcClear
    rw [hagg]
    rfl
  have hread : b.busRead mem m 0x1014 upd = (b.view m 0x1014, b.rcClear 0x1014 upd) := by
    unfold Block.busRead
    rw [hagg]
    rfl
  rw [hread, hview, hclear]

end

/-- A port that is not followed has no cycle (R42, R43). -/
theorem Block.portCycle_unfollowed {b : Block} (load : Option Nat) (rise : Bool) (adv : Nat) (hport : b.portFollowed = false) :
    b.portCycle load rise adv = b := by
  unfold Block.portCycle
  exact if_pos (by simp [hport])

/-- Nor has it a step timeout (R45). -/
theorem Block.stepLate_unfollowed {b : Block} (hport : b.portFollowed = false) : b.stepLate = b := by
  unfold Block.stepLate
  exact if_neg (by simp [hport])

/-- A slot whose trigger is not reached waits (R65). -/
theorem Block.launchFire_early {b : Block} {n : Nat} {l : Launch} (hslot : b.ant.launches.find n = some l)
    (hearly : b.launchReached l = false) : b.launchFire n = b := by
  unfold Block.launchFire
  rw [hslot]
  exact if_pos (Or.inr (Or.inl (by simp [hearly])))

/-- Settles O9: the port's cycles, the two reads, the source and the slots of an aggregator, each from what R42 takes away. -/
theorem noPhaseInAggregators : Obligations.NoPhaseInAggregators := by
  unfold Obligations.NoPhaseInAggregators
  refine ⟨?_, ?_, ?_, ?_, ?_⟩
  · intro s value adv rise hagg
    have hport := Block.portFollowed_agg hagg
    rw [exec_phaseLoad, exec_stepStrobe, exec_phaseAdvance, exec_stepTimeout, Block.portCycle_unfollowed _ _ _ hport,
      Block.portCycle_unfollowed _ _ _ hport, Block.portCycle_unfollowed _ _ _ hport, Block.stepLate_unfollowed hport]
    exact ⟨rfl, rfl, rfl, rfl⟩
  · intro s m hagg hok
    rw [exec_phaseLoRead, Block.read_ok _ hok, Block.phaseLo, Block.phase_agg hagg]
    rfl
  · intro s m upd hagg hok
    rw [exec_rcFieldRead, Block.regRead, Block.read_ok _ hok, Block.busRead_phaseHi_agg hagg]
  · intro b v hagg
    exact ⟨(Block.phsrc_agg (b := b.setf F.ANT_CTRL_PHSRC v) hagg).trans (Block.phsrc_agg hagg).symm, Block.phase_agg hagg,
      Block.portFollowed_agg hagg⟩
  · intro s n l hagg hslot hkind
    rw [exec_launchFire, Block.launchFire_early hslot (Block.launchReached_phase_agg hagg hkind)]

end Sys2Proof.Machine
end

section
namespace Sys2Proof.Machine

/-! The commands of wall time: each is its function on the block -/

section
variable (s : State)

theorem exec_syncSend : exec .syncSend s = .next (s.put s.b.syncSend) := rfl

theorem exec_syncReceived (port ts tr : Nat) (rpl : Bool) :
    exec (.syncReceived port ts tr rpl) s = .next (s.put (s.b.syncTake port ts tr rpl)) := rfl

theorem exec_pdelayReqSend : exec .pdelayReqSend s = .next (s.put s.b.pdelayReq) := rfl

theorem exec_pdelayReqReceived (port seq t2 : Nat) (rpl : Bool) :
    exec (.pdelayReqReceived port seq t2 rpl) s = .next (s.put (s.b.pdelayAnswer port seq t2 rpl)) := rfl

theorem exec_pdelayRespReceived (port seq t2 t3 t4 : Nat) (disturbed : Bool) :
    exec (.pdelayRespReceived port seq t2 t3 t4 disturbed) s = .next (s.put (s.b.pdelayTake port seq t2 t3 t4 disturbed)) := rfl

theorem exec_syncTimeout : exec .syncTimeout s = .next (s.put s.b.syncTimeout) := rfl

theorem exec_asymMeasure (n value : Nat) : exec (.asymMeasure n value) s = .next (s.put (s.b.asymMeasure n value)) := rfl

theorem exec_epochMarkPeriodic : exec .epochMarkPeriodic s = .next (s.put s.b.epochPeriodic) := rfl

theorem exec_slewAbsorbed : exec .slewAbsorbed s = .next (s.put s.b.slewAbsorbed) := rfl

theorem exec_timeStep (m : Master) : exec (.timeStep m) s = .next (s.put (s.b.write m 0x104C 1 Block.timeStep)) := rfl

theorem exec_timeLoad (m : Master) : exec (.timeLoad m) s = .next (s.put (s.b.write m 0x104C 2 Block.timeLoad)) := rfl

theorem exec_timeLoRead (m : Master) : exec (.timeLoRead m) s = .next (s.put (s.b.read m 0x1030 Block.timeLo)) := rfl

end

/-! SYNC and peer delay (R57, R58) -/

/-- A SYNC that is due goes to every time child, stamped as it leaves (R57). -/
theorem Block.syncSend_due {b : Block} (hon : b.on dANTENNA = true) (hvalid : b.timeValid = true)
    (hdue : b.ant.sentAt + b.us 32 ≤ b.clk.core) :
    b.syncSend = b.childPorts.foldl (fun b n => b.sendMsg n (.sync 0 b.stampUi (b.f F.ANT_RATE_RATE) b.timeValid))
      { b with ant := { b.ant with sentAt := b.clk.core } } := by
  unfold Block.syncSend
  exact if_pos ⟨hon, hvalid, hdue⟩

/-- A child's request that is due goes to its parent, and the exchange it starts is remembered (R57). -/
theorem Block.pdelayReq_due {b : Block} {n : Nat} (hparent : b.parentPort = some n) (hon : b.on dANTENNA = true)
    (hdue : b.ant.reqAt + b.us 1000 ≤ b.clk.core) (hup : (b.port n).state = 2) :
    b.pdelayReq =
      ({ b with ant := { b.ant with reqAt := b.clk.core, exSeq := b.ant.exSeq + 1, exOut := some (b.ant.exSeq + 1, b.stampUi) } }).sendMsg n
        (.pdelayReq (b.ant.exSeq + 1) b.stampUi) := by
  unfold Block.pdelayReq
  rw [hparent]
  exact if_pos ⟨hon, hdue, hup⟩

section
variable {b u : Block} {port seq t2 : Nat} (hu : u = b.unstage port 2) (hon : u.on dANTENNA = true)
include hu hon

/-- A request that is no replay is answered (R57, R212). -/
theorem Block.pdelayAnswer_new : b.pdelayAnswer port seq t2 false = u.sendMsg port (.pdelayResp seq 0 t2 u.stampUi) := by
  subst hu
  unfold Block.pdelayAnswer
  exact if_pos ⟨hon, Bool.false_ne_true⟩

/-- The parent's answer to the exchange that is out ends it: its round trip is the newest of the 8 kept (R57, R58). -/
theorem Block.pdelayTake_answer {t1 t3 t4 : Nat} (hparent : u.parentPort = some port) (hout : u.ant.exOut = some (seq, t1)) :
    b.pdelayTake port seq t2 t3 t4 false =
      { u with ant := { u.ant with exOut := none, exch := ((((t4 : Int) - t1) - ((t3 : Int) - t2)) :: u.ant.exch).take 8 } } := by
  subst hu
  unfold Block.pdelayTake
  dsimp only
  rw [hout]
  exact if_pos ⟨hon, hparent, rfl⟩

end

/-! Timers of wall time (R58, R60, R62) -/

/-- A child that has had no SYNC for 128 µs is in holdover (R60). -/
theorem Block.syncTimeout_due {b : Block} (hon : b.on dANTENNA = true) (hchild : b.noParent = false)
    (hdue : b.ant.syncAt + b.us 128 ≤ b.clk.core) : b.syncTimeout = b.setf F.ANT_STATUS_HOLDOVER 1 := by
  unfold Block.syncTimeout
  exact if_pos ⟨hon, by simp [hchild], hdue⟩

/-- INTERNAL of either link that both builds have takes what is measured, each 1 ms and while the port trains (R58). -/
theorem Block.asymMeasure_due {b : Block} {n : Nat} (value : Nat) (hon : b.on dANTENNA = true) (hn : n < 2)
    (hdue : (b.ant.asymAt[n]?).getD 0 + b.us 1000 ≤ b.clk.core ∨ b.asymTrains n = true) :
    b.asymMeasure n value = ({ b with ant := { b.ant with asymAt := setAt b.ant.asymAt n b.clk.core } }).setf (F.ANT_ASYM_INTERNAL.at n) value := by
  have hhas : n < (if b.syn.agg then 4 else 2) := by split <;> omega
  unfold Block.asymMeasure
  exact if_pos ⟨hon, hhas, hdue⟩

/-- A new period of 2^20 s is marked (R62). -/
theorem Block.epochPeriodic_due {b : Block} (hon : b.on dANTENNA = true) (hnew : b.ant.epochMark ≠ b.seconds / 2 ^ 20) :
    b.epochPeriodic = ({ b with ant := { b.ant with epochMark := b.seconds / 2 ^ 20 } }).epochMark 3 0 := by
  unfold Block.epochPeriodic
  exact if_pos ⟨hon, hnew⟩

/-! The slew (R59) -/

/-- A slew of which no more is left than one cycle can take is marked (R59). -/
theorem Block.slewAbsorbed_last {b : Block} (hon : b.on dANTENNA = true) (hleft : b.ant.slew.natAbs ≤ 2 ^ 40) :
    b.slewAbsorbed = { b with ant := { b.ant with slewEnd := true } } := by
  unfold Block.slewAbsorbed
  exact if_pos ⟨hon, hleft⟩

/-- The cycle after that absorbs the last of it whole (R59). -/
theorem Block.runTime_slewEnd {b c : Block} (hon : b.on dANTENNA = true) (hend : b.ant.slewEnd = true) (hslew : b.ant.slew ≠ 0)
    (hleft : b.ant.slew.natAbs ≤ 2 ^ 40) (hc : c = b.addFine (1000 * (((2 ^ 40 : Nat) : Int) + signed 32 (b.f F.ANT_RATE_RATE)))) :
    b.runTime = ({ c with ant := { c.ant with slew := 0, slewEnd := false } }).addFine b.ant.slew := by
  have hslew' : c.ant.slew = b.ant.slew := by rw [hc]; rfl
  have hend' : c.ant.slewEnd = true := by rw [hc]; exact hend
  unfold Block.runTime
  dsimp only
  rw [if_pos hon, ← hc, hslew', if_neg hslew, if_pos ⟨hend', hleft⟩]

/-- Settles O16: messages, then timers, then the end of a slew. -/
theorem timeMessagesAndTimers : Obligations.TimeMessagesAndTimers := by
  unfold Obligations.TimeMessagesAndTimers
  refine ⟨?_, ?_, ?_, ?_, ?_, ?_, ?_, ?_, ?_⟩
  · intro s hon hvalid hdue
    rw [exec_syncSend, Block.syncSend_due hon hvalid hdue]
  · intro s n hparent hon hdue hup
    rw [exec_pdelayReqSend, Block.pdelayReq_due hparent hon hdue hup]
  · intro s port seq t2 u hu hon
    rw [exec_pdelayReqReceived, Block.pdelayAnswer_new hu hon]
  · intro s port seq t1 t2 t3 t4 u hu hon hparent hout
    rw [exec_pdelayRespReceived, Block.pdelayTake_answer hu hon hparent hout]
  · intro s hon hchild hdue
    rw [exec_syncTimeout, Block.syncTimeout_due hon hchild hdue]
  · intro s n v hon hn hdue
    rw [exec_asymMeasure, Block.asymMeasure_due v hon hn hdue]
  · intro s hon hnew c hc
    have hzero : satSigned 64 0 = 0 := by decide
    rw [exec_epochMarkPeriodic, Block.epochPeriodic_due hon hnew, ← hc, Block.epochMark, hzero]
  · intro s hon hleft
    rw [exec_slewAbsorbed, Block.slewAbsorbed_last hon hleft]
  · intro b hon hend hslew hleft c hc
    rw [Block.runTime_slewEnd hon hend hslew hleft hc]

/-! SYNC received (R58 to R60) -/

section
variable {b u : Block} {port ts tr : Nat} (hu : u = b.unstage port 2) (hon : u.on dANTENNA = true) (hparent : u.parentPort = some port)
include hu hon hparent

/-- A SYNC that comes before any exchange is kept gives no θ; that it came counts (R60, log entry 30). -/
theorem Block.syncTake_no_exchange (hnone : u.ant.exch = []) :
    b.syncTake port ts tr false = { u with ant := { u.ant with syncAt := u.clk.core } } := by
  subst hu
  unfold Block.syncTake
  dsimp only
  rw [if_neg (by simp [hon, hparent]), if_pos (Or.inr hnone)]

/-- With an exchange kept it gives a θ, which is shown and applied (R58, R59). -/
theorem Block.syncTake_exchange {th : Int} (hkept : u.ant.exch ≠ [])
    (hth : th = theta ts tr u.ant.exch (u.asym port) (Config.free u.freeN)) :
    b.syncTake port ts tr false =
      (({ u with freeN := u.freeN + 1, ant := { u.ant with syncAt := u.clk.core } } : Block).setf F.ANT_OFFSET_OFFSET
        (satSigned 32 th)).applyTheta th := by
  subst hu hth
  unfold Block.syncTake
  dsimp only
  rw [if_neg (by simp [hon, hparent]), if_neg (by simp [hkept])]
  rfl

end

/-- The first θ is a step that sets TIME_VALID (R59). -/
theorem Block.applyTheta_first {b : Block} (th : Int) (hfirst : b.timeValid = false) :
    b.applyTheta th = (b.addFine (th * (b.sixteenth : Int))).jumped b.wall 0 0 true := by
  unfold Block.applyTheta
  exact if_pos (by simp [hfirst])

/-- A later one is slewed within the limit of ANT_JUMP, and refused above it (R59). -/
theorem Block.applyTheta_later {b : Block} (th : Int) (hvalid : b.timeValid = true) :
    b.applyTheta th =
      if (th.natAbs : Int) ≤ b.jumpLimit then
        ({ b with ant := { b.ant with slew := th * (b.sixteenth : Int), slewEnd := false } }).setf F.ANT_STATUS_HOLDOVER 0
      else (b.setf F.ANT_STATUS_HOLDOVER 1).raise Ev.ANT_JUMP_REFUSED := by
  have hlimit : th.natAbs ≤ b.jumpLimit.toNat ↔ (th.natAbs : Int) ≤ b.jumpLimit := by
    have hnonneg : 0 ≤ b.jumpLimit := Int.natCast_nonneg _
    omega
  unfold Block.applyTheta
  rw [if_neg (by simp [hvalid])]
  simp only [hlimit]

/-- Settles O17: the two ways a SYNC is taken, then the three ways its θ is applied. -/
theorem syncGivesOffset : Obligations.SyncGivesOffset := by
  unfold Obligations.SyncGivesOffset
  refine ⟨?_, ?_, ?_, ?_, ?_⟩
  · intro s port ts tr u hu hon hparent hnone
    rw [exec_syncReceived, Block.syncTake_no_exchange hu hon hparent hnone]
  · intro s port ts tr u hu hon hparent hkept th hth
    rw [exec_syncReceived, Block.syncTake_exchange hu hon hparent hkept hth]
  · intro b th hfirst
    exact Block.applyTheta_first th hfirst
  · intro b th hvalid hwithin
    rw [Block.applyTheta_later th hvalid, if_pos hwithin]
  · intro b th hvalid habove
    rw [Block.applyTheta_later th hvalid, if_neg (Int.not_le.mpr habove)]

/-! STEP and LOAD (R62) -/

/-- A record leaves internal time and the slew. -/
@[simp] theorem Block.epochMark_ant (b : Block) (cause : Nat) (offset : Int) : (b.epochMark cause offset).ant = b.ant := by
  have hant : (b.epochMark cause offset).noRecords.ant = b.noRecords.ant := by rw [Block.epochMark, Block.noRecords_emitRow]
  exact hant

/-- After a jump time is what it was moved to, and no slew runs (R59, R62). -/
theorem Block.jumped_time (b : Block) (before cause : Nat) (offset : Int) (validate : Bool) :
    (b.jumped before cause offset validate).ant.fine = b.ant.fine ∧ (b.jumped before cause offset validate).ant.slew = 0 := by
  unfold Block.jumped
  dsimp only
  split
  · rw [Block.epochMark_ant]; exact ⟨rfl, rfl⟩
  · rw [Block.epochMark_ant]; exact ⟨rfl, rfl⟩

/-- STEP adds ANT_OFFSET to time (R62). -/
theorem Block.timeStep_time (b : Block) :
    b.timeStep.ant.fine = (((b.ant.fine : Int) + b.offset * (b.sixteenth : Int)) % (b.fineMod : Int)).toNat ∧ b.timeStep.ant.slew = 0 :=
  (b.addFine (b.offset * (b.sixteenth : Int))).jumped_time b.wall 1 b.offset b.noParent

/-- LOAD at the root replaces time (R62). -/
theorem Block.timeLoad_root {b : Block} (hroot : b.noParent = true) :
    b.timeLoad.ant.fine = b.timeSet * (b.syn.coreMHz * 10 ^ 9) ∧ b.timeLoad.ant.slew = 0 := by
  unfold Block.timeLoad
  rw [if_pos hroot]
  exact Block.jumped_time _ b.wall 2 0 true

/-- Elsewhere it is ignored (R62). -/
theorem Block.timeLoad_child {b : Block} (hchild : b.noParent = false) : b.timeLoad = b := by
  unfold Block.timeLoad
  exact if_neg (by simp [hchild])

@[simp] theorem Block.answer_ant (b : Block) (m : Master) (code data : Nat) : (b.answer m code data).ant = b.ant := by
  cases m <;> rfl

/-- A write that is OK leaves ANTENNA as what it does leaves it. -/
theorem Block.write_ok_ant {b : Block} {m : Master} {off data : Nat} (act : Block → Block) (hok : b.respCode m off 0xF true data = 0) :
    (b.write m off data act).ant = (act b).ant := by
  rw [Block.write_ok act hok, Block.answer_ant]

/-- Settles O18: STEP and LOAD by what a jump leaves, the reads by their latches. -/
theorem timeStepLoadAndReads : Obligations.TimeStepLoadAndReads := by
  unfold Obligations.TimeStepLoadAndReads
  refine ⟨?_, ?_, ?_, ?_, ?_⟩
  · intro s m hok
    obtain ⟨hfine, hslew⟩ := s.b.timeStep_time
    refine ⟨_, exec_timeStep s m, ?_⟩
    dsimp only [State.put]
    rw [Block.write_ok_ant _ hok]
    exact ⟨hfine, hslew, rfl⟩
  · intro s m hok hroot
    obtain ⟨hfine, hslew⟩ := Block.timeLoad_root hroot
    refine ⟨_, exec_timeLoad s m, ?_⟩
    dsimp only [State.put]
    rw [Block.write_ok_ant _ hok]
    exact ⟨hfine, hslew, rfl⟩
  · intro s m hok hchild
    rw [exec_timeLoad, Block.write_ok _ hok, Block.timeLoad_child hchild]
  · intro s m hok
    rw [exec_timeLoRead, Block.read_ok _ hok, Block.timeLo]
  · intro s m hok
    rw [exec_phaseLoRead, Block.read_ok _ hok, Block.phaseLo]

end Sys2Proof.Machine
end

section
namespace Sys2Proof.Machine

/-! A cycle of the Phase Reference port (R43, R44) -/

section
variable {b : Block} (hport : b.portFollowed = true) (hsampled : b.ant.sampled = true)
include hport hsampled

/-- A load takes the cycle, and the other inputs of it are dropped (R44). -/
theorem Block.portCycle_load (v adv : Nat) : b.portCycle (some v) false adv = b.loadPhase v (adv % 65536 != 0) := by
  unfold Block.portCycle
  rw [if_neg (by simp [hport]), if_neg (by simp [hsampled])]
  rfl

theorem Block.portCycle_advance (adv : Nat) : b.portCycle none false adv = b.advance adv := by
  unfold Block.portCycle
  rw [if_neg (by simp [hport]), if_neg (by simp [hsampled])]
  rfl

/-- A strobe starts the step timeout again and comes before the units of its cycle (R44, R45). -/
theorem Block.portCycle_strobe (adv : Nat) : b.portCycle none true adv = b.stepTimer.strobe.advance adv := by
  unfold Block.portCycle
  rw [if_neg (by simp [hport]), if_neg (by simp [hsampled])]
  rfl

end

/-- A load above the present phase is taken (R44). -/
theorem Block.loadPhase_above {b : Block} {v : Nat} (others : Bool) (habove : b.phase < v % 2 ^ 64) :
    b.loadPhase v others =
      ({ b with ant := { b.ant with step := v % 2 ^ 64 / 2 ^ 24, frac := v % 2 ^ 64 % 2 ^ 24 } }).raiseIf others Ev.ANT_SET_COLLIDE := by
  unfold Block.loadPhase
  dsimp only
  rw [if_pos habove]

/-- Any other is refused (R44). -/
theorem Block.loadPhase_not_above {b : Block} {v : Nat} (others : Bool) (hnot : v % 2 ^ 64 ≤ b.phase) :
    b.loadPhase v others = (b.raise Ev.ANT_SET_REFUSED).raiseIf others Ev.ANT_SET_COLLIDE := by
  unfold Block.loadPhase
  dsimp only
  rw [if_neg (Nat.not_lt.mpr hnot)]

/-- Units that the fraction has room for cross the entries they reach and are added (R44). -/
theorem Block.advance_within {b c : Block} {adv : Nat} (hroom : b.ant.frac + adv % 65536 ≤ maxFrac)
    (hc : c = (b.entries (fun p => decide (b.ant.frac < p) && decide (p ≤ b.ant.frac + adv % 65536))).foldl
      (fun d i => d.cross d.ant.step 0 i) b) :
    b.advance adv = { c with ant := { c.ant with frac := b.ant.frac + adv % 65536 } } := by
  subst hc
  unfold Block.advance
  dsimp only
  rw [if_neg (Nat.not_lt.mpr hroom), Nat.min_eq_left hroom]

/-- No entry lies between a position and itself. -/
theorem Block.entries_between_same (b : Block) (n : Nat) : b.entries (fun p => decide (n < p) && decide (p ≤ n)) = [] := by
  unfold Block.entries
  rw [List.filter_eq_nil_iff]
  intro i _ hi
  simp only [Bool.and_eq_true, decide_eq_true_eq] at hi
  omega

/-- Units presented while the fraction is held at its end are counted, and cross nothing (R44). -/
theorem Block.advance_held {b : Block} {adv : Nat} (hheld : b.ant.frac = maxFrac) (hclamped : b.ant.clamped = true)
    (hunits : adv % 65536 ≠ 0) : b.advance adv = b.count F.ANT_OVERRUN_UNITS (adv % 65536) := by
  have hover : maxFrac < maxFrac + adv % 65536 := by omega
  have hmin : min (maxFrac + adv % 65536) maxFrac = maxFrac := Nat.min_eq_right hover.le
  unfold Block.advance
  dsimp only
  rw [hheld, if_pos hover, hmin, Nat.add_sub_cancel_left, if_pos (by simp [hclamped]), Block.entries_between_same, List.foldl_nil, ← hheld]
  rfl

/-- A strobe below the last step queues what the old step had left, then begins the new one (R44). -/
theorem Block.strobe_next {b c d : Block} (hc : c = (b.entries (fun p => decide (b.ant.frac < p))).foldl (fun b i => b.cross b.ant.step 2 i) b)
    (hstep : c.ant.step + 1 < 2 ^ 40)
    (hd : d = ({ c with ant := { c.ant with step := c.ant.step + 1, frac := 0 } } : Block).setClamped false) :
    b.strobe = (d.entries (fun p => p == 0)).foldl (fun b i => b.cross (c.ant.step + 1) 0 i) d := by
  have hnowrap : (c.ant.step + 1 == 0) = false := by simp
  subst hd
  unfold Block.strobe
  dsimp only
  rw [← hc, Nat.mod_eq_of_lt hstep, hnowrap]
  rfl

/-- Settles O19: loads, then advances, then a strobe. -/
theorem phasePortCycle : Obligations.PhasePortCycle := by
  unfold Obligations.PhasePortCycle
  refine ⟨?_, ?_, ?_, ?_, ?_, ?_⟩
  · intro s v hport hsampled habove
    rw [exec_phaseLoad, Block.portCycle_load hport hsampled, Block.loadPhase_above _ habove]
    rfl
  · intro s v hport hsampled hnot
    rw [exec_phaseLoad, Block.portCycle_load hport hsampled, Block.loadPhase_not_above _ hnot]
    rfl
  · intro s v adv hport hsampled habove hunits
    have hothers : (adv % 65536 != 0) = true := by simp [hunits]
    rw [exec_phaseLoad, Block.portCycle_load hport hsampled, Block.loadPhase_above _ habove, hothers]
    rfl
  · intro s adv hport hsampled hroom c hc
    rw [exec_phaseAdvance, Block.portCycle_advance hport hsampled, Block.advance_within hroom hc]
  · intro s adv hport hsampled hheld hclamped hunits
    rw [exec_phaseAdvance, Block.portCycle_advance hport hsampled, Block.advance_held hheld hclamped hunits]
  · intro s adv hport hsampled b hb c hc hstep d hd
    have htimer : s.b.stepTimer = b := hb.symm
    rw [exec_stepStrobe, Block.portCycle_strobe hport hsampled, htimer, Block.strobe_next hc hstep hd]

end Sys2Proof.Machine
end

section
namespace Sys2Proof.Machine

/-! Timeouts of the phase (R45, R54) -/

/-- A step timeout that is due is raised once; it may freeze the hang rings too (R45, R109). -/
theorem Block.stepLate_due {b c : Block} (hport : b.portFollowed = true) (hset : b.f F.ANT_TIMEOUTS_STEP ≠ 0) (hfirst : b.ant.stepHit = false)
    (hdue : b.ant.stepFrom + aonUs (100 * b.f F.ANT_TIMEOUTS_STEP) ≤ b.clk.aon)
    (hc : c = ({ b with ant := { b.ant with stepHit := true } } : Block).raise Ev.ANT_STEP_TIMEOUT) :
    b.stepLate = if c.is F.TRC_HANG_CTRL_ON_STEP then c.hangFreeze 3 else c := by
  subst hc
  unfold Block.stepLate
  exact if_pos ⟨hport, hset, by simp [hfirst], hdue⟩

/-- A follower that has had no beacon in time raises BEACON_LOST once (R54). -/
theorem Block.beaconLate_due {b : Block} (hagg : b.syn.agg = false) (hon : b.on dANTENNA = true) (hsrc : b.phsrc = 1)
    (hset : b.f F.ANT_TIMEOUTS_BEACON ≠ 0) (hfirst : b.ant.bcnHit = false)
    (hdue : b.ant.bcnFrom + aonUs (100 * b.f F.ANT_TIMEOUTS_BEACON) ≤ b.clk.aon) :
    b.beaconLate = ({ b with ant := { b.ant with bcnHit := true } } : Block).raise Ev.ANT_BEACON_LOST := by
  unfold Block.beaconLate
  exact if_pos ⟨by simp [hagg], hon, hsrc, hset, by simp [hfirst], hdue⟩

/-! Beacons received (R53, R54) -/

section
variable {b u : Block} {port ldi : Nat} (epoch step pos idx wall : Nat) (hu : u = b.unstage port 2)
include hu

/-- A follower of the beacon's source acts on it (R54). -/
theorem Block.beacon_followed (hagg : u.syn.agg = false) (hon : u.on dANTENNA = true) (hsrc : u.phsrc = 1)
    (hldi : ldi = u.f F.ANT_BEACON_SRC_LDI) : b.beacon port ldi epoch step pos idx wall = u.followBeacon step pos idx wall := by
  subst hu
  unfold Block.beacon
  dsimp only
  rw [if_neg (by simp [hagg]), if_pos ⟨hon, hsrc, hldi⟩]

variable (hagg : u.syn.agg = true)
include hagg

/-- An aggregator passes a beacon on where it passes the test of R28, and drops any other (R53, R54). -/
theorem Block.beacon_passed :
    b.beacon port ldi epoch step pos idx wall =
      if u.beaconOk port ldi epoch then u.sendAll (u.beaconPorts port ldi) (.beacon ldi epoch step pos idx wall) else u := by
  subst hu
  unfold Block.beacon
  exact if_pos hagg

end

section
variable {b : Block} {step pos : Nat} (idx wall : Nat)

/-- A beacon above the phase of its follower is taken, and queues a fire under its own index (R54). -/
theorem Block.followBeacon_above {c : Block} (habove : b.phase < phaseOf step pos)
    (hc : c = { b with ant := { b.ant with bcnFrom := b.clk.aon, bcnHit := false, step := step % 2 ^ 40, frac := pos % 2 ^ 24 } }) :
    b.followBeacon step pos idx wall =
      c.enqueue { step := step % 2 ^ 40, pos := pos % 2 ^ 24, idx := idx % 256, cause := 4, acts := c.entryActs (idx % 256),
                  srcWall := wall, due := c.clk.core } := by
  have hphase : b.beaconTimer.phase < phaseOf step pos := habove
  subst hc
  unfold Block.followBeacon
  exact if_pos hphase

/-- Any other is stale, but has come (R54). -/
theorem Block.followBeacon_stale (hstale : phaseOf step pos ≤ b.phase) :
    b.followBeacon step pos idx wall = b.beaconTimer.raise Ev.ANT_BEACON_STALE := by
  have hphase : ¬b.beaconTimer.phase < phaseOf step pos := Nat.not_lt.mpr hstale
  unfold Block.followBeacon
  exact if_neg hphase

end

section
variable {b : Block} {port ldi : Nat}

/-- Above a T-role the epoch tested is the one that the source's route was announced with (R28, log entry 98). -/
theorem Block.beaconOk_route {cur : Nat} (epoch : Nat) (hT : b.isT = false) (hroute : b.fab.routeEpochs.find ldi = some cur) :
    b.beaconOk port ldi epoch = (cur == epoch) := by
  unfold Block.beaconOk
  rw [hroute]
  exact if_neg (by simp [hT])

/-- At a T-role it is that of the binding kept there (R28). -/
theorem Block.beaconOk_bound (epoch : Nat) (hT : b.isT = true) (hbound : (b.fab.binds.getD ldi {}).epoch ≠ 0) :
    b.beaconOk port ldi epoch = b.binding ldi epoch := by
  unfold Block.beaconOk
  rw [if_pos hT, if_pos hbound]

/-- Above a T-role no beacon goes back on the port it came by (R53). -/
theorem Block.beaconPorts_above (hT : b.isT = false) :
    b.beaconPorts port ldi = ((b.fab.topo.beacons.filter (fun p => p.1 == ldi)).map (fun p => p.2)).filter (fun n => n != port) := by
  simp [Block.beaconPorts, hT]

/-- At a T-role one from below may, for the followers on its chain (R53). -/
theorem Block.beaconPorts_chain (hT : b.isT = true) (hbelow : port < 128) :
    b.beaconPorts port ldi = (b.fab.topo.beacons.filter (fun p => p.1 == ldi)).map (fun p => p.2) := by
  simp [Block.beaconPorts, hT, hbelow]

end

/-- Settles O20: timeouts, then beacons at a follower, then at an aggregator. -/
theorem antennaTimeoutsAndBeacons : Obligations.AntennaTimeoutsAndBeacons := by
  unfold Obligations.AntennaTimeoutsAndBeacons
  refine ⟨?_, ?_, ?_, ?_, ?_, ?_, ?_⟩
  · intro s hport hset hfirst hdue c hc hfreeze
    rw [exec_stepTimeout, Block.stepLate_due hport hset hfirst hdue hc, if_neg (by simp [hfreeze])]
  · intro s hagg hon hsrc hset hfirst hdue
    rw [exec_beaconLost, Block.beaconLate_due hagg hon hsrc hset hfirst hdue]
  · intro s port ldi epoch step pos idx wall u hu hagg hon hsrc hldi habove c hc
    rw [exec_beaconReceived, Block.beacon_followed _ _ _ _ _ hu hagg hon hsrc hldi, Block.followBeacon_above _ _ habove hc]
  · intro s port ldi epoch step pos idx wall u hu hagg hon hsrc hldi hstale
    rw [exec_beaconReceived, Block.beacon_followed _ _ _ _ _ hu hagg hon hsrc hldi, Block.followBeacon_stale _ _ hstale]
  · intro s port ldi epoch step pos idx wall u hu hagg hT hroute
    rw [exec_beaconReceived, Block.beacon_passed _ _ _ _ _ hu hagg, Block.beaconOk_route _ hT hroute, if_pos (by simp),
      Block.beaconPorts_above hT]
  · intro s port ldi epoch cur step pos idx wall u hu hagg hT hroute hother
    rw [exec_beaconReceived, Block.beacon_passed _ _ _ _ _ hu hagg, Block.beaconOk_route _ hT hroute, if_neg (by simp [hother])]
  · intro s port ldi epoch step pos idx wall u hu hagg hT hbelow hepoch hbinding
    rw [exec_beaconReceived, Block.beacon_passed _ _ _ _ _ hu hagg, Block.beaconOk_bound _ hT hepoch, if_pos hbinding,
      Block.beaconPorts_chain hT hbelow]

end Sys2Proof.Machine
end

section
namespace Sys2Proof.Machine

/-! Fires (R49 to R51) -/

/-- The head request that is due fires: it leaves the queue with the cause it fires with, and brings the boundary, then captures, then
messages (R49 to R51). -/
theorem Block.fire_due {b a c d e : Block} {r x : FireReq} {cause : Nat} {bound : Bool} (hdue : b.dueFire = some r)
    (hcause : cause = b.fireCause r) (hbound : bound = b.isBoundary cause)
    (hx : x = { r with cause := cause, pos := if cause = 5 then b.ant.frac else r.pos }) (ha : a = b.raiseIf (cause == 1) Ev.ANT_DEFERRED)
    (hc : c = { a with ant := { a.ant with fireQ := a.ant.fireQ.drop 1, lastFire := some a.clk.core, desc := some x },
                       pins := { a.pins with phrWb := true, phrWbIdx := x.idx } })
    (hd : d = if bound then c.dieBoundary x.idx (b.firePhase r) else c)
    (he : e = ((d.captures d x cause (b.firePhase r)).trcFired x.idx).fireSends x cause bound) :
    b.fire = (if bound then e.monBoundary x.idx else e).showFireQ := by
  subst hcause hbound hx ha hc hd he
  unfold Block.fire
  rw [hdue]

/-- A boundary's WB_MARK goes up, then the beacon of an entry that has one (R51, R53). -/
theorem Block.fireSends_beacon {b c : Block} {r : FireReq} {cause : Nat} (hmine : b.fab.released = false) (hbcn : r.bcn = true)
    (hcause : cause ≤ 2) (hc : c = b.sendMsg b.upPort (.wbMark r.step r.idx b.wall)) :
    b.fireSends r cause true = c.sendMsg c.upPort (.beacon c.selfLdi c.selfEpoch r.step r.pos r.idx c.wall) := by
  subst hc
  unfold Block.fireSends
  dsimp only
  rw [if_neg (by simp [hmine]), if_pos rfl, if_pos ⟨hbcn, hcause⟩]

/-! Time wingbeats (R55) -/

theorem atLeast1_eq_max (x : Nat) : atLeast1 x = max 1 x := by
  unfold atLeast1
  split <;> omega

/-- A time wingbeat whose instant is reached is queued, with its count as the step (R55). -/
theorem Block.timeWingbeat_due {b c : Block} {per t : Nat} (hagg : b.syn.agg = false) (hon : b.on dANTENNA = true)
    (hen : b.is F.ANT_CTRL_TWB_EN = true) (hvalid : b.timeValid = true) (hper : per = max 1 (b.f F.ANT_TWB_PERIOD_PERIOD))
    (ht : t = (b.ant.twbFrom / per + 1) * per) (hdue : t ≤ b.nowUs) (hc : c = { b with ant := { b.ant with twbFrom := t } }) :
    b.timeWingbeat =
      c.enqueue { step := t / per % 2 ^ 40, pos := c.ant.frac, idx := c.f F.ANT_TWB_ACT_IDX, cause := 5,
                  acts := c.f F.ANT_TWB_ACT_FREEZE + 2 * c.f F.ANT_TWB_ACT_MON + 4 * c.f F.ANT_TWB_ACT_SCL + 8 * c.f F.ANT_TWB_ACT_SWM,
                  due := c.clk.core } := by
  rw [← atLeast1_eq_max] at hper
  subst hc ht hper
  unfold Block.timeWingbeat
  exact if_pos ⟨by simp [hagg], hon, hen, hvalid, hdue⟩

/-! WB_MARK (R51) -/

section
variable {b u : Block} {port step idx : Nat} (wall : Nat)

/-- The first mark of a wingbeat from a child is an aggregator's boundary, and goes on to the parent unless this is the root (R23, R51). -/
theorem Block.wbMark_first {c d e : Block} (hu : u = b.unstage port 2) (hagg : u.syn.agg = true) (hbelow : port < 128)
    (hrole : u.f F.ROLE_STATUS_ROLE ≠ 3) (hnew : u.fab.marks.contains (step % 2 ^ 40, idx % 256) = false)
    (hc : c = { u with fab := { u.fab with
      marks := (step % 2 ^ 40, idx % 256) :: u.fab.marks.filter (fun x => keepMark (step % 2 ^ 40) x.1) } })
    (hd : d = c.dieBoundary (idx % 256) (u.wbPhase (step % 2 ^ 40) (idx % 256)))
    (he : e = if d.isRoot then d else d.sendAll upstream (.wbMark (step % 2 ^ 40) (idx % 256) wall)) :
    b.wbMark port step idx wall =
      (((e.openWingbeat (step % 2 ^ 40) (idx % 256) wall).openedSince e.tags).passTriggers (idx % 256)
        (u.wbPhase (step % 2 ^ 40) (idx % 256))).monBoundary (idx % 256) := by
  have htaken : ¬(¬u.syn.agg ∨ 128 ≤ port ∨ u.f F.ROLE_STATUS_ROLE = 3 ∨ u.fab.marks.contains (step % 2 ^ 40, idx % 256)) := by
    rw [hnew]
    simp [hagg, hbelow, hrole]
  subst hu hc hd he
  unfold Block.wbMark
  exact if_neg htaken

/-- Later copies are dropped (R51). -/
theorem Block.wbMark_copy (hcopy : (b.unstage port 2).fab.marks.contains (step % 2 ^ 40, idx % 256) = true) :
    b.wbMark port step idx wall = b.unstage port 2 := by
  unfold Block.wbMark
  exact if_pos (Or.inr (Or.inr (Or.inr hcopy)))

end

/-- Settles O21: fires, time wingbeats, marks, then what a fire sends. -/
theorem firesAndMarks : Obligations.FiresAndMarks := by
  unfold Obligations.FiresAndMarks
  refine ⟨?_, ?_, ?_, ?_, ?_⟩
  · intro s r hdue cause hcause bound hbound x hx a ha c hc d hd e he
    rw [exec_wingbeatFire, Block.fire_due hdue hcause hbound hx ha hc hd he]
  · intro s hagg hon hen hvalid per hper u hu hdue c hc
    rw [exec_timeWingbeat, Block.timeWingbeat_due hagg hon hen hvalid hper hu hdue hc]
  · intro s port step idx wall u hu hagg hbelow hrole hnew c hc d hd e he
    rw [exec_wbMarkReceived, Block.wbMark_first wall hu hagg hbelow hrole hnew hc hd he]
  · intro s port step idx wall hcopy
    rw [exec_wbMarkReceived, Block.wbMark_copy wall hcopy]
  · intro b r cause bound hmine hbound hbcn hcause c hc
    rw [hbound, Block.fireSends_beacon hmine hbcn hcause hc]

end Sys2Proof.Machine
end

section
namespace Sys2Proof.Machine

/-! Launch slots (R65, R66) -/

/-- A write of ANT_LAUNCH_CFG with ARM arms the slot that is selected, with what its registers then hold (R65). -/
theorem Block.launchArm_armed {b c : Block} {word n : Nat} {l : Launch} (harm : bit word 18 = 1) (hc : c = b.writeFields 0x1204 word)
    (hn : n = c.f F.ANT_LAUNCH_SEL_SLOT)
    (hl : l = { kind := c.f (F.ANT_LAUNCH_CFG_KIND.ix n), queue := c.f (F.ANT_LAUNCH_CFG_QUEUE.ix n),
                trig := c.f (F.ANT_LAUNCH_AT_LO_AT_LO.ix n) + 2 ^ 32 * c.f (F.ANT_LAUNCH_AT_HI_AT_HI.ix n) }) :
    b.launchArm word =
      ((({ c with ant := { c.ant with launches := c.ant.launches.put n { l with late := c.launchReached l } } } : Block).setf
        (F.ANT_LAUNCH_CFG_ARMED.ix n) 1).setf (F.ANT_LAUNCH_CFG_LATE.ix n) 0).setf (F.ANT_LAUNCH_CFG_EMPTY.ix n) 0 := by
  subst hl hn hc
  unfold Block.launchArm
  exact if_pos harm

section
variable {b c d : Block} {n q : Nat} {l : Launch} (hslot : b.ant.launches.find n = some l) (hq : q = b.qnum l.queue)
  (hon : b.on dANTENNA = true) (hreached : b.launchReached l = true) (hflush : (b.queue q).flushing = false)
  (hc : c = ({ b with ant := { b.ant with launches := b.ant.launches.del n } } : Block).setf (F.ANT_LAUNCH_CFG_ARMED.ix n) 0)
  (hd : d = if l.late then (c.setf (F.ANT_LAUNCH_CFG_LATE.ix n) 1).raise Ev.ANT_LAUNCH_LATE else c)
include hslot hq hon hreached hflush hc hd

/-- A slot that fires disarms and passes the head item that waits to Monarch (R65, R66). -/
theorem Block.launchFire_item {i : Item}
    (hhead : (d.queue q).items.find? (fun i => i.seq.isNone && !d.mon.launched.contains (q, i.num)) = some i) :
    b.launchFire n = { d with mon := { d.mon with launched := d.mon.launched ++ [(q, i.num)] } } := by
  subst hq
  unfold Block.launchFire
  rw [hslot]
  dsimp only
  rw [if_neg (by simp [hon, hreached, hflush]), ← hc, ← hd, hhead]

/-- With none that waits it says so (R66). -/
theorem Block.launchFire_empty
    (hhead : (d.queue q).items.find? (fun i => i.seq.isNone && !d.mon.launched.contains (q, i.num)) = none) :
    b.launchFire n = (d.setf (F.ANT_LAUNCH_CFG_EMPTY.ix n) 1).raise Ev.ANT_LAUNCH_EMPTY := by
  subst hq
  unfold Block.launchFire
  rw [hslot]
  dsimp only
  rw [if_neg (by simp [hon, hreached, hflush]), ← hc, ← hd, hhead]

end

/-- Settles O22: the arming, then the fire of a slot with an item, then that of a late one with none. -/
theorem launchSlots : Obligations.LaunchSlots := by
  unfold Obligations.LaunchSlots
  refine ⟨?_, ?_, ?_⟩
  · intro s m word w hw hok harm b hb n hn l hl
    rw [exec_launchArm, ← hw, Block.write_ok _ hok, Block.launchArm_armed harm hb hn hl]
  · intro s slot l i hslot q hq hon hreached hflush hlate c hc hhead
    rw [exec_launchFire, Block.launchFire_item hslot hq hon hreached hflush hc (if_neg (by simp [hlate])).symm hhead]
  · intro s slot l hslot q hq hon hreached hflush hlate c hc hhead
    rw [exec_launchFire, Block.launchFire_empty hslot hq hon hreached hflush rfl (hc.trans (if_pos hlate).symm) hhead]

end Sys2Proof.Machine
end

section
namespace Sys2Proof.Machine

/-! The commands of the capture units: each is its function on the block, in the D build alone (R69) -/

section
variable (s : State)

theorem exec_laneIncrement (incs : List (Nat × Nat)) :
    exec (.laneIncrement incs) s = .next (s.put (s.b.dOnly (fun b => b.laneCycles incs))) := rfl

theorem exec_probeMessage (data : Nat) : exec (.probeMessage data) s = .next (s.put (s.b.dOnly (fun b => b.probeMessage data))) := rfl

theorem exec_messageApply : exec .messageApply s = .next (s.put (s.b.dOnly Block.messageApply)) := rfl

theorem exec_snapshotDrainDone (monitors : Bool) :
    exec (.snapshotDrainDone monitors) s = .next (s.put (s.b.dOnly (fun b => b.drainDone monitors))) := rfl

theorem exec_counterRead (m : Master) :
    exec (.counterRead m) s = .next (s.put (s.b.read m 0x2024 (fun b => if b.syn.agg then (0, b) else b.cntRead))) := rfl

theorem exec_counterApply (m : Master) (word : Nat) :
    exec (.counterApply m word) s = .next (s.put (s.b.write m 0x2028 word (fun b => b.dOnly (fun b => b.cntApply word)))) := rfl

theorem exec_laneStuck (lane : Nat) : exec (.laneStuck lane) s = .next (s.put (s.b.dOnly (fun b => b.laneStuck lane))) := rfl

theorem exec_fastWindowEnd : exec .fastWindowEnd s = .next (s.put (s.b.dOnly Block.fastWindow)) := rfl

theorem exec_scalesConversion (code : Nat) :
    exec (.scalesConversion code) s = .next (s.put (s.b.dOnly (fun b => b.conversion code))) := rfl

theorem exec_wireTestStart (codes : List Nat) :
    exec (.wireTestStart codes) s = .next (s.put (s.b.dOnly (fun b => b.wireStart codes))) := rfl

theorem exec_wireBiasSettled (codes : List Nat) :
    exec (.wireBiasSettled codes) s = .next (s.put (s.b.dOnly (fun b => b.wireSettled codes))) := rfl

theorem exec_wireTestDone : exec .wireTestDone s = .next (s.put (s.b.dOnly Block.wireDone)) := rfl

theorem exec_scalesTransient (level : Bool) :
    exec (.scalesTransient level) s = .next (s.put (s.b.dOnly (fun b => b.transient level))) := rfl

end

theorem Block.dOnly_agg {b : Block} (f : Block → Block) (hagg : b.syn.agg = true) : b.dOnly f = b := by
  unfold Block.dOnly
  exact if_pos hagg

theorem Block.dOnly_die {b : Block} (f : Block → Block) (hagg : b.syn.agg = false) : b.dOnly f = f b := by
  unfold Block.dOnly
  exact if_neg (by simp [hagg])

/-! Regions that the build leaves out (R69, R391) -/

/-- The Probe and Scales regions are absent from the aggregator build. -/
theorem Block.absentRegion_capture {b : Block} {off : Nat} (hagg : b.syn.agg = true) (hlow : 0x2000 ≤ off) (hhigh : off < 0x4000) :
    absentRegion b.syn.agg off = true := by
  rw [hagg]
  simp [absentRegion]
  omega

/-- An absent region reads 0 and has nothing that a read changes. -/
theorem Block.busRead_absent {b : Block} {off : Nat} (mem : Memory) (m : Master) (upd : Nat) (habsent : absentRegion b.syn.agg off = true) :
    b.busRead mem m off upd = (0, b) := by
  unfold Block.busRead
  exact if_pos habsent

/-- A write that is OK changes nothing in an absent region. -/
theorem Block.regWrite_absent {b : Block} {m : Master} {off word : Nat} (hw : Nat) (habsent : absentRegion b.syn.agg off = true)
    (hoff : off ≠ 0x11078) (hok : b.respCode m off 0xF true word = 0) : b.regWrite m off 0xF word hw = b.answer m 0 0 := by
  unfold Block.regWrite
  rw [if_neg (by simp [hoff]), Block.write_ok _ hok, if_pos habsent]

/-- A write elsewhere than at PWR_RET_DATA leaves the retained memory (R364). -/
theorem Block.retStore_elsewhere (b : Block) (m : Master) {off : Nat} (strb word : Nat) (mem : Memory) (hoff : off ≠ 0x10304) :
    b.retStore m off strb word mem = mem := by simp [Block.retStore, hoff]

/-- Settles O7: both regions are absent from the aggregator build, and each command of the capture units acts in the D build alone. -/
theorem noProbesInAggregators : Obligations.NoProbesInAggregators := by
  unfold Obligations.NoProbesInAggregators
  refine ⟨?_, ?_, ?_, ?_⟩
  · intro s m off upd hagg hlow hhigh hok
    rw [exec_rcFieldRead, Block.regRead, Block.read_ok _ hok, Block.busRead_absent _ _ _ (Block.absentRegion_capture hagg hlow hhigh)]
  · intro s m off data hw hagg hlow hhigh hok
    rw [exec_registerWrite, Block.retStore_elsewhere _ _ _ _ _ (by omega),
      Block.regWrite_absent hw (Block.absentRegion_capture hagg hlow hhigh) (by omega) hok]
    rfl
  · intro s m word hagg hread hwrite
    refine ⟨?_, ?_⟩
    · rw [exec_counterRead, Block.read_ok _ hread, if_pos hagg]
    · rw [exec_counterApply, Block.write_ok _ hwrite, Block.dOnly_agg _ hagg]
  · intro s incs data lane code codes monitors level hagg
    simp only [exec_laneIncrement, exec_probeMessage, exec_messageApply, exec_snapshotDrainDone, exec_laneStuck, exec_fastWindowEnd,
      exec_scalesConversion, exec_wireTestStart, exec_wireBiasSettled, exec_wireTestDone, exec_scalesTransient, Block.dOnly_agg _ hagg,
      and_self]

/-! Counters (R71) -/

@[simp] theorem Block.cnt_setCnt_same (b : Block) (i v : Nat) : (b.setCnt i v).cnt i = v % 2 ^ 48 := by
  simp [Block.cnt, Block.setCnt]

theorem Block.cnt_setCnt_other (b : Block) {i j : Nat} (v : Nat) (h : j ≠ i) : (b.setCnt i v).cnt j = b.cnt j := by
  unfold Block.cnt Block.setCnt
  exact SMap.getD_putD_other _ _ _ _ h

/-- A high cell is odd, so it is no low cell. -/
theorem Block.lowCell_of_highCell {b : Block} {i : Nat} (hhigh : b.highCell i = true) : b.lowCell i = false := by
  simp [Block.highCell, Block.lowCell] at hhigh ⊢
  omega

/-- A counter that is no low cell takes the sum and carries nothing. -/
theorem Block.addCnt_alone {b : Block} {i : Nat} (a : Nat) (hlow : b.lowCell i = false) : b.addCnt i a = b.setCnt i (b.cnt i + a) := by
  unfold Block.addCnt
  exact if_neg (by simp [hlow])

/-- A low cell's carry goes into its high cell. -/
theorem Block.addCnt_carries {b : Block} {i : Nat} (a : Nat) (hlow : b.lowCell i = true) :
    b.addCnt i a = (b.setCnt i (b.cnt i + a)).setCnt (i + 1) (b.cnt (i + 1) + (b.cnt i + a) / 2 ^ 48) := by
  unfold Block.addCnt
  exact if_pos hlow

/-! The head of the message queue (R73, R74) -/

/-- The block once the head message has left the queue in this cycle: one of the last two cycles that the drain rate looks at. -/
def Block.pastHead (b : Block) (rest : List (Nat × Nat)) : Block :=
  { b with prb := { b.prb with msgs := rest, applied := (b.clk.core :: b.prb.applied).take 2 } }

/-- A due head that the drain rate allows leaves the queue and takes effect (R74). -/
theorem exec_messageApply_head {s : State} {d due : Nat} {rest : List (Nat × Nat)} (hagg : s.b.syn.agg = false)
    (hon : s.b.on dPROBE = true) (hhead : s.b.prb.msgs = (d, due) :: rest) (hdue : due ≤ s.b.clk.core)
    (hrate : drainOk s.b.prb.applied s.b.clk.core = true) :
    exec .messageApply s = .next (s.put ((s.b.pastHead rest).message d)) := by
  have happly : s.b.messageApply = (s.b.pastHead rest).message d := by
    unfold Block.messageApply
    rw [hhead]
    exact if_pos ⟨hon, hdue, hrate⟩
  rw [exec_messageApply, Block.dOnly_die _ hagg, happly]

/-- A message that Table 3-2 does not give counts in BAD. -/
theorem Block.message_bad (b : Block) {d : Nat} (hbad : 3 ≤ d / 2 ^ 60 ∨ (d / 2 ^ 60 = 2 ∧ bits d 56 4 ≠ 0)) :
    b.message d = (b.count F.PRB_MSG_STATS_BAD).raise Ev.PRB_MSG_BAD := by
  unfold Block.message
  split
  · omega
  · omega
  · exact if_pos (by omega)
  · rfl

/-- A CADD adds its value to its counter. -/
theorem Block.message_cadd (b : Block) {d : Nat} (hop : d / 2 ^ 60 = 1) : b.message d = b.addCnt (bits d 46 14) (d % 2 ^ 40) := by
  unfold Block.message
  rw [hop]
  rfl

/-- Settles O8: a bad message, then CADD to a high cell, then CADD to a low cell. -/
theorem probeMessageEffects : Obligations.ProbeMessageEffects := by
  unfold Obligations.ProbeMessageEffects
  refine ⟨?_, ?_, ?_⟩
  · rintro s d due rest hagg hon hhead hdue hrate hbad c rfl
    rw [exec_messageApply_head hagg hon hhead hdue hrate, Block.message_bad _ hbad]
    rfl
  · intro s d due n rest hagg hon hhead hdue hrate hop hn hhigh
    have hcell : (s.b.pastHead rest).lowCell n = false := Block.lowCell_of_highCell hhigh
    refine ⟨_, exec_messageApply_head hagg hon hhead hdue hrate, ?_⟩
    rw [Block.message_cadd _ hop, ← hn, Block.addCnt_alone _ hcell]
    exact ⟨Block.cnt_setCnt_same _ n _, fun j hj => Block.cnt_setCnt_other _ _ hj⟩
  · intro s d due n rest hagg hon hhead hdue hrate hop hn hlow
    have hcell : (s.b.pastHead rest).lowCell n = true := hlow
    refine ⟨_, exec_messageApply_head hagg hon hhead hdue hrate, ?_⟩
    rw [Block.message_cadd _ hop, ← hn, Block.addCnt_carries _ hcell]
    refine ⟨?_, Block.cnt_setCnt_same _ (n + 1) _, fun j hj hj1 => ?_⟩
    · exact (Block.cnt_setCnt_other _ _ (Nat.ne_of_lt n.lt_succ_self)).trans (Block.cnt_setCnt_same _ n _)
    · exact (Block.cnt_setCnt_other _ _ hj1).trans (Block.cnt_setCnt_other _ _ hj)

end Sys2Proof.Machine
end

section
namespace Sys2Proof.Machine

/-! Cycles of the Probe Bus and of the Probe Message port (R71, R72, R74) -/

/-- The runs of lanes that present nothing end: with one lane presented, its run alone goes on (R71, R82). -/
theorem Block.laneCycles_one {b a u : Block} {n v : Nat} (hon : b.on dPROBE = true) (hen : b.is F.PRB_CTRL_EN = true) (hn : n < 2048)
    (hv : v < 16) (ha : a = b.laneTurn) (hu : u = a.fastWindow) :
    b.laneCycles [(n, v)] =
      ({ u with prb := { u.prb with high := if v % 2 = 1 then [n] else [], runs := u.prb.runs.filter (fun p => n == p.1) } } : Block).laneCycle
        n v (u.prb.high.contains n) := by
  subst ha hu
  have hlane : [(n, v)].map (fun p => (p.1 % 2048, p.2 % 16)) = [(n, v)] := by simp [Nat.mod_eq_of_lt hn, Nat.mod_eq_of_lt hv]
  have hhigh : (([(n, v)] : SMap Nat).filter (fun p => p.2 % 2 == 1)).map (fun p => p.1) = if v % 2 = 1 then [n] else [] := by
    by_cases hodd : v % 2 = 1 <;> simp [hodd]
  unfold Block.laneCycles
  rw [if_pos ⟨hon, hen⟩, hlane]
  simp only [List.foldl_cons, List.foldl_nil, SMap.put, hhigh, List.any_cons, List.any_nil, Bool.or_false]

section
variable {b : Block} (hon : b.on dPROBE = true) (data : Nat)
include hon

/-- A message is taken behind the others while the queue has room; where it was empty its effect is due 3 cycles on (R74). -/
theorem Block.probeMessage_taken (hen : b.is F.PRB_CTRL_EN = true) (hroom : b.prb.msgs.length < 256) :
    b.probeMessage data = { b with prb := { b.prb with
      msgs := b.prb.msgs ++ [(data % 2 ^ 64, if b.prb.msgs = [] then b.clk.core + 3 else b.clk.core)] } } := by
  unfold Block.probeMessage
  exact if_pos (by simp [Block.msgReady, hon, hen, hroom])

/-- A full queue stalls the port; stalled cycles are counted in units of 1,024 (R74). -/
theorem Block.probeMessage_stalled (hfull : 256 ≤ b.prb.msgs.length) :
    b.probeMessage data = ({ b with prb := { b.prb with stall := (b.prb.stall + 1) % 1024 } } : Block).count F.PRB_MSG_STATS_STALL
      ((b.prb.stall + 1) / 1024) := by
  have hbusy : b.msgReady = false := by simp [Block.msgReady, hfull]
  unfold Block.probeMessage
  rw [hbusy, if_neg Bool.false_ne_true, if_pos hon]

end

/-- Settles O23: a cycle of the bus, then the message port, then the head of its queue. -/
theorem probeBusAndMessages : Obligations.ProbeBusAndMessages := by
  unfold Obligations.ProbeBusAndMessages
  refine ⟨?_, ?_, ?_, ?_, ?_⟩
  · intro s n v hagg hon hen hn hv a ha u hu
    rw [exec_laneIncrement, Block.dOnly_die _ hagg, Block.laneCycles_one hon hen hn hv ha hu]
  · intro s data hagg hon hen hroom
    rw [exec_probeMessage, Block.dOnly_die _ hagg, Block.probeMessage_taken hon data hen hroom]
  · intro s data hagg hon hfull
    rw [exec_probeMessage, Block.dOnly_die _ hagg, Block.probeMessage_stalled hon data hfull]
  · rintro s d due rest hagg hon hhead hdue hrate hop c rfl
    rw [exec_messageApply_head hagg hon hhead hdue hrate, Block.message_cadd _ hop]
    rfl
  · rintro s d due rest hagg hon hhead hdue hrate hop c rfl
    rw [exec_messageApply_head hagg hon hhead hdue hrate, Block.message_bad _ (Or.inl hop)]
    rfl

end Sys2Proof.Machine
end

section
namespace Sys2Proof.Machine

/-! Counters through the port (R79, R80) -/

/-- A write of PRB_CNT_HI on a counter that is no low cell takes the staged word and marks its bank (R78, R80). -/
theorem Block.cntApply_alone {b : Block} {i v word : Nat} (hi : i = b.f F.PRB_CNT_SEL_INDEX) (hlow : b.lowCell i = false)
    (hv : v = b.prb.stLo + word % 2 ^ 16 * 2 ^ 32) :
    b.cntApply word = { b with prb := { b.prb with
      cnt := b.prb.cnt.putD 0 i (v % 2 ^ 48), written := setBit b.prb.written (i / 2048) 1, wrote := i :: b.prb.wrote } } := by
  unfold Block.cntApply Block.selCnt
  rw [← hi, ← hv]
  dsimp only
  rw [hlow]
  rfl

/-! Ended drains (R76, R235) -/

/-- A fold over the places of a list that takes the element at each is the fold over the list. -/
theorem foldl_range_length {α β : Type} {g : β → Nat → β} {f : β → α → β} (l : List α) (b : β)
    (hstep : ∀ (c : β) (k : Nat) (h : k < l.length), g c k = f c l[k]) : (List.range l.length).foldl g b = l.foldl f b := by
  induction l using List.reverseRecOn with
  | nil => rfl
  | append_singleton t x ih =>
    have hfront : ∀ (c : β) (k : Nat) (h : k < t.length), g c k = f c t[k] := by
      intro c k h
      rw [hstep c k (by simp; omega), List.getElem_append_left h]
    rw [List.length_append, List.length_singleton, List.range_succ, List.foldl_append, List.foldl_append, ih hfront]
    simp [hstep]

/-- A drain that no flush doomed offers all its records in their order. -/
theorem Block.giveTo_all {d : Drain} (b : Block) (q : Nat) (hgiven : d.given = 0) (hdoomed : d.doomed = none) :
    b.giveTo q d d.recs.length = d.recs.foldl (fun b r => b.arrive q r) b := by
  unfold Block.giveTo
  rw [hgiven, hdoomed, List.drop_zero]
  refine foldl_range_length d.recs b ?_
  intro c k h
  rw [List.getElem?_eq_getElem h]
  rfl

/-- A single record that a flush found being written is discarded and counted, and the flush ends (R235). -/
theorem Block.giveTo_doomed {d : Drain} {r : Rec} {b : Block} {q row : Nat} (hq : q = b.qnum row) (hrecs : d.recs = [r])
    (hgiven : d.given = 0) (hdoomed : d.doomed = some 0) :
    b.giveTo row d d.recs.length = (b.count (F.QUE_DROPS_FLUSHED.ix q)).setQueue q { b.queue q with flushing := false } := by
  subst hq
  unfold Block.giveTo
  rw [hgiven, hdoomed, hrecs]
  rfl

/-- A drain that is over frees its buffer and gives its records (R76). -/
theorem exec_snapshotDrainDone_over {s : State} {monitors : Bool} {d : Drain} {rest : List Drain} (hagg : s.b.syn.agg = false)
    (hon : s.b.on dPROBE = true) (hhead : s.b.drains monitors = d :: rest) (hend : d.start + d.per * d.recs.length ≤ s.b.clk.core) :
    exec (.snapshotDrainDone monitors) s =
      .next (s.put ((s.b.setDrains monitors rest).giveTo (s.b.rdestQ (drainRow monitors)) d d.recs.length)) := by
  have hdone : s.b.drainDone monitors = (s.b.setDrains monitors rest).giveTo (s.b.rdestQ (drainRow monitors)) d d.recs.length := by
    unfold Block.drainDone
    rw [hhead]
    exact if_pos ⟨hon, hend⟩
  rw [exec_snapshotDrainDone, Block.dOnly_die _ hagg, hdone]

/-! Lane guards (R82) -/

/-- A watched lane whose run has reached the guard is flagged and may be fenced; its run starts afresh. -/
theorem Block.laneStuck_reached {b : Block} {lane n k : Nat} (hon : b.on dPROBE = true) (hn : n = lane % 2048)
    (hk : k = b.f F.PRB_GUARD_STUCK) (hset : k ≠ 0) (hwatch : b.lane F.PRB_LANE_CFG_WATCH_STUCK n = 1)
    (hmode : b.lane F.PRB_LANE_CFG_MODE n < 2) (hrun : k * 1024 ≤ (b.prb.runs.getD n {}).run) :
    b.laneStuck lane = (({ b with prb := { b.prb with runs := b.prb.runs.del n } } : Block).laneFlag F.PRB_LANE_CFG_STUCK
      Ev.PRB_STUCK n).autofence n := by
  subst hn hk
  unfold Block.laneStuck
  exact if_pos ⟨hon, hwatch, hmode, hset, hrun⟩

@[simp] theorem Block.raise_prb (b : Block) (src : Nat) (args : List (Nat × Nat)) : (b.raise src args).prb = b.prb := by
  have : (b.raise src args).noEvents.prb = b.noEvents.prb := by rw [Block.noEvents_raise]
  exact this

@[simp] theorem Block.laneFlag_prb (b : Block) (x : Fld) (ev n : Nat) : (b.laneFlag x ev n).prb = b.prb := by
  unfold Block.laneFlag
  split
  · rfl
  · simp

@[simp] theorem Block.autofence_prb (b : Block) (n : Nat) : (b.autofence n).prb = b.prb := by
  unfold Block.autofence
  split
  · simp
  · rfl

/-- The end of a window clears its edges, whatever its lanes are found to have done. -/
theorem Block.fastWindow_prb {b : Block} (hon : b.on dPROBE = true) (hend : b.prb.window < b.prb.cyc / 64) :
    b.fastWindow.prb = { b.prb with edges := [], window := b.prb.cyc / 64 } := by
  unfold Block.fastWindow
  rw [if_pos ⟨hon, hend⟩]
  refine foldl_keeps Block.prb _ ?_ _ _
  intro c p
  split
  · simp
  · rfl

/-- Settles O24: the port's read and write, then the three ends of a drain, then the two lane guards. -/
theorem countersAndSnapshots : Obligations.CountersAndSnapshots := by
  unfold Obligations.CountersAndSnapshots
  refine ⟨?_, ?_, ?_, ?_, ?_, ?_, ?_⟩
  · rintro s m hok hagg i rfl h rfl
    rw [exec_counterRead, Block.read_ok _ hok, if_neg (by simp [hagg])]
    rfl
  · intro s m word hok hagg i hi hlow
    rw [exec_counterApply, Block.write_ok _ hok, Block.dOnly_die _ hagg, Block.cntApply_alone hi hlow rfl]
  · intro s d rest hagg hon hhead hend hgiven hdoomed
    rw [exec_snapshotDrainDone_over (monitors := false) hagg hon hhead hend, Block.giveTo_all _ _ hgiven hdoomed]
    rfl
  · intro s d rest hagg hon hhead hend hgiven hdoomed
    rw [exec_snapshotDrainDone_over (monitors := true) hagg hon hhead hend, Block.giveTo_all _ _ hgiven hdoomed]
    rfl
  · intro s d rest r hagg hon hhead hend hrecs hgiven hdoomed c hc q hq
    have hdrains : s.b.setDrains false rest = c := hc.symm
    have hrow : s.b.rdestQ (drainRow false) = c.rdestQ 0 := by rw [hc]; rfl
    rw [exec_snapshotDrainDone_over (monitors := false) hagg hon hhead hend, hdrains, hrow,
      Block.giveTo_doomed hq hrecs hgiven hdoomed]
  · intro s lane hagg hon n hn k hk hset hwatch hmode hrun
    rw [exec_laneStuck, Block.dOnly_die _ hagg, Block.laneStuck_reached hon hn hk hset hwatch hmode hrun]
  · intro s hagg hon hend
    refine ⟨_, exec_fastWindowEnd s, ?_, rfl⟩
    rw [Block.dOnly_die _ hagg]
    exact Block.fastWindow_prb hon hend

end Sys2Proof.Machine
end

section
namespace Sys2Proof.Machine

/-! Conversions (R85, R87, R318) -/

/-- The first conversion is due at once: the next slot's channel is converted, unless a test or a fence holds it. -/
theorem Block.conversion_first {b c : Block} {code n ch : Nat} (hon : b.on dSCALES = true) (hlist : b.scanLen ≠ 0)
    (hfirst : b.scl.last = none) (hn : n = b.scl.slot % b.scanLen) (hch : ch = b.f (scanFld n))
    (hc : c = { b with scl := { b.scl with slot := (n + 1) % b.scanLen, last := some b.clk.aon } }) (htest : c.testing ch = false)
    (hfence : c.groupFenced (ch / 8) = false) : b.conversion code = c.convert ch (code % 65536) false := by
  subst hch hn
  unfold Block.conversion
  rw [hfirst]
  dsimp only
  rw [if_pos ⟨hon, hlist, rfl⟩, ← hc]
  exact if_neg (by simp [htest, hfence])

/-! The steps of a wire test (R87, R88) -/

/-- A due wire test converts its group with the bias off. -/
theorem Block.wireStart_due {b c d : Block} {codes : List Nat} {gl : Bool} {g : Nat} (hon : b.on dSCALES = true)
    (hen : b.is F.SCL_CTRL_WIRE_EN = true) (hidle : b.scl.wire = none)
    (hdue : b.scl.wireAt + aonUs (1000 * atLeast1 (b.f F.SCL_WIRE_PERIOD)) ≤ b.clk.aon) (hg : g = b.scl.group)
    (hc : c = ({ b with scl := { b.scl with wireAt := b.clk.aon } } : Block).abandonTest 3 g) (hfence : c.groupFenced g = false)
    (hcodes : c.wireCodes (c.wireChans g) codes = (gl, d)) :
    b.wireStart codes = ({ d with scl := { d.scl with
      wire := some { group := g, since := d.clk.aon, off := codes.map (· % 65536), abort := gl || d.scl.transient } } } : Block).showWire := by
  subst hg
  unfold Block.wireStart
  rw [if_pos ⟨hon, hen, hidle, hdue⟩]
  dsimp only
  rw [← hc, if_neg (by simp [hfence]), hcodes]

section
variable {b : Block} {w : Wire} (hon : b.on dSCALES = true) (hwire : b.scl.wire = some w) (hsettled : w.since + b.settle ≤ b.clk.aon)
include hon hwire hsettled

/-- SETTLE later the channels are converted with the bias on. -/
theorem Block.wireSettled_due {d : Block} {codes : List Nat} {gl : Bool} (hstep : w.step = 1)
    (hcodes : b.wireCodes (b.wireChans w.group) codes = (gl, d)) :
    b.wireSettled codes = { d with scl := { d.scl with
      wire := some { w with step := 2, since := d.clk.aon, on := codes.map (· % 65536), abort := w.abort || gl } } } := by
  unfold Block.wireSettled
  rw [hwire]
  dsimp only
  rw [if_pos ⟨hon, hstep, hsettled⟩, hcodes]

/-- A test that a glitch or a transient spoilt is discarded (R88). -/
theorem Block.wireDone_aborted (hstep : w.step = 2) (habort : w.abort = true) :
    b.wireDone = (({ b with scl := { b.scl with wire := none } } : Block).raise Ev.SCL_TEST_ABORT).showWire := by
  unfold Block.wireDone
  rw [hwire]
  dsimp only
  rw [if_pos ⟨hon, hstep, hsettled⟩, if_pos (Or.inl habort)]

/-- A sound result that differs from the standing one is confirmed where it is the candidate, and becomes the candidate where it is not
(R88). -/
theorem Block.wireDone_differs {c : Block} {r : WireResult} (hstep : w.step = 2) (hsound : w.abort = false)
    (hquiet : b.scl.transient = false)
    (hr : r = wireResult ((b.wireChans w.group).zip ((w.on ++ List.replicate 8 0).zipWith (fun (x y : Nat) => (x : Int) - (y : Int))
      (w.off ++ List.replicate 8 0))) (signed 16 (b.f F.SCL_WIRE_LIM_HI)) (signed 16 (b.f F.SCL_WIRE_LIM_LO)))
    (hc : c = { b with scl := { b.scl with wire := none } }) (hdiffers : r ≠ c.standing w.group) :
    b.wireDone =
      if c.scl.cand = some r then
        (({ c with scl := { c.scl with cand := none, group := (w.group + 1) % 32 } } : Block).storeWire w.group r).showWire
      else ({ c with scl := { c.scl with cand := some r } } : Block).showWire := by
  have hkept : ¬(w.abort = true ∨ b.scl.transient = true) := by simp [hsound, hquiet]
  unfold Block.wireDone
  rw [hwire]
  dsimp only
  rw [if_pos ⟨hon, hstep, hsettled⟩, ← hr, if_neg hkept]
  subst hc
  exact if_neg hdiffers

end

/-! SCL_TRANSIENT (R89) -/

/-- A rise with no test in progress raises TRANSIENT. -/
theorem Block.transient_rises {b : Block} (hon : b.on dSCALES = true) (hlow : b.scl.transient = false) (hidle : b.scl.wire = none) :
    b.transient true = ({ b with scl := { b.scl with transient := true } } : Block).raise Ev.SCL_TRANSIENT := by
  unfold Block.transient
  rw [if_neg (by simp [hlow]), if_pos rfl, hon, hidle]
  dsimp only [Option.map_none]
  rw [← hidle]
  rfl

/-- A fall starts HOLD. -/
theorem Block.transient_falls {b : Block} (hhigh : b.scl.transient = true) :
    b.transient false = { b with scl := { b.scl with transient := false, fellAt := some b.clk.aon } } := by
  unfold Block.transient
  rw [if_neg (by simp [hhigh]), if_neg Bool.false_ne_true]

/-- Settles O25: a conversion, the steps of a wire test in their order, then the transient input. -/
theorem scalesAndWireTest : Obligations.ScalesAndWireTest := by
  unfold Obligations.ScalesAndWireTest
  refine ⟨?_, ?_, ?_, ?_, ?_, ?_, ?_, ?_⟩
  · intro s code hagg hon hlist hfirst n hn ch hch c hc htest hfence
    rw [exec_scalesConversion, Block.dOnly_die _ hagg, Block.conversion_first hon hlist hfirst hn hch hc htest hfence]
  · intro s codes gl d hagg hon hen hidle hdue g hg c hc hfence hcodes
    rw [exec_wireTestStart, Block.dOnly_die _ hagg, Block.wireStart_due hon hen hidle hdue hg hc hfence hcodes]
  · intro s codes w gl d hagg hon hwire hstep hsettled hcodes
    rw [exec_wireBiasSettled, Block.dOnly_die _ hagg, Block.wireSettled_due hon hwire hsettled hstep hcodes]
  · intro s w hagg hon hwire hstep hsettled habort
    rw [exec_wireTestDone, Block.dOnly_die _ hagg, Block.wireDone_aborted hon hwire hsettled hstep habort]
  · intro s w hagg hon hwire hstep hsettled hsound hquiet r hr c hc hdiffers hnew
    rw [exec_wireTestDone, Block.dOnly_die _ hagg, Block.wireDone_differs hon hwire hsettled hstep hsound hquiet hr hc hdiffers,
      if_neg (by rw [hc]; exact hnew)]
  · intro s w r hagg hon hwire hstep hsettled hsound hquiet hr c hc hdiffers hcand
    rw [exec_wireTestDone, Block.dOnly_die _ hagg, Block.wireDone_differs hon hwire hsettled hstep hsound hquiet hr hc hdiffers,
      if_pos (by rw [hc]; exact hcand)]
  · intro s hagg hon hlow hidle
    rw [exec_scalesTransient, Block.dOnly_die _ hagg, Block.transient_rises hon hlow hidle]
  · intro s hagg hhigh
    rw [exec_scalesTransient, Block.dOnly_die _ hagg, Block.transient_falls hhigh]

end Sys2Proof.Machine
end

section
namespace Sys2Proof.Machine

/-! Frames: what an operation of a unit leaves as it was -/

/-- From b to c only the fields of some regions have changed, the event log, the storm guards, and what `unit` takes out of the block. -/
def Block.Framed (unit : Block → Block) (rs : List Nat) (b c : Block) : Prop :=
  b.sameRegs c rs ∧ unit c.noEvents = unit b.noEvents

@[simp] theorem Fld.lo_ix (x : Fld) (n : Nat) : (x.ix n).lo = x.lo := by cases x; rfl

section
variable {unit : Block → Block} {rs : List Nat} {b c d : Block}

theorem Block.Framed.refl (unit : Block → Block) (rs : List Nat) (b : Block) : b.Framed unit rs b := ⟨Block.sameRegs_refl b rs, rfl⟩

/-- A change of the unit alone. -/
theorem Block.Framed.of_unit (h : Block.Framed unit rs b c) (hflds : d.flds = c.flds) (hunit : unit d.noEvents = unit c.noEvents) :
    Block.Framed unit rs b d :=
  ⟨Block.sameRegs_trans h.1 (Block.sameRegs_of_flds hflds rs), hunit.trans h.2⟩

theorem Block.Framed.setf (h : Block.Framed unit rs b c) {y : Fld} (v : Nat) (hy : y.lo < 32) (hr : y.region ∈ rs) :
    Block.Framed unit rs b (c.setf y v) :=
  ⟨Block.sameRegs_setf h.1 v hy hr, (congrArg unit (Block.noEvents_setf c y v)).trans h.2⟩

/-- A field stands in one place of all the hidden copies of its register, which share a region. -/
theorem Block.Framed.setf_ix (h : Block.Framed unit rs b c) {y : Fld} (n v : Nat) (hy : y.lo < 32) (hr : y.region ∈ rs) :
    Block.Framed unit rs b (c.setf (y.ix n) v) := by
  rw [← Fld.lo_ix y n] at hy
  rw [← Fld.region_ix y n] at hr
  exact h.setf v hy hr

theorem Block.Framed.count (h : Block.Framed unit rs b c) {y : Fld} (n : Nat) (hy : y.lo < 32) (hr : y.region ∈ rs) :
    Block.Framed unit rs b (c.count y n) := h.setf _ hy hr

theorem Block.Framed.raise (h : Block.Framed unit rs b c) {src : Nat} (hF : 0xF ∈ rs) (hr : (srcFld src).region ∈ rs)
    (args : List (Nat × Nat) := []) : Block.Framed unit rs b (c.raise src args) :=
  ⟨Block.sameRegs_raise h.1 hF hr args, (congrArg unit (Block.noEvents_raise c src args)).trans h.2⟩

theorem Block.Framed.ite (p : Prop) [Decidable p] (hc : p → Block.Framed unit rs b c) (hd : ¬p → Block.Framed unit rs b d) :
    Block.Framed unit rs b (if p then c else d) := by
  split
  · next h => exact hc h
  · next h => exact hd h

theorem Block.Framed.foldl {α : Type} {g : Block → α → Block} {l : List α} (h : Block.Framed unit rs b c)
    (hstep : ∀ (x : α) (e : Block), x ∈ l → Block.Framed unit rs b e → Block.Framed unit rs b (g e x)) :
    Block.Framed unit rs b (l.foldl g c) := by
  induction l generalizing c with
  | nil => exact h
  | cons x t ih =>
    exact ih (hstep x c List.mem_cons_self h) (fun y e hy he => hstep y e (List.mem_cons_of_mem x hy) he)

theorem Block.Framed.dOnly {f : Block → Block} (h : Block.Framed unit rs b (f b)) : Block.Framed unit rs b (b.dOnly f) :=
  Block.Framed.ite _ (fun _ => Block.Framed.refl unit rs b) (fun _ => h)

end

/-! Registers of one region (R391) -/

/-- What stands at an offset is a row of its region's table, and the copy found starts there. -/
theorem regAt_place {agg : Bool} {off k : Nat} {r : RegSpec} (h : regAt agg off = some (r, k)) :
    r ∈ regTable (off / 4096) ∧ r.off + k * r.stride = off := by
  unfold regAt at h
  split at h
  · next r' hfind =>
    cases h
    have hrow := List.find?_some hfind
    simp only [Bool.and_eq_true, decide_eq_true_eq, beq_iff_eq] at hrow
    obtain ⟨⟨⟨-, hstart⟩, -⟩, hwhole⟩ := hrow
    refine ⟨List.mem_of_find?_eq_some hfind, ?_⟩
    rw [Nat.div_mul_cancel (Nat.dvd_of_mod_eq_zero hwhole)]
    omega
  · cases h

theorem regTable_lo (region : Nat) : ∀ r ∈ regTable region, ∀ f ∈ r.fields, f.lo < 32 := by
  unfold regTable
  split <;> decide

/-- A field of a register stands in the region of the offset at which the register was found. -/
theorem RField.region_at {agg : Bool} {off k : Nat} {r : RegSpec} (f : RField) (i : Nat) (h : regAt agg off = some (r, k)) :
    (f.at r k i).region = off % 2 ^ 18 / 4096 := by
  obtain ⟨-, hoff⟩ := regAt_place h
  simp [Fld.region, RField.at, hoff]

/-- A plain write changes the fields of its own register alone (R10). -/
theorem Block.Framed.writeFields {unit : Block → Block} {rs : List Nat} (b : Block) {off : Nat} (word : Nat)
    (hr : off % 2 ^ 18 / 4096 ∈ rs) : Block.Framed unit rs b (b.writeFields off word) := by
  have hrefl := Block.Framed.refl unit rs b
  unfold Block.writeFields
  split
  · next r k hreg =>
    refine hrefl.foldl ?_
    intro f e hf he
    have hlo := regTable_lo _ r (regAt_place hreg).1 f hf
    have hset := fun v => he.setf v hlo (by rw [RField.region_at f (b.selector r.sel) hreg]; exact hr)
    unfold Block.writeField
    dsimp only
    split
    · exact hset _
    · exact Block.Framed.ite _ (fun _ => he) (fun _ => hset _)
    · exact Block.Framed.ite _ (fun _ => he) (fun _ => hset _)
    · exact he
  · exact hrefl

/-! Accesses through a port (R370, R381) -/

section
variable {unit : Block → Block} {rs : List Nat} {b : Block} (hunit : ∀ (x : Block) (m : Master) (code data : Nat),
  unit (x.answer m code data).noEvents = unit x.noEvents) (m : Master)
include hunit

theorem Block.Framed.answer {c : Block} (h : Block.Framed unit rs b c) (code data : Nat) :
    Block.Framed unit rs b (c.answer m code data) := by
  refine h.of_unit ?_ (hunit c m code data)
  cases m <;> rfl

variable {off : Nat} (hF : 0xF ∈ rs) (h11 : 0x11 ∈ rs)
include hF h11

/-- A write that is refused answers, and raises DENIED at most. -/
theorem Block.Framed.write {act : Block → Block} {data : Nat} (hact : Block.Framed unit rs b (act b)) :
    Block.Framed unit rs b (b.write m off data act) := by
  have hrefl := Block.Framed.refl unit rs b
  unfold Block.write
  refine Block.Framed.ite _ (fun _ => hact.answer hunit m _ _) (fun _ => Block.Framed.ite _ (fun _ => ?_) (fun _ => ?_))
  · exact (hrefl.answer hunit m _ _).raise (src := Ev.SEC_DENIED) hF h11 _
  · exact hrefl.answer hunit m _ _

/-- So does a read. -/
theorem Block.Framed.read {act : Block → Nat × Block} (hact : Block.Framed unit rs b (act b).2) :
    Block.Framed unit rs b (b.read m off act) := by
  have hrefl := Block.Framed.refl unit rs b
  unfold Block.read
  refine Block.Framed.ite _ (fun _ => hact.answer hunit m _ _) (fun _ => Block.Framed.ite _ (fun _ => ?_) (fun _ => ?_))
  · exact (hrefl.answer hunit m _ _).raise (src := Ev.SEC_DENIED) hF h11 _
  · exact hrefl.answer hunit m _ _

end

end Sys2Proof.Machine
end

section
namespace Sys2Proof.Machine

/-! The frame of the Probe Bus, the counters and the Probe Message port (R71 to R74, R79, R80, R82) -/

/-- The block without its capture counters, monitors and lanes, and without the masters' responses. -/
def Block.noProbe (b : Block) : Block := { b with prb := {}, rspMgmt := {}, rspVsb := {}, rspTest := {} }

/-- What a command of the Probe Bus, the counters or the message port may change. -/
abbrev Block.ProbeFramed (b c : Block) : Prop := Block.Framed Block.noProbe [2, 0xF, 0x11] b c

theorem Block.noProbe_answer (b : Block) (m : Master) (code data : Nat) : (b.answer m code data).noEvents.noProbe = b.noEvents.noProbe := by
  cases m <;> rfl

/-- With its own counters, monitors and lanes put back, the block is as before but for events. -/
theorem Block.ProbeFramed.restored {b c : Block} (h : b.ProbeFramed c) :
    ({ c.noEvents with prb := b.prb, rspMgmt := b.rspMgmt, rspVsb := b.rspVsb, rspTest := b.rspTest } : Block) = b.noEvents :=
  congrArg (fun x : Block => { x with prb := b.prb, rspMgmt := b.rspMgmt, rspVsb := b.rspVsb, rspTest := b.rspTest }) h.2

/-- A sample changes the monitors alone (R83). -/
theorem Block.monSample_prb (b : Block) (n v : Nat) : ∃ p : Prb, b.monSample n v = { b with prb := p } := by
  unfold Block.monSample
  split
  · exact ⟨_, rfl⟩
  · exact ⟨b.prb, rfl⟩

section
variable {b c : Block} (h : b.ProbeFramed c)
include h

theorem Block.ProbeFramed.prb (p : Prb) : b.ProbeFramed { c with prb := p } := h.of_unit rfl rfl

theorem Block.ProbeFramed.addCnt (i a : Nat) : b.ProbeFramed (c.addCnt i a) :=
  Block.Framed.ite _ (fun _ => (h.prb _).prb _) (fun _ => h.prb _)

theorem Block.ProbeFramed.monSample (n v : Nat) : b.ProbeFramed (c.monSample n v) := by
  obtain ⟨p, hp⟩ := c.monSample_prb n v
  rw [hp]
  exact h.prb p

/-- A lane's increment goes to its run, its edges and the counters that take it. -/
theorem Block.ProbeFramed.laneCycle (n v : Nat) (before : Bool) : b.ProbeFramed (c.laneCycle n v before) :=
  Block.Framed.ite _ (fun _ => h.prb _) (fun _ => (h.prb _).foldl (fun i _ _ he => Block.ProbeFramed.addCnt he i _))

theorem Block.ProbeFramed.autofence (n : Nat) : b.ProbeFramed (c.autofence n) :=
  Block.Framed.ite _ (fun _ => (h.setf_ix n 1 (by decide) (by decide)).raise (by decide) (by decide) _) (fun _ => h)

/-- A guard's flag is a field of PRB_LANE_CFG, its event a bit of PRB_EVENTS. -/
theorem Block.ProbeFramed.laneFlag {x : Fld} {ev : Nat} (n : Nat) (hlo : x.lo < 32) (hregion : x.region = 2)
    (hev : (srcFld ev).region = 2) : b.ProbeFramed (c.laneFlag x ev n) :=
  Block.Framed.ite _ (fun _ => h) (fun _ => (h.setf_ix n 1 hlo (by simp [hregion])).raise (by decide) (by simp [hev]) _)

theorem Block.ProbeFramed.fastWindow : b.ProbeFramed c.fastWindow :=
  Block.Framed.ite _ (fun _ => (h.prb _).foldl (fun p _ _ he =>
    Block.Framed.ite _ (fun _ => ((Block.ProbeFramed.laneFlag he p.1 (by decide) (by decide) (by decide)).autofence p.1)) (fun _ => he))) (fun _ => h)

theorem Block.ProbeFramed.laneCycles (incs : List (Nat × Nat)) : b.ProbeFramed (c.laneCycles incs) :=
  Block.Framed.ite _ (fun _ => ((h.prb _).fastWindow.prb _).foldl (fun p _ _ he => Block.ProbeFramed.laneCycle he p.1 p.2 _)) (fun _ => h)

theorem Block.ProbeFramed.laneStuck (lane : Nat) : b.ProbeFramed (c.laneStuck lane) :=
  Block.Framed.ite _ (fun _ => ((h.prb _).laneFlag _ (by decide) (by decide) (by decide)).autofence _) (fun _ => h)

theorem Block.ProbeFramed.probeMessage (data : Nat) : b.ProbeFramed (c.probeMessage data) :=
  Block.Framed.ite _ (fun _ => h.prb _) (fun _ => Block.Framed.ite _ (fun _ => (h.prb _).count _ (by decide) (by decide)) (fun _ => h))

/-- A message of no known type counts in BAD and raises MSG_BAD (R73). -/
theorem Block.ProbeFramed.badMessage : b.ProbeFramed ((c.count F.PRB_MSG_STATS_BAD).raise Ev.PRB_MSG_BAD) :=
  (h.count 1 (by decide) (by decide)).raise (by decide) (by decide)

theorem Block.ProbeFramed.message (data : Nat) : b.ProbeFramed (c.message data) := by
  unfold Block.message
  split
  · exact h
  · exact h.addCnt _ _
  · exact Block.Framed.ite _ (fun _ => h.badMessage) (fun _ => Block.Framed.ite _ (fun _ => h.monSample _ _) (fun _ => h))
  · exact h.badMessage

theorem Block.ProbeFramed.messageApply : b.ProbeFramed c.messageApply := by
  unfold Block.messageApply
  split
  · exact Block.Framed.ite _ (fun _ => (h.prb _).message _) (fun _ => h)
  · exact h

/-- A counter's read latches in three fields of the Probe region (R79). -/
theorem Block.ProbeFramed.cntRead : b.ProbeFramed c.cntRead.2 :=
  ((h.setf _ (by decide) (by decide)).setf _ (by decide) (by decide)).setf _ (by decide) (by decide)

theorem Block.ProbeFramed.cntApply (word : Nat) : b.ProbeFramed (c.cntApply word) :=
  Block.ProbeFramed.prb (Block.Framed.ite _ (fun _ => (h.prb _).prb _) (fun _ => h.prb _)) _

end

/-- Each command of the Probe Bus, the counters and the message port keeps the frame. -/
theorem exec_probe_framed (s : State) (m : Master) (incs : List (Nat × Nat)) (n : Nat) {i : Instr}
    (hi : i ∈ [Instr.laneIncrement incs, .probeMessage n, .messageApply, .laneStuck n, .fastWindowEnd, .counterRead m, .counterApply m n]) :
    ∃ c : Block, exec i s = .next (s.put c) ∧ s.b.ProbeFramed c := by
  have h : s.b.ProbeFramed s.b := Block.Framed.refl _ _ s.b
  simp only [List.mem_cons, List.not_mem_nil, or_false] at hi
  rcases hi with rfl | rfl | rfl | rfl | rfl | rfl | rfl
  · exact ⟨_, exec_laneIncrement s incs, (h.laneCycles incs).dOnly⟩
  · exact ⟨_, exec_probeMessage s n, (h.probeMessage n).dOnly⟩
  · exact ⟨_, exec_messageApply s, h.messageApply.dOnly⟩
  · exact ⟨_, exec_laneStuck s n, (h.laneStuck n).dOnly⟩
  · exact ⟨_, exec_fastWindowEnd s, h.fastWindow.dOnly⟩
  · refine ⟨_, exec_counterRead s m, Block.Framed.read Block.noProbe_answer m (by decide) (by decide) ?_⟩
    split
    · exact h
    · exact h.cntRead
  · exact ⟨_, exec_counterApply s m n, Block.Framed.write Block.noProbe_answer m (by decide) (by decide) (h.cntApply n).dOnly⟩

end Sys2Proof.Machine
end

section
namespace Sys2Proof.Machine

/-! The commands of Monarch's shapers and gates, and of the journal's cursors: each is its function on the block -/

section
variable (s : State) (m : Master)

theorem exec_shapeCommit (word : Nat) :
    exec (.shapeCommit m word) s = .next (s.put (s.b.write m 0x901C word (fun b => b.shapeCommit word))) := rfl

theorem exec_shapeApply (cls : Nat) :
    exec (.shapeApply cls) s = .next (s.put (if s.b.on dLINKS then s.b.shapeApply (cls % 8) else s.b)) := rfl

theorem exec_gateWindowStart (cls : Nat) :
    exec (.gateWindowStart cls) s = .next (s.put (if s.b.on dLINKS then s.b.gateMark (cls % 8) true else s.b)) := rfl

theorem exec_gateWindowEnd (cls : Nat) :
    exec (.gateWindowEnd cls) s = .next (s.put (if s.b.on dLINKS then s.b.gateMark (cls % 8) false else s.b)) := rfl

theorem exec_cursorOldest (word : Nat) :
    exec (.cursorOldest m word) s = .next (s.put (s.b.write m 0xC10C (word / 8 * 8 + 1) (fun b => b.curCommand 1 word))) := rfl

theorem exec_cursorNewest (word : Nat) :
    exec (.cursorNewest m word) s = .next (s.put (s.b.write m 0xC10C (word / 8 * 8 + 2) (fun b => b.curCommand 2 word))) := rfl

theorem exec_cursorNext (word : Nat) :
    exec (.cursorNext m word) s = .next (s.put (s.b.write m 0xC10C (word / 8 * 8 + 3) (fun b => b.curCommand 3 word))) := rfl

theorem exec_cursorPrev (word : Nat) :
    exec (.cursorPrev m word) s = .next (s.put (s.b.write m 0xC10C (word / 8 * 8 + 4) (fun b => b.curCommand 4 word))) := rfl

theorem exec_cursorSeek (word : Nat) :
    exec (.cursorSeek m word) s = .next (s.put (s.b.write m 0xC10C (word / 8 * 8 + 5) (fun b => b.curCommand 5 word))) := rfl

theorem exec_cursorLoadDone (c : Nat) : exec (.cursorLoadDone c) s = .next (s.put (s.b.loadDone (c % 4))) := rfl

theorem exec_relLoRead : exec (.relLoRead m) s = .next (s.put (s.b.read m 0xC040 Block.relLo)) := rfl

theorem exec_newLoRead : exec (.newLoRead m) s = .next (s.put (s.b.read m 0xC048 Block.newLo)) := rfl

theorem exec_curPosRead : exec (.curPosRead m) s = .next (s.put (s.b.read m 0xC104 Block.curPosLo)) := rfl

theorem exec_mctrRead : exec (.mctrRead m) s = .next (s.put (s.b.read m 0xC204 Block.mctrLo)) := rfl

end

/-! The frame of the Scales (R85, R89) -/

/-- The block without its Scales and the monitors they feed. -/
def Block.noScales (b : Block) : Block := { b with scl := {}, prb := {} }

/-- What a conversion or a change of SCL_TRANSIENT may change. -/
abbrev Block.ScalesFramed (b c : Block) : Prop := Block.Framed Block.noScales [3, 0xF] b c

/-- With its own Scales and monitors put back, the block is as before but for events. -/
theorem Block.ScalesFramed.restored {b c : Block} (h : b.ScalesFramed c) :
    ({ c.noEvents with scl := b.scl, prb := b.prb } : Block) = b.noEvents :=
  congrArg (fun x : Block => { x with scl := b.scl, prb := b.prb }) h.2

section
variable {b c : Block} (h : b.ScalesFramed c)
include h

theorem Block.ScalesFramed.scl (x : Scl) : b.ScalesFramed { c with scl := x } := h.of_unit rfl rfl

theorem Block.ScalesFramed.monSample (n v : Nat) : b.ScalesFramed (c.monSample n v) := by
  obtain ⟨p, hp⟩ := c.monSample_prb n v
  rw [hp]
  exact h.of_unit rfl rfl

/-- A conversion keeps its code, may be flagged GLITCH, and feeds the monitors of its channel. -/
theorem Block.ScalesFramed.convert (ch code : Nat) (test : Bool) : b.ScalesFramed (c.convert ch code test) := by
  have hkept (x : Scl) (g : Bool) : b.ScalesFramed (({ c with scl := x } : Block).raiseIf g Ev.SCL_GLITCH) :=
    Block.Framed.ite _ (fun _ => (h.scl x).raise (by decide) (by decide)) (fun _ => h.scl x)
  unfold Block.convert
  exact Block.Framed.ite _ (fun _ => hkept _ _) (fun _ => (hkept _ _).foldl (fun n _ _ he => Block.ScalesFramed.monSample he n code))

theorem Block.ScalesFramed.conversion (code : Nat) : b.ScalesFramed (c.conversion code) :=
  Block.Framed.ite _ (fun _ => Block.Framed.ite _ (fun _ => h.scl _) (fun _ => (h.scl _).convert _ _ _)) (fun _ => h)

theorem Block.ScalesFramed.transient (level : Bool) : b.ScalesFramed (c.transient level) :=
  Block.Framed.ite _ (fun _ => h) (fun _ => Block.Framed.ite _
    (fun _ => Block.Framed.ite _ (fun _ => (h.scl _).raise (by decide) (by decide)) (fun _ => h.scl _)) (fun _ => h.scl _))

end

/-- Each of these commands of the Scales keeps the frame. -/
theorem exec_scales_framed (s : State) (n : Nat) (level : Bool) {i : Instr}
    (hi : i ∈ [Instr.scalesConversion n, .scalesTransient level]) : ∃ c : Block, exec i s = .next (s.put c) ∧ s.b.ScalesFramed c := by
  have h : s.b.ScalesFramed s.b := Block.Framed.refl _ _ s.b
  simp only [List.mem_cons, List.not_mem_nil, or_false] at hi
  rcases hi with rfl | rfl
  · exact ⟨_, exec_scalesConversion s n, (h.conversion n).dOnly⟩
  · exact ⟨_, exec_scalesTransient s level, (h.transient level).dOnly⟩

/-! The frame of Monarch's shapers and gates (R223, R224) -/

/-- The block without Monarch, and without the masters' responses. -/
def Block.noMonarch (b : Block) : Block := { b with mon := {}, rspMgmt := {}, rspVsb := {}, rspTest := {} }

/-- What a command of the shapers or gates may change. -/
abbrev Block.MonarchFramed (b c : Block) : Prop := Block.Framed Block.noMonarch [9, 0xF, 0x11] b c

theorem Block.noMonarch_answer (b : Block) (m : Master) (code data : Nat) :
    (b.answer m code data).noEvents.noMonarch = b.noEvents.noMonarch := by
  cases m <;> rfl

/-- With Monarch put back, the block is as before but for events. -/
theorem Block.MonarchFramed.restored {b c : Block} (h : b.MonarchFramed c) :
    ({ c.noEvents with mon := b.mon, rspMgmt := b.rspMgmt, rspVsb := b.rspVsb, rspTest := b.rspTest } : Block) = b.noEvents :=
  congrArg (fun x : Block => { x with mon := b.mon, rspMgmt := b.rspMgmt, rspVsb := b.rspVsb, rspTest := b.rspTest }) h.2

section
variable {b c : Block} (h : b.MonarchFramed c)
include h

theorem Block.MonarchFramed.mon (x : Mon) : b.MonarchFramed { c with mon := x } := h.of_unit rfl rfl

/-- A staged change goes to two fields of its class, to the buckets of every port, and is said (R223). -/
theorem Block.MonarchFramed.applyShape (cls : Nat) : b.MonarchFramed (c.applyShape cls) := by
  unfold Block.applyShape
  split
  · exact h
  · have hact (rate burst : Nat) : b.MonarchFramed ((c.setf (F.MON_SHAPE_ACT_RATE.ix cls) rate).setf (F.MON_SHAPE_ACT_BURST.ix cls) burst) :=
      (h.setf_ix cls rate (by decide) (by decide)).setf_ix cls burst (by decide) (by decide)
    exact (Block.MonarchFramed.mon ((hact _ _).foldl (fun _ _ _ he => Block.MonarchFramed.mon he _)) _).raise (by decide) (by decide) _

theorem Block.MonarchFramed.shapeApply (cls : Nat) : b.MonarchFramed (c.shapeApply cls) := by
  unfold Block.shapeApply
  split
  · exact h
  · exact Block.Framed.ite _ (fun _ => h) (fun _ => h.applyShape cls)

theorem Block.MonarchFramed.gateMark (cls : Nat) (close : Bool) : b.MonarchFramed (c.gateMark cls close) :=
  Block.Framed.ite _ (fun _ => h.mon _) (fun _ => h)

end

/-- A write of MON_SHAPE_CMD stages its change in Monarch (R223). -/
theorem Block.shapeCommit_framed (b : Block) (word : Nat) : b.MonarchFramed (b.shapeCommit word) := by
  have hwrite : b.MonarchFramed (b.writeFields 0x901C word) := Block.Framed.writeFields b word (by decide)
  exact Block.Framed.ite _ (fun _ => hwrite.mon _) (fun _ => hwrite)

/-- Each command of the shapers and gates keeps the frame. -/
theorem exec_monarch_framed (s : State) (m : Master) (n : Nat) {i : Instr}
    (hi : i ∈ [Instr.shapeCommit m n, .shapeApply n, .gateWindowStart n, .gateWindowEnd n]) :
    ∃ c : Block, exec i s = .next (s.put c) ∧ s.b.MonarchFramed c := by
  have h : s.b.MonarchFramed s.b := Block.Framed.refl _ _ s.b
  simp only [List.mem_cons, List.not_mem_nil, or_false] at hi
  rcases hi with rfl | rfl | rfl | rfl
  · exact ⟨_, exec_shapeCommit s m n, Block.Framed.write Block.noMonarch_answer m (by decide) (by decide) (s.b.shapeCommit_framed n)⟩
  · exact ⟨_, exec_shapeApply s n, Block.Framed.ite _ (fun _ => h.shapeApply _) (fun _ => h)⟩
  · exact ⟨_, exec_gateWindowStart s n, Block.Framed.ite _ (fun _ => h.gateMark _ true) (fun _ => h)⟩
  · exact ⟨_, exec_gateWindowEnd s n, Block.Framed.ite _ (fun _ => h.gateMark _ false) (fun _ => h)⟩

/-! The frame of the journal's cursors and latches (R281, R292) -/

/-- The block without Cocoon, and without the masters' responses. -/
def Block.noJournal (b : Block) : Block := { b with coc := {}, rspMgmt := {}, rspVsb := {}, rspTest := {} }

/-- What a command of a cursor, or a read that latches, may change. -/
abbrev Block.JournalFramed (b c : Block) : Prop := Block.Framed Block.noJournal [0xC, 0xF, 0x11] b c

theorem Block.noJournal_answer (b : Block) (m : Master) (code data : Nat) :
    (b.answer m code data).noEvents.noJournal = b.noEvents.noJournal := by
  cases m <;> rfl

/-- With Cocoon put back, the block is as before but for events. -/
theorem Block.JournalFramed.restored {b c : Block} (h : b.JournalFramed c) :
    ({ c.noEvents with coc := b.coc, rspMgmt := b.rspMgmt, rspVsb := b.rspVsb, rspTest := b.rspTest } : Block) = b.noEvents :=
  congrArg (fun x : Block => { x with coc := b.coc, rspMgmt := b.rspMgmt, rspVsb := b.rspVsb, rspTest := b.rspTest }) h.2

theorem Block.JournalFramed.coc {b c : Block} (h : b.JournalFramed c) (x : Coc) : b.JournalFramed { c with coc := x } := h.of_unit rfl rfl

/-- A cursor command writes COC_CUR_CTRL and moves its cursor (R281). -/
theorem Block.curCommand_framed (b : Block) (cmd word : Nat) : b.JournalFramed (b.curCommand cmd word) := by
  have hwrite : b.JournalFramed (b.writeFields 0xC10C word) := Block.Framed.writeFields b word (by decide)
  unfold Block.curCommand
  refine Block.Framed.ite _ (fun _ => hwrite) (fun _ => ?_)
  dsimp only
  split
  · exact (hwrite.coc _).setf_ix _ _ (by decide) (by decide)
  · exact (hwrite.coc _).setf_ix _ _ (by decide) (by decide)

/-- A load that ends stands its cursor at its record (R281). -/
theorem Block.loadDone_framed (b : Block) (n : Nat) : b.JournalFramed (b.loadDone n) := by
  have h : b.JournalFramed b := Block.Framed.refl _ _ b
  unfold Block.loadDone
  dsimp only
  split
  · exact ((h.coc _).setf_ix n _ (by decide) (by decide)).setf_ix n _ (by decide) (by decide)
  · exact h

/-- A write at an offset of the journal keeps the frame where what it starts does. -/
theorem Block.JournalFramed.write {b : Block} {act : Block → Block} (m : Master) (off data : Nat) (h : b.JournalFramed (act b)) :
    b.JournalFramed (b.write m off data act) := Block.Framed.write Block.noJournal_answer m (by decide) (by decide) h

/-- A read that latches in Cocoon keeps it. -/
theorem Block.JournalFramed.read {b : Block} {act : Block → Nat × Block} (m : Master) (off : Nat) (h : b.JournalFramed (act b).2) :
    b.JournalFramed (b.read m off act) := Block.Framed.read Block.noJournal_answer m (by decide) (by decide) h

/-- Each command of a cursor, and each read that latches, keeps the frame. -/
theorem exec_journal_framed (s : State) (m : Master) (n : Nat) {i : Instr}
    (hi : i ∈ [Instr.cursorOldest m n, .cursorNewest m n, .cursorNext m n, .cursorPrev m n, .cursorSeek m n, .cursorLoadDone n, .relLoRead m,
      .newLoRead m, .curPosRead m, .mctrRead m]) : ∃ c : Block, exec i s = .next (s.put c) ∧ s.b.JournalFramed c := by
  have h : s.b.JournalFramed s.b := Block.Framed.refl _ _ s.b
  have hcmd (cmd : Nat) := Block.JournalFramed.write (act := fun b => b.curCommand cmd n) m 0xC10C (n / 8 * 8 + cmd)
    (s.b.curCommand_framed cmd n)
  simp only [List.mem_cons, List.not_mem_nil, or_false] at hi
  rcases hi with rfl | rfl | rfl | rfl | rfl | rfl | rfl | rfl | rfl | rfl
  · exact ⟨_, exec_cursorOldest s m n, hcmd 1⟩
  · exact ⟨_, exec_cursorNewest s m n, hcmd 2⟩
  · exact ⟨_, exec_cursorNext s m n, hcmd 3⟩
  · exact ⟨_, exec_cursorPrev s m n, hcmd 4⟩
  · exact ⟨_, exec_cursorSeek s m n, hcmd 5⟩
  · exact ⟨_, exec_cursorLoadDone s n, s.b.loadDone_framed _⟩
  · exact ⟨_, exec_relLoRead s m, Block.JournalFramed.read m _ (h.coc _)⟩
  · exact ⟨_, exec_newLoRead s m, Block.JournalFramed.read m _ (h.coc _)⟩
  · exact ⟨_, exec_curPosRead s m, Block.JournalFramed.read m _ (h.coc _)⟩
  · exact ⟨_, exec_mctrRead s m, Block.JournalFramed.read m _ (h.coc _)⟩

/-- Settles O12: each command of a group acts on the block alone, and keeps the frame of its unit. -/
theorem unitFrames : Obligations.UnitFrames := by
  unfold Obligations.UnitFrames
  refine ⟨?_, ?_, ?_, ?_⟩
  · intro m incs n i s t hi hexec
    obtain ⟨c, hnext, hframe⟩ := exec_probe_framed s m incs n hi
    cases hnext.symm.trans hexec
    exact ⟨rfl, hframe.1, hframe.restored⟩
  · intro n level i s t hi hexec
    obtain ⟨c, hnext, hframe⟩ := exec_scales_framed s n level hi
    cases hnext.symm.trans hexec
    exact ⟨rfl, hframe.1, hframe.restored⟩
  · intro m n i s t hi hexec
    obtain ⟨c, hnext, hframe⟩ := exec_monarch_framed s m n hi
    cases hnext.symm.trans hexec
    exact ⟨rfl, hframe.1, hframe.restored⟩
  · intro m n i s t hi hexec
    obtain ⟨c, hnext, hframe⟩ := exec_journal_framed s m n hi
    cases hnext.symm.trans hexec
    exact ⟨rfl, hframe.1, hframe.restored⟩

end Sys2Proof.Machine
end

section
namespace Sys2Proof.Machine

/-! The commands of the trace unit: each is its function on the block; those of a CMD register act in the D build alone (R91) -/

section
variable (s : State)

theorem exec_traceTick (lanes : List (Nat × Nat × Nat)) : exec (.traceTick lanes) s = .next (s.put (s.b.traceTick lanes)) := rfl

theorem exec_postEnd (k : Nat) : exec (.postEnd k) s = .next (s.put (s.b.postEnd k)) := rfl

theorem exec_traceArm (m : Master) (k word : Nat) :
    exec (.traceArm m k word) s = .next (s.put (s.b.trcCmd m k word 4 (fun b => b.trcArm (k % 4)))) := rfl

theorem exec_traceStop (m : Master) (k word : Nat) :
    exec (.traceStop m k word) s = .next (s.put (s.b.trcCmd m k word 8 (fun b => b.trcStop (k % 4)))) := rfl

theorem exec_traceDump (m : Master) (k word : Nat) :
    exec (.traceDump m k word) s = .next (s.put (s.b.trcCmd m k word 16 (fun b => b.trcDump (k % 4)))) := rfl

theorem exec_contextTag (p layer op : Nat) : exec (.contextTag p layer op) s = .next (s.put (s.b.contextTag p layer op)) := rfl

theorem exec_trcTrigEdge : exec .trcTrigEdge s = .next (s.put s.b.trigEdge) := rfl

theorem exec_traceRecordForm (k : Nat) : exec (.traceRecordForm k) s = .next (s.put (s.b.traceRecord k)) := rfl

end

/-! Ticks (R93) -/

/-- A due tick takes the four buffers in order, then counts itself and sets when the next is due. -/
theorem Block.traceTick_due {b c : Block} {lanes : List (Nat × Nat × Nat)} (hon : b.on dTRACE = true)
    (hen : b.is F.TRC_CTRL_EN = true) (hdue : b.trc.nextAt ≤ b.trc.cyc)
    (hc : c = [0, 1, 2, 3].foldl (fun b' k => (b'.postEnd k).tickBuf b.trc.ticks lanes k) b) :
    b.traceTick lanes = ({ c with trc := { c.trc with ticks := b.trc.ticks + 1, nextAt := c.afterTick, trig := false } } : Block).setf
      F.TRC_STATUS_TICK (b.trc.ticks % 2 ^ 32) := by
  have hfour : List.range 4 = [0, 1, 2, 3] := rfl
  unfold Block.traceTick
  rw [if_pos ⟨hon, hen, hdue⟩, hfour]
  dsimp only
  rw [← hc]

/-! The end of POST (R101) -/

section
variable {b : Block} {k : Nat} (hk : k < 4) (hon : b.on dTRACE = true) (hpost : b.trcState k = 3)
include hk hon hpost

/-- A machine whose POST has run past its ticks leaves it, its TRIG packet due at the next tick. -/
theorem Block.postEnd_expired (hend : (b.tbuf k).entered + b.bf F.TRC_BUF_CMD_POST k < b.trc.ticks) (hopen : (b.tbuf k).ended = none) :
    b.postEnd k = b.leavePost k (b.postNext k) ((b.tbuf k).trigs ++ [(b.postNext k, 0xE)]) := by
  unfold Block.postEnd
  rw [Nat.mod_eq_of_lt hk]
  dsimp only
  rw [if_pos ⟨hon, hpost⟩, hopen]
  exact if_pos hend

/-- A machine whose last tick in POST has written the TRIG packet moves to the state that the packet names. -/
theorem Block.postEnd_written {st : Nat} (hended : (b.tbuf k).ended = some st) : b.postEnd k = b.leavePost k st (b.tbuf k).trigs := by
  unfold Block.postEnd
  rw [Nat.mod_eq_of_lt hk]
  dsimp only
  rw [if_pos ⟨hon, hpost⟩, hended]

end

/-- A STOP that POST's end meets is over where the machine goes to OFF. -/
theorem Block.leavePost_off (b : Block) (k : Nat) (trigs : List (Nat × Nat)) :
    b.leavePost k 0 trigs = (b.setTbuf k { b.tbuf k with trigs := trigs, ended := none, stop := false }).setTrcState k 0 := by
  simp [Block.leavePost]

/-- A STOP still stands where the machine goes to ARMED. -/
theorem Block.leavePost_armed (b : Block) (k : Nat) (trigs : List (Nat × Nat)) :
    b.leavePost k 1 trigs = (b.setTbuf k { b.tbuf k with trigs := trigs, ended := none }).setTrcState k 1 := by
  simp [Block.leavePost]

/-! The commands of CMD (R101, R104) -/

/-- A command that is OK acts on the block whose CMD.POST it has written, in the D build. -/
theorem Block.trcCmd_ok {b c : Block} {m : Master} {k word cmd w : Nat} (act : Block → Block) (hk : k < 4)
    (hw : w = word / 65536 % 65536 * 65536 + cmd) (hok : b.respCode m (0x4118 + 64 * k) 0xF true w = 0) (hagg : b.syn.agg = false)
    (hc : c = b.writeFields (0x4118 + 64 * k) w) : b.trcCmd m k word cmd act = (act c).answer m 0 0 := by
  unfold Block.trcCmd
  rw [Nat.mod_eq_of_lt hk]
  dsimp only
  rw [← hw, Block.write_ok _ hok, ← hc, if_neg (by simp [hagg])]

/-- ARM in OFF. -/
theorem Block.trcArm_off {b : Block} {k : Nat} (hoff : b.trcState k = 0) :
    b.trcArm k = (b.setTbuf k { b.tbuf k with
      trigs := (b.tbuf k).trigs ++ [(1, (Config.armCause k b.trc.ticks).toNat)], stop := false, dump := false }).setTrcState k 1 := by
  unfold Block.trcArm
  exact if_pos hoff

/-- STOP outside OFF. -/
theorem Block.trcStop_running {b : Block} {k : Nat} (hrun : b.trcState k ≠ 0) :
    b.trcStop k = b.setTbuf k { b.tbuf k with stop := true } := by
  unfold Block.trcStop
  exact if_neg hrun

/-- DUMP of a RING buffer in OFF that holds packets. -/
theorem Block.trcDump_ring {b : Block} {k : Nat} (hoff : b.trcState k = 0) (hring : b.bf F.TRC_BUF_CFG_MODE k = 1)
    (hheld : (b.tbuf k).taken < (b.tbuf k).pkts.length) : b.trcDump k = b.setTbuf k { b.tbuf k with dump := true } := by
  unfold Block.trcDump
  exact if_pos ⟨hoff, hring, hheld⟩

/-! Context tags and the external trigger (R92, R96) -/

/-- Whatever the tag does to the buffers, it is its partition's context afterwards. -/
theorem Block.contextTag_current {b : Block} (p layer op : Nat) (hon : b.on dTRACE = true) :
    (b.contextTag p layer op).trc.ctx.getD (p % 8) (0, 0) = (layer % 65536, op % 65536) := by
  unfold Block.contextTag
  rw [if_pos hon]
  dsimp only
  rw [SMap.getD_put_same]

theorem Block.trigEdge_held {b : Block} (hon : b.on dTRACE = true) : b.trigEdge = { b with trc := { b.trc with trig := true } } := by
  unfold Block.trigEdge
  exact if_pos hon

/-! Trace DMA (R105) -/

/-- In OFF all that a STREAM buffer still holds is formed into records; one that would meet a full queue that waits is held back (R105,
R234). -/
theorem Block.traceRecord_off {b : Block} {k skip q : Nat} {t : TrcBuf} {rest : List (Nat × Nat)} {f : Nat × Nat} {r : Rec} (hk : k < 4)
    (ht : t = b.tbuf k) (hrest : rest = t.pkts.drop t.taken) (hon : b.on dTRACE = true) (hheld : rest ≠ [])
    (hstream : b.bf F.TRC_BUF_CFG_MODE k ≠ 1) (hoff : b.trcState k = 0)
    (hskip : skip = ((t.pkts.take t.taken).map (fun p => p.1)).foldl (· + ·) 0)
    (hf : f = fitPkts rest ((b.bf F.TRC_BUF_CFG_CHUNK k + 1) * 1024)) (hq : q = b.bf F.TRC_BUF_QUEUE_QUEUE k)
    (hr : r = b.form q (b.bf F.TRC_BUF_QUEUE_STREAM k) 0x13 0 0 0 (leBytes 3 k ++ leBytes 5 (t.total + skip)
      ++ readStore t.mem (t.rd + skip) f.2 ++ List.replicate ((8 - f.2 % 8) % 8) 0)) :
    b.traceRecord k =
      if (b.goesDirect (b.qnum q) r k && b.traceWaits (b.qnum q) r) = true then
        b.raiseIf (! b.holdRoom b.holdUsed (r.size + b.lossBytes (b.qnum q)) r.sev) Ev.QUE_HOLD_FULL
      else (b.setTbuf k { t with taken := t.taken + f.1, dump := t.dump && decide (f.1 < rest.length) }).arrive q r (some k) f.1 := by
  unfold Block.traceRecord
  rw [Nat.mod_eq_of_lt hk]
  dsimp only
  rw [← ht, ← hrest, if_pos ⟨hon, hheld, Or.inl hstream, Or.inr (Or.inr hoff)⟩, ← hskip, ← hf, ← hq, if_neg hstream, Nat.add_zero, ← hr]
  simp only [Bool.and_eq_true]

/-- Settles O26: the tick, the ends of POST, the commands of CMD, the two inputs, then trace DMA. The cause in ARM's TRIG packet is the free
value of log entry 34. -/
theorem traceBuffers : Obligations.TraceBuffers := by
  unfold Obligations.TraceBuffers
  refine ⟨?_, ?_, ?_, ?_, ?_, ?_, ?_, ?_, ?_, ?_, ?_⟩
  · intro s lanes hon hen hdue c hc
    rw [exec_traceTick, Block.traceTick_due hon hen hdue hc, Block.afterTick]
  · intro s k hk hon hpost hend hrearm hopen
    have hnext : s.b.postNext k = 0 := if_neg hrearm
    rw [exec_postEnd, Block.postEnd_expired hk hon hpost hend hopen, hnext, Block.leavePost_off]
  · intro s k hk hon hpost hend hrearm hopen
    have hnext : s.b.postNext k = 1 := if_pos hrearm
    rw [exec_postEnd, Block.postEnd_expired hk hon hpost hend hopen, hnext, Block.leavePost_armed]
  · intro s k st hk hon hpost hended
    rw [exec_postEnd, Block.postEnd_written hk hon hpost hended, Block.leavePost]
  · intro s m k word hk w hw hok hagg c hc hoff
    refine ⟨(Config.armCause k c.trc.ticks).toNat, ?_⟩
    rw [exec_traceArm, Block.trcCmd_ok _ hk hw hok hagg hc, Nat.mod_eq_of_lt hk, Block.trcArm_off hoff]
  · intro s m k word hk w hw hok hagg c hc hrun
    rw [exec_traceStop, Block.trcCmd_ok _ hk hw hok hagg hc, Nat.mod_eq_of_lt hk, Block.trcStop_running hrun]
  · intro s m k word hk w hw hok hagg c hc hoff hring hheld
    rw [exec_traceDump, Block.trcCmd_ok _ hk hw hok hagg hc, Nat.mod_eq_of_lt hk, Block.trcDump_ring hoff hring hheld]
  · intro s p layer op hon
    exact ⟨_, exec_contextTag s p layer op, Block.contextTag_current p layer op hon, rfl⟩
  · intro s hon
    rw [exec_trcTrigEdge, Block.trigEdge_held hon]
  · intro s k hk t ht rest hrest hon hheld hstream hoff skip hskip f hf q hq r hr hgoes
    rw [exec_traceRecordForm, Block.traceRecord_off hk ht hrest hon hheld hstream hoff hskip hf hq hr, if_neg (by simp [hgoes])]
  · intro s k hk t ht rest hrest hon hheld hstream hoff skip hskip f hf q hq r hr hwaits
    rw [exec_traceRecordForm, Block.traceRecord_off hk ht hrest hon hheld hstream hoff hskip hf hq hr, if_pos hwaits]

end Sys2Proof.Machine
end

section
namespace Sys2Proof.Machine

/-! The commands of the hang rings: each is its function on the block; writes of TRC_HANG_CTRL act in the D build alone (R91) -/

section
variable (s : State)

theorem exec_hangEvent (slots : List (Nat × Nat)) : exec (.hangEvent slots) s = .next (s.put (s.b.hangEvents slots)) := rfl

theorem exec_hangFreezePin : exec .hangFreezePin s = .next (s.put (s.b.hangFreeze 1)) := rfl

theorem exec_hangFreezeCmd {word w : Nat} (m : Master) (hw : w = word / 8 % 4 * 8 + 1) :
    exec (.hangFreezeCmd m word) s =
      .next (s.put (s.b.write m 0x4200 w (fun b => b.dOnly (fun b => (b.writeFields 0x4200 w).hangFreeze 2)))) := by
  subst hw
  rfl

theorem exec_hangUnfreeze {word w : Nat} (m : Master) (hw : w = word / 4 % 8 * 4 + 2) :
    exec (.hangUnfreeze m word) s =
      .next (s.put (s.b.write m 0x4200 w (fun b => b.dOnly (fun b => (b.writeFields 0x4200 w).hangUnfreeze (bit w 2 == 1))))) := by
  subst hw
  rfl

theorem exec_hangWallRead (m : Master) : exec (.hangWallRead m) s = .next (s.put (s.b.read m 0x4208 Block.hangWallLo)) := rfl

end

/-! An event in a slot of the hang port (R107, R109) -/

section
variable {b : Block} {u : Nat} (code : Nat) (hon : b.on dTRACE = true)
include hon

/-- An absent unit's event is counted, whether the rings run or not. -/
theorem Block.hangEvents_absent (habsent : b.syn.hostUnits ≤ u % 8192) :
    b.hangEvents [(u, code)] = b.count F.TRC_HANG_STATUS_BADUNIT := by
  unfold Block.hangEvents
  rw [if_pos hon]
  exact if_pos habsent

/-- While the rings are frozen a present unit's event is discarded, and counted in units of 256. -/
theorem Block.hangEvents_frozen (hpresent : u % 8192 < b.syn.hostUnits) (hfrozen : b.is F.TRC_HANG_STATUS_FROZEN = true) :
    b.hangEvents [(u, code)] = ({ b with trc := { b.trc with discard := (b.trc.discard + 1) % 256 } } : Block).count
      F.TRC_HANG_STATUS_DISCARDED ((b.trc.discard + 1) / 256) := by
  unfold Block.hangEvents
  rw [if_pos hon]
  exact (if_neg (Nat.not_le.mpr hpresent)).trans (if_pos hfrozen)

/-- While the rings run it is stored in its unit's ring. -/
theorem Block.hangEvents_stored (hpresent : u % 8192 < b.syn.hostUnits) (hrun : b.is F.TRC_HANG_STATUS_FROZEN = false) :
    b.hangEvents [(u, code)] = { b with trc := { b.trc with
      units := b.trc.units.put (u % 8192) ((b.trc.units.getD (u % 8192) {}).store code b.hangB b.wall) } } := by
  unfold Block.hangEvents
  rw [if_pos hon]
  exact (if_neg (Nat.not_le.mpr hpresent)).trans (if_neg (by simp [hrun]))

end

/-! Freezing and unfreezing (R109, R110) -/

/-- The wall time stands on the antenna's time alone, not on what the trace unit holds. -/
theorem Block.wall_trc (b : Block) (x : Trc) : ({ b with trc := x } : Block).wall = b.wall := rfl

/-- The first freeze notes its time and cause and raises FROZEN; with DUMP = 0 that is all. -/
theorem Block.hangFreeze_first {b c : Block} {cause : Nat} (hon : b.on dTRACE = true) (hrun : b.is F.TRC_HANG_STATUS_FROZEN = false)
    (hc : c = (((({ b with trc := { b.trc with freezeWall := b.wall } } : Block).setf F.TRC_HANG_STATUS_FROZEN 1).setf
      F.TRC_HANG_STATUS_CAUSE cause).setf F.TRC_HANG_WALL_LO_LO b.wall).raise Ev.TRC_FROZEN [(cause, 8)])
    (hdump : c.is F.TRC_HANG_CTRL_DUMP = false) : b.hangFreeze cause = c := by
  subst hc
  unfold Block.hangFreeze
  rw [if_pos ⟨hon, by simp [hrun]⟩]
  dsimp only
  rw [Block.wall_trc b { b.trc with freezeWall := b.wall }]
  exact if_neg (by simp [hdump])

/-- UNFREEZE with CLEAR lets the rings run, emptied; CAUSE reads none from then on (log entry 140). -/
theorem Block.hangUnfreeze_clear (b : Block) :
    b.hangUnfreeze true =
      { (b.setf F.TRC_HANG_STATUS_FROZEN 0).setf F.TRC_HANG_STATUS_CAUSE 0 with trc := { b.trc with units := [] } } := rfl

/-- Settles O27: an event in its three cases, the two freezes, then UNFREEZE with CLEAR and the read that latches. -/
theorem hangRings : Obligations.HangRings := by
  unfold Obligations.HangRings
  refine ⟨?_, ?_, ?_, ?_, ?_, ?_, ?_⟩
  · intro s u code hon hrun hu hpresent
    have hmod : u % 8192 = u := Nat.mod_eq_of_lt hu
    rw [exec_hangEvent, Block.hangEvents_stored code hon (by rwa [hmod]) hrun, hmod]
  · intro s u code hon habsent
    rw [exec_hangEvent, Block.hangEvents_absent code hon habsent]
  · intro s u code hon hfrozen hpresent
    rw [exec_hangEvent, Block.hangEvents_frozen code hon hpresent hfrozen]
  · intro s hon hrun c hc hdump
    rw [exec_hangFreezePin, Block.hangFreeze_first hon hrun hc hdump]
  · intro s m word w hw hok hagg a ha hon hrun c hc hdump
    rw [exec_hangFreezeCmd s m hw, Block.write_ok _ hok, Block.dOnly_die _ hagg, ← ha, Block.hangFreeze_first hon hrun hc hdump]
  · intro s m word w hw hok hagg a ha hclear
    rw [exec_hangUnfreeze s m hw, Block.write_ok _ hok, Block.dOnly_die _ hagg, ← ha, hclear, beq_self_eq_true,
      Block.hangUnfreeze_clear]
  · intro s m hok
    rw [exec_hangWallRead, Block.read_ok _ hok, Block.hangWallLo]

end Sys2Proof.Machine
end

section
namespace Sys2Proof.Machine

/-! The commands of reductions and of SWM_LAUNCH, the lane fence and the last END: each is its function on the block -/

section
variable (s : State) (m : Master) (word : Nat)

theorem exec_reductionDone (tag : Nat) (mis : Option (Nat × Nat × Nat × Nat × Nat)) :
    exec (.reductionDone tag mis) s = .next (s.put (s.b.reductionDone tag mis Block.finTxn)) := rfl

theorem exec_swarmLaunch :
    exec (.swarmLaunch m word) s =
      .next (s.put (s.b.write m 0x5050 word (fun b => (b.writeFields 0x5050 word).launch (word % 4096)))) := rfl

theorem exec_swarmAbort :
    exec (.swarmAbort m word) s =
      .next (s.put (s.b.write m 0x5050 word (fun b => (b.writeFields 0x5050 word).abort (word % 4096) Block.finTxn))) := rfl

/-- RUNCLR deletes the collective's accumulators and tells the mirror that none are left. -/
theorem exec_runningClear :
    exec (.runningClear m word) s =
      .next (s.put (s.b.write m 0x5050 word (fun b =>
        ({ b.writeFields 0x5050 word with swm := { (b.writeFields 0x5050 word).swm with
          running := (b.writeFields 0x5050 word).swm.running.del (word % 4096) } } : Block).toMirror (.running (word % 4096) [])))) := rfl

theorem exec_laneFenceWrite {k off : Nat} (hoff : off = 0x5100 + 4 * (k % 8)) :
    exec (.laneFenceWrite m k word) s =
      .next (s.put (s.b.write m off word (fun b => (b.writeFields off word).lanesGone Block.finTxn))) := by
  subst hoff
  rfl

theorem exec_lastEndRead : exec (.lastEndRead m) s = .next (s.put (s.b.read m 0x5010 Block.lastEndRead)) := rfl

end

/-! The end of a reduction (R124, R125, R142) -/

section
variable {b : Block} {tag : Nat} {t : Txn}

theorem Block.reductionDone_no_entry (mis : Option (Nat × Nat × Nat × Nat × Nat)) (fin : Block → Txn → Block) (hnone : b.txn tag = none) :
    b.reductionDone tag mis fin = b := by
  unfold Block.reductionDone
  rw [hnone]

variable (htxn : b.txn tag = some t) (hon : b.swarmOn = true) (hred : t.state = 1) (hlanes : b.freeLanes ≠ []) (hfirst : t.first = none)
  (fin : Block → Txn → Block)
include htxn hon hred hlanes hfirst

/-- A first run in which no residues differ ends as it is: there is no rerun to report. -/
theorem Block.reductionDone_clean {mis : Option (Nat × Nat × Nat × Nat × Nat)}
    (hclean : mis.filter (fun m => !resEq m.2.2.2.1 m.2.2.2.2) = none) : b.reductionDone tag mis fin = fin b t := by
  have hgo : ¬ (¬ b.swarmOn = true ∨ t.state ≠ 1) := by simp [hon, hred]
  unfold Block.reductionDone
  simp only [htxn, if_neg hgo, if_neg hlanes, hclean]
  rw [Block.rerunOver, hfirst]

/-- A first mismatch is kept for the rerun where a lane besides its own is unfenced. -/
theorem Block.reductionDone_first_mismatch {lane op fmt ex ob : Nat} (hother : b.freeLanes.filter (fun l => l != lane) ≠ [])
    (hdiffer : resEq ex ob = false) :
    b.reductionDone tag (some (lane, op, fmt, ex, ob)) fin =
      b.putTxn { t with first := some { lane := lane, op := op, fmt := fmt, exp := ex, obs := ob, seen := b.seen } } := by
  have hgo : ¬ (¬ b.swarmOn = true ∨ t.state ≠ 1) := by simp [hon, hred]
  have hkept : (some (lane, op, fmt, ex, ob)).filter (fun m => !resEq m.2.2.2.1 m.2.2.2.2) = some (lane, op, fmt, ex, ob) :=
    Option.filter_some_pos (by simp [hdiffer])
  unfold Block.reductionDone
  simp only [htxn, if_neg hgo, if_neg hlanes, hkept, hfirst, if_neg hother]

end

/-! SWM_LAUNCH and the lane fence (R154, R155) -/

section
variable {b : Block}

/-- GO counts the launch, forms the tag with that count and sends START with the root's own wall time. -/
theorem Block.launch_started {coll n : Nat} (hon : b.swarmOn = true) (hroot : b.isRoot = true)
    (hen : b.is (F.SWM_COLL_CFG_EN.ix coll) = true) (hsw : b.is (F.SWM_COLL_CFG_SW.ix coll) = true)
    (hn : n = (b.swm.launches + 1) % 2 ^ 40) :
    b.launch coll = ({ b with swm := { b.swm with launches := n } } : Block).startTag (swTag true coll n 0) b.wall := by
  subst hn
  exact if_pos ⟨hon, hroot, hen, hsw⟩

/-- GO launches nothing below the root. -/
theorem Block.launch_not_root (coll : Nat) (hroot : b.isRoot = false) : b.launch coll = b :=
  if_neg fun ⟨_, hyes, _⟩ => Bool.false_ne_true (hroot.symm.trans hyes)

/-- ABORT at the root ends each transaction of the collective that is in OPEN or REDUCING, by the lowest code (log entry 44). -/
theorem Block.abort_root (coll : Nat) (fin : Block → Txn → Block) (hon : b.swarmOn = true) (hroot : b.isRoot = true) :
    b.abort coll fin = (b.swm.txns.filter (fun t => decide (t.state < 2) && t.colls.any (fun x => x.num == coll))).foldl
      (fun b t => fin b { t with err := lowErr t.err 8 }) b :=
  if_pos ⟨hon, hroot⟩

/-- While a lane is unfenced no reduction ends for want of one. -/
theorem Block.lanesGone_lane_left (fin : Block → Txn → Block) (hlanes : b.freeLanes ≠ []) : b.lanesGone fin = b := if_neg hlanes

end

/-- Settles O37: the ends of a reduction, then the three commands of SWM_LAUNCH, then the fence and the read that latches. -/
theorem swarmCommands : Obligations.SwarmCommands := by
  unfold Obligations.SwarmCommands
  refine ⟨?_, ?_, ?_, ?_, ?_, ?_, ?_, ?_, ?_, ?_⟩
  · intro s tag t htxn hon hred hlanes hfirst
    rw [exec_reductionDone, Block.reductionDone_clean htxn hon hred hlanes hfirst _ rfl]
  · intro s tag lane op fmt ex ob t htxn hon hred hfirst hother hlanes hdiffer
    rw [exec_reductionDone, Block.reductionDone_first_mismatch htxn hon hred hlanes hfirst _ hother hdiffer]
  · intro s tag lane op fmt ex ob t htxn hon hred hfirst _ hlanes hequal
    have hclean : (some (lane, op, fmt, ex, ob)).filter (fun m => !resEq m.2.2.2.1 m.2.2.2.2) = none :=
      Option.filter_some_neg (by simp [hequal])
    rw [exec_reductionDone, Block.reductionDone_clean htxn hon hred hlanes hfirst _ hclean]
  · intro s tag hnone
    rw [exec_reductionDone, Block.reductionDone_no_entry _ _ hnone]
  · intro s m word hok c hc hon hroot hen hsw n hn
    rw [exec_swarmLaunch, Block.write_ok _ hok, ← hc, Block.launch_started hon hroot hen hsw hn]
  · intro s m word hok c hc hroot
    rw [exec_swarmLaunch, Block.write_ok _ hok, ← hc, Block.launch_not_root _ hroot]
  · intro s m word hok c hc hon hroot
    rw [exec_swarmAbort, Block.write_ok _ hok, ← hc, Block.abort_root _ _ hon hroot]
  · intro s m word hok c hc
    rw [exec_runningClear, Block.write_ok _ hok, ← hc]
  · intro s m k word off hoff hok c hc hlanes
    rw [exec_laneFenceWrite s m word hoff, Block.write_ok _ hok, ← hc, Block.lanesGone_lane_left _ hlanes]
  · intro s m hok
    rw [exec_lastEndRead, Block.read_ok _ hok, Block.lastEndRead]

end Sys2Proof.Machine
end

section
namespace Sys2Proof.Machine

/-! Swarm messages and timers at one block: each is its function on the block -/

section
variable (s : State)

/-- A partial acts in the aggregator build, after it has left staging; what straggler transactions it opens open their rounds. -/
theorem exec_partialReceived (port : Nat) (p : Partial) (hagg : s.b.syn.agg = true) :
    exec (.partialReceived port p) s = .next (s.put (((s.b.unstage port 1).takePartial port p).openedSince s.b.tags)) :=
  congrArg (fun b => Host.Outcome.next (s.put b)) (if_pos hagg)

theorem exec_transactionCutoff (tag : Nat) : exec (.transactionCutoff tag) s = .next (s.put (s.b.cutoff tag)) := rfl

theorem exec_endReceived (port tag code : Nat) (hon : s.b.on dSWARM = true) :
    exec (.endReceived port tag code) s = .next (s.put ((s.b.unstage port 2).endTag tag code)) :=
  congrArg (fun b => Host.Outcome.next (s.put b)) (if_pos hon)

theorem exec_endGrace (tag : Nat) : exec (.endGrace tag) s = .next (s.put (s.b.endGrace tag)) := rfl

theorem exec_resendReceived (port tag : Nat) :
    exec (.resendReceived port tag) s = .next (s.put ((s.b.unstage port 2).resendPartial port tag)) := rfl

theorem exec_startReceived (port tag w : Nat) :
    exec (.startReceived port tag w) s = .next (s.put ((s.b.unstage port 2).startTag tag w)) := rfl

end

/-! What leaves the Swarm state, and what keeps the tags of the entries held -/

@[simp] theorem Block.pauseCheck_swm (b : Block) (cls : Nat) : (b.pauseCheck cls).swm = b.swm := by
  unfold Block.pauseCheck
  dsimp only
  split
  · exact foldl_keeps Block.swm _ (fun b n => by split <;> rfl) _ b
  · split
    · exact foldl_keeps Block.swm _ (fun b n => by split <;> rfl) _ b
    · rfl

/-- A unit taken from staging changes the links alone (R220). -/
@[simp] theorem Block.unstage_swm (b : Block) (port vc : Nat) : (b.unstage port vc).swm = b.swm := by
  unfold Block.unstage
  split
  · exact Block.pauseCheck_swm _ _
  · rfl

@[simp] theorem Block.raise_swm (b : Block) (src : Nat) (args : List (Nat × Nat)) : (b.raise src args).swm = b.swm := by
  have : (b.raise src args).noEvents.swm = b.noEvents.swm := by rw [Block.noEvents_raise]
  exact this

@[simp] theorem Block.sendMsg_swm (b : Block) (port : Nat) (m : Msg) : (b.sendMsg port m).swm = b.swm := by
  unfold Block.sendMsg
  split
  · exact foldl_keeps Block.swm (fun b f => b.sendFrame port 2 f) (fun _ _ => rfl) _ b
  · rfl

theorem Block.tags_of_swm {b c : Block} (h : c.swm = b.swm) : c.tags = b.tags := congrArg (fun x : Swm => x.txns.map Txn.tag) h

@[simp] theorem Block.unstage_tags (b : Block) (port vc : Nat) : (b.unstage port vc).tags = b.tags :=
  Block.tags_of_swm (Block.unstage_swm _ _ _)
@[simp] theorem Block.raise_tags (b : Block) (src : Nat) (args : List (Nat × Nat)) : (b.raise src args).tags = b.tags :=
  Block.tags_of_swm (Block.raise_swm _ _ _)
@[simp] theorem Block.sendMsg_tags (b : Block) (port : Nat) (m : Msg) : (b.sendMsg port m).tags = b.tags :=
  Block.tags_of_swm (Block.sendMsg_swm _ _ _)

/-- An entry that is replaced is one of the same tag. -/
@[simp] theorem Block.putTxn_tags (b : Block) (t : Txn) : (b.putTxn t).tags = b.tags := by
  have hsame : ∀ x : Txn, (if x.tag = t.tag then t else x).tag = x.tag := fun x => by
    split
    · next h => exact h.symm
    · rfl
  simp [Block.tags, Block.putTxn, Function.comp_def, hsame]

@[simp] theorem Block.closeTxn_tags (b : Block) (t : Txn) : (b.closeTxn t).tags = b.tags := by
  unfold Block.closeTxn
  split <;> exact Block.putTxn_tags _ _

@[simp] theorem Block.retain_tags (b : Block) (t : Txn) (x : SwarmUnit) : (b.retain t x).tags = b.tags := by
  unfold Block.retain
  extract_lets heard kept c
  have hc : c.tags = b.tags := Block.putTxn_tags b kept
  split
  · exact (Block.closeTxn_tags _ _).trans hc
  · exact hc

/-- Where the entries held are those held before, none has opened since, and no round opens (R184). -/
theorem Block.openedSince_none {b c : Block} (h : c.tags = b.tags) : c.openedSince b.tags = c := by
  have hnone : c.swm.txns.filter (fun t => !b.tags.contains t.tag) = [] := by
    rw [← h]
    simpa [Block.tags] using fun t ht => ⟨t, ht, rfl⟩
  rw [Block.openedSince, hnone, List.foldl_nil]

/-! A child's partial (R142, R147, R148) -/

section
variable {b : Block} {p : Partial} {t : Txn} (port : Nat) (hon : b.swarmOn = true) (hadmitted : b.swm.refused.contains p.tag = false)
include hon hadmitted

theorem Block.takePartial_freed (hfreed : b.swm.freed.contains p.tag = true) :
    b.takePartial port p = b.raise Ev.SWM_LATE [(p.tag, 64)] := by
  unfold Block.takePartial
  rw [if_neg (not_or.mpr ⟨not_not_intro hon, ne_true_of_eq_false hadmitted⟩), if_pos hfreed, Block.lateInput]

variable (hfreed : b.swm.freed.contains p.tag = false) (htxn : b.txn p.tag = some t) (hghost : t.ghost = false) (hopen : t.state = 0)
  (hcut : wallBeyond b.wall t.w (b.cutAfter t) = false)
include hfreed htxn hghost hopen hcut

/-- What becomes of a partial for an entry in OPEN before its cutoff. -/
theorem Block.takePartial_open :
    b.takePartial port p =
      if ¬ t.expect.contains p.child ∨ t.heard.contains p.child then b.strayInput p.tag
      else if p.sound then b.retain t (.partial_ p)
      else if t.resent.contains p.child then
        (b.raise Ev.SWM_RESEND).retain t (.partial_ { tag := p.tag, child := p.child, w := p.w, err := 2 })
      else ((b.raise Ev.SWM_RESEND).putTxn { t with resent := p.child :: t.resent }).sendMsg port (.resend p.tag) := by
  unfold Block.takePartial
  rw [if_neg (not_or.mpr ⟨not_not_intro hon, ne_true_of_eq_false hadmitted⟩), if_neg (ne_true_of_eq_false hfreed)]
  simp only [htxn]
  rw [if_neg (ne_true_of_eq_false hghost), if_neg (not_or.mpr ⟨not_not_intro hopen, ne_true_of_eq_false hcut⟩)]

theorem Block.takePartial_unexpected (hout : t.expect.contains p.child = false) :
    b.takePartial port p = b.raise Ev.SWM_STRAY [(p.tag, 64)] := by
  rw [Block.takePartial_open port hon hadmitted hfreed htxn hghost hopen hcut, if_pos (.inl (ne_true_of_eq_false hout)), Block.strayInput]

variable (hin : t.expect.contains p.child = true) (hfirst : t.heard.contains p.child = false)
include hin hfirst

theorem Block.takePartial_sound (hsound : p.sound = true) : b.takePartial port p = b.retain t (.partial_ p) := by
  rw [Block.takePartial_open port hon hadmitted hfreed htxn hghost hopen hcut,
    if_neg (not_or.mpr ⟨not_not_intro hin, ne_true_of_eq_false hfirst⟩), if_pos hsound]

/-- The first partial of a child whose residues do not match is asked for again. -/
theorem Block.takePartial_mismatch (hbad : p.sound = false) (hnew : t.resent.contains p.child = false) :
    b.takePartial port p = ((b.raise Ev.SWM_RESEND).putTxn { t with resent := p.child :: t.resent }).sendMsg port (.resend p.tag) := by
  rw [Block.takePartial_open port hon hadmitted hfreed htxn hghost hopen hcut,
    if_neg (not_or.mpr ⟨not_not_intro hin, ne_true_of_eq_false hfirst⟩), if_neg (ne_true_of_eq_false hbad),
    if_neg (ne_true_of_eq_false hnew)]

end

/-- A partial that opens no entry: the block is what `Block.takePartial` makes of it. -/
theorem exec_partialReceived_of_tags {s : State} {u c : Block} {port : Nat} {p : Partial} (hagg : s.b.syn.agg = true)
    (hu : u = s.b.unstage port 1) (htake : u.takePartial port p = c) (htags : c.tags = u.tags) :
    exec (.partialReceived port p) s = .next (s.put c) := by
  subst hu htake
  rw [exec_partialReceived s port p hagg, Block.openedSince_none (htags.trans (Block.unstage_tags _ _ _))]

/-! The cutoff, END, the grace and RESEND (R141, R146, R148) -/

section
variable {b : Block} {tag : Nat} {t : Txn}

theorem Block.cutoff_due (htxn : b.txn tag = some t) (hon : b.swarmOn = true) (hopen : t.state = 0)
    (hpast : wallPast b.wall t.w (b.cutAfter t) = true) : b.cutoff tag = b.closeTxn t := by
  unfold Block.cutoff
  simp only [htxn]
  exact if_pos ⟨hon, hopen, hpast⟩

theorem Block.cutoff_no_entry (hnone : b.txn tag = none) : b.cutoff tag = b := by
  unfold Block.cutoff
  rw [hnone]

theorem Block.endTag_freed (code : Nat) (hfreed : b.swm.freed.contains tag = true) : b.endTag tag code = b := if_pos hfreed

theorem Block.endTag_entry (code : Nat) (hagg : b.syn.agg = true) (hfreed : b.swm.freed.contains tag = false)
    (htxn : b.txn tag = some t) :
    b.endTag tag code = ((b.sendAll (b.portsOf t.expect) (.end_ tag code)).noteEnd tag code).freeTxn tag := by
  unfold Block.endTag
  rw [if_neg (ne_true_of_eq_false hfreed), if_pos hagg, htxn]

/-- END at a D-role ends its open contribution for the tag. -/
theorem Block.endTag_die (code : Nat) (hagg : b.syn.agg = false) (hfreed : b.swm.freed.contains tag = false) :
    b.endTag tag code = ({ b with swm := { b.swm with mine := b.swm.mine.filter (fun o => o.tag != tag) } } : Block).noteEnd tag code := by
  unfold Block.endTag
  rw [if_neg (ne_true_of_eq_false hfreed), if_neg (ne_true_of_eq_false hagg)]

theorem Block.endGrace_over (hon : b.on dSWARM = true) (htxn : b.txn tag = some t)
    (hpast : wallPast b.wall t.w (b.graceAfter t.deadline) = true) :
    b.endGrace tag = (b.endTag tag 1).raise Ev.SWM_ORPHAN [(tag, 64)] := by
  unfold Block.endGrace
  simp only [htxn, hpast, Bool.true_or]
  exact if_pos ⟨hon, trivial⟩

theorem Block.resendPartial_sent {p : Partial} (port : Nat) (hon : b.on dSWARM = true) (htxn : b.txn tag = some t)
    (hsent : t.sent = some p) : b.resendPartial port tag = b.sendSwarm port (.partial_ p) := by
  unfold Block.resendPartial
  simp only [htxn, Option.bind_some, hsent]
  exact if_pos hon

end

/-! START (R154) -/

section
variable {b : Block} {tag : Nat} (w : Nat)

theorem Block.openTxn_free (l : List Coll) (hfree : b.entryFree (tagSw tag) = true) :
    b.openTxn tag w l =
      { b with swm := { b.swm with txns := b.swm.txns ++ [{ tag := tag, w := w, colls := l, expect := b.expected l }] } } := if_pos hfree

variable (hon : b.swarmOn = true)
include hon

/-- An aggregator passes on a START whose batch it does not know. -/
theorem Block.startTag_no_batch (hbatch : b.tagBatch tag = none) (hagg : b.syn.agg = true) :
    b.startTag tag w = b.sendAll b.downPorts (.start tag w) := by
  unfold Block.startTag
  rw [if_neg (not_not_intro hon), hbatch]
  exact if_pos hagg

variable {l : List Coll} (hbatch : b.tagBatch tag = some l)
include hbatch

theorem Block.startTag_opens {c : Block} (hagg : b.syn.agg = true) (hnew : b.newTag tag = true)
    (hmembers : b.isRoot = true ∨ b.expected l ≠ []) (hc : b.openTxn tag w l = c) :
    b.startTag tag w = c.sendAll c.downPorts (.start tag w) := by
  subst hc
  unfold Block.startTag
  rw [if_neg (not_not_intro hon), hbatch]
  dsimp only
  rw [if_pos hagg, if_pos ⟨hnew, hmembers⟩]

/-- A bound D-role in the groups of every collective of the batch contributes to it once. -/
theorem Block.startTag_contributes (hagg : b.syn.agg = false) (hsw : tagSw tag = true) (hbound : b.is F.SELF_LDI_BOUND = true)
    (hgroups : l.all (fun x => b.inGroup x.group b.selfLdi) = true) (hnew : b.newTag tag = true)
    (honce : b.swm.mine.any (fun o => o.tag == tag) = false) :
    b.startTag tag w =
      b.contribute { tag := tag, ldi := b.selfLdi, epoch := b.selfEpoch, cause := 0, wall := b.wall,
                     parts := l.map (fun x => b.elemsOf x 0 b.phase) } w ((l.head?.map (fun x => x.deadline)).getD 1000) := by
  unfold Block.startTag
  rw [if_neg (not_not_intro hon), hbatch]
  dsimp only
  rw [if_neg (ne_true_of_eq_false hagg), if_pos ⟨hsw, hbound, hgroups, hnew, ne_true_of_eq_false honce⟩]

end

/-- Settles O36: partials, then the cutoff, then END and its grace, then RESEND and START. -/
theorem swarmMessages : Obligations.SwarmMessages := by
  unfold Obligations.SwarmMessages
  refine ⟨?_, ?_, ?_, ?_, ?_, ?_, ?_, ?_, ?_, ?_, ?_, ?_, ?_, ?_⟩
  · intro s port p hagg u hu hon hadmitted hfreed
    exact exec_partialReceived_of_tags hagg hu (Block.takePartial_freed port hon hadmitted hfreed) (Block.raise_tags _ _ _)
  · intro s port p t hagg u hu hon hadmitted hfreed htxn hghost hopen hcut hout
    exact exec_partialReceived_of_tags hagg hu
      (Block.takePartial_unexpected port hon hadmitted hfreed htxn hghost hopen hcut hout) (Block.raise_tags _ _ _)
  · intro s port p t hagg u hu hon hadmitted hfreed htxn hghost hopen hcut hin hfirst hsound
    exact exec_partialReceived_of_tags hagg hu
      (Block.takePartial_sound port hon hadmitted hfreed htxn hghost hopen hcut hin hfirst hsound) (Block.retain_tags _ _ _)
  · intro s port p t hagg u hu hon hadmitted hfreed htxn hghost hopen hcut hin hfirst hbad hnew
    exact exec_partialReceived_of_tags hagg hu
      (Block.takePartial_mismatch port hon hadmitted hfreed htxn hghost hopen hcut hin hfirst hbad hnew) (by simp)
  · intro s tag t htxn hon hopen hpast
    rw [exec_transactionCutoff, Block.cutoff_due htxn hon hopen hpast]
  · intro s tag hnone
    rw [exec_transactionCutoff, Block.cutoff_no_entry hnone]
  · intro s port tag code t hon u hu hagg hfreed htxn
    rw [exec_endReceived s port tag code hon, ← hu, Block.endTag_entry code hagg hfreed htxn]
  · intro s port tag code hon u hu hagg hfreed mine hmine
    rw [exec_endReceived s port tag code hon, ← hu, Block.endTag_die code hagg hfreed, ← hmine]
  · intro s port tag code hon u hu hfreed
    rw [exec_endReceived s port tag code hon, ← hu, Block.endTag_freed code hfreed]
  · intro s tag t hon htxn hpast
    rw [exec_endGrace, Block.endGrace_over hon htxn hpast]
  · intro s port tag t p u hu hon htxn hsent
    rw [exec_resendReceived, ← hu, Block.resendPartial_sent port hon htxn hsent]
  · intro s port tag w l u hu hon hbatch hagg hnew hmembers hfree c hc
    have hopens : u.openTxn tag w l = c := (Block.openTxn_free w l hfree).trans hc.symm
    rw [exec_startReceived, ← hu, Block.startTag_opens w hon hbatch hagg hnew hmembers hopens]
  · intro s port tag w l u hu hon hbatch hagg hsw hbound hgroups hnew honce
    rw [exec_startReceived, ← hu, Block.startTag_contributes w hon hbatch hagg hsw hbound hgroups hnew honce]
  · intro s port tag w u hu hon hagg hbatch
    rw [exec_startReceived, ← hu, Block.startTag_no_batch w hon hbatch hagg]

end Sys2Proof.Machine
end

section
namespace Sys2Proof.Machine

/-! The commands of Hawkmoth's passes: each is its function on the block -/

section
variable (s : State)

/-- A request arises where a delayed trigger of the ensemble is due. -/
theorem exec_passRequest_due {ens phase : Nat} {c : Block} (hdue : s.b.dueTrigger ens = (some phase, c)) (hon : s.b.on dHAWK = true) :
    exec (.passRequest ens) s = .next (s.put (c.askPass ens phase)) := by
  change execPassRequest ens s = _
  simp only [execPassRequest, State.lift, hdue, if_pos hon]
  rfl

theorem exec_passRequest_not_due {ens : Nat} {c : Block} (hdue : s.b.dueTrigger ens = (none, c)) :
    exec (.passRequest ens) s = .next (s.put s.b) := by
  change execPassRequest ens s = _
  simp only [execPassRequest, State.lift, hdue]
  rfl

theorem exec_passStart : exec .passStart s = .next (s.put s.b.passStart) := rfl

theorem exec_batchDone (faults : List TreeFault) : exec (.batchDone faults) s = .next (s.put (s.b.batchDone faults)) := rfl

/-- The entries of a pass that is over are judged. -/
theorem exec_passDone_over {q : PassReq} {ss : List Score} {c : Block} (hover : s.b.passDone = (some (q, ss), c)) :
    exec .passDone s = .next (s.put (c.judgeScores q ss)) := by
  change execPassDone s = _
  simp only [execPassDone, State.lift, hover]
  rfl

theorem exec_modelCopyDone : exec .modelCopyDone s = .next (s.put s.b.copyDone) := rfl

theorem exec_tileFenceWrite (m : Master) (word : Nat) :
    exec (.tileFenceWrite m word) s = .next (s.put (s.b.write m 0x6010 word (fun b => b.tileFenceWrite word))) := rfl

theorem exec_localPassDone (faults : List TreeFault) : exec (.localPassDone faults) s = .next (s.put (s.b.localDone faults)) := rfl

theorem exec_rowRead (m : Master) : exec (.rowRead m) s = .next (s.put (s.b.read m 0x60A4 Block.rowRead)) := rfl

end

/-! Requests (R175) -/

section
variable {b : Block}

theorem Block.dueTrigger_due {ens : Nat} {t : Nat × Nat × Nat}
    (hdue : b.hwk.triggers.find? (fun x => x.1 == ens && decide (x.2.1 ≤ b.clk.core)) = some t) :
    b.dueTrigger ens = (some t.2.2, { b with hwk := { b.hwk with triggers := b.hwk.triggers.erase t } }) := by
  unfold Block.dueTrigger
  rw [hdue]

theorem Block.dueTrigger_none_waits (ens : Nat) (hnone : b.hwk.triggers = []) : b.dueTrigger ens = (none, b) := by
  unfold Block.dueTrigger
  rw [hnone, List.find?_nil]

/-- A request that finds fewer than eight waiting joins them, and gives no notice. -/
theorem Block.askPass_room (ens phase : Nat) (hroom : b.hwk.queue.length < 8) :
    b.askPass ens phase =
      { b with hwk := { b.hwk with queue := b.hwk.queue ++ [{ ens := ens, phase := phase, wall := b.wall }] } } := by
  unfold Block.askPass Block.requestPass
  rw [if_pos hroom]
  exact if_neg Bool.false_ne_true

/-! A pass from its start to its end (R166, R176 to R179) -/

/-- The oldest request begins with its first two batches copied and the rows after them read ahead. -/
theorem Block.passStart_begins {c d : Block} {q : PassReq} {l : List PassReq} {r x : List (Nat × Row) × Block}
    (hqueue : b.hwk.queue = q :: l)
    (hready : b.on dHAWK = true ∧ b.is F.HWK_CTRL_EN = true ∧ b.hwk.pass.isNone = true ∧ b.hwk.swap.isNone = true ∧
      b.hwk.active.isSome = true)
    (hc : c = { b with hwk := { b.hwk with queue := l } }) (hr : r = c.copyBatch q.ens 0) (hx : x = r.2.copyBatch q.ens r.1.length)
    (hd : d = x.2.readAhead q.ens (r.1.length + x.1.length)) (htiles : d.freeTiles ≠ []) :
    b.passStart = d.setPass (some { req := q, batch := r.1, ahead := x.1, next := r.1.length + x.1.length, tiles := d.freeTiles }) := by
  unfold Block.passStart
  rw [hqueue]
  dsimp only
  rw [if_pos hready, ← hc, ← hr, ← hx, ← hd, if_neg htiles]

theorem Block.passStart_no_request (hqueue : b.hwk.queue = []) : b.passStart = b := by
  unfold Block.passStart
  rw [hqueue]

theorem Block.batchDone_no_pass (faults : List TreeFault) (hpass : b.hwk.pass = none) : b.batchDone faults = b := by
  unfold Block.batchDone
  rw [hpass]

/-- A batch without a fault is scored on the tiles left, the next one goes on and the rows after that are copied. -/
theorem Block.batchDone_no_fault {c : Block} {p : Pass} {m : Model} {r : List (Nat × Row) × Block} (hpass : b.hwk.pass = some p)
    (hactive : b.hwk.active = some m) (hon : b.on dHAWK = true) (hbatch : p.batch ≠ []) (htiles : b.freeTiles ≠ [])
    (hlost : b.hwk.lost = false) (hr : r = b.copyBatch p.req.ens p.next) (hc : c = r.2.readAhead p.req.ens (p.next + r.1.length)) :
    b.batchDone [] = c.setPass (some { p with
      batch := p.ahead, ahead := r.1, next := p.next + r.1.length, tiles := c.freeTiles,
      done := p.done ++ p.batch.zipIdx.map (fun v =>
        scoreRow m (m.ensemble p.req.ens) v.1.1 v.1.2 (b.lostOuts (m.ensemble p.req.ens) [] v.2)) }) := by
  have hrun : ¬ (¬ b.on dHAWK = true ∨ p.batch = []) := by simp [hon, hbatch]
  have hsound : ¬ (b.freeTiles = [] ∨ b.hwk.lost = true) := by simp [htiles, hlost]
  unfold Block.batchDone
  rw [hpass, hactive]
  dsimp only
  rw [if_neg hrun, if_neg hsound, List.filter_nil, List.foldl_nil, ← hr, ← hc]

/-- The pass is over with its last batch scored, and the copy of a model that waits begins (R166); without EMIT no record goes out. -/
theorem Block.passDone_quiet {p : Pass} (hpass : b.hwk.pass = some p)
    (hover : b.on dHAWK = true ∧ p.batch = [] ∧ b.ensCount p.req.ens ≤ p.done.length)
    (hemit : b.is (F.HWK_ENS_CFG_EMIT.ix p.req.ens) = false) :
    b.passDone = (some (p.req, p.done), { b with hwk := { b.hwk with pass := none, copying := b.hwk.swap.isSome } }) := by
  unfold Block.passDone
  rw [hpass]
  dsimp only
  rw [if_pos hover]
  exact congrArg (Prod.mk _) (if_neg (ne_true_of_eq_false hemit))

/-- The copy that ends makes the model active, shows its trees and raises SWAP (R166). -/
theorem Block.copyDone_swap {m : Model} (hon : b.on dHAWK = true) (hswap : b.hwk.swap = some m) (hcopying : b.hwk.copying = true) :
    b.copyDone = ({ b with hwk := { b.hwk with badTrees := [], active := some m, swap := none, copying := false } } : Block).showTrees.raise
      Ev.HWK_SWAP := by
  unfold Block.copyDone
  rw [if_neg (not_not_intro hon)]
  simp only [hswap]
  exact if_pos hcopying

/-- With no pass running a fence is written, and a local pass that has lost its one tile is marked (R178). -/
theorem Block.tileFenceWrite_no_pass (word : Nat) (hpass : b.hwk.pass = none) :
    b.tileFenceWrite word = (b.setf F.HWK_TILE_FENCE_FENCE word).tilesGone := by
  unfold Block.tileFenceWrite
  simp only [Block.setf_hwk, hpass]

/-- A read of HWK_ROW_LO in the aggregator build shows the feature that HWK_ROW_SEL names in the row it names (R182). -/
theorem Block.rowRead_agg {x : Feat} (hagg : b.syn.agg = true)
    (hx : x = SMap.getD (b.row (b.f F.HWK_ROW_SEL_ENTITY)).feats (b.f F.HWK_ROW_SEL_FEATURE) {}) :
    b.rowRead = (x.key % 2 ^ 32,
      ((b.setf F.HWK_ROW_HI_KEY_HI (x.key / 2 ^ 32)).setb F.HWK_ROW_STAT_VALID x.valid).setb F.HWK_ROW_STAT_CACHED
        (b.hwk.cached.contains (b.f F.HWK_ROW_SEL_ENTITY))) := by
  unfold Block.rowRead
  dsimp only
  rw [if_pos hagg, ← hx, hagg, Bool.true_and]

end

/-! What an event leaves of the local tile's registers (HWK_LOCAL_CFG to HWK_LFEAT_CFG) and of the Hawkmoth state -/

/-- Listing a key that a filter drops, or taking it off, leaves what passes the filter. -/
theorem SMap.filter_putD {m : SMap Nat} {d k v : Nat} {keep : Nat → Bool} (hk : keep k = false) :
    (m.putD d k v).filter (fun p => keep p.1) = m.filter (fun p => keep p.1) := by
  have hput : (m.put k v).filter (fun p => keep p.1) = m.filter (fun p => keep p.1) := by
    induction m with
    | nil => simp [SMap.put, hk]
    | cons p t ih =>
      unfold SMap.put
      split
      · next h => simp [h, hk]
      · split
        · simp [hk]
        · simp [List.filter_cons, ih]
  have hdel : (m.del k).filter (fun p => keep p.1) = m.filter (fun p => keep p.1) := by
    rw [SMap.del, List.filter_filter]
    refine List.filter_congr fun p _ => ?_
    by_cases h : p.1 = k
    · simp [h, hk]
    · simp [h]
  unfold SMap.putD
  split
  · exact hdel
  · exact hput

/-- A key that passes a filter has in the filtered table what it has in the whole one. -/
theorem SMap.getD_filter {m : SMap Nat} {k : Nat} {keep : Nat → Bool} (d : Nat) (hk : keep k = true) :
    SMap.getD (m.filter (fun p => keep p.1)) k d = m.getD k d := by
  unfold SMap.getD
  congr 1
  induction m with
  | nil => rfl
  | cons p t ih =>
    by_cases h : p.1 = k
    · simp [SMap.find, h, hk]
    · by_cases hp : keep p.1 = true <;> simp [SMap.find, h, hp, ih]

/-- Whether a key is of a register from HWK_LOCAL_CFG (0x6080) to HWK_LFEAT_CFG (0x6090), of whichever copy. -/
def localKey (k : Nat) : Bool := decide (0x6080 ≤ k / 32 % 2 ^ 18 ∧ k / 32 % 2 ^ 18 ≤ 0x6090)

/-- What the local tile's registers hold. -/
def Block.localRegs (b : Block) : SMap Nat := b.flds.filter (fun p => localKey p.1)

theorem Block.f_of_localRegs {b c : Block} (h : c.localRegs = b.localRegs) {x : Fld} (hx : localKey x.key = true) : c.f x = b.f x := by
  have hread : ∀ a : Block, a.f x = SMap.getD a.localRegs x.key x.rst := fun a => (SMap.getD_filter _ hx).symm
  rw [hread, hread, h]

theorem Block.localFeats_of_localRegs {b c : Block} (h : c.localRegs = b.localRegs) : c.localFeats = b.localFeats := by
  have hread : ∀ a : Block, a.copies F.HWK_LFEAT_CFG_EN 1 =
      (a.localRegs.filter (fun p => p.1 % 2 ^ 23 == F.HWK_LFEAT_CFG_EN.key && p.2 == 1)).map (fun p => p.1 / 2 ^ 23) := by
    intro a
    rw [Block.localRegs, List.filter_filter, Block.copies]
    congr 1
    refine List.filter_congr fun p _ => ?_
    by_cases hp : p.1 % 2 ^ 23 = F.HWK_LFEAT_CFG_EN.key
    · have : localKey p.1 = true := by
        have hkey : F.HWK_LFEAT_CFG_EN.key = 0x6090 * 32 + 23 := rfl
        rw [hkey] at hp
        simp only [localKey, decide_eq_true_eq]
        omega
      simp [this]
    · simp only [beq_eq_false_iff_ne.mpr hp, Bool.false_and]
  rw [Block.localFeats, Block.localFeats, hread, hread, h]

theorem Block.localRegs_setf (b : Block) {x : Fld} (v : Nat) (hx : localKey x.key = false) : (b.setf x v).localRegs = b.localRegs :=
  SMap.filter_putD hx

@[simp] theorem Block.localRegs_logRaise (b : Block) (src arg : Nat) : (b.logRaise src arg).localRegs = b.localRegs := by
  unfold Block.logRaise
  dsimp only
  split
  · rfl
  · split
    · exact Block.localRegs_setf _ _ (by decide)
    · exact Block.localRegs_setf _ _ (by decide)

theorem Block.localRegs_raiseRaw (b : Block) {src : Nat} (args : List (Nat × Nat)) (hsrc : localKey (srcFld src).key = false) :
    (b.raiseRaw src args).localRegs = b.localRegs := by
  rw [Block.raiseRaw, Block.localRegs_logRaise, Block.localRegs_setf _ _ hsrc]

/-- IRQ_SRC_CFG is none of the local tile's registers, whatever the source. -/
theorem localKey_irqEn (src : Nat) : localKey (F.IRQ_SRC_CFG_EN.ix src).key = false := by
  have hkey : (F.IRQ_SRC_CFG_EN.ix src).key = (0xF204 + src * 2 ^ 18) * 32 + 0 := rfl
  rw [hkey, localKey, decide_eq_false_iff_not]
  omega

@[simp] theorem Block.localRegs_begins (b : Block) (src : Nat) : (b.begins src).localRegs = b.localRegs := by
  unfold Block.begins
  split
  · extract_lets g bs before n g' i d d1 d2
    have hnoted : d2.localRegs = b.localRegs := by
      rw [Block.localRegs_raiseRaw d1 _ (by decide), Block.localRegs_setf _ _ (by decide), Block.localRegs_setf _ _ (by decide)]
      rfl
    clear_value d2
    split
    · rfl
    · split
      · split
        · rw [Block.localRegs_raiseRaw _ _ (by decide), Block.localRegs_setf _ _ (localKey_irqEn src), hnoted]
        · exact hnoted
      · rfl
  · rfl

/-- An event whose bit is in another register leaves the local tile's registers (R337, R338). -/
theorem Block.localRegs_raise (b : Block) {src : Nat} (args : List (Nat × Nat)) (hsrc : localKey (srcFld src).key = false) :
    (b.raise src args).localRegs = b.localRegs := by
  unfold Block.raise
  split
  · exact Block.localRegs_raiseRaw b args hsrc
  · rw [Block.localRegs_begins, Block.localRegs_raiseRaw b args hsrc]

@[simp] theorem Block.raise_hwk (b : Block) (src : Nat) (args : List (Nat × Nat)) : (b.raise src args).hwk = b.hwk := by
  have : (b.raise src args).noEvents.hwk = b.noEvents.hwk := by rw [Block.noEvents_raise]
  exact this

/-! The local pass (R180, R181) -/

/-- The block once the local pass has left the tile. -/
def Block.localFreed (b : Block) : Block := { b with hwk := { b.hwk with lpass := none, lmodel := none, lost := false } }

/-- What follows the scoring of a local pass whose entry is `sc`, with that many outputs: the hit's event, the hold, and the two records. -/
def Block.localEnd (b : Block) (hit : Bool) (phase wall : Nat) (r : Row) (sc : Score) (outputs : Nat) : Block :=
  let c := b.raiseIf hit Ev.HWK_LOCAL_HIT
  let send := hit || c.hwk.hold != 0
  let h : Block := { c with hwk := { c.hwk with hold := if hit then c.f F.HWK_LOCAL_CFG_HOLD else c.hwk.hold - 1 } }
  let q := h.f F.HWK_LOCAL_DEST_QUEUE
  let st := h.f F.HWK_LOCAL_DEST_STREAM
  let nf := (h.localFeats.getLast?.getD 0) + 1
  let e := if send then h.emitAt q st 0x22 3 0 0 phase wall (featRowPayload (h.f F.HWK_LOCAL_CFG_IDX) nf r) else h
  if e.is F.HWK_LOCAL_CFG_EMIT then e.emitAt q st 0x21 11 (scoreFlags [sc]) 0 phase wall (scorePayload 0 outputs [sc]) else e

/-- No hit, no hold left and no EMIT: no record goes out. -/
theorem Block.localEnd_quiet {b : Block} (phase wall : Nat) (r : Row) (sc : Score) (outputs : Nat) (hhold : b.hwk.hold = 0)
    (hemit : b.is F.HWK_LOCAL_CFG_EMIT = false) :
    b.localEnd false phase wall r sc outputs = { b with hwk := { b.hwk with hold := 0 } } := by
  have hheld : (false || b.hwk.hold != 0) = false := by rw [hhold]; rfl
  unfold Block.localEnd
  dsimp only [Block.raiseIf_false]
  rw [hheld, if_neg Bool.false_ne_true, if_neg Bool.false_ne_true, hhold]
  exact if_neg (ne_true_of_eq_false hemit)

/-- The same after SCORE_ERR, which leaves the hold and the local tile's registers. -/
theorem Block.localEnd_error_quiet {b : Block} (args : List (Nat × Nat)) (phase wall : Nat) (r : Row) (sc : Score) (outputs : Nat)
    (hhold : b.hwk.hold = 0) (hemit : b.is F.HWK_LOCAL_CFG_EMIT = false) :
    (b.raise Ev.HWK_SCORE_ERR args).localEnd false phase wall r sc outputs = b.raise Ev.HWK_SCORE_ERR args := by
  obtain ⟨c, hc⟩ : ∃ c, c = b.raise Ev.HWK_SCORE_ERR args := ⟨_, rfl⟩
  have hregs : c.localRegs = b.localRegs := hc ▸ Block.localRegs_raise b args (by decide)
  have hheld : c.hwk.hold = 0 := by rw [hc, Block.raise_hwk, hhold]
  have hquiet : c.is F.HWK_LOCAL_CFG_EMIT = false := by rw [Block.is, Block.f_of_localRegs hregs (by decide)]; exact hemit
  rw [← hc, Block.localEnd_quiet phase wall r sc outputs hheld hquiet, ← hheld]

/-- A hit raises LOCAL_HIT, loads the hold and sends the row; HWK_SCORE goes out with EMIT (R181). -/
theorem Block.localEnd_hit {b c h e : Block} {phase wall nf : Nat} {r : Row} (sc : Score) (outputs : Nat)
    (hc : c = b.raise Ev.HWK_LOCAL_HIT) (hh : h = { c with hwk := { c.hwk with hold := b.f F.HWK_LOCAL_CFG_HOLD } })
    (hnf : nf = (b.localFeats.getLast?.getD 0) + 1)
    (he : e = h.emitAt (h.f F.HWK_LOCAL_DEST_QUEUE) (h.f F.HWK_LOCAL_DEST_STREAM) 0x22 3 0 0 phase wall
      (featRowPayload (h.f F.HWK_LOCAL_CFG_IDX) nf r)) :
    b.localEnd true phase wall r sc outputs = if e.is F.HWK_LOCAL_CFG_EMIT then
      e.emitAt (h.f F.HWK_LOCAL_DEST_QUEUE) (h.f F.HWK_LOCAL_DEST_STREAM) 0x21 11 (scoreFlags [sc]) 0 phase wall
        (scorePayload 0 outputs [sc]) else e := by
  have hregs : c.localRegs = b.localRegs := hc ▸ Block.localRegs_raise b _ (by decide)
  have hhold : c.f F.HWK_LOCAL_CFG_HOLD = b.f F.HWK_LOCAL_CFG_HOLD := Block.f_of_localRegs hregs (by decide)
  have hfeats : h.localFeats = b.localFeats := Block.localFeats_of_localRegs (hh ▸ hregs)
  have hraised : b.raiseIf true Ev.HWK_LOCAL_HIT = c := hc.symm
  unfold Block.localEnd
  simp only [hraised, Bool.true_or, if_true, hhold, ← hh, hfeats, ← hnf, ← he]

section
variable {b : Block}

theorem Block.localDone_no_pass (faults : List TreeFault) (hpass : b.hwk.lpass = none) : b.localDone faults = b := by
  unfold Block.localDone
  rw [hpass]

variable {phase wall : Nat} {r : Row} {m : Model} (hpass : b.hwk.lpass = some (phase, wall, r)) (hmodel : b.hwk.lmodel = some m)
  (hon : b.on dHAWK = true)
include hpass hmodel hon

/-- A local pass that lost its one tile raises SCORE_ERR and makes no hit: its entry carries ERROR (R178). -/
theorem Block.localDone_fenced (hfenced : b.freeTiles = [] ∨ b.hwk.lost = true) :
    b.localDone [] = (b.localFreed.raise Ev.HWK_SCORE_ERR [(0, 8), (0, 16), (0, 16), (0, 8)]).localEnd false phase wall r
      (Score.err 0 (m.ensemble 0).base.length) (m.ensemble 0).base.length := by
  unfold Block.localDone
  rw [hpass, hmodel]
  dsimp only
  rw [if_neg (not_not_intro hon), if_pos hfenced, if_pos hfenced, decide_eq_true hfenced]
  rfl

/-- A local pass without a fault is scored on the model it began on; it is a hit where output 0 is formed and at the threshold (R181). -/
theorem Block.localDone_scored {sc : Score} {hit : Bool} (hsound : ¬ (b.freeTiles = [] ∨ b.hwk.lost = true))
    (hsc : sc = scoreLocal m (m.ensemble 0) r (b.lostOuts (m.ensemble 0) [] 0))
    (hhit : (!(b.lostOuts (m.ensemble 0) [] 0).contains 0 &&
      hits ((sc.outs.head?.map (fun o => o.1)).getD 0) (b.f F.HWK_LOCAL_TH_TH)) = hit) :
    b.localDone [] = b.localFreed.localEnd hit phase wall r sc (m.ensemble 0).base.length := by
  subst hsc hhit
  unfold Block.localDone
  rw [hpass, hmodel]
  dsimp only
  rw [if_neg (not_not_intro hon), if_neg hsound, if_neg hsound, decide_eq_false hsound]
  rfl

end

/-- Settles O38: requests, then a pass from its start to its end, then the model's copy and the fence, then the local pass and the row. -/
theorem hawkmothPasses : Obligations.HawkmothPasses := by
  unfold Obligations.HawkmothPasses
  refine ⟨?_, ?_, ?_, ?_, ?_, ?_, ?_, ?_, ?_, ?_, ?_, ?_, ?_, ?_⟩
  · intro s ens t hdue hon hroom hwk hhwk
    subst hhwk
    rw [exec_passRequest_due s (Block.dueTrigger_due hdue) hon]
    exact congrArg (fun b => Host.Outcome.next (s.put b)) (Block.askPass_room ens t.2.2 hroom)
  · intro s ens hnone
    exact exec_passRequest_not_due s (Block.dueTrigger_none_waits ens hnone)
  · intro s q l hqueue hon hen hpass hswap hactive c hc r hr x hx b hb htiles
    have hidle : s.b.hwk.pass.isNone = true := Option.isNone_iff_eq_none.mpr hpass
    have hcopied : s.b.hwk.swap.isNone = true := Option.isNone_iff_eq_none.mpr hswap
    rw [exec_passStart, Block.passStart_begins hqueue ⟨hon, hen, hidle, hcopied, hactive⟩ hc hr hx hb htiles, Block.setPass]
  · intro s hqueue
    rw [exec_passStart, Block.passStart_no_request hqueue]
  · intro s faults hpass
    rw [exec_batchDone, Block.batchDone_no_pass faults hpass]
  · intro s p m hpass hactive hon hbatch htiles hlost e he ss hss r hr b hb
    rw [exec_batchDone, Block.batchDone_no_fault hpass hactive hon hbatch htiles hlost hr hb, ← he, ← hss, Block.setPass]
  · intro s p hpass hon hbatch hdone hemit c hc
    rw [exec_passDone_over s (Block.passDone_quiet hpass ⟨hon, hbatch, hdone⟩ hemit), ← hc]
  · intro s m hon hswap hcopying c hc
    rw [exec_modelCopyDone, Block.copyDone_swap hon hswap hcopying, ← hc]
  · intro s m word hok hpass
    rw [exec_tileFenceWrite, Block.write_ok _ hok, Block.tileFenceWrite_no_pass word hpass]
  · intro s faults hpass
    rw [exec_localPassDone, Block.localDone_no_pass faults hpass]
  · intro s phase wall r m hpass hmodel hon htiles hlost sc hsc hmiss hhold hemit
    have hsound : ¬ (s.b.freeTiles = [] ∨ s.b.hwk.lost = true) := by simp [htiles, hlost]
    have hdone := Block.localDone_scored hpass hmodel hon hsound hsc (by rw [hmiss, Bool.and_false])
    have hquiet := Block.localEnd_quiet (b := s.b.localFreed) phase wall r sc (m.ensemble 0).base.length hhold hemit
    rw [exec_localPassDone, hdone, hquiet, Block.localFreed]
  · intro s phase wall r m hpass hmodel hon htiles hlost sc hsc hformed hhit c hc h hh nf hnf e he
    have hsound : ¬ (s.b.freeTiles = [] ∨ s.b.hwk.lost = true) := by simp [htiles, hlost]
    have hdone := Block.localDone_scored hpass hmodel hon hsound hsc (by rw [hformed, hhit, Bool.not_false, Bool.true_and])
    rw [exec_localPassDone, hdone, Block.localEnd_hit (b := s.b.localFreed) _ _ hc hh hnf he]
  · intro s phase wall r m hpass hmodel hon hfenced hhold hemit
    rw [exec_localPassDone, Block.localDone_fenced hpass hmodel hon hfenced, ← Block.localFreed]
    exact congrArg (fun b => Host.Outcome.next (s.put b)) (Block.localEnd_error_quiet _ _ _ _ _ _ hhold hemit)
  · intro s m hok hagg x hx
    rw [exec_rowRead, Block.read_ok _ hok, Block.rowRead_agg hagg hx]

end Sys2Proof.Machine
end

section
namespace Sys2Proof.Machine

/-! The commands of link training: each is its function on a port of the build; those of KL_CMD act on the port that KL_PORT_SEL names -/

section
variable (s : State) (port : Nat)

theorem exec_laneError (lane : Nat) :
    exec (.laneError port lane) s = .next (s.put (s.b.onPort port (fun b => b.laneError port lane))) := rfl

theorem exec_noFlitTimeout : exec (.noFlitTimeout port) s = .next (s.put (s.b.onPort port (fun b => b.noFlit port))) := rfl

theorem exec_trainingTimeout :
    exec (.trainingTimeout port) s = .next (s.put (s.b.onPort port (fun b => b.trainingTimeout port))) := rfl

theorem exec_downFlit : exec (.downFlit port) s = .next (s.put (s.b.onPort port (fun b => b.declareDown port false))) := rfl

theorem exec_downRetry : exec (.downRetry port) s = .next (s.put (s.b.onPort port (fun b => b.downRetry port))) := rfl

theorem exec_klRetrain (m : Master) :
    exec (.klRetrain m) s =
      .next (s.put (s.b.write m 0x8020 1 (fun b =>
        b.onPort (b.f F.KL_PORT_SEL_PORT) (fun c => c.klRetrain (b.f F.KL_PORT_SEL_PORT))))) := rfl

theorem exec_klDown (m : Master) :
    exec (.klDown m) s =
      .next (s.put (s.b.write m 0x8020 2 (fun b =>
        b.onPort (b.f F.KL_PORT_SEL_PORT) (fun c => c.klDown (b.f F.KL_PORT_SEL_PORT))))) := rfl

theorem exec_klUp (m : Master) :
    exec (.klUp m) s =
      .next (s.put (s.b.write m 0x8020 4 (fun b =>
        b.onPort (b.f F.KL_PORT_SEL_PORT) (fun c => c.klUp (b.f F.KL_PORT_SEL_PORT))))) := rfl

end

/-! Lane errors and the way into RETRAIN (R206, R214) -/

/-- A count leaves the ports. -/
@[simp] theorem Block.count_port (b : Block) (x : Fld) (k n : Nat) : (b.count x k).port n = b.port n := rfl

/-- A port just put is read back. -/
@[simp] theorem Block.port_setPort_same (b : Block) (n : Nat) (p : Port) : (b.setPort n p).port n = p := by
  simp [Block.setPort, Block.port]

section
variable {b c : Block} {port lane : Nat}

/-- An ACTIVE port enters RETRAIN, and says so. -/
theorem Block.retrain_active (hactive : (b.port port).state = 2) :
    b.retrain port = (b.setPort port { (b.port port).attempt 3 b.clk.core with laneErrs := [] }).raise Ev.KL_RETRAIN [(port, 8)] := by
  unfold Block.retrain
  exact if_pos hactive

/-- On a port that is not ACTIVE a lane error is counted and no more. -/
theorem Block.laneError_not_active (lane : Nat) (hstate : (b.port port).state ≠ 2) :
    b.laneError port lane = b.count ((laneErrFld (lane % 4)).ix port) := by
  unfold Block.laneError
  exact if_neg hstate

/-- Up to TH within WIN the errors of a lane are kept. -/
theorem Block.laneError_kept {errs : List (Nat × Nat)} (hc : c = b.count ((laneErrFld (lane % 4)).ix port))
    (hactive : (c.port port).state = 2) (herrs : errs = (lane % 4, c.clk.core) :: c.recentErrs (c.port port).laneErrs)
    (hfew : (errs.filter (fun e => e.1 == lane % 4)).length ≤ atLeast1 (c.f F.KL_DEGRADE_TH)) :
    b.laneError port lane = c.setPort port { c.port port with laneErrs := errs } := by
  subst hc herrs
  unfold Block.laneError
  dsimp only
  rw [if_pos hactive, if_neg (Nat.not_lt.mpr hfew)]
  rfl

/-- Beyond TH within WIN the lane is excluded, and the port retrains. -/
theorem Block.laneError_degrades (hc : c = b.count ((laneErrFld (lane % 4)).ix port)) (hactive : (c.port port).state = 2)
    (hmany : atLeast1 (c.f F.KL_DEGRADE_TH) <
      (((lane % 4, c.clk.core) :: c.recentErrs (c.port port).laneErrs).filter (fun e => e.1 == lane % 4)).length) :
    b.laneError port lane =
      ((c.setPort port { c.port port with excl := setBit (c.port port).excl (lane % 4) 1 }).raise Ev.KL_DEGRADED
        [(port, 8), (lane % 4, 16)]).retrain port := by
  subst hc
  unfold Block.laneError
  dsimp only
  rw [if_pos hactive, if_pos hmany]
  rfl

/-- An ACTIVE port with no valid flit for 1 µs retrains. -/
theorem Block.noFlit_lapsed (hactive : (b.port port).state = 2) (hlapsed : (b.port port).lastFlit + b.us 1 ≤ b.clk.core) :
    b.noFlit port = b.retrain port := by
  unfold Block.noFlit
  exact if_pos ⟨hactive, hlapsed⟩

/-! Ports declared down, and their attempts to train (R215) -/

/-- An attempt that has lasted KL_TIMERS.DOWN declares the port down. -/
theorem Block.trainingTimeout_due (htrain : (b.port port).state = 1 ∨ (b.port port).state = 3)
    (hdue : (b.port port).since + b.downTime ≤ b.clk.core) : b.trainingTimeout port = b.declareDown port false := by
  unfold Block.trainingTimeout
  exact if_pos ⟨htrain, hdue⟩

/-- A younger one goes on. -/
theorem Block.trainingTimeout_early (hearly : b.clk.core < (b.port port).since + b.downTime) : b.trainingTimeout port = b := by
  unfold Block.trainingTimeout
  exact if_neg (fun ⟨_, hdue⟩ => Nat.not_le.mpr hearly hdue)

/-- A port that is down stays down; a command of software alone is remembered and said. -/
theorem Block.declareDown_again (hdown : (b.port port).state = 0) :
    b.declareDown port false = b.setPort port { b.port port with swDown := (b.port port).swDown || false } := by
  unfold Block.declareDown
  rw [if_pos hdown]
  rfl

/-- Link A of a D-role declared down: Monarch's times on it and the exchanges of a parent there are void, a stomped frame on link B
gives its SEQ back, and the D-role moves to its B path (R22, R60, R213, R222). -/
theorem Block.declareDown_linkA {d e g h : Block} (hup : (b.port 0).state ≠ 0)
    (hc : c = b.setPort 0 { excl := (b.port 0).excl, since := b.clk.core, swDown := false, declared := true })
    (hd : d = { c with mon := { c.mon with ports := c.mon.ports.upd 0 {} MonPort.clear } })
    (he : e = (if d.upPort = 0 then d.rewind else d).raise Ev.KL_DOWN [(0, 8)])
    (hg : g = if b.parentPort = some 0 then e.parentLost.dropExchanges else e) (hagg : g.syn.agg = false)
    (hh : h = g.setPort 1 { g.port 1 with express := (g.port 1).express.unstomp, control := (g.port 1).control.unstomp }) :
    b.declareDown 0 false = ({ h with fab := { h.fab with hbFrom := none, hbLast := none } } : Block).moveToB := by
  unfold Block.declareDown
  rw [if_neg hup]
  dsimp only [Block.updPort]
  rw [← hc, ← hd]
  simp only [eq_comm (a := 0) (b := d.upPort)]
  rw [← he, ← hg, if_neg (by simp [hagg]), if_pos trivial, ← hh]

/-- An enabled port with a wired lane begins to train (R214, R394). -/
theorem Block.train_enabled (hon : b.on dLINKS = true) (hen : b.is (F.KL_PORT_CFG_EN.ix port) = true) (hwired : b.wired port ≠ 0) :
    b.train port = b.setPort port ((b.port port).attempt 1 b.clk.core) := by
  unfold Block.train
  exact if_pos ⟨hen, hwired, hon⟩

/-- A port that has been down for KL_TIMERS.DOWN, and not by software, tries again. -/
theorem Block.downRetry_due (hdown : (b.port port).state = 0) (hsw : (b.port port).swDown = false)
    (hdue : (b.port port).since + b.downTime ≤ b.clk.core) : b.downRetry port = b.train port := by
  unfold Block.downRetry
  exact if_pos ⟨hdown, by simp [hsw], hdue⟩

/-- UP has a port that is down train at once. -/
theorem Block.klUp_down (hdown : (b.port port).state = 0) : b.klUp port = b.train port := if_pos hdown

end

/-- Settles O28: lane errors and the way into RETRAIN, then attempts and ports declared down, then the commands of KL_CMD. -/
theorem linkTraining : Obligations.LinkTraining := by
  unfold Obligations.LinkTraining
  refine ⟨?_, ?_, ?_, ?_, ?_, ?_, ?_, ?_, ?_, ?_, ?_, ?_⟩
  · intro s port lane hon hport hstate
    rw [exec_laneError, Block.onPort_eq _ hon hport, Block.laneError_not_active lane hstate]
  · intro s port lane hon hport c hc hactive errs herrs hfew
    rw [exec_laneError, Block.onPort_eq _ hon hport, Block.laneError_kept hc hactive herrs hfew]
  · intro s port lane hon hport c hc hactive hmany d hd hstill
    rw [exec_laneError, Block.onPort_eq _ hon hport, Block.laneError_degrades hc hactive hmany, ← hd, Block.retrain_active hstill]
  · intro s port hon hport hactive hlapsed
    rw [exec_noFlitTimeout, Block.onPort_eq _ hon hport, Block.noFlit_lapsed hactive hlapsed, Block.retrain_active hactive]
  · intro s port hon hport htrain hdue
    rw [exec_trainingTimeout, Block.onPort_eq _ hon hport, Block.trainingTimeout_due htrain hdue]
  · intro s port hon hport _ hearly
    rw [exec_trainingTimeout, Block.onPort_eq _ hon hport, Block.trainingTimeout_early hearly]
  · intro s hon hagg hup c hc d hd e he g hg hdie h hh
    rw [exec_downFlit, Block.onPort_eq _ hon (by rw [hagg]; decide), Block.declareDown_linkA hup hc hd he hg hdie hh]
  · intro s port hon hport hdown
    rw [exec_downFlit, Block.onPort_eq _ hon hport, Block.declareDown_again hdown]
  · intro s port hon hport hdown hsw hdue hen hwired
    rw [exec_downRetry, Block.onPort_eq _ hon hport, Block.downRetry_due hdown hsw hdue, Block.train_enabled hon hen hwired]
  · intro s m hok c hc hon hport hactive p hp d hd hstill
    subst hc hp
    have hkept : d.port (s.b.f F.KL_PORT_SEL_PORT) = { s.b.port (s.b.f F.KL_PORT_SEL_PORT) with excl := 0 } := by
      rw [hd, Block.port_setPort_same]
    rw [exec_klRetrain, Block.write_ok _ hok, Block.onPort_eq _ hon hport, Block.klRetrain, Block.updPort, ← hd,
      Block.retrain_active hstill, hkept]
  · intro s m hok c hc hon hport
    subst hc
    rw [exec_klDown, Block.write_ok _ hok, Block.onPort_eq _ hon hport, Block.klDown]
  · intro s m hok c hc hon port hsel hport hdown hen hwired
    subst hc hsel
    rw [exec_klUp, Block.write_ok _ hok, Block.onPort_eq _ hon hport, Block.klUp_down hdown, Block.train_enabled hon hen hwired]

end Sys2Proof.Machine
end

section
namespace Sys2Proof.Machine

/-! The commands of negotiation: each is its function on a port of the build -/

section
variable (s : State) (port ver feat : Nat) (credits : List Nat)

theorem exec_negSend : exec (.negSend port) s = .next (s.put (s.b.onPort port (fun b => b.negSend port))) := rfl

theorem exec_negReceived (lanes : Nat) :
    exec (.negReceived port ver feat credits lanes) s =
      .next (s.put (s.b.onPort port (fun b => b.negReceived port ver feat credits lanes))) := rfl

theorem exec_negAckReceived (width : Nat) :
    exec (.negAckReceived port ver feat credits width) s = .next (s.put (s.b.onPort port (fun b => b.negAck port ver feat))) := rfl

end

/-! NEG sent (R214 step 5, R216) -/

section
variable {b c : Block} {port : Nat}

/-- The first NEG of an attempt goes out at once, with the version and the credits of this end and the lanes it offers. -/
theorem Block.negSend_first (htrain : (b.port port).state = 1) (hopen : (b.port port).agreed = false)
    (hsound : (b.port port).negFail = false) (hfirst : (b.port port).negSent = none)
    (hc : c = b.setPort port { b.port port with negSent := some b.clk.core }) :
    b.negSend port = c.sendLc port (.neg (verCode (c.maxVer port)) 15 [512, 128, 16] (c.wired port)) := by
  subst hc
  unfold Block.negSend
  dsimp only
  rw [hfirst, if_pos ⟨Or.inl htrain, by simp [hopen], by simp [hsound], rfl⟩]
  rfl

/-- Within 500 ns of a NEG no other goes out. -/
theorem Block.negSend_early {t : Nat} (hsent : (b.port port).negSent = some t) (hearly : b.clk.core < t + b.ns 500) :
    b.negSend port = b := by
  unfold Block.negSend
  dsimp only
  rw [hsent, if_neg (fun ⟨_, _, _, hdue⟩ => Nat.not_le.mpr hearly (of_decide_eq_true hdue))]

/-! NEG and NEG_ACK received (R216) -/

/-- An offer below 0x10 fails the attempt. -/
theorem Block.negReceived_low {ver : Nat} (feat : Nat) (credits : List Nat) (lanes : Nat)
    (htrain : (b.port port).state = 1 ∨ (b.port port).state = 3) (hsound : (b.port port).negFail = false) (hlow : ver < 0x10) :
    b.negReceived port ver feat credits lanes =
      (b.setPort port { b.port port with negFail := true }).raise Ev.KL_NEG_FAIL [(port, 8)] := by
  unfold Block.negReceived
  dsimp only
  rw [if_pos ⟨htrain, by simp [hsound]⟩, if_pos hlow]
  rfl

/-- Any other is taken at the lower version with the features both offer and it allows, and answered; no word of a low version is said at
MINVER or above. -/
theorem Block.negReceived_taken {ver feat v ft : Nat} {credits : List Nat} (lanes : Nat)
    (htrain : (b.port port).state = 1 ∨ (b.port port).state = 3) (hsound : (b.port port).negFail = false) (hver : 0x10 ≤ ver)
    (hv : v = min (b.maxVer port) (verLevel ver)) (hft : ft = 15 &&& feat &&& featAllowed v)
    (hmin : min 2 (b.f (F.KL_PORT_CFG_MINVER.ix port)) ≤ v)
    (hc : c = b.setPort port { (b.port port).setCredits credits with ver := v, feat := ft, offered := true }) :
    b.negReceived port ver feat credits lanes = c.sendLc port (.negAck (verCode v) ft [512, 128, 16] (c.negWidth port ft lanes)) := by
  subst hv hft hc
  unfold Block.negReceived
  dsimp only
  rw [if_pos ⟨htrain, by simp [hsound]⟩, if_neg (Nat.not_lt.mpr hver)]
  exact if_neg (fun h => Nat.not_lt.mpr hmin (of_decide_eq_true (Bool.and_eq_true_iff.mp h).1))

/-- A NEG_ACK that agrees with what this end computed completes the exchange. -/
theorem Block.negAck_agrees {ver feat : Nat} (htrain : (b.port port).state = 1 ∨ (b.port port).state = 3)
    (hsound : (b.port port).negFail = false) (hoffered : (b.port port).offered = true) (hver : verLevel ver = (b.port port).ver)
    (hfeat : feat = (b.port port).feat) : b.negAck port ver feat = b.setPort port { b.port port with agreed := true } := by
  unfold Block.negAck
  exact if_pos ⟨htrain, by simp [hsound], hoffered, hver, hfeat⟩

/-- In a failed attempt it changes nothing. -/
theorem Block.negAck_failed (ver feat : Nat) (hfailed : (b.port port).negFail = true) : b.negAck port ver feat = b := by
  unfold Block.negAck
  exact if_neg (fun ⟨_, hsound, _⟩ => hsound hfailed)

/-- Nor does one that names other features. -/
theorem Block.negAck_other_features {feat : Nat} (ver : Nat) (hfeat : feat ≠ (b.port port).feat) : b.negAck port ver feat = b := by
  unfold Block.negAck
  exact if_neg (fun ⟨_, _, _, _, hsame⟩ => hfeat hsame)

end

/-- Settles O29: NEG sent, then the partner's NEG, then its NEG_ACK. -/
theorem linkNegotiation : Obligations.LinkNegotiation := by
  unfold Obligations.LinkNegotiation
  refine ⟨?_, ?_, ?_, ?_, ?_, ?_, ?_⟩
  · intro s port hon hport htrain hopen hsound hfirst c hc
    rw [exec_negSend, Block.onPort_eq _ hon hport, Block.negSend_first htrain hopen hsound hfirst hc]
  · intro s port t hon hport hsent hearly
    rw [exec_negSend, Block.onPort_eq _ hon hport, Block.negSend_early hsent hearly]
  · intro s port ver feat lanes credits hon hport htrain hsound hlow
    rw [exec_negReceived, Block.onPort_eq _ hon hport, Block.negReceived_low feat credits lanes htrain hsound hlow]
  · intro s port ver feat lanes credits hon hport htrain hsound hver v hv ft hft hmin c hc
    rw [exec_negReceived, Block.onPort_eq _ hon hport, Block.negReceived_taken lanes (Or.inl htrain) hsound hver hv hft hmin hc, verCode]
  · intro s port ver feat width credits hon hport htrain hsound hoffered hver hfeat
    rw [exec_negAckReceived, Block.onPort_eq _ hon hport, Block.negAck_agrees htrain hsound hoffered hver hfeat]
  · intro s port ver feat width credits hon hport hfailed
    rw [exec_negAckReceived, Block.onPort_eq _ hon hport, Block.negAck_failed ver feat hfailed]
  · intro s port ver feat width credits hon hport hfeat
    rw [exec_negAckReceived, Block.onPort_eq _ hon hport, Block.negAck_other_features ver hfeat]

end Sys2Proof.Machine
end

section
namespace Sys2Proof.Machine

/-! The commands of received frames, acknowledgement, replay and pause: each is its function on a port of the build -/

section
variable (s : State) (port : Nat)

theorem exec_frameReceived (f : FrameIn) :
    exec (.frameReceived port f) s = .next (s.put (s.b.onPort port (fun b => b.frameReceived port f))) := rfl

theorem exec_ackReceived (acks frees : List Nat) :
    exec (.ackReceived port acks frees) s =
      .next (s.put (s.b.onPort port (fun b => if (b.port port).state = 2 then b.takeAcks port acks frees else b))) := rfl

theorem exec_nakReceived (mask : Nat) (acks frees : List Nat) :
    exec (.nakReceived port mask acks frees) s =
      .next (s.put (s.b.onPort port (fun b => if (b.port port).state = 2 then b.takeNak port mask acks frees else b))) := rfl

theorem exec_replayTimeout (vc : Nat) :
    exec (.replayTimeout port vc) s = .next (s.put (s.b.onPort port (fun b => b.replayTimeout port vc))) := rfl

theorem exec_ackSend : exec (.ackSend port) s = .next (s.put (s.b.onPort port (fun b => b.ackSend port))) := rfl

theorem exec_pauseReceived (mask time : Nat) :
    exec (.pauseReceived port mask time) s = .next (s.put (s.b.onPort port (fun b => b.pauseReceived port mask time))) := rfl

theorem exec_pauseExpire (cls : Nat) :
    exec (.pauseExpire port cls) s = .next (s.put (s.b.onPort port (fun b => b.pauseExpire port (cls % 8)))) := rfl

theorem exec_pauseRepeat (cls : Nat) :
    exec (.pauseRepeat port cls) s = .next (s.put (s.b.onPort port (fun b => b.pauseRepeat port (cls % 8)))) := rfl

end

/-! What becomes of a frame received (R209, R213, R217, R218, R250) -/

/-- What a frame that fails its check calls for: what has started on the other uplink goes out stomped, its flits are freed, it is counted,
and a replay is asked for. -/
def Block.badFrame (b : Block) (port : Nat) (f : FrameIn) : Block :=
  (((b.stompOn port f).freeFlits port f).count (F.KL_PORT_ERR_CRC.ix port)).sendNak port f.vc

/-- What a sound frame calls for once its ACK is taken: the expected one is taken, another frees its flits, and has the ACK sent again where
it is a duplicate, a replay asked for where it is not. -/
def Block.soundFrame (b : Block) (port : Nat) (f : FrameIn) : Block :=
  let c := (b.port port).chan f.vc
  if f.seq = c.expect then b.takeFrame port f
  else
    let d := b.freeFlits port f
    if before16 f.seq c.expect then
      d.updPort port (fun p => p.setChan f.vc { p.chan f.vc with ackDue := some (c.ackDue.getD d.clk.core) })
    else d.sendNak port f.vc

/-- What the check of a frame calls for. -/
def Block.checkedFrame (b : Block) (port : Nat) (f : FrameIn) (check : FrameCheck) : Block :=
  match check with
  | .framing mask => b.framing port mask
  | .stomped => b.freeFlits port f
  | .bad => b.badFrame port f
  | .good => (b.applyAck port f.vc (f.ack % 65536)).soundFrame port f

section
variable {b c d u : Block} {port : Nat} {f : FrameIn}

/-- With no corruption injected, a frame on an ACTIVE port counts as its check says, as a bad one where its channel does not carry its
header. -/
theorem Block.frameReceived_clean (hactive : (b.port port).state = 2) (hvc : f.vc < 3) (hclean : b.que.corrupt = none)
    (hu : u = b.setPort port { b.port port with lastFlit := b.clk.core }) :
    b.frameReceived port f = u.checkedFrame port f (if f.check = .good ∧ f.proper = false then .bad else f.check) := by
  have hhit : (f.vc == 0 && b.que.corrupt == some port) = false := by simp [hclean]
  subst hu
  unfold Block.frameReceived
  dsimp only
  rw [if_neg (not_not_intro hactive), if_neg (Nat.not_le.mpr hvc), hhit, if_neg Bool.false_ne_true]
  by_cases hbad : f.check = .good ∧ f.proper = false
  · rw [if_pos hbad, if_pos ⟨hbad.1, Or.inr (by simp [hbad.2])⟩]
    rfl
  · rw [if_neg hbad, if_neg (fun h => hbad ⟨h.1, by simpa using h.2⟩)]
    rfl

/-- An injected corruption spends itself on the next sound BULK frame of its port, which counts as a bad one. -/
theorem Block.frameReceived_corrupted (hactive : (b.port port).state = 2) (hbulk : f.vc = 0) (hcorrupt : b.que.corrupt = some port)
    (hcheck : f.check = .good)
    (hu : u = ({ b with que := { b.que with corrupt := none } } : Block).setPort port { b.port port with lastFlit := b.clk.core }) :
    b.frameReceived port f = u.badFrame port f := by
  have hhit : (f.vc == 0 && b.que.corrupt == some port) = true := by simp [hbulk, hcorrupt]
  subst hu
  unfold Block.frameReceived
  dsimp only
  rw [if_neg (not_not_intro hactive), if_neg (by omega), hhit, if_pos rfl, if_pos ⟨hcheck, Or.inl rfl⟩]
  rfl

/-- A reserved channel is a framing error, on channels that are a free value (log entry 133). -/
theorem Block.frameReceived_reserved (hactive : (b.port port).state = 2) (hvc : 3 ≤ f.vc) :
    b.frameReceived port f = b.fresh.2.framing port (b.fresh.1 % 8) := by
  unfold Block.frameReceived
  rw [if_neg (not_not_intro hactive), if_pos hvc]

/-! Requests for a replay (R217) -/

/-- The first request of a channel goes out. -/
theorem Block.sendNak_first {vc : Nat} {p : Port} (hp : p = b.port port) (hnew : (p.chan vc).nakSent = false) :
    b.sendNak port vc =
      (b.setPort port (p.setChan vc { p.chan vc with nakSent := true })).sendLc port (.nak (2 ^ vc) p.ackFields.1 p.ackFields.2) := by
  subst hp
  unfold Block.sendNak
  exact if_neg (by simp [hnew])

/-- Until the expected frame comes there is no second one. -/
theorem Block.sendNak_again {vc : Nat} (hsent : ((b.port port).chan vc).nakSent = true) : b.sendNak port vc = b := by
  unfold Block.sendNak
  exact if_pos hsent

/-- A bad frame on a channel without a request outstanding asks for a replay. -/
theorem Block.badFrame_asks {p : Port} (hu : u = b.stompOn port f)
    (hc : c = (u.setPort port ((u.port port).setChan f.vc { (u.port port).chan f.vc with
      freed := ((u.port port).chan f.vc).freed + flits f.payload.length })).count (F.KL_PORT_ERR_CRC.ix port))
    (hp : p = c.port port) (hnew : (p.chan f.vc).nakSent = false) :
    b.badFrame port f =
      (c.setPort port (p.setChan f.vc { p.chan f.vc with nakSent := true })).sendLc port (.nak (2 ^ f.vc) p.ackFields.1 p.ackFields.2) := by
  subst hu hc
  exact Block.sendNak_first hp hnew

/-- BULK frames are passed on whole (R213): a bad one stomps nothing. -/
theorem Block.stompOn_bulk (b : Block) (port : Nat) (hbulk : f.vc = 0) : b.stompOn port f = b := if_pos (Or.inr (Or.inl hbulk))

/-- With a request outstanding a bad BULK frame is freed and counted. -/
theorem Block.badFrame_bulk_again (hbulk : f.vc = 0)
    (hc : c = (b.setPort port { b.port port with
      bulk := { (b.port port).bulk with freed := (b.port port).bulk.freed + flits f.payload.length } }).count (F.KL_PORT_ERR_CRC.ix port))
    (hsent : (c.port port).bulk.nakSent = true) : b.badFrame port f = c := by
  have hfreed : (b.freeFlits port f).count (F.KL_PORT_ERR_CRC.ix port) = c := by
    rw [hc, Block.freeFlits, hbulk]
    rfl
  rw [Block.badFrame, Block.stompOn_bulk b port hbulk, hfreed, hbulk]
  exact Block.sendNak_again hsent

/-! Sound frames (R210, R217) -/

/-- A duplicate frees its flits and has the ACK sent again. -/
theorem Block.soundFrame_duplicate {h : Chan} (hh : h = (b.port port).chan f.vc) (hother : f.seq ≠ h.expect)
    (hbefore : before16 f.seq h.expect = true)
    (hd : d = b.setPort port ((b.port port).setChan f.vc { h with freed := h.freed + flits f.payload.length })) :
    b.soundFrame port f =
      d.setPort port ((d.port port).setChan f.vc { (d.port port).chan f.vc with ackDue := some (h.ackDue.getD d.clk.core) }) := by
  subst hh hd
  unfold Block.soundFrame
  dsimp only
  rw [if_neg hother, if_pos hbefore]
  rfl

/-- An aggregator passes no frame on from link to link (R213). -/
theorem Block.forward_agg (port : Nat) (f : FrameIn) (hagg : b.syn.agg = true) : b.forward port f = b := if_pos (Or.inl hagg)

/-- A part of a unit, with the expected SEQ, is joined to its context's unit; of BULK the staging is judged (R210, R217, R220). -/
theorem Block.soundFrame_joined {p : Port} {h : Chan} {whole : List Byte} (hp : p = b.port port) (hh : h = p.chan f.vc)
    (hseq : f.seq = h.expect) (hpart : f.eor = false) (hwhole : whole = (if f.sor then [] else (h.rx.getD f.ctx (0, [])).2) ++ f.payload)
    (hd : d = b.setPort port (p.setChan f.vc { h with
      expect := (h.expect + 1) % 65536, nakSent := false, freed := h.freed + flits f.payload.length,
      ackDue := some (h.ackDue.getD b.clk.core), rx := h.rx.put f.ctx (f.cls, whole) }))
    (hagg : d.syn.agg = true) : b.soundFrame port f = if f.vc = 0 then d.pauseCheck f.cls else d := by
  have hmore : ¬ f.eor = true := by simp [hpart]
  subst hp hh
  unfold Block.soundFrame
  dsimp only
  rw [if_pos hseq]
  unfold Block.takeFrame
  dsimp only
  rw [if_neg hmore, if_neg hmore, ← hwhole, ← hd, Block.forward_agg port f hagg]

/-! Acknowledgement and replay (R217) -/

/-- A replay that is not the eighth in a row: the held frames are to go out again, the first at once where it may, and it is counted. -/
theorem Block.replay_counted {vc : Nat} {h : Chan} {held : List Frame} (hh : h = (b.port port).chan vc) (hfew : h.replays + 1 ≠ 8)
    (hheld : held = h.held.map (fun f => { f with rpl := true, ack := h.expect })) :
    b.replay port vc =
      (b.setPort port (((b.port port).setChan vc { h with
        held := held, again := held.filter (fun f => !f.stomp), baseAt := b.clk.core, replays := h.replays + 1 }).startNext vc b.clk.core
          b.stampUi b.syn.coreMHz)).count (F.KL_PORT_ERR_REPLAY.ix port) := by
  subst hh hheld
  unfold Block.replay
  exact if_neg hfew

/-- Frames held with base unchanged for KL_TIMERS.REPLAY are replayed. -/
theorem Block.replayTimeout_due {vc : Nat} (hactive : (b.port port).state = 2) (hvc : vc < 3) (hheld : ((b.port port).chan vc).held ≠ [])
    (hdue : ((b.port port).chan vc).baseAt + b.us (atLeast1 (b.f F.KL_TIMERS_REPLAY)) ≤ b.clk.core) :
    b.replayTimeout port vc = b.replay port vc := by
  unfold Block.replayTimeout
  exact if_pos ⟨hactive, hvc, hheld, hdue⟩

/-- ACK_INT after a BULK delivery an ACK of all channels goes out. -/
theorem Block.ackSend_bulk {t : Nat} {p : Port} (hp : p = b.port port) (hactive : p.state = 2) (hwaits : p.bulk.ackDue = some t)
    (hdue : t + b.ns (16 * atLeast1 (b.f F.KL_TIMERS_ACK_INT)) ≤ b.clk.core) :
    b.ackSend port =
      (b.setPort port { p with bulk := { p.bulk with ackDue := none }, express := { p.express with ackDue := none },
                               control := { p.control with ackDue := none } }).sendLc port (.ack p.ackFields.1 p.ackFields.2) := by
  subst hp
  unfold Block.ackSend
  exact if_pos ⟨hactive, by simp [hwaits, hdue]⟩

/-! Pause (R219, R220) -/

/-- A PAUSE sets the timers of the classes it names, of all without CLASS_PAUSE. -/
theorem Block.pauseReceived_active {mask time e m : Nat} {ps : List Nat} (hactive : (b.port port).state = 2)
    (he : e = if time % 65536 = 0 then 0 else b.clk.core + b.ns (16 * (time % 65536)))
    (hm : m = if bit (b.port port).feat 1 = 1 then mask else 0xFF)
    (hps : ps = (List.range 8).map (fun c => if bit m c = 1 then e else ((b.port port).pauses[c]?).getD 0)) :
    b.pauseReceived port mask time =
      (b.setPort port { b.port port with pauses := ps, lastFlit := b.clk.core }).raise Ev.KL_PAUSE_RX [(port, 8)] := by
  subst he hm hps
  unfold Block.pauseReceived
  exact if_pos hactive

section
variable {cls : Nat}

/-- A timer that has lapsed is cleared. -/
theorem Block.pauseExpire_lapsed (hlapsed : ((b.port port).pauses[cls]?).getD 0 ≤ b.clk.core) :
    b.pauseExpire port cls = b.setPort port { b.port port with pauses := setAt (b.port port).pauses cls 0 } := by
  unfold Block.pauseExpire
  exact if_neg (by simpa [Block.paused] using hlapsed)

/-- One that runs is left. -/
theorem Block.pauseExpire_running (hruns : b.clk.core < ((b.port port).pauses[cls]?).getD 0) : b.pauseExpire port cls = b := by
  unfold Block.pauseExpire
  exact if_pos (by simpa [Block.paused] using hruns)

/-- Half a TIME after a PAUSE of this block the staging decides: above LOW it is repeated, else it ends. -/
theorem Block.pauseRepeat_due {t : Nat} (hpausing : ((b.port port).pausing[cls]?).getD none = some t)
    (hdue : t + b.ns (512 * atLeast1 (b.f F.KL_PAUSE_CFG_TIME)) ≤ b.clk.core) :
    b.pauseRepeat port cls = if b.f F.KL_PAUSE_CFG_LOW * 1024 < b.staging cls then b.pauseOn port cls else b.pauseOff port cls := by
  unfold Block.pauseRepeat
  rw [hpausing]
  exact if_pos hdue

end

end

/-! Headers of flits and frames (R207, R209) -/

/-- A field that ends a layout reads as the number that was laid out. -/
theorem leAt_leBytes (n x : Nat) : leAt (leBytes n x) 0 n = x % 2 ^ (8 * n) := by
  have hread := leAt_leBytes_append n x []
  rwa [List.append_nil] at hread

/-- The place of a flag that is 1 or 0. -/
theorem flag_eq_toNat (v : Bool) (n : Nat) : (if v then n else 0) = n * v.toNat := by cases v <;> simp

@[simp] theorem toNat_beq_one (v : Bool) : (v.toNat == 1) = v := by cases v <;> rfl

/-- A flit header reads back as KIND, VC and LAST. -/
theorem parseFlit_flitHead {kind vc : Nat} (last : Bool) (hkind : kind < 4) (hvc : vc < 3) :
    parseFlit (flitHead kind vc last) = some (kind, vc, last) := by
  have hone : last.toNat < 2 := last.toNat_lt
  obtain ⟨x, hx⟩ : ∃ x, x = kind % 4 + vc % 4 * 4 + 16 * last.toNat := ⟨_, rfl⟩
  have hKind : bits x 0 2 = kind := by unfold bits; omega
  have hVc : bits x 2 2 = vc := by unfold bits; omega
  have hLast : bit x 4 = last.toNat := by unfold bit; omega
  have hfirst : leAt (flitHead kind vc last) 0 1 = x := by
    rw [flitHead, flag_eq_toNat, ← hx, leAt_leBytes_append]; omega
  have hsecond : leAt (flitHead kind vc last) 1 1 = 255 - x := by
    rw [flitHead, flag_eq_toNat, ← hx, leAt_leBytes_skip (Nat.le_refl 1), leAt_leBytes]; omega
  have hsound : ¬ (255 - x ≠ 255 - x ∨ 32 ≤ x ∨ bits x 2 2 = 3) := by omega
  unfold parseFlit
  dsimp only
  rw [hfirst, hsecond, if_neg hsound, hKind, hVc, hLast, toNat_beq_one]

/-- What a reader finds at the places of Table 9-3. -/
theorem Frame.head_fields (f : Frame) :
    leAt f.head 0 1 = f.ftype % 2 ^ 8 ∧
    leAt f.head 1 1 = (f.cls % 8 + (if f.sor then 8 else 0) + (if f.eor then 16 else 0) + (if f.rpl then 32 else 0)) % 2 ^ 8 ∧
    leAt f.head 2 2 = f.seq % 2 ^ 16 ∧
    leAt f.head 4 2 = f.ack % 2 ^ 16 ∧
    leAt f.head 6 2 = f.lenb % 2 ^ 13 ∧
    leAt f.head 8 1 = f.ctx % 64 ∧
    leAt f.head 9 7 = 0 := by
  simp only [Frame.head, List.append_assoc]
  simp [leAt_leBytes_append, leAt_leBytes_skip, leAt_leBytes]
  omega

/-- Class, SOR, EOR and RPL stand side by side in byte 1, its two reserved bits 0. -/
theorem flagByte_bits {x cls : Nat} {sor eor rpl : Bool} (hcls : cls < 8)
    (hx : x = (cls % 8 + (if sor then 8 else 0) + (if eor then 16 else 0) + (if rpl then 32 else 0)) % 2 ^ 8) :
    x < 64 ∧ bits x 0 3 = cls ∧ bit x 3 = sor.toNat ∧ bit x 4 = eor.toNat ∧ bit x 5 = rpl.toNat := by
  have hsor : sor.toNat < 2 := sor.toNat_lt
  have heor : eor.toNat < 2 := eor.toNat_lt
  have hrpl : rpl.toNat < 2 := rpl.toNat_lt
  simp only [flag_eq_toNat] at hx
  unfold bits bit
  omega

/-- The FTYPEs in use fit a byte (Table 9-3). -/
theorem ftype_lt_of_ftypeVc {t vc : Nat} (ht : ftypeVc t = some vc) : t < 2 ^ 8 := by
  unfold ftypeVc at ht
  split at ht
  · decide
  · decide
  · decide
  · decide
  · cases ht

/-- A frame header reads back as its fields. -/
theorem parseHead_head {f : Frame} {vc : Nat} (hvc : ftypeVc f.ftype = some vc) (hcls : f.cls < 8) (hseq : f.seq < 2 ^ 16)
    (hack : f.ack < 2 ^ 16) (hlenb : f.lenb < 2 ^ 13) (hctx : f.ctx < 64) :
    parseHead vc f.head = some { seq := f.seq, ftype := f.ftype, ack := f.ack, cls := f.cls, sor := f.sor, eor := f.eor, rpl := f.rpl,
                                 ctx := f.ctx, lenb := f.lenb, content := .bytes [] } := by
  obtain ⟨ftype, flags, seq, ack, lenb, ctx, rsvd⟩ := f.head_fields
  obtain ⟨hfit, cls, sor, eor, rpl⟩ := flagByte_bits hcls flags
  rw [Nat.mod_eq_of_lt (ftype_lt_of_ftypeVc hvc)] at ftype
  rw [Nat.mod_eq_of_lt hseq] at seq
  rw [Nat.mod_eq_of_lt hack] at ack
  rw [Nat.mod_eq_of_lt hlenb] at lenb
  rw [Nat.mod_eq_of_lt hctx] at ctx
  unfold parseHead
  simp only [ftype, seq, ack, lenb, ctx, rsvd, cls, sor, eor, rpl, toNat_beq_one]
  exact if_neg (by simp [hvc]; omega)

/-- Settles O30: received frames, then acknowledgement and replay, then pause, then the headers. -/
theorem linkFramesAndReplay : Obligations.LinkFramesAndReplay := by
  unfold Obligations.LinkFramesAndReplay
  refine ⟨?_, ?_, ?_, ?_, ?_, ?_, ?_, ?_, ?_, ?_, ?_, ?_, ?_, ?_, ?_, ?_, ?_, ?_, ?_⟩
  · intro s port f hon hport hactive hvc hclean hcheck u hu
    rw [exec_frameReceived, Block.onPort_eq _ hon hport, Block.frameReceived_clean hactive hvc hclean hu, hcheck]
    rfl
  · intro s port f hon hport hactive hvc hclean hcheck u hu c hc p hp hnew
    rw [exec_frameReceived, Block.onPort_eq _ hon hport, Block.frameReceived_clean hactive hvc hclean rfl, hcheck, if_neg (by simp),
      Block.checkedFrame, Block.badFrame_asks hu hc hp hnew]
  · intro s port f hon hport hactive hvc hclean hcheck hhead u hu c hc p hp hnew
    rw [exec_frameReceived, Block.onPort_eq _ hon hport, Block.frameReceived_clean hactive hvc hclean rfl, if_pos ⟨hcheck, hhead⟩,
      Block.checkedFrame, Block.badFrame_asks hu hc hp hnew]
  · intro s port f hon hport hactive hbulk hcorrupt hcheck u hu c hc hsent
    rw [exec_frameReceived, Block.onPort_eq _ hon hport, Block.frameReceived_corrupted hactive hbulk hcorrupt hcheck hu,
      Block.badFrame_bulk_again hbulk hc hsent]
  · intro s port mask f hon hport hactive hvc hclean hcheck u hu
    rw [exec_frameReceived, Block.onPort_eq _ hon hport, Block.frameReceived_clean hactive hvc hclean hu, hcheck]
    rfl
  · intro s port f hon hport hactive hvc
    refine ⟨s.b.fresh.1 % 8, Nat.mod_lt _ (by decide), ?_⟩
    rw [exec_frameReceived, Block.onPort_eq _ hon hport, Block.frameReceived_reserved hactive hvc]
  · intro s port f hon hport hactive hvc hclean hcheck hhead c hc p hp h hh hseq hpart _ whole hwhole d hd hagg
    rw [exec_frameReceived, Block.onPort_eq _ hon hport, Block.frameReceived_clean hactive hvc hclean rfl, hcheck,
      if_neg (by simp [hhead]), Block.checkedFrame, ← hc, Block.soundFrame_joined hp hh hseq hpart hwhole hd hagg]
  · intro s port f hon hport hactive hvc hclean hcheck hhead c hc h hh hother hbefore d hd
    rw [exec_frameReceived, Block.onPort_eq _ hon hport, Block.frameReceived_clean hactive hvc hclean rfl, hcheck,
      if_neg (by simp [hhead]), Block.checkedFrame, ← hc, Block.soundFrame_duplicate hh hother hbefore hd]
  · intro s port acks frees hon hport hactive
    rw [exec_ackReceived, Block.onPort_eq _ hon hport, if_pos hactive]
  · intro s port mask acks frees hon hport hactive
    rw [exec_nakReceived, Block.onPort_eq _ hon hport, if_pos hactive]
    rfl
  · intro s port vc hon hport hactive hvc h hh hheld hdue hfew held hl
    rw [exec_replayTimeout, Block.onPort_eq _ hon hport, Block.replayTimeout_due hactive hvc (hh ▸ hheld) (hh ▸ hdue),
      Block.replay_counted hh hfew hl]
  · intro s port t hon hport p hp hactive hwaits hdue
    rw [exec_ackSend, Block.onPort_eq _ hon hport, Block.ackSend_bulk hp hactive hwaits hdue, Port.ackFields]
  · intro s port mask time hon hport hactive e he m hm ps hps
    rw [exec_pauseReceived, Block.onPort_eq _ hon hport, Block.pauseReceived_active hactive he hm hps]
  · intro s port cls hon hport hlapsed
    rw [exec_pauseExpire, Block.onPort_eq _ hon hport, Block.pauseExpire_lapsed hlapsed]
  · intro s port cls hon hport hruns
    rw [exec_pauseExpire, Block.onPort_eq _ hon hport, Block.pauseExpire_running hruns]
  · intro s port cls t hon hport p hp hpausing hdue habove
    subst hp
    rw [exec_pauseRepeat, Block.onPort_eq _ hon hport, Block.pauseRepeat_due hpausing hdue, if_pos habove]
    rfl
  · intro s port cls t hon hport p hp hpausing hdue hlow
    subst hp
    rw [exec_pauseRepeat, Block.onPort_eq _ hon hport, Block.pauseRepeat_due hpausing hdue, if_neg (Nat.not_lt.mpr hlow)]
    rfl
  · exact fun kind vc last hkind hvc => parseFlit_flitHead last hkind hvc
  · exact fun f vc hvc hcls hseq hack hlenb hctx => parseHead_head hvc hcls hseq hack hlenb hctx

end Sys2Proof.Machine
end

section
namespace Sys2Proof.Machine

/-! Bulk frames (R208, R221, R222, R225) -/

/-- Monarch's turn on a port is its function on that port. -/
theorem exec_bulkSchedule (s : State) (port : Nat) :
    exec (.bulkSchedule port) s = .next (s.put (s.b.onPort port (fun b => b.bulkSchedule port))) := rfl

section
variable {b : Block} {port : Nat}

/-- What leaves the block as it is does so on any port, whatever LINKS is. -/
theorem Block.onPort_self {f : Block → Block} (hf : f b = b) : b.onPort port f = b := by
  unfold Block.onPort
  rw [hf, ite_self]

/-- Nothing is scheduled with MON_CTRL.EN clear, or where the port cannot start a frame. -/
theorem Block.bulkSchedule_blocked (hblocked : b.is F.MON_CTRL_EN = false ∨ b.canStart port = false) : b.bulkSchedule port = b := by
  unfold Block.bulkSchedule
  exact if_pos (by simpa using hblocked)

/-- An ACTIVE port can start a bulk frame where no replay stands before it and its wire is free. -/
theorem Block.canStart_of (hactive : (b.port port).state = 2) (hidle : (b.port port).bulk.idle = true)
    (hfree : (b.port port).free 0 b.clk.core = true) : b.canStart port = true := by
  simp [Block.canStart, hactive, hidle, hfree]

section
variable {c : Block} {p : MonPort} (hen : b.is F.MON_CTRL_EN = true) (hstart : b.canStart port = true) (hc : c = b.noteIdle)
  (hp : p = c.tagClasses port (c.tagQueues port (c.monPort port)))
include hen hstart hc hp

/-- Where no class has a frame that may start, the tags are kept. -/
theorem Block.bulkSchedule_none (hchoice : c.chooseClass port p = none) : b.bulkSchedule port = c.setMonPort port p := by
  subst hc hp
  unfold Block.bulkSchedule
  dsimp only
  rw [if_neg (by simp [hen, hstart]), hchoice]

/-- The class chosen is charged, and its frame sent: of its item, or the next that passes through. -/
theorem Block.bulkSchedule_chosen {cls : Nat} {h : MonHead} (hchoice : c.chooseClass port p = some (cls, h)) :
    b.bulkSchedule port =
      h.item.elim (((c.setMonPort port (c.charge port cls h p)).started cls).sendFwd port)
        (fun n => ((c.setMonPort port (c.charge port cls h p)).started cls).sendItem port h.q n h.len) := by
  subst hc hp
  unfold Block.bulkSchedule
  dsimp only
  rw [if_neg (by simp [hen, hstart]), hchoice]
  dsimp only
  cases h.item <;> rfl

end

/-! Shapers (R223) -/

/-- COMMIT stages the rate, the burst and the mode of the class selected. -/
theorem Block.shapeCommit_staged {c : Block} {word k : Nat} {x : Shape} (hcommit : bit word 2 = 1) (hc : c = b.writeFields 0x901C word)
    (hk : k = c.f F.MON_CLASS_SEL_CLASS)
    (hx : x = { rate := c.f (F.MON_SHAPE_RATE.ix k), burst := c.f (F.MON_SHAPE_BURST.ix k), mode := bits word 0 2 }) :
    b.shapeCommit word = { c with mon := { c.mon with staged := setAt c.mon.staged k (some x) } } := by
  subst hc hk hx
  unfold Block.shapeCommit
  exact if_pos hcommit

section
variable {cls : Nat} {x : Shape} (hstaged : b.staged cls = some x)
include hstaged

/-- One that waits for a boundary, or for its class to be idle, changes nothing. -/
theorem Block.shapeApply_waits (hwaits : x.mode = 1 ∨ (x.mode = 2 ∧ b.shapeIdle cls = false)) : b.shapeApply cls = b := by
  unfold Block.shapeApply
  rw [hstaged]
  exact if_pos (hwaits.imp_right (fun ⟨hmode, hbusy⟩ => ⟨hmode, by simp [hbusy]⟩))

/-- One that does not wait applies. -/
theorem Block.shapeApply_applies (hnow : x.mode ≠ 1) (hidle : x.mode = 2 → b.shapeIdle cls = true) :
    b.shapeApply cls = b.applyShape cls := by
  unfold Block.shapeApply
  rw [hstaged]
  exact if_neg (fun hwaits => hwaits.elim hnow (fun ⟨hmode, hbusy⟩ => hbusy (hidle hmode)))

/-- A change applies on every port: the values in force, each bucket of the class cut to the new burst, and SHAPE_APPLIED. -/
theorem Block.applyShape_staged {c d : Block} {old : List (Nat × Int)}
    (hold : old = (List.range (portCount b.syn.agg)).map (fun n => (n, b.tokens n cls)))
    (hc : c = (b.setf (F.MON_SHAPE_ACT_RATE.ix cls) x.rate).setf (F.MON_SHAPE_ACT_BURST.ix cls) x.burst)
    (hd : d = old.foldl (fun (b : Block) y => b.setMonPort y.1 ((b.monPort y.1).updC cls (fun z =>
      { z with tokens := min y.2 ((b.burst cls : Nat) : Int), at_ := b.clk.aon }))) c) :
    b.applyShape cls =
      ({ d with mon := { d.mon with staged := setAt d.mon.staged cls none } } : Block).raise Ev.MON_SHAPE_APPLIED [(cls, 8)] := by
  subst hold hc hd
  unfold Block.applyShape
  rw [hstaged]

end

/-! Gates (R224) -/

section
variable {cls st en : Nat} {g : Gate} (hvalid : b.is F.ANT_STATUS_TIME_VALID = true) (hg : g = (b.mon.gates[cls]?).getD {})
  (hwindow : g.window = some (st, en))
include hvalid hg hwindow

/-- While time is valid a gate's window is the one its last matching boundary set. -/
theorem Block.gateWindow_valid : b.gateWindow cls = some (st, en) := by
  subst hg
  unfold Block.gateWindow
  rw [if_pos hvalid, hwindow]

/-- A mark that agrees with the window is shown. -/
theorem Block.gateMark_shown {close : Bool} (hinside : (decide (st ≤ b.clk.core) && decide (b.clk.core < en)) = close) :
    b.gateMark cls close = { b with mon := { b.mon with gates := setAt b.mon.gates cls { g with closed := close } } } := by
  unfold Block.gateMark
  rw [Block.gateWindow_valid hvalid hg hwindow, hg]
  exact if_pos hinside

end

end

/-- Settles O31: bulk frames, then changes of shape, then gates. -/
theorem monarchChoice : Obligations.MonarchChoice := by
  unfold Obligations.MonarchChoice
  refine ⟨?_, ?_, ?_, ?_, ?_, ?_, ?_, ?_, ?_, ?_, ?_⟩
  · intro s port hblocked
    rw [exec_bulkSchedule, Block.onPort_self (Block.bulkSchedule_blocked hblocked)]
  · intro s port hon hport hen hactive hidle hfree c hc p hp hchoice
    rw [exec_bulkSchedule, Block.onPort_eq _ hon hport,
      Block.bulkSchedule_none hen (Block.canStart_of hactive hidle hfree) hc hp hchoice, Block.setMonPort]
  · intro s port cls h hon hport hen hactive hidle hfree c hc p hp hchoice hitem
    rw [exec_bulkSchedule, Block.onPort_eq _ hon hport,
      Block.bulkSchedule_chosen hen (Block.canStart_of hactive hidle hfree) hc hp hchoice, hitem, Option.elim_none]
  · intro s port cls n h hon hport hen hactive hidle hfree c hc p hp hchoice hitem
    rw [exec_bulkSchedule, Block.onPort_eq _ hon hport,
      Block.bulkSchedule_chosen hen (Block.canStart_of hactive hidle hfree) hc hp hchoice, hitem, Option.elim_some]
  · intro s m word hok hcommit c hc k hk
    rw [exec_shapeCommit, Block.write_ok _ hok, Block.shapeCommit_staged hcommit hc hk rfl]
  · intro s cls x hon hstaged hmode
    rw [exec_shapeApply, if_pos hon, Block.shapeApply_waits hstaged (Or.inl hmode)]
  · intro s cls x hon hstaged hnow hany k hk old hold c hc d hd
    subst hk
    rw [exec_shapeApply, if_pos hon, Block.shapeApply_applies hstaged hnow (fun h => absurd h hany),
      Block.applyShape_staged hstaged hold hc hd]
  · intro s cls x hon hstaged hmode hidle k hk old hold c hc d hd
    subst hk
    rw [exec_shapeApply, if_pos hon, Block.shapeApply_applies hstaged (by omega) (fun _ => hidle),
      Block.applyShape_staged hstaged hold hc hd]
  · intro s cls x hon hstaged hmode hbusy
    rw [exec_shapeApply, if_pos hon, Block.shapeApply_waits hstaged (Or.inr ⟨hmode, hbusy⟩)]
  · intro s cls st en hon hvalid g hg hwindow hstart hend
    rw [exec_gateWindowStart, if_pos hon, Block.gateMark_shown hvalid hg hwindow (by simp [hstart, hend])]
  · intro s cls st en hon hvalid g hg hwindow hend
    rw [exec_gateWindowEnd, if_pos hon, Block.gateMark_shown hvalid hg hwindow (by simp [hend])]

end Sys2Proof.Machine
end

section
namespace Sys2Proof.Machine

/-! Loss, flush and push (R234, R235, R236) -/

section
variable (s : State) (m : Master) (word : Nat)

theorem exec_queueLoss (q : Nat) : exec (.queueLoss q) s = .next (s.put (s.b.queueLoss (s.b.qnum q))) := rfl

theorem exec_queueFlush :
    exec (.queueFlush m) s = .next (s.put (s.b.write m 0xA020 1 (fun b => b.flushQueue (b.qnum (b.f F.QUE_SEL_QUEUE))))) := rfl

theorem exec_flushDone (q : Nat) : exec (.flushDone q) s = .next (s.put (s.b.flushDone (s.b.qnum q))) := rfl

theorem exec_pushStart : exec (.pushStart m word) s = .next (s.put (s.b.write m 0xA034 word (fun b => b.pushCmd word))) := rfl

theorem exec_pushData : exec (.pushData m word) s = .next (s.put (s.b.write m 0xA030 word (fun b => b.pushData word))) := rfl

theorem exec_pushEnd : exec (.pushEnd m) s = .next (s.put (s.b.write m 0xA034 2 Block.pushEnd)) := rfl

theorem exec_pushAbort : exec (.pushAbort m) s = .next (s.put (s.b.write m 0xA034 4 Block.pushAbort)) := rfl

theorem exec_pushReserved : exec .pushReserved s = .next (s.put s.b.pushReserve) := rfl

end

section
variable {b : Block}

/-- Room for an item is room by the queue's size, so no item with room is larger than the queue (R230). -/
theorem Block.le_capacity_of_room {q size sev : Nat} (hroom : b.room q size sev = true) : size ≤ b.capacity q := by
  simp only [Block.room, Bool.and_eq_true, decide_eq_true_eq] at hroom
  omega

/-- With room again the queue takes the record of its drops, which are then told (R234). -/
theorem Block.queueLoss_room {q : Nat} {l : Loss} (hloss : (b.queue q).loss = some l) (htakes : b.takes q = true)
    (hroom : b.room q 88 l.sev = true) :
    b.queueLoss q = (b.setQueue q { b.queue q with loss := none }).append q (b.lossRec q l 0 0) true := by
  unfold Block.queueLoss
  rw [hloss]
  exact if_pos ⟨htakes, hroom⟩

/-! FLUSH (R235) -/

/-- With no push in progress FLUSH waits for the drains' records alone. -/
theorem Block.flushQueue_no_push {c d : Block} {q : Nat} {gone : List Item} (hfirst : (b.queue q).flushing = false)
    (hd : d = ((b.cutDrains).doomDrain q false).doomDrain q true) (hpush : d.que.push = none)
    (hgone : gone = (d.queue q).items.filter (fun i => i.seq.isNone))
    (hc : c = (d.setQueue q { d.queue q with items := (d.queue q).items.filter (fun i => i.seq.isSome),
                                             flushing := d.drainDoomed q false || d.drainDoomed q true }).count
      (F.QUE_DROPS_FLUSHED.ix q) gone.length) :
    b.flushQueue q =
      { c with mon := { c.mon with launched := c.mon.launched.filter (fun l => !(gone.any (fun i => i.num == l.2))) } } := by
  subst hd hc hgone
  unfold Block.flushQueue
  rw [if_neg (by simp [hfirst])]
  dsimp only
  rw [hpush]
  rfl

/-- FLUSHING clears once neither a push nor a drain's record is left to discard. -/
theorem Block.flushDone_over {q : Nat} (hflush : (b.queue q).flushing = true) (hpush : b.que.push = none)
    (hcnt : b.drainDoomed q false = false) (hmon : b.drainDoomed q true = false) :
    b.flushDone q = b.setQueue q { b.queue q with flushing := false } := by
  unfold Block.flushDone
  rw [hpush]
  exact if_pos (by simp [hflush, hcnt, hmon])

/-! START (R236) -/

/-- START alone carries the LEN and the SEV of the item. -/
theorem Block.pushCmd_start {word : Nat} (hstart : word % 8 = 1) : b.pushCmd word = b.pushStart (bits word 16 16) (bits word 5 3) := by
  simp only [Block.pushCmd, hstart]

/-- A write with more than one command acts on none (R396). -/
theorem Block.pushCmd_several {word : Nat} (hnone : word % 8 ≠ 0) (hstart : word % 8 ≠ 1) (hend : word % 8 ≠ 2) (habort : word % 8 ≠ 4) :
    b.pushCmd word = b.raise Ev.QUE_PUSH_BAD := by
  unfold Block.pushCmd
  split
  · exact absurd ‹_› hnone
  · exact absurd ‹_› hstart
  · exact absurd ‹_› hend
  · exact absurd ‹_› habort
  · rfl

section
variable {p : Push} {len sev : Nat} (hpush : b.que.push = none) (hp : p = { queue := b.qnum (b.f F.QUE_SEL_QUEUE), len := len, sev := sev })
include hpush hp

/-- A queue that takes no item drops it at START (R231). -/
theorem Block.pushStart_dropped (htakes : b.takes p.queue = false) : b.pushStart len sev = b.dropBytes p.queue p.size b.phase sev := by
  subst hp
  unfold Block.pushStart
  rw [if_neg (by simp [hpush])]
  exact if_pos (Or.inl (by simp [htakes]))

/-- Where the queue and the Hold Buffer have the room, START reserves it and the push is open. -/
theorem Block.pushStart_opens (htakes : b.takes p.queue = true) (hfits : p.size ≤ b.capacity p.queue)
    (hhold : b.holdRoom b.holdUsed p.size sev = true) (hroom : b.room p.queue p.size sev = true) :
    b.pushStart len sev = { b with que := { b.que with push := some p } } := by
  subst hp
  unfold Block.pushStart
  dsimp only at htakes hfits hroom ⊢
  rw [if_neg (by simp [hpush]), if_neg (by simp [htakes, hfits]), hhold]
  exact if_pos hroom

end

/-! The words, END and ABORT (R236) -/

/-- With no push a word is PUSH_BAD. -/
theorem Block.pushData_no_push {word : Nat} (hpush : b.que.push = none) : b.pushData word = b.raise Ev.QUE_PUSH_BAD := by
  unfold Block.pushData
  rw [hpush]

/-- A push whose words are not as many as its LEN says spells no record. -/
theorem Block.pushRec_length {p : Push} (hlen : p.words.length ≠ 12 + 2 * p.len) : b.pushRec p = none := by
  unfold Block.pushRec
  exact if_pos (Or.inl hlen)

section
variable {p : Push} (hpush : b.que.push = some p)
include hpush

/-- An open push takes the next word. -/
theorem Block.pushData_open {word : Nat} (hopen : p.waiting = false) :
    b.pushData word =
      { b with que := { b.que with push := some { p with words := (p.words ++ [word % 2 ^ 32]).take (13 + 2 * p.len) } } } := by
  unfold Block.pushData
  rw [hpush]
  exact if_neg (by simp [hopen])

/-- END closes an open push: the record that its words spell goes to the queue, and words that spell none are PUSH_BAD. -/
theorem Block.pushEnd_open {c : Block} (hopen : p.waiting = false) (hkept : p.doomed = false)
    (hc : c = { b with que := { b.que with push := none } }) :
    b.pushEnd = (c.pushRec p).elim (c.raise Ev.QUE_PUSH_BAD) (c.pushEnter p) := by
  subst hc
  unfold Block.pushEnd
  rw [hpush]
  dsimp only
  rw [if_neg (by simp [hopen]), if_neg (by simp [hkept])]
  split
  · next hrec => rw [hrec, Option.elim_some]
  · next hrec => rw [hrec, Option.elim_none]

/-- ABORT withdraws a push; one that was open is PUSH_BAD, and may have been the last that a flush waited for. -/
theorem Block.pushAbort_push {c : Block} (hc : c = { b with que := { b.que with push := none } }) :
    b.pushAbort = if p.waiting then c else (c.flushDone p.queue).raise Ev.QUE_PUSH_BAD := by
  subst hc
  unfold Block.pushAbort
  rw [hpush]

variable (hwaits : p.waiting = true)
include hwaits

/-- A waiting push opens when its queue has the room. -/
theorem Block.pushReserve_opens (htakes : b.takes p.queue = true) (hroom : b.room p.queue p.size p.sev = true) :
    b.pushReserve = { b with que := { b.que with push := some { p with waiting := false } } } := by
  have hfits := Block.le_capacity_of_room hroom
  unfold Block.pushReserve
  rw [hpush]
  dsimp only
  rw [if_neg (by simp [hwaits]), if_neg (by simp [htakes, hfits])]
  exact if_pos hroom

/-- A waiting push is dropped where its queue has come to take no item (R231). -/
theorem Block.pushReserve_dropped {c : Block} (htakes : b.takes p.queue = false) (hc : c = { b with que := { b.que with push := none } }) :
    b.pushReserve = c.dropBytes p.queue p.size c.phase p.sev := by
  subst hc
  unfold Block.pushReserve
  rw [hpush]
  dsimp only
  rw [if_neg (by simp [hwaits])]
  exact if_pos (Or.inl (by simp [htakes]))

end

end

/-- Settles O34: loss and flush, then START, the words, END, ABORT and the waiting push, each by its function's equation for the case. -/
theorem flushAndPush : Obligations.FlushAndPush := by
  unfold Obligations.FlushAndPush
  refine ⟨?_, ?_, ?_, ?_, ?_, ?_, ?_, ?_, ?_, ?_, ?_, ?_, ?_, ?_⟩
  · intro s q l k hk x hx hloss htakes hroom
    subst hk hx
    rw [exec_queueLoss, Block.queueLoss_room hloss htakes hroom]
  · intro s m hok q hq hfirst d hd hpush gone hgone kept hkept c hc launched hlaunched
    subst hkept hlaunched
    rw [exec_queueFlush, Block.write_ok _ hok, ← hq, Block.flushQueue_no_push hfirst hd hpush hgone hc]
  · intro s q hflush hpush hcnt hmon
    rw [exec_flushDone, Block.flushDone_over hflush hpush hcnt hmon]
  · intro s m word hok hstart hpush q hq len hlen sev hsev htakes hfits hhold hroom
    subst hq
    rw [exec_pushStart, Block.write_ok _ hok, Block.pushCmd_start hstart, ← hlen, ← hsev,
      Block.pushStart_opens hpush rfl htakes hfits hhold hroom]
  · intro s m word hok hstart hpush q hq htakes
    subst hq
    rw [exec_pushStart, Block.write_ok _ hok, Block.pushCmd_start hstart, Block.pushStart_dropped hpush rfl htakes, Push.size]
  · intro s m word hok hnone hstart hend habort
    rw [exec_pushStart, Block.write_ok _ hok, Block.pushCmd_several hnone hstart hend habort]
  · intro s m word p hok hpush hopen
    rw [exec_pushData, Block.write_ok _ hok, Block.pushData_open hpush hopen]
  · intro s m word hok hpush
    rw [exec_pushData, Block.write_ok _ hok, Block.pushData_no_push hpush]
  · intro s m p r hok hpush hopen hkept c hc hrec
    rw [exec_pushEnd, Block.write_ok _ hok, Block.pushEnd_open hpush hopen hkept hc, hrec, Option.elim_some]
  · intro s m p hok hpush hopen hkept c hc hlen
    rw [exec_pushEnd, Block.write_ok _ hok, Block.pushEnd_open hpush hopen hkept hc, Block.pushRec_length hlen, Option.elim_none]
  · intro s m p hok hpush hwaits
    rw [exec_pushAbort, Block.write_ok _ hok, Block.pushAbort_push hpush rfl, if_pos hwaits]
  · intro s m p hok hpush hopen c hc
    rw [exec_pushAbort, Block.write_ok _ hok, Block.pushAbort_push hpush hc, if_neg (by simp [hopen])]
  · intro s p hpush hwaits htakes hroom
    rw [exec_pushReserved, Block.pushReserve_opens hpush hwaits htakes hroom]
  · intro s p hpush hwaits htakes c hc
    rw [exec_pushReserved, Block.pushReserve_dropped hpush hwaits htakes hc, Push.size]

end Sys2Proof.Machine
end

section
namespace Sys2Proof.Machine

/-! The mirror's confirmations, procedures and rehearsal (R238, R245, R249, R250) -/

section
variable (s : State)

theorem exec_mirrorConfirm (key : Nat) :
    exec (.mirrorConfirm key) s =
      .next (s.put (if s.b.syn.agg ∧ s.b.on dQUEUE then (s.b.mirrorConfirm key).resyncCheck else s.b)) := rfl

theorem exec_procedureRenew : exec .procedureRenew s = .next (s.put (if s.b.on dQUEUE then s.b.renewProcs else s.b)) := rfl

theorem exec_procedureTakeover (who : Nat) :
    exec (.procedureTakeover who) s = .next (s.put (if s.b.syn.agg ∧ s.b.on dQUEUE then s.b.takeProc who else s.b)) := rfl

theorem exec_injectionArm (m : Master) (word : Nat) :
    exec (.injectionArm m word) s = .next (s.put (s.b.write m 0xA084 word (fun b => b.injArm word))) := rfl

theorem exec_injectionFire (slot : Nat) : exec (.injectionFire slot) s = .next (s.put (s.b.injFire (slot % 8))) := rfl

theorem exec_rehearsalDone (slot : Nat) : exec (.rehearsalDone slot) s = .next (s.put (s.b.rehearsalDone slot)) := rfl

end

section
variable {b : Block}

/-! Confirmations (R238, R245) -/

/-- A confirmation of no update that waits changes nothing. -/
theorem Block.mirrorConfirm_unknown {num : Nat} (hfind : b.que.mirrorOut.find? (fun x => x.num == num) = none) :
    b.mirrorConfirm num = b := by
  unfold Block.mirrorConfirm
  rw [hfind]

/-- A confirmed copy of a record leaves the updates that wait, and counts as mirrored at its key; acceptance goes on. -/
theorem Block.mirrorConfirm_record {c : Block} {num ldi epoch stream seq : Nat} {bytes : List Byte} {m : MirrorUpd} {k : OwnKey}
    {held : List Held} (hfind : b.que.mirrorOut.find? (fun x => x.num == num) = some m)
    (hupd : m.upd = .record ldi epoch stream seq bytes)
    (hc : c = { b with que := { b.que with mirrorOut := b.que.mirrorOut.filter (fun x => x.num != num) } })
    (hk : k = c.key ldi epoch stream) (hheld : held = k.held.map (fun h => if h.seq = seq then { h with mirrored := true } else h)) :
    b.mirrorConfirm num = (c.setKey { k with held := held }).acceptAll := by
  subst hheld hk hc
  unfold Block.mirrorConfirm
  rw [hfind]
  dsimp only
  rw [hupd]

/-- Where no RESYNC runs none ends. -/
theorem Block.resyncCheck_no_resync (hproc : (b.procOf 4 0).isSome = false) : b.resyncCheck = b := by
  unfold Block.resyncCheck
  exact if_neg (by simp [hproc])

/-! Controllers (R249) -/

/-- A sole procedure that has not stalled is renewed once TAKEOVER / 4 has passed, and the mirror told. -/
theorem Block.renewProcs_sole {p : Proc} (hprocs : b.que.procs = [p]) (hruns : p.stalled = false)
    (hdue : p.renewed + b.takeoverTime / 4 ≤ b.clk.core) :
    b.renewProcs = (b.putProc { p with renewed := b.clk.core }).toMirror (p.mark p.step) := by
  unfold Block.renewProcs
  rw [hprocs, List.foldl_cons, List.foldl_nil]
  exact if_pos ⟨by simp [hruns], hdue⟩

/-- With no procedure of another controller known there is nothing to take over. -/
theorem Block.takeProc_no_remote (who : Nat) (hremote : b.que.remote = []) : b.takeProc who = b := by
  unfold Block.takeProc
  rw [hremote, List.find?_nil]

/-- The procedure without a renewal for TAKEOVER is taken over with REPOCH one more, and runs over VSB where there is one, else here. -/
theorem Block.takeProc_due {c d : Block} {who : Nat} {p p2 : Proc} {remote : List Proc}
    (hfind : b.que.remote.find? (fun x => decide (x.renewed + b.takeoverTime ≤ b.clk.core)) = some p)
    (hp2 : p2 = { p with ctrl := who % 4, repoch := (p.repoch + 1) % 65536, renewed := b.clk.core, stalled := false })
    (hremote : remote = b.que.remote.filter (fun x => !(x.proc == p.proc && x.ldi == p.ldi)))
    (hc : c = Block.raiseCtr { b with que := { b.que with remote := remote } } (2032 + p.proc) p2.repoch)
    (hd : d = c.raise Ev.QUE_REC_TAKEOVER [(p.proc, 8), (p2.repoch, 16)]) :
    b.takeProc who = if d.vsbOn then d.driveProc p2 else d.resumeProc p2 := by
  subst hd hc hremote hp2
  unfold Block.takeProc
  rw [hfind]

/-! Injections (R250) -/

/-- ARM arms the slot selected at its trigger, with no repeat yet. -/
theorem Block.injArm_armed {c : Block} {word n t : Nat} (harm : bit word 4 = 1) (hc : c = b.writeFields 0xA084 word)
    (hn : n = c.f F.QUE_INJ_SEL_SLOT) (ht : t = c.f (F.QUE_INJ_AT_LO_AT.ix n) + 2 ^ 32 * c.f (F.QUE_INJ_AT_HI_AT.ix n)) :
    b.injArm word = { c with que := { c.que with injArmed := c.que.injArmed.put n t, injRepeat := c.que.injRepeat.del n } } := by
  subst ht hn hc
  unfold Block.injArm
  exact if_pos harm

/-- A slot that is not due does not fire. -/
theorem Block.injFire_not_due {n : Nat} (hdue : b.injDue n = false) : b.injFire n = b := by
  unfold Block.injFire
  exact if_pos (Or.inl (by simp [hdue]))

/-- A slot without PERIOD fires once: it is armed no longer, and its fault is refused or put in. -/
theorem Block.injFire_once {c d : Block} {n k t : Nat} (hdue : b.injDue n = true) (hon : b.on dQUEUE = true)
    (honce : b.f (F.QUE_INJ_CFG_PERIOD.ix n) = 0)
    (hc : c = { b with que := { b.que with injArmed := b.que.injArmed.del n, injRepeat := b.que.injRepeat.del n } })
    (hk : k = b.f (F.QUE_INJ_CFG_KIND.ix n)) (hfirst : 1 ≤ k) (hlast : k ≤ 5)
    (ht : t = c.f (F.QUE_INJ_CFG_TARGET.ix n))
    (hd : d = { c with que := { c.que with inj := some { slot := n, kind := k, start := c.clk.core, target := t } } }) :
    b.injFire n =
      if c.injRefused then c.raise Ev.QUE_INJ_REFUSED else (d.raise Ev.QUE_INJECTED).injectFault k t := by
  subst hd ht hc
  unfold Block.injFire
  dsimp only
  rw [← hk, if_neg (by simp [hdue, hon]), if_pos honce, if_neg (Nat.not_lt.mpr hlast), if_neg (by omega)]

/-- A rehearsal whose fault is recovered from emits its record: slot, fault, µs and procedures run. -/
theorem Block.rehearsalDone_over {c : Block} {i : Inj} (hinj : b.que.inj = some i) (hover : b.injOver i = true)
    (hc : c = { b with que := { b.que with inj := none, muteUntil := none } }) :
    b.rehearsalDone i.slot =
      c.emitRow 6 0x41 3 0 0
        (leBytes 4 i.slot ++ leBytes 4 i.kind ++ leBytes 8 ((b.clk.core - i.start) / b.syn.coreMHz) ++ leBytes 8 i.procs) := by
  subst hc
  unfold Block.rehearsalDone
  rw [hinj]
  exact if_pos ⟨rfl, hover⟩

end

/-- Settles O35: confirmations, then procedures, then injections and the rehearsal's record, each by its function's equation for the case. -/
theorem recoveryAndRehearsal : Obligations.RecoveryAndRehearsal := by
  unfold Obligations.RecoveryAndRehearsal
  refine ⟨?_, ?_, ?_, ?_, ?_, ?_, ?_, ?_, ?_, ?_, ?_⟩
  · intro s key m ldi epoch stream seq bytes hagg hon hfind hupd c hc k hk held hheld
    rw [exec_mirrorConfirm, if_pos ⟨hagg, hon⟩, Block.mirrorConfirm_record hfind hupd hc hk hheld]
  · intro s key hagg hon hfind hproc
    rw [exec_mirrorConfirm, if_pos ⟨hagg, hon⟩, Block.mirrorConfirm_unknown hfind, Block.resyncCheck_no_resync hproc]
  · intro s p hon hprocs hruns hdue
    rw [exec_procedureRenew, if_pos hon, Block.renewProcs_sole hprocs hruns hdue, Proc.mark]
  · intro s who p hagg hon hfind p2 hp2 remote hremote c hc d hd hvsb
    rw [exec_procedureTakeover, if_pos ⟨hagg, hon⟩, Block.takeProc_due hfind hp2 hremote hc hd, if_pos hvsb, Block.driveProc]
  · intro s who p hagg hon hfind p2 hp2 remote hremote c hc d hd hvsb
    rw [exec_procedureTakeover, if_pos ⟨hagg, hon⟩, Block.takeProc_due hfind hp2 hremote hc hd, if_neg (by simp [hvsb])]
  · intro s who hremote
    rw [exec_procedureTakeover, Block.takeProc_no_remote who hremote, ite_self]
  · intro s m word hok harm c hc n hn t ht
    rw [exec_injectionArm, Block.write_ok _ hok, Block.injArm_armed harm hc hn ht]
  · intro s slot hdue
    rw [exec_injectionFire, Block.injFire_not_due hdue]
  · intro s slot n hn hdue hon honce c hc hrefused hfirst hlast
    subst hn
    rw [exec_injectionFire, Block.injFire_once hdue hon honce hc rfl hfirst hlast rfl rfl, if_pos hrefused]
  · intro s slot n hn hdue hon honce c hc hallowed k hk hfirst hlast t ht d hd
    subst hn
    rw [exec_injectionFire, Block.injFire_once hdue hon honce hc hk hfirst hlast ht hd, if_neg (by simp [hallowed])]
  · intro s slot i hinj hslot hover us hus c hc
    subst hslot hus
    rw [exec_rehearsalDone, Block.rehearsalDone_over hinj hover hc, Block.emitRow, Block.rdestQ, Block.rdestS]

end Sys2Proof.Machine
end

section
namespace Sys2Proof.Machine

/-! The stop of a trace job (R234, R243, R263) -/

theorem exec_jobStop (s : State) (e : Nat) : exec (.jobStop e) s = .next (s.put (s.b.jobStop e)) := rfl

section
variable {b : Block} {j : SlkJob}

/-- A payload no longer than the descriptor of R254 is never packed: the original leaves (R261). -/
theorem Block.jobOut_short (hshort : j.body.bytes.length ≤ 16) : b.jobOut j = j.body := by
  unfold Block.jobOut
  refine if_pos (hshort.trans ?_)
  simp [packedRec]
  omega

/-- A job that has taken no input has coded no symbol: nothing is consumed and nothing produced. -/
theorem progressAt_zero (inp : List Byte) (depth size : Nat) (ctx : Option (List Nat × List Nat)) :
    progressAt inp depth size 0 ctx = (0, 0) := by
  have hnone : ∀ l : List Sym, takeSyms 0 l = [] := fun l => by cases l <;> rfl
  simp [progressAt, hnone, cutBlocks, progressAt.go]

/-- A trace job that stops before it has taken any input shows CONSUMED and PRODUCED as 0. -/
theorem Block.stopTrace_no_input {buf : Nat} (hnone : j.base + b.takenIn (b.clk.core - j.since) = 0) :
    b.stopTrace j buf =
      ((b.putJob { j with engine := none, stopped := true, base := 0 }).showTrace buf 0 0).raise Ev.SLK_STOP := by
  simp only [Block.stopTrace, hnone, progressAt_zero]

/-- A running trace job whose output has no room stops; one of trace DMA raises HOLD_FULL first where the Hold Buffer lacks the room (R243). -/
theorem Block.jobStop_trace {e n : Nat} {r : Rec} (hjob : b.jobOn e = some j) (hon : b.on dCODEC = true) (hr : r = b.jobOut j)
    (hwaits : b.traceWaits j.queue r = true) (htrace : j.trace = some n) :
    b.jobStop e =
      ((b.raiseIf (j.dma.isSome && !b.holdRoom b.holdUsed (r.size + b.lossBytes j.queue) r.sev)
        Ev.QUE_HOLD_FULL).stopTrace j n).slkGo := by
  subst hr
  unfold Block.jobStop
  rw [hjob]
  dsimp only
  rw [if_pos ⟨hon, hwaits⟩, htrace]

end

/-- The job of a record of trace DMA from buffer 0, bound for queue 3, that engine 0 has just begun. Every trace job is one of trace DMA
(`Block.traffic`). -/
def dmaTraceJob : SlkJob :=
  { num := 0, queue := 3, ctx := some 16, trace := some 0, dma := some 0, pkts := 1, engine := some 0,
    body := { typ := 0x13, fmt := 0, epoch := 0, ldi := 0, sev := 0, stream := 0, phase := 0, wall := 0, bytes := List.replicate 16 0 } }

/-- A die with CODEC and QUEUE ON that runs `dmaTraceJob`: queue 3 is empty, of 1 KiB and under WAIT, but QUE_HOLD_CFG.RESV keeps the
whole Hold Buffer for items of SEV 6 and above. -/
def holdReserved : State :=
  { b := { flds := [(F.QUE_CTRL_EN.key, 1), ((F.QUE_CFG_EN.ix 3).key, 1), ((F.QUE_CFG_FULL.ix 3).key, 0), ((F.QUE_SIZE_KIB.ix 3).key, 1),
                    (F.QUE_HOLD_CFG_RESV.key, 128), ((domFld dQUEUE).key, 2), ((domFld dCODEC).key, 2)],
           pwr := { held := [] }, slk := { jobs := [dmaTraceJob], num := 1 } } }

/-- The job would leave its original record, which has no room there and waits. -/
theorem holdReserved_traceWaits : holdReserved.b.traceWaits 3 (holdReserved.b.jobOut dmaTraceJob) = true := by
  rw [Block.jobOut_short (by decide)]
  decide

/-- The stop there, with HOLD_FULL. -/
theorem holdReserved_jobStop :
    holdReserved.b.jobStop 0 = ((holdReserved.b.raise Ev.QUE_HOLD_FULL).stopTrace dmaTraceJob 0).slkGo := by
  rw [Block.jobStop_trace (j := dmaTraceJob) (by decide) (by decide) rfl holdReserved_traceWaits rfl, Block.jobOut_short (by decide)]
  exact congrArg (fun c => (Block.stopTrace c dmaTraceJob 0).slkGo) (if_pos (by decide))

/-- HOLD_FULL pends after that stop. -/
theorem holdReserved_jobStop_pends : (holdReserved.b.jobStop 0).pends Ev.QUE_HOLD_FULL = true := by
  rw [holdReserved_jobStop, Block.stopTrace_no_input (by decide)]
  decide

/-- It does not pend after the stop that the clause claims. -/
theorem holdReserved_stopTrace_pends : ((holdReserved.b.stopTrace dmaTraceJob 0).slkGo).pends Ev.QUE_HOLD_FULL = false := by
  rw [Block.stopTrace_no_input (by decide)]
  decide

/-- Refutes O40 in its clause on JOB_STOP: where the queue of a trace job waits because the Hold Buffer cannot store its output, the stop
also raises HOLD_FULL (R243), which the clause leaves out. -/
theorem not_silkwormJobs : ¬ Obligations.SilkwormJobs := by
  unfold Obligations.SilkwormJobs
  rintro ⟨-, -, -, -, hstop, -⟩
  have hexec := hstop holdReserved 0 0 dmaTraceJob (by decide) (by decide) holdReserved_traceWaits rfl _ rfl
  rw [exec_jobStop] at hexec
  rw [← Block.stopTrace] at hexec
  have hpends : (holdReserved.b.jobStop 0).pends Ev.QUE_HOLD_FULL =
      ((holdReserved.b.stopTrace dmaTraceJob 0).slkGo).pends Ev.QUE_HOLD_FULL :=
    congrArg (fun t => t.b.pends Ev.QUE_HOLD_FULL) (Host.Outcome.next.inj hexec)
  rw [holdReserved_jobStop_pends, holdReserved_stopTrace_pends] at hpends
  exact absurd hpends (by decide)

end Sys2Proof.Machine
end

section
namespace Sys2Proof.Machine

/-! What a command can do to the retained memory (R314, R348, R359, R364) -/

/-- A command outside `storesRet` acts on the block alone. -/
theorem exec_of_not_storesRet (i : Instr) (s : State) (h : storesRet i = false) : ∃ c : Block, exec i s = .next (s.put c) := by
  cases i
  case registerWrite | multiCommandWrite | vsbWrite | retDataAccess | sramPatrol | porReset => cases h
  case irqClaim who t => cases who <;> exact ⟨_, rfl⟩
  case irqEoi who t src => cases who <;> exact ⟨_, rfl⟩
  all_goals exact ⟨_, rfl⟩

section
variable (s : State) (m : Master)

theorem exec_multiCommandWrite (off data : Nat) :
    exec (.multiCommandWrite m off data) s =
      .next { s with mem := s.b.retStore m off 0xF data s.mem, b := s.b.regWrite m off 0xF data 0 } := rfl

theorem exec_vsbWrite (src off value : Nat) :
    ∃ c : Block, exec (.vsbWrite src off value) s =
      .next { s with mem := if s.b.vsbOn then (s.b.vsbHeard src).retStore .vsb off 0xF value s.mem else s.mem, b := c } := ⟨_, rfl⟩

/-- A write through PWR_RET_DATA is a write access whose word the retained memory takes (R364). -/
theorem exec_retDataAccess_write (data : Nat) :
    exec (.retDataAccess m true data) s =
      .next { s with mem := s.b.retStore m 0x10304 0xF data s.mem, b := s.b.write m 0x10304 data Block.retAdvance } := by
  have hstore : s.b.retStore m 0x10304 0xF data s.mem =
      if s.b.respCode m 0x10304 0xF true data = 0 ∧ 0x4000 ≤ s.b.retAddr then s.mem.setBytes s.b.retAddr (leBytes 4 data) else s.mem := by
    simp [Block.retStore]
  rw [hstore]
  rfl

theorem exec_retDataAccess_read (data : Nat) :
    exec (.retDataAccess m false data) s = .next (s.put (s.b.read m 0x10304 (fun b => (b.retWord s.mem, b.retAdvance)))) := rfl

theorem exec_porReset : exec .porReset s = .next { s with mem := [], b := s.b.por } := rfl

theorem exec_sramPatrol_on (w : SramWord) (hon : s.b.on dSTEWARD = true) :
    exec (.sramPatrol w) s =
      match w with
      | .clean => .next s
      | .corrected => .next (s.put (s.b.count F.INT_ECC_CORR))
      | .uncorr addr what => .next { s with mem := retWordLost s.mem what, b := s.b.wordLost false addr what } := by
  cases w <;> simp [exec, execSramPatrol, State.liftM, hon, State.put]

theorem exec_sramPatrol_off (w : SramWord) (hon : s.b.on dSTEWARD = false) : exec (.sramPatrol w) s = .next s := by
  simp [exec, execSramPatrol, State.liftM, hon]

end

/-- The address of PWR_RET_DATA is that of a word of the 64 KiB. -/
theorem Block.retAddr_word_lt (b : Block) : b.retAddr + 4 ≤ 65536 := by
  unfold Block.retAddr
  omega

/-- A frame heard on the sideband writes region 0xF alone (R343, R344). -/
theorem Block.vsbHeard_sameRegs (b : Block) (src : Nat) : b.sameRegs (b.vsbHeard src) [0xF] := by
  have hcount : b.sameRegs (b.count F.STW_VSB_STAT_FRAMES) [0xF] :=
    Block.sameRegs_count (Block.sameRegs_refl b _) 1 (by decide) (by decide)
  unfold Block.vsbHeard
  extract_lets c _ d _ e again f _
  have hd : b.sameRegs d [0xF] := Block.sameRegs_trans hcount (Block.sameRegs_of_flds rfl _)
  have he : b.sameRegs e [0xF] := Block.sameRegs_trans hd (Block.sameRegs_of_flds rfl _)
  have hf : b.sameRegs f [0xF] := by
    refine Block.sameRegs_trans ?_ (c := (e.setf F.STW_VSB_STATUS_SOLO 0).raise Ev.STW_VSB_REJOIN) (Block.sameRegs_of_flds rfl _)
    exact Block.sameRegs_raise (src := Ev.STW_VSB_REJOIN)
      (Block.sameRegs_setf (y := F.STW_VSB_STATUS_SOLO) he 0 (by decide) (by decide)) (by decide) (by decide) []
  clear_value d e f
  split
  · exact Block.sameRegs_raise (src := Ev.STW_VSB_ADDR_CLASH) hd (by decide) (by decide) _
  · split
    · exact Block.sameRegs_trans hf (Block.sameRegs_of_flds rfl _)
    · exact he

/-- A frame heard leaves the address of PWR_RET_DATA. -/
theorem Block.vsbHeard_retAddr (b : Block) (src : Nat) : (b.vsbHeard src).retAddr = b.retAddr := by
  unfold Block.retAddr
  rw [b.vsbHeard_sameRegs src F.PWR_RET_ADDR_WORD (by decide) (by decide)]

/-- What a write access does to the retained memory: nothing, or its word at the address of PWR_RET_DATA, in software's part. -/
theorem Block.retStore_cases (b : Block) (m : Master) (off strb word : Nat) (mem : Memory) :
    b.retStore m off strb word mem = mem ∨
      (0x4000 ≤ b.retAddr ∧ b.retStore m off strb word mem = mem.setBytes b.retAddr (leBytes 4 word)) := by
  unfold Block.retStore
  split
  · next h => exact Or.inr ⟨h.2.2, rfl⟩
  · exact Or.inl rfl

/-- All that a command can do: the queue stands; the retained memory stands, takes a word at the address of PWR_RET_DATA, loses a word, or
is cleared. -/
theorem exec_mem_cases {i : Instr} {s t : State} (h : exec i s = .next t) :
    t.pending = s.pending ∧
      (t.mem = s.mem ∨ (∃ word : Nat, 0x4000 ≤ s.b.retAddr ∧ t.mem = s.mem.setBytes s.b.retAddr (leBytes 4 word)) ∨
        (∃ what : SramHeld, t.mem = retWordLost s.mem what) ∨ t.mem = []) := by
  have hport : ∀ (b : Block) (m : Master) (off word : Nat), ∀ strb, b.retAddr = s.b.retAddr →
      let mem := b.retStore m off strb word s.mem
      mem = s.mem ∨ (∃ w : Nat, 0x4000 ≤ s.b.retAddr ∧ mem = s.mem.setBytes s.b.retAddr (leBytes 4 w)) ∨
        (∃ what : SramHeld, mem = retWordLost s.mem what) ∨ mem = [] := by
    intro b m off word strb ha
    rw [← ha]
    rcases b.retStore_cases m off strb word s.mem with hsame | ⟨hsoft, hput⟩
    · exact Or.inl hsame
    · exact Or.inr (Or.inl ⟨word, hsoft, hput⟩)
  cases hi : storesRet i
  case false =>
    obtain ⟨c, hc⟩ := exec_of_not_storesRet i s hi
    cases hc.symm.trans h
    exact ⟨rfl, Or.inl rfl⟩
  case true =>
    cases i
    case registerWrite m off strb data hw =>
      cases h
      exact ⟨rfl, hport s.b m off data strb rfl⟩
    case multiCommandWrite m off data =>
      cases h
      exact ⟨rfl, hport s.b m off data 0xF rfl⟩
    case vsbWrite src off value =>
      obtain ⟨c, hc⟩ := exec_vsbWrite s src off value
      cases hc.symm.trans h
      refine ⟨rfl, ?_⟩
      dsimp only
      split
      · exact hport _ .vsb off value 0xF (s.b.vsbHeard_retAddr src)
      · exact Or.inl rfl
    case retDataAccess m wr data =>
      cases wr
      case false => cases h; exact ⟨rfl, Or.inl rfl⟩
      case true =>
        cases (exec_retDataAccess_write s m data).symm.trans h
        exact ⟨rfl, hport s.b m 0x10304 data 0xF rfl⟩
    case sramPatrol w =>
      cases hon : s.b.on dSTEWARD
      case false => cases (exec_sramPatrol_off s w hon).symm.trans h; exact ⟨rfl, Or.inl rfl⟩
      case true =>
        rw [exec_sramPatrol_on s w hon] at h
        cases w <;> cases h
        · exact ⟨rfl, Or.inl rfl⟩
        · exact ⟨rfl, Or.inl rfl⟩
        · exact ⟨rfl, Or.inr (Or.inr (Or.inl ⟨_, rfl⟩))⟩
    case porReset => cases h; exact ⟨rfl, Or.inr (Or.inr (Or.inr rfl))⟩
    all_goals cases hi

/-! Software's part of the retained memory (R364) -/

/-- What is listed after a put was listed before, or is the new pair. -/
theorem SMap.mem_put {α : Type} {m : SMap α} {k : Nat} {v : α} {p : Nat × α} (h : p ∈ m.put k v) : p = (k, v) ∨ p ∈ m := by
  induction m with
  | nil => exact Or.inl (List.mem_singleton.mp h)
  | cons q t ih =>
    unfold SMap.put at h
    split at h
    · rcases List.mem_cons.mp h with hp | ht
      · exact Or.inl hp
      · exact Or.inr (List.mem_cons_of_mem q ht)
    · split at h
      · exact List.mem_cons.mp h
      · rcases List.mem_cons.mp h with hp | ht
        · exact Or.inr (hp ▸ List.mem_cons_self)
        · exact (ih ht).imp_right (List.mem_cons_of_mem q)

theorem Memory.soft_iff (m : Memory) : m.soft = true ↔ m.wf = true ∧ ∀ c ∈ m, 0x4000 ≤ c.1 ∧ c.1 < 0x10000 := by
  simp [Memory.soft, List.all_eq_true]

/-- Writing a byte of software's part keeps the memory in it. -/
theorem Memory.soft_setByte {m : Memory} {a : Nat} (v : Byte) (h : m.soft = true) (hlow : 0x4000 ≤ a) (hhigh : a < 0x10000) :
    (m.setByte a v).soft = true := by
  rw [Memory.soft_iff] at h ⊢
  refine ⟨Memory.wf_setByte m a v h.1, fun c hc => ?_⟩
  unfold Memory.setByte SMap.putD at hc
  split at hc
  · exact h.2 c (List.mem_filter.mp hc).1
  · rcases SMap.mem_put hc with rfl | hm
    · exact ⟨hlow, hhigh⟩
    · exact h.2 c hm

theorem Memory.soft_setBytes (bs : List Byte) : ∀ {m : Memory} {a : Nat}, m.soft = true → 0x4000 ≤ a → a + bs.length ≤ 0x10000 →
    (m.setBytes a bs).soft = true := by
  induction bs with
  | nil => intro m a h _ _; exact h
  | cons v t ih =>
    intro m a h hlow hhigh
    simp only [List.length_cons] at hhigh
    exact ih (Memory.soft_setByte v h hlow (by omega)) (by omega) (by omega)

/-- A lost word takes entries off. -/
theorem mem_of_mem_retWordLost {m : Memory} {what : SramHeld} {c : Host.Cell} (h : c ∈ retWordLost m what) : c ∈ m := by
  unfold retWordLost at h
  split at h
  · dsimp only at h
    split at h
    · exact h
    · exact (List.mem_filter.mp h).1
  · exact h

theorem Memory.soft_retWordLost {m : Memory} (what : SramHeld) (h : m.soft = true) : (retWordLost m what).soft = true := by
  rw [Memory.soft_iff] at h ⊢
  exact ⟨Memory.wf_retWordLost m what h.1, fun c hc => h.2 c (mem_of_mem_retWordLost hc)⟩

/-- Every command keeps the invariant. -/
theorem exec_keeps_inv {i : Instr} {s t : State} (hinv : s.Inv) (h : exec i s = .next t) : t.Inv := by
  have haddr := s.b.retAddr_word_lt
  unfold State.Inv at hinv ⊢
  obtain ⟨-, hsame | ⟨word, hsoft, hput⟩ | ⟨what, hlost⟩ | hclear⟩ := exec_mem_cases h
  · rw [hsame]; exact hinv
  · rw [hput]; exact Memory.soft_setBytes _ hinv hsoft (by rw [leBytes_length]; exact haddr)
  · rw [hlost]; exact Memory.soft_retWordLost what hinv
  · rw [hclear]; rfl

/-- Settles O4: a step is an idle cycle, which leaves the retained memory, or the front command, which keeps the invariant. -/
theorem stepKeepsInv : Obligations.StepKeepsInv := by
  unfold Obligations.StepKeepsInv
  intro s t hinv hstep
  unfold step at hstep
  split at hstep
  · next c rest _ => exact exec_keeps_inv (s := { s with pending := rest }) hinv hstep
  · cases hstep
    exact hinv

/-! Bytes of the retained memory that a command leaves -/

/-- Taking keys off leaves what the other keys read. -/
theorem SMap.getD_filter_kept {α : Type} (m : SMap α) (p : Nat × α → Bool) (d : α) {k : Nat} (hkeep : ∀ v : α, p (k, v) = true) :
    SMap.getD (m.filter p) k d = m.getD k d := by
  unfold SMap.getD
  congr 1
  induction m with
  | nil => rfl
  | cons q t ih =>
    obtain ⟨j, w⟩ := q
    by_cases hj : j = k
    · subst hj; simp [hkeep, SMap.find]
    · by_cases hp : p (j, w) = true
      · simp [hp, SMap.find, hj, ih]
      · simp [hp, SMap.find, hj, ih]

/-- A lost word leaves the bytes outside its eight. -/
theorem Memory.byte_retWordLost (m : Memory) {w a : Nat} (h : a < w % 65536 / 8 * 8 ∨ w % 65536 / 8 * 8 + 8 ≤ a) :
    (retWordLost m (.retained w)).byte a = m.byte a := by
  unfold retWordLost
  dsimp only
  split
  · rfl
  · refine SMap.getD_filter_kept m _ 0 (fun v => ?_)
    simp only [Bool.not_eq_true', Bool.and_eq_false_iff, decide_eq_false_iff_not]
    omega

/-- A write access leaves the bytes outside the word at the address of PWR_RET_DATA. -/
theorem Block.byte_retStore (b : Block) (m : Master) (off strb word : Nat) (mem : Memory) {a : Nat}
    (h : a < b.retAddr ∨ b.retAddr + 4 ≤ a) : (b.retStore m off strb word mem).byte a = mem.byte a := by
  rcases b.retStore_cases m off strb word mem with hsame | ⟨-, hput⟩
  · rw [hsame]
  · rw [hput]
    exact Memory.byte_setBytes_other _ mem _ a (by rwa [leBytes_length])

/-- Whatever direction its access has, PWR_RET_DATA changes the bytes of one word alone. -/
theorem exec_retDataAccess_byte (s : State) (m : Master) (wr : Bool) (data : Nat) {a : Nat}
    (h : a < s.b.retAddr ∨ s.b.retAddr + 4 ≤ a) :
    ∃ t : State, exec (.retDataAccess m wr data) s = .next t ∧ t.mem.byte a = s.mem.byte a := by
  cases wr
  case false => exact ⟨_, exec_retDataAccess_read s m data, rfl⟩
  case true => exact ⟨_, exec_retDataAccess_write s m data, Block.byte_retStore s.b m _ _ data s.mem h⟩

/-- Settles O5: the queue and the commands outside `storesRet` by what a command can do to the retained memory, the bytes that each of the
others leaves by `Block.byte_retStore` and `Memory.byte_retWordLost`. -/
theorem memoryFrame : Obligations.MemoryFrame := by
  unfold Obligations.MemoryFrame
  refine ⟨?_, ?_, ?_, ?_, ?_, ?_, ?_⟩
  · intro i s t h
    refine ⟨(exec_mem_cases h).1, fun hi => ?_⟩
    obtain ⟨c, hc⟩ := exec_of_not_storesRet i s hi
    cases hc.symm.trans h
    rfl
  · intro s m off strb data hw hoff
    exact ⟨_, exec_registerWrite m off strb data hw s, Block.retStore_elsewhere _ _ _ _ _ hoff⟩
  · intro s m off strb data hw a ha
    exact ⟨_, exec_registerWrite m off strb data hw s, Block.byte_retStore s.b m off strb data s.mem ha⟩
  · intro s m off data a ha
    exact ⟨_, exec_multiCommandWrite s m off data, Block.byte_retStore s.b m off 0xF data s.mem ha⟩
  · intro s src off value a ha
    obtain ⟨c, hc⟩ := exec_vsbWrite s src off value
    refine ⟨_, hc, ?_⟩
    dsimp only
    split
    · exact Block.byte_retStore _ .vsb off 0xF value s.mem (by rwa [Block.vsbHeard_retAddr])
    · rfl
  · intro s m wr data a ha
    exact exec_retDataAccess_byte s m wr data ha
  · intro s addr w a ha
    cases hon : s.b.on dSTEWARD
    · exact ⟨_, exec_sramPatrol_off s _ hon, rfl⟩
    · exact ⟨_, exec_sramPatrol_on s _ hon, Memory.byte_retWordLost s.mem ha⟩

end Sys2Proof.Machine
end

section
namespace Sys2Proof.Machine

/-! Words of the retained memory through PWR_RET_DATA (R364) -/

/-- A word is the number that its four bytes spell. -/
theorem Memory.word_eq_ofLe (m : Memory) (a : Nat) :
    m.word a = ofLe [m.byte a, m.byte (a + 1), m.byte (a + 2), m.byte (a + 3)] := by
  simp only [Memory.word, ofLe]
  omega

/-- Bytes just written are read back. -/
theorem Memory.byte_setBytes_at (bs : List Byte) : ∀ (m : Memory) (a i : Nat) (h : i < bs.length), (m.setBytes a bs).byte (a + i) = bs[i] := by
  induction bs with
  | nil => intro m a i h; cases h
  | cons v t ih =>
    intro m a i h
    rw [Memory.setBytes]
    cases i with
    | zero => rw [Memory.byte_setBytes_other t _ (a + 1) (a + 0) (by omega)]; exact Memory.byte_setByte_same m a v
    | succ i =>
      rw [show a + (i + 1) = a + 1 + i by omega]
      exact ih _ (a + 1) i (by simpa using h)

/-- A word just written is read back, cut to its 32 bits. -/
theorem Memory.word_setBytes_leBytes (m : Memory) (a data : Nat) : (m.setBytes a (leBytes 4 data)).word a = data % 2 ^ 32 := by
  have hbyte (i : Nat) (h : i < 4) := Memory.byte_setBytes_at (leBytes 4 data) m a i (by rwa [leBytes_length])
  rw [Memory.word_eq_ofLe, hbyte 1 (by decide), hbyte 2 (by decide), hbyte 3 (by decide), show (m.setBytes a (leBytes 4 data)).byte a = _ from
    hbyte 0 (by decide)]
  exact ofLe_leBytes 4 data

/-- A word whose bytes all read 0. -/
theorem Memory.word_zero {m : Memory} {a : Nat} (h : ∀ i < 4, m.byte (a + i) = 0) : m.word a = 0 := by
  have h0 : m.byte a = 0 := h 0 (by decide)
  simp [Memory.word, h0, h 1, h 2, h 3]

section
variable {s : State} {m : Master} {data : Nat}

/-- What an accepted write through PWR_RET_DATA leaves. -/
theorem exec_retDataAccess_write_ok (hok : s.b.respCode m 0x10304 0xF true data = 0) :
    exec (.retDataAccess m true data) s = .next { s with
      mem := if 0x4000 ≤ s.b.retAddr then s.mem.setBytes s.b.retAddr (leBytes 4 data) else s.mem, b := s.b.retAdvance.answer m 0 0 } := by
  rw [exec_retDataAccess_write, Block.write_ok _ hok]
  simp [Block.retStore, hok]

/-- An accepted read answers the word at the address, in software's part. -/
theorem exec_retDataAccess_read_ok (hok : s.b.respCode m 0x10304 0xF false 0 = 0) (hsoft : 0x4000 ≤ s.b.retAddr) :
    exec (.retDataAccess m false data) s = .next (s.put (s.b.retAdvance.answer m 0 (s.mem.word s.b.retAddr))) := by
  rw [exec_retDataAccess_read, Block.read_ok _ hok, Block.retWord, if_neg (by omega)]

/-- Settles O57: what an accepted access leaves, the bytes that a write leaves, and the wrap of a 14-bit word number. -/
theorem retainedMemory : Obligations.RetainedMemory := by
  unfold Obligations.RetainedMemory
  refine ⟨?_, ?_, ?_, ?_, ?_, ?_⟩
  · intro s m data hok hsoft
    refine ⟨_, exec_retDataAccess_write_ok hok, rfl, ?_, rfl⟩
    rw [if_pos hsoft]
    exact Memory.word_setBytes_leBytes _ _ _
  · intro s m data a ha
    exact exec_retDataAccess_byte s m true data ha
  · intro s m data hok hown
    exact ⟨_, exec_retDataAccess_write_ok hok, rfl, if_neg (by omega), rfl⟩
  · intro s m data hok hsoft
    exact ⟨_, exec_retDataAccess_read_ok hok hsoft, rfl, rfl, rfl⟩
  · intro s m wr data hcode
    cases wr
    case false => exact ⟨_, exec_retDataAccess_read s m data, rfl⟩
    case true => exact ⟨_, exec_retDataAccess_write s m data, Block.retStore_refused s.b m _ _ data s.mem hcode⟩
  · intro b hlast c hc
    have hword : c.f F.PWR_RET_ADDR_WORD = 0 := by
      rw [hc, Block.retAdvance, hlast, Block.f_setf_same]
      rfl
    exact ⟨hword, by rw [Block.retAddr, hlast], by rw [Block.retAddr, hword]⟩

end

/-! Words that fail their check (R313, R314, R348) and the Memory Port (R385, R386) -/

section
variable (s : State)

theorem exec_memoryResponse (ch tag addr : Nat) (data : List Byte) (chk : Nat) (err : Bool) (held : SramHeld) :
    exec (.memoryResponse ch tag addr data chk err held) s = .next (s.put (s.b.memResponse ch tag addr data chk err held)) := rfl

theorem exec_memoryTimeout (ch tag addr : Nat) (held : SramHeld) :
    exec (.memoryTimeout ch tag addr held) s = .next (s.put (s.b.memTimeout ch tag addr held)) := rfl

theorem exec_selfRefreshAck (level : Bool) :
    exec (.selfRefreshAck level) s =
      .next (s.put (if s.b.syn.agg then { s.b with pins := { s.b.pins with mpSrAck := level } } else s.b)) := rfl

end

/-- A lost word of software's part of the retained memory is reported by RET_ERR alone (R348). -/
theorem Block.wordLost_soft (b : Block) (addr : Nat) {a : Nat} (hlow : 0x4000 ≤ a) (hhigh : a < 0x10000) :
    b.wordLost false addr (.retained a) = b.raise Ev.PWR_RET_ERR := by
  have hcut : a % 65536 = a := Nat.mod_eq_of_lt hhigh
  simp only [Block.wordLost, Block.wordReport, Block.valueLost, Block.retLost, hcut, if_pos hlow]

/-- The bytes of a lost word of software's part read 0. -/
theorem Memory.byte_lost (m : Memory) {a x : Nat} (hlow : 0x4000 ≤ a) (hhigh : a < 0x10000) (h : a / 8 * 8 ≤ x) (h' : x < a / 8 * 8 + 8) :
    (retWordLost m (.retained a)).byte x = 0 := by
  have hcut : a % 65536 = a := Nat.mod_eq_of_lt hhigh
  unfold retWordLost
  dsimp only
  rw [hcut, if_neg (by omega), Memory.byte, SMap.getD]
  generalize hf : (m.filter _) = l
  have hnone : ∀ c ∈ l, c.1 ≠ x := by
    intro c hc
    rw [← hf] at hc
    have := (List.mem_filter.mp hc).2
    simp only [Bool.not_eq_true', Bool.and_eq_false_iff, decide_eq_false_iff_not] at this
    omega
  clear hf
  induction l with
  | nil => rfl
  | cons c t ih =>
    obtain ⟨k, v⟩ := c
    rw [SMap.find, if_neg (hnone _ List.mem_cons_self)]
    exact ih (fun c hc => hnone c (List.mem_cons_of_mem _ hc))

section
variable {b : Block} {ch tag addr chk : Nat} {data : List Byte} {err : Bool} {held : SramHeld}

/-- A response to a tag that timed out is discarded (R385). -/
theorem Block.memResponse_late (hagg : b.syn.agg = true) (hlate : b.mp.late.contains (mpKey ch tag) = true) :
    b.memResponse ch tag addr data chk err held = { b with mp := { late := b.mp.late.erase (mpKey ch tag) } } := by
  rw [Block.memResponse, if_neg (by simp [hagg]), if_pos hlate]

/-- A sound response changes nothing, and the D build has none. -/
theorem Block.memResponse_sound (hlate : b.mp.late.contains (mpKey ch tag) = false) (hchk : lineCheck addr data = chk) :
    b.memResponse ch tag addr data chk false held = b := by
  unfold Block.memResponse
  split
  · rfl
  · rw [hlate, if_neg Bool.false_ne_true, if_neg (by simp [hchk])]

/-- A response in error, or whose check differs, is a DRAM line failure (R385). -/
theorem Block.memResponse_fails (hagg : b.syn.agg = true) (hlate : b.mp.late.contains (mpKey ch tag) = false)
    (hfail : err = true ∨ lineCheck addr data ≠ chk) :
    b.memResponse ch tag addr data chk err held = b.wordLost true (addr * 64) held (lineCheck addr data) chk := by
  rw [Block.memResponse, if_neg (by simp [hagg]), if_neg (by simp only [hlate, Bool.false_eq_true, not_false_eq_true]), if_pos hfail]

/-- A request without an answer is a DRAM line failure, and its tag stays in use (R385). -/
theorem Block.memTimeout_due (hagg : b.syn.agg = true) (hlate : b.mp.late.contains (mpKey ch tag) = false) :
    b.memTimeout ch tag addr held = ({ b with mp := { late := mpKey ch tag :: b.mp.late } } : Block).wordLost true (addr * 64) held := by
  rw [Block.memTimeout, if_neg (by simp only [hagg, hlate, Bool.false_eq_true, not_true_eq_false, or_self, not_false_eq_true])]

end

/-- Settles O58: the patrol's word by its outcome and what it held, responses and timeouts by their cases. -/
theorem memoryChecks : Obligations.MemoryChecks := by
  unfold Obligations.MemoryChecks
  refine ⟨?_, ?_, ?_, ?_, ?_, ?_, ?_, ?_, ?_, ?_, ?_, ?_, ?_, ?_, ?_, ?_⟩
  · intro s
    cases hon : s.b.on dSTEWARD
    · exact exec_sramPatrol_off s _ hon
    · exact exec_sramPatrol_on s _ hon
  · intro s hon
    exact exec_sramPatrol_on s _ hon
  · rintro s addr tag hon c rfl
    exact exec_sramPatrol_on s _ hon
  · rintro s addr e hon c rfl d rfl
    exact exec_sramPatrol_on s _ hon
  · intro s addr a hon hlow hhigh
    have hbyte (x : Nat) := Memory.byte_lost s.mem (x := x) hlow hhigh
    refine ⟨_, exec_sramPatrol_on s _ hon, Block.wordLost_soft s.b addr hlow hhigh, ?_, ?_, rfl⟩
    · exact Memory.word_zero (fun i hi => hbyte _ (by omega) (by omega))
    · exact Memory.word_zero (fun i hi => hbyte _ (by omega) (by omega))
  · intro s addr what hon
    exact ⟨_, exec_sramPatrol_on s _ hon, rfl, rfl⟩
  · intro s addr a x hlow hhigh hx
    have hcut : a % 65536 = a := Nat.mod_eq_of_lt hhigh
    cases hon : s.b.on dSTEWARD
    · exact ⟨_, exec_sramPatrol_off s _ hon, rfl⟩
    · exact ⟨_, exec_sramPatrol_on s _ hon, Memory.byte_retWordLost s.mem (by rwa [hcut])⟩
  · intro s w hon
    exact exec_sramPatrol_off s w hon
  · rintro s ch tag addr chk data err held hagg k rfl hlate
    rw [exec_memoryResponse, Block.memResponse_late hagg hlate]
    rfl
  · intro s ch tag addr chk data held hlate hchk
    rw [exec_memoryResponse, Block.memResponse_sound hlate hchk]
  · intro s ch tag addr chk data err held hagg hlate hfail
    rw [exec_memoryResponse, Block.memResponse_fails hagg hlate hfail]
    rfl
  · intro s ch tag addr chk data err held hagg
    rw [exec_memoryResponse, Block.memResponse, if_pos (by simp [hagg])]
  · rintro s ch tag addr hagg k rfl hlate b0 rfl c rfl
    rw [exec_memoryTimeout, Block.memTimeout_due hagg hlate]
    rfl
  · rintro s ch tag addr held hagg k rfl hlate
    rw [exec_memoryTimeout, Block.memTimeout_due hagg hlate]
    rfl
  · intro s ch tag addr held h
    have hstay : ¬s.b.syn.agg = true ∨ s.b.mp.late.contains (mpKey ch tag) = true := h.imp_left (by simp)
    rw [exec_memoryTimeout, Block.memTimeout, if_pos hstay]
  · intro s level hagg
    rw [exec_selfRefreshAck, if_pos hagg]

end Sys2Proof.Machine
end

section
namespace Sys2Proof.Machine

/-! The commands of the Steward and of the sync counters: each is its function on the block -/

section
variable (s : State)

theorem exec_postRecheck : exec .postRecheck s = .next (s.put s.b.postRecheck) := rfl

theorem exec_loadWindow (ready : Nat) : exec (.loadWindow ready) s = .next (s.put (s.b.loadWindow ready)) := rfl

theorem exec_wdogWarn (duty : Nat) : exec (.wdogWarn duty) s = .next (s.put (s.b.wdogWarn duty)) := rfl

theorem exec_wdogTimeout (duty : Nat) : exec (.wdogTimeout duty) s = .next (s.put (s.b.wdogTimeout duty)) := rfl

variable (who : Agent) (i n : Nat)

theorem exec_synRead : exec (.synRead who i n) s = .next (s.put (s.b.synBy who 0 i n)) := rfl

theorem exec_synInc : exec (.synInc who i n) s = .next (s.put (s.b.synBy who 1 i n)) := rfl

theorem exec_synDec : exec (.synDec who i n) s = .next (s.put (s.b.synBy who 2 i n)) := rfl

theorem exec_synTake : exec (.synTake who i n) s = .next (s.put (s.b.synBy who 3 i n)) := rfl

theorem exec_synSet : exec (.synSet who i n) s = .next (s.put (s.b.synBy who 4 i n)) := rfl

theorem exec_synClrf : exec (.synClrf who i n) s = .next (s.put (s.b.synBy who 5 i n)) := rfl

theorem exec_synReservedOp (op : Nat) : exec (.synReservedOp who op i n) s = .next (s.put (s.b.synBy who (6 + op % 2) i n)) := rfl

end

/-! Posts, windows and the watchdog (R329, R330) -/

section
variable {b : Block}

theorem Block.postRecheck_due (hon : b.on dSTEWARD = true) (hdue : b.stw.recheck + b.us 1000 ≤ b.clk.core) {c : Block}
    (hc : c = { b with stw := { b.stw with recheck := b.clk.core } }) : b.postRecheck = c.conditions.foldl Block.post c := by
  rw [Block.postRecheck, if_pos ⟨hon, hdue⟩, hc]

theorem Block.postRecheck_early (h : b.clk.core < b.stw.recheck + b.us 1000) : b.postRecheck = b := by
  rw [Block.postRecheck, if_neg (by omega)]

variable {ready total : Nat} (ht : total = b.us 1000) (hon : b.on dSTEWARD = true) (hend : b.stw.windowStart + total ≤ b.clk.core)
include ht hon hend

/-- At the end of a window without shedding the load and its bin are recorded (R330). -/
theorem Block.loadWindow_no_shed (hoff : b.is F.STW_CTRL_SHED_EN = false) (hlevel : b.f F.STW_STATUS_LEVEL = 0)
    (hlow : 100 * min ready total < b.f F.STW_SHED_HIGH * total) {c d : Block}
    (hc : c = { b with stw := { b.stw with windowStart := b.clk.core, hiRun := 0, loRun := 0 } })
    (hd : d = (c.setf F.STW_STATUS_LOAD (100 * min ready total / total)).count
      (F.STW_HIST_WINDOWS.ix (min 15 (16 * min ready total / total)))) :
    b.loadWindow ready = d.setf F.STW_STATUS_LEVEL 0 := by
  subst ht hc hd
  have hhi : decide (b.f F.STW_SHED_HIGH * b.us 1000 ≤ 100 * min ready (b.us 1000)) = false := decide_eq_false (by omega)
  unfold Block.loadWindow
  dsimp only
  rw [if_pos ⟨hon, hend⟩, hoff, hhi, hlevel]
  rfl

/-- A high window that completes its run of SPAN raises the shed level (R330). -/
theorem Block.loadWindow_sheds {lv : Nat} (hshed : b.is F.STW_CTRL_SHED_EN = true) (hlv : lv = b.f F.STW_STATUS_LEVEL) (hlt : lv < 3)
    (hhigh : b.f F.STW_SHED_HIGH * total ≤ 100 * min ready total) (hspan : atLeast1 (b.f F.STW_SHED_SPAN) ≤ b.stw.hiRun + 1)
    {c d : Block} (hc : c = { b with stw := { b.stw with windowStart := b.clk.core, hiRun := 0, loRun := 0 } })
    (hd : d = ((c.setf F.STW_STATUS_LOAD (100 * min ready total / total)).count
      (F.STW_HIST_WINDOWS.ix (min 15 (16 * min ready total / total)))).raise Ev.STW_OVERLOAD) :
    b.loadWindow ready = (d.setf F.STW_STATUS_LEVEL (lv + 1)).raise Ev.STW_SHED := by
  subst ht hc hd
  have hhi : decide (b.f F.STW_SHED_HIGH * b.us 1000 ≤ 100 * min ready (b.us 1000)) = true := decide_eq_true hhigh
  have hrise (lo : Bool) : shedLevel lv b.stw.hiRun b.stw.loRun (atLeast1 (b.f F.STW_SHED_SPAN)) true lo = (lv + 1, 0, 0) :=
    if_pos ⟨hspan, hlt⟩
  have hmoved : (lv + 1 != lv) = true := by simp
  unfold Block.loadWindow
  dsimp only
  rw [if_pos ⟨hon, hend⟩, if_pos hshed, hhi, ← hlv, hrise]
  simp only [hmoved, Block.raiseIf, if_true]

end

/-- The shed level moves by one at most, up only in a high window and down only in a low one (R330). -/
theorem shedLevel_bounds {level : Nat} (hiRun loRun span : Nat) (hi lo : Bool) (h : level ≤ 3) {x : Nat × Nat × Nat}
    (hx : x = shedLevel level hiRun loRun span hi lo) :
    x.1 ≤ 3 ∧ x.1 ≤ level + 1 ∧ level ≤ x.1 + 1 ∧ (hi = false → x.1 ≤ level ∨ span = 0) ∧ (lo = false → level ≤ x.1 ∨ span = 0) := by
  subst hx
  unfold shedLevel
  generalize hh : (if hi then hiRun + 1 else 0) = h'
  generalize hl : (if lo then loRun + 1 else 0) = l'
  have hno : hi = false → h' = 0 := fun e => by rw [← hh, e]; rfl
  have lno : lo = false → l' = 0 := fun e => by rw [← hl, e]; rfl
  dsimp only
  split
  · next hup => exact ⟨by omega, le_refl _, by omega, fun e => by have := hno e; omega, fun _ => by omega⟩
  · split
    · next hdown => exact ⟨by omega, by omega, by omega, fun _ => by omega, fun e => by have := lno e; omega⟩
    · exact ⟨h, by omega, by omega, fun _ => by omega, fun _ => by omega⟩

theorem Block.wdogWarn_silent {b : Block} {duty : Nat} (hon : b.on dSTEWARD = true) (hduty : duty < 4) (hnew : duty ∉ b.stw.warned)
    (hsilent : b.wdogTime ≤ 2 * b.silent duty) :
    b.wdogWarn duty = ({ b with stw := { b.stw with warned := duty :: b.stw.warned } } : Block).raise Ev.STW_WDOG_WARN := by
  rw [Block.wdogWarn, if_pos ⟨hon, hduty, hnew, hsilent⟩]

theorem Block.wdogTimeout_silent {b : Block} {duty : Nat} (hon : b.on dSTEWARD = true) (hduty : duty < 4)
    (hsilent : b.wdogTime ≤ b.silent duty) :
    b.wdogTimeout duty = ({ b with fab := { b.fab with hbStopped := true } } : Block).reset 4 := by
  rw [Block.wdogTimeout, if_pos ⟨hon, hduty, hsilent⟩]

/-- Settles O48, each clause from the lemma on its command. -/
theorem stewardLoadAndPosts : Obligations.StewardLoadAndPosts := by
  unfold Obligations.StewardLoadAndPosts
  refine ⟨?_, ?_, ?_, ?_, ?_, ?_, ?_, ?_, ?_, ?_, ?_⟩
  · intro s hon hdue c hc
    rw [exec_postRecheck, Block.postRecheck_due hon hdue hc]
  · intro s hearly
    rw [exec_postRecheck, Block.postRecheck_early hearly]
  · intro b duty hroom
    exact if_pos hroom
  · intro b duty hfull
    exact if_neg (by simp [hfull])
  · intro s ready total ht hon hend hoff hlevel hlow c hc d hd
    rw [exec_loadWindow, Block.loadWindow_no_shed ht hon hend hoff hlevel hlow hc hd]
  · intro s ready total ht hon hend hshed lv hlv hlt hhigh _ hspan c hc d hd
    rw [exec_loadWindow, Block.loadWindow_sheds ht hon hend hshed hlv hlt hhigh hspan hc hd]
  · intro level hiRun loRun span hi lo h x hx
    exact shedLevel_bounds hiRun loRun span hi lo h hx
  · intro s duty hon hduty hnew hsilent
    rw [exec_wdogWarn, Block.wdogWarn_silent hon hduty hnew hsilent]
  · intro s duty h
    rw [exec_wdogWarn, Block.wdogWarn, if_neg]
    rintro ⟨-, hduty, hnew, hsilent⟩
    unfold Block.silent at hsilent
    rcases h with h | h | h
    · omega
    · exact hnew h
    · omega
  · intro s duty hon hduty hsilent
    rw [exec_wdogTimeout, Block.wdogTimeout_silent hon hduty hsilent]
  · intro s duty h
    rw [exec_wdogTimeout, Block.wdogTimeout, if_neg]
    rintro ⟨-, hduty, hsilent⟩
    unfold Block.silent at hsilent
    omega

/-! Sync counters (R331, R332) -/

section
variable {b : Block} {m : Master} {w op i n : Nat}

/-- A master's operation is one write of SYN_CMD. -/
theorem Block.synBy_master (hok : b.respCode m 0xF100 0xF true (i % 4096 + op % 8 * 4096 + n % 65536 * 65536) = 0) :
    b.synBy (.master m) op i n = (b.synOp (.master m) op i n).answer m 0 0 :=
  Block.write_ok (fun b => b.synOp (.master m) op i n) hok

/-- A thread's operation acts while STEWARD is ON. -/
theorem Block.synBy_thread (hon : b.on dSTEWARD = true) : b.synBy (.thread w) op i n = b.synOp (.thread w) op i n := if_pos hon

theorem synDenied_low (m : Master) (h : i < 256) : synDenied (.master m) i = true := decide_eq_true h

theorem synDenied_high (m : Master) (h : 256 ≤ i) : synDenied (.master m) i = false := decide_eq_false (by omega)

theorem synDenied_thread (w i : Nat) : synDenied (.thread w) i = false := rfl

theorem Block.synOp_read (who : Agent) : b.synOp who 0 i n = b.synAnswer who.num (i % 4096) 0 := rfl

theorem Block.synOp_inc_denied {who : Agent} (hden : synDenied who (i % 4096) = true) :
    b.synOp who 1 i n = b.synAnswer who.num (i % 4096) 4 := by
  simp [Block.synOp, hden]

theorem synInc_within {x : SynCtr} (h : x.v + n ≤ 0xFFFF) : synInc x n = ({ x with v := x.v + n }, 0) := if_neg (by omega)

theorem synInc_over {x : SynCtr} (h : 0xFFFF < x.v + n) : synInc x n = ({ x with v := 0xFFFF, ovf := true }, 2) := if_pos h

theorem synDec_within {x : SynCtr} (h : n ≤ x.v) : synDec x n = ({ x with v := x.v - n }, 0) := if_neg (by omega)

theorem synDec_under {x : SynCtr} (h : x.v < n) : synDec x n = ({ x with v := 0, unf := true }, 3) := if_pos h

theorem synTake_ready {x : SynCtr} (h : n ≤ x.v) : synTake x n = ({ x with v := x.v - n }, 0) := if_pos h

theorem synTake_notReady {x : SynCtr} (h : x.v < n) : synTake x n = (x, 1) := if_neg (by omega)

variable {who : Agent} (hden : synDenied who (i % 4096) = false)
include hden

theorem Block.synOp_inc_within (h : (b.ctr (i % 4096)).v + n % 65536 ≤ 0xFFFF) :
    b.synOp who 1 i n = ((b.setCtr (i % 4096) { b.ctr (i % 4096) with v := (b.ctr (i % 4096)).v + n % 65536 }).synAnswer who.num
      (i % 4096) 0).synWake (i % 4096) := by
  simp [Block.synOp, hden, synInc_within h]

theorem Block.synOp_inc_over (h : 0xFFFF < (b.ctr (i % 4096)).v + n % 65536) :
    b.synOp who 1 i n = (((b.setCtr (i % 4096) { b.ctr (i % 4096) with v := 0xFFFF, ovf := true }).synAnswer who.num
      (i % 4096) 2).synFault who.num (i % 4096) 0).synWake (i % 4096) := by
  simp [Block.synOp, hden, synInc_over h]

theorem Block.synOp_dec_within (h : n % 65536 ≤ (b.ctr (i % 4096)).v) :
    b.synOp who 2 i n = (b.setCtr (i % 4096) { b.ctr (i % 4096) with v := (b.ctr (i % 4096)).v - n % 65536 }).synAnswer who.num
      (i % 4096) 0 := by
  simp [Block.synOp, hden, synDec_within h]

theorem Block.synOp_dec_under (h : (b.ctr (i % 4096)).v < n % 65536) :
    b.synOp who 2 i n = ((b.setCtr (i % 4096) { b.ctr (i % 4096) with v := 0, unf := true }).synAnswer who.num
      (i % 4096) 3).synFault who.num (i % 4096) 1 := by
  simp [Block.synOp, hden, synDec_under h]

theorem Block.synOp_take_ready (h : n % 65536 ≤ (b.ctr (i % 4096)).v) :
    b.synOp who 3 i n = (b.setCtr (i % 4096) { b.ctr (i % 4096) with v := (b.ctr (i % 4096)).v - n % 65536 }).synAnswer who.num
      (i % 4096) 0 := by
  cases who <;> simp [Block.synOp, hden, synTake_ready h]

theorem Block.synOp_set (h : b.syn_.waiters.any (fun y => y.2.1 == i % 4096) = false) :
    b.synOp who 4 i n = (b.setCtr (i % 4096) { b.ctr (i % 4096) with v := n % 65536 }).synAnswer who.num (i % 4096) 0 := by
  unfold Block.synOp
  simp only [hden, h, Bool.false_eq_true, if_false, OfNat.ofNat_ne_zero]

theorem Block.synOp_set_waiting (h : b.syn_.waiters.any (fun y => y.2.1 == i % 4096) = true) :
    b.synOp who 4 i n = b.synAnswer who.num (i % 4096) 4 := by
  unfold Block.synOp
  simp only [hden, h, Bool.false_eq_true, if_false, if_true, OfNat.ofNat_ne_zero]

theorem Block.synOp_clrf :
    b.synOp who 5 i n = (b.setCtr (i % 4096) { b.ctr (i % 4096) with ovf := false, unf := false }).synAnswer who.num (i % 4096) 0 := by
  simp [Block.synOp, hden]

end

/-- OP 6 and 7 are DENIED (R331). -/
theorem Block.synOp_reserved (b : Block) (who : Agent) (op i n : Nat) :
    b.synOp who (6 + op % 2) i n = b.synAnswer who.num (i % 4096) 4 := by
  unfold Block.synOp
  dsimp only
  rw [if_neg (by omega)]
  rcases Nat.mod_two_eq_zero_or_one op with h | h <;> rw [h] <;> exact ite_self _

/-- A master's TAKE that finds too little answers NOTREADY. -/
theorem Block.synOp_take_master {b : Block} {m : Master} {i n : Nat} (hi : 256 ≤ i % 4096) (h : (b.ctr (i % 4096)).v < n % 65536) :
    b.synOp (.master m) 3 i n = (b.setCtr (i % 4096) (b.ctr (i % 4096))).synAnswer m.num (i % 4096) 1 := by
  simp [Block.synOp, synDenied_high m hi, synTake_notReady h, Agent.num]

/-- A thread's TAKE that finds too little waits (R332). -/
theorem Block.synOp_take_thread {b : Block} {w i n : Nat} (h : (b.ctr (i % 4096)).v < n % 65536) {c : Block}
    (hc : c = (b.setCtr (i % 4096) (b.ctr (i % 4096))).synAnswer (8 + w % 8) (i % 4096) 1) :
    b.synOp (.thread w) 3 i n = { c with syn_ := { c.syn_ with waiters := c.syn_.waiters ++ [(w % 8, i % 4096, n % 65536)] } } := by
  simp [Block.synOp, synDenied_thread, synTake_notReady h, Agent.num, hc]

/-- What the operations do to a counter (Table 15-2). -/
theorem synCounter_bounds (c : SynCtr) (n : Nat) :
    (synInc c n).1.v = min 0xFFFF (c.v + n) ∧ (synDec c n).1.v = c.v - n ∧ (synTake c n).1.v ≤ c.v ∧
      ((synInc c n).1.ovf = true ↔ c.ovf = true ∨ 0xFFFF < c.v + n) ∧ ((synDec c n).1.unf = true ↔ c.unf = true ∨ c.v < n) ∧
      (synTake c n).1.unf = c.unf := by
  have hinc : (synInc c n).1.v = min 0xFFFF (c.v + n) ∧ ((synInc c n).1.ovf = true ↔ c.ovf = true ∨ 0xFFFF < c.v + n) := by
    unfold synInc
    split
    · next hover => exact ⟨by simp only; omega, by simp [hover]⟩
    · next hover => exact ⟨by simp only; omega, by simp [hover]⟩
  have hdec : (synDec c n).1.v = c.v - n ∧ ((synDec c n).1.unf = true ↔ c.unf = true ∨ c.v < n) := by
    unfold synDec
    split
    · next hunder => exact ⟨by simp only; omega, by simp [hunder]⟩
    · next hunder => exact ⟨rfl, by simp [hunder]⟩
  have htake : (synTake c n).1.v ≤ c.v ∧ (synTake c n).1.unf = c.unf := by
    unfold synTake
    split
    · exact ⟨Nat.sub_le _ _, rfl⟩
    · exact ⟨le_refl _, rfl⟩
  exact ⟨hinc.1, hdec.1, htake.1, hinc.2, hdec.2, htake.2⟩

/-- Settles O49: a master's operation is an accepted write, a thread's acts while STEWARD is ON, and each operation has its lemma. -/
theorem syncCounters : Obligations.SyncCounters := by
  unfold Obligations.SyncCounters
  refine ⟨?_, ?_, ?_, ?_, ?_, ?_, ?_, ?_, ?_, ?_, ?_, ?_, ?_, ?_, ?_, ?_, ?_, ?_, ?_, ?_, ?_, ?_⟩
  · rintro s m i n hok x rfl c rfl
    rw [exec_synRead, Block.synBy_master hok, Block.synOp_read]
    rfl
  · intro s m i n hok hlow
    rw [exec_synInc, Block.synBy_master hok, Block.synOp_inc_denied (synDenied_low m hlow)]
    rfl
  · rintro s m i n hok hhigh x rfl h c rfl
    rw [exec_synInc, Block.synBy_master hok, Block.synOp_inc_within (synDenied_high m hhigh) h]
    rfl
  · rintro s m i n hok hhigh x rfl h c rfl d rfl
    rw [exec_synInc, Block.synBy_master hok, Block.synOp_inc_over (synDenied_high m hhigh) h]
    rfl
  · rintro s w i n hon x rfl h
    rw [exec_synDec, Block.synBy_thread hon, Block.synOp_dec_within (synDenied_thread w _) h]
    rfl
  · rintro s w i n hon x rfl h c rfl
    rw [exec_synDec, Block.synBy_thread hon, Block.synOp_dec_under (synDenied_thread w _) h]
    rfl
  · rintro s w i n hon x rfl h
    rw [exec_synTake, Block.synBy_thread hon, Block.synOp_take_ready (synDenied_thread w _) h]
    rfl
  · rintro s w i n hon x rfl h c hc
    rw [exec_synTake, Block.synBy_thread hon, Block.synOp_take_thread h hc]
  · rintro s w i n hon x rfl h
    rw [exec_synSet, Block.synBy_thread hon, Block.synOp_set (synDenied_thread w _) h]
    rfl
  · intro s w i n hon h
    rw [exec_synSet, Block.synBy_thread hon, Block.synOp_set_waiting (synDenied_thread w _) h]
    rfl
  · rintro s w i n hon x rfl
    rw [exec_synClrf, Block.synBy_thread hon, Block.synOp_clrf (synDenied_thread w _)]
    rfl
  · intro s w op i n hon
    rw [exec_synReservedOp, Block.synBy_thread hon, Block.synOp_reserved]
    rfl
  · intro s w i n hon
    rw [exec_synRead, Block.synBy_thread hon, Block.synOp_read]
    rfl
  · rintro s w i n hon x rfl h
    rw [exec_synInc, Block.synBy_thread hon, Block.synOp_inc_within (synDenied_thread w _) h]
    rfl
  · intro s m op i n hok
    have hop : (6 + op % 2) % 8 = 6 + op % 2 := Nat.mod_eq_of_lt (by omega)
    rw [exec_synReservedOp, Block.synBy_master (by rwa [hop]), Block.synOp_reserved]
    rfl
  · rintro s m i n hok hhigh x rfl h
    rw [exec_synDec, Block.synBy_master hok, Block.synOp_dec_within (synDenied_high m hhigh) h]
    rfl
  · rintro s m i n hok hhigh x rfl h
    rw [exec_synTake, Block.synBy_master hok, Block.synOp_take_ready (synDenied_high m hhigh) h]
    rfl
  · rintro s m i n hok hhigh x rfl h
    rw [exec_synTake, Block.synBy_master hok, Block.synOp_take_master hhigh h]
  · rintro s m i n hok hhigh x rfl h
    rw [exec_synSet, Block.synBy_master hok, Block.synOp_set (synDenied_high m hhigh) h]
    rfl
  · rintro s m i n hok hhigh x rfl
    rw [exec_synClrf, Block.synBy_master hok, Block.synOp_clrf (synDenied_high m hhigh)]
    rfl
  · intro s w i n hoff
    rw [exec_synTake, Block.synBy, if_neg (by simp [hoff])]
  · intro c n _
    exact synCounter_bounds c n

end Sys2Proof.Machine
end

section
namespace Sys2Proof.Machine

/-! The commands of the interrupt controller: each is its function on the block -/

section
variable (s : State) (m : Master) (w t src n : Nat)

theorem exec_irqInEdge (level : Bool) : exec (.irqInEdge n level) s = .next (s.put (s.b.irqIn n level)) := rfl

theorem exec_irqClaim_master :
    exec (.irqClaim (.master m) t) s = .next (s.put (s.b.read m (0xF210 + 16 * (t % 4)) (fun b => b.claimRead (t % 4)))) := rfl

theorem exec_irqClaim_thread : exec (.irqClaim (.thread w) t) s = .next (s.put (if s.b.threadRuns 4 then (s.b.claim 0).2 else s.b)) := rfl

theorem exec_irqEoi_master :
    exec (.irqEoi (.master m) t src) s =
      .next (s.put (s.b.write m (0xF214 + 16 * (t % 4)) (src % 512) (fun b => b.eoi (t % 4) (src % 512)))) := rfl

theorem exec_irqEoi_thread :
    exec (.irqEoi (.thread w) t src) s = .next (s.put (if s.b.threadRuns 4 then s.b.eoi 0 (src % 512) else s.b)) := rfl

theorem exec_irqHoldExpire :
    exec (.irqHoldExpire n) s = .next (s.put (if s.b.on dSTEWARD then s.b.irqLine (n % 4) else s.b)) := rfl

theorem exec_stormGuardEnd : exec (.stormGuardEnd src) s = .next (s.put (s.b.guardEnd src)) := rfl

theorem exec_guardCountClear : exec (.guardCountClear src) s = .next (s.put (s.b.guardClear src)) := rfl

end

/-! Inputs (R334) -/

/-- A bit just set reads its value. -/
theorem bit_setBit_same (x i : Nat) {v : Nat} (hv : v < 2) : bit (setBit x i v) i = v := by
  have hpos : 0 < 2 ^ i := Nat.two_pow_pos i
  have hsplit : x = x / 2 ^ i * 2 ^ i + x % 2 ^ i := by rw [Nat.mul_comm]; exact (Nat.div_add_mod x _).symm
  have hset : setBit x i v = (x / 2 ^ i - x / 2 ^ i % 2 + v) * 2 ^ i + x % 2 ^ i := by
    have hle : x / 2 ^ i % 2 * 2 ^ i ≤ x / 2 ^ i * 2 ^ i := Nat.mul_le_mul_right _ (Nat.mod_le _ _)
    unfold setBit bit
    rw [Nat.add_mul, Nat.sub_mul, Nat.mod_eq_of_lt hv]
    omega
  have hdiv : setBit x i v / 2 ^ i = x / 2 ^ i - x / 2 ^ i % 2 + v := by
    rw [hset, Nat.mul_comm, Nat.mul_add_div hpos, Nat.div_eq_of_lt (Nat.mod_lt x hpos), Nat.add_zero]
  unfold bit
  rw [hdiv]
  omega

section
variable {b c : Block} {n : Nat} {level : Bool}

/-- In the rising-edge mode an edge sets the bit of IRQ_EXT, and nothing else does (R334). -/
theorem Block.irqIn_rising (hon : b.on dSTEWARD = true) (hmode : b.inMode (n % 32) = 2)
    (hc : c = { b with irq := { b.irq with inLvl := setBit b.irq.inLvl (n % 32) (if level then 1 else 0) } }) :
    b.irqIn n level = if level = true ∧ bit b.irq.inLvl (n % 32) = 0 then c.extSet (n % 32) else c := by
  have hcmode : c.inMode (n % 32) = 2 := by rw [hc]; exact hmode
  have hcon : c.on dSTEWARD = true := by rw [hc]; exact hon
  have hstay : c.extFollow (n % 32) = c := by simp [Block.extFollow, hcmode]
  unfold Block.irqIn
  simp only [← hc, hcon, hcmode, hstay, if_true]
  cases level <;> simp

/-- In the high-level mode the bit of IRQ_EXT follows the input (R334). -/
theorem Block.irqIn_level (hon : b.on dSTEWARD = true) (hmode : b.inMode (n % 32) = 0)
    (hc : c = { b with irq := { b.irq with inLvl := setBit b.irq.inLvl (n % 32) (if level then 1 else 0) } }) :
    b.irqIn n level = if level then c.extSet (n % 32) else c.setf (extFld (n % 32)) 0 := by
  have hcmode : c.inMode (n % 32) = 0 := by rw [hc]; exact hmode
  have hcon : c.on dSTEWARD = true := by rw [hc]; exact hon
  have hlvl : bit c.irq.inLvl (n % 32) = if level then 1 else 0 := by
    rw [hc]
    exact bit_setBit_same _ _ (by split <;> decide)
  have hfollow : c.extFollow (n % 32) = if level then c.extSet (n % 32) else c.setf (extFld (n % 32)) 0 := by
    unfold Block.extFollow
    simp only [hcmode, hlvl]
    cases level <;> rfl
  unfold Block.irqIn
  simp only [← hc, hcon, hcmode, if_true]
  exact hfollow

/-- In RET the latch holds a falling edge of the copied mode (R334). -/
theorem Block.irqIn_latched (hret : b.dom dSTEWARD = 1) (hoff : b.on dSTEWARD = false)
    (hmode : (b.irq.latchMode[n % 32]?).getD 0 = 3) (hold : bit b.irq.inLvl (n % 32) = 1) :
    b.irqIn n false =
      { b with irq := { b.irq with inLvl := setBit b.irq.inLvl (n % 32) 0, latched := setBit b.irq.latched (n % 32) 1 } } := by
  unfold Block.irqIn
  extract_lets n' old new _ c hit
  have hcoff : c.on dSTEWARD = false := hoff
  have hcret : c.dom dSTEWARD = 1 := hret
  have hhit : hit ((c.irq.latchMode[n']?).getD 0) = true := by
    rw [show (c.irq.latchMode[n']?).getD 0 = 3 from hmode, show hit 3 = (old == 1 && new == 0) from rfl, show old = 1 from hold]
    rfl
  rw [if_neg (by simp [hcoff]), if_pos hcret, if_pos hhit]
  rfl

end

/-! Claim and end of interrupt (R335, R336) -/

/-- The claim of a list with one more source at its end. -/
theorem pickClaim_concat (prio : Nat → Nat) (l : List Nat) (j : Nat) :
    pickClaim prio (l ++ [j]) = match pickClaim prio l with
      | none => some j
      | some k => if prio k < prio j then some j else some k := by
  unfold pickClaim
  rw [List.foldl_append]
  rfl

/-- A claim takes, of a rising list, a source of the highest PRIO, and of those the lowest number. -/
theorem pickClaim_best (prio : Nat → Nat) (l : List Nat) : l.Pairwise (· < ·) → ∀ k, pickClaim prio l = some k →
    k ∈ l ∧ ∀ j ∈ l, prio j < prio k ∨ (prio j = prio k ∧ k ≤ j) := by
  induction l using List.reverseRecOn with
  | nil => intro _ k h; cases h
  | append_singleton l x ih =>
    intro hrising k h
    obtain ⟨hl, -, hlast⟩ := List.pairwise_append.mp hrising
    have hbelow : ∀ j ∈ l, j < x := fun j hj => hlast j hj x (List.mem_singleton.mpr rfl)
    rw [pickClaim_concat] at h
    simp only [List.mem_append, List.mem_singleton]
    cases hp : pickClaim prio l with
    | none =>
      have hnil : l = [] := by
        induction l using List.reverseRecOn with
        | nil => rfl
        | append_singleton l y _ =>
          rw [pickClaim_concat] at hp
          split at hp
          · cases hp
          · split at hp <;> cases hp
      rw [hp] at h
      cases h
      exact ⟨Or.inr rfl, by rintro j (hj | rfl); · simp [hnil] at hj
                            · exact Or.inr ⟨rfl, le_refl _⟩⟩
    | some k' =>
      obtain ⟨hmem, hbest⟩ := ih hl k' hp
      rw [hp] at h
      dsimp only at h
      split at h
      · next hlt =>
        cases h
        refine ⟨Or.inr rfl, ?_⟩
        rintro j (hj | rfl)
        · exact Or.inl (by rcases hbest j hj with h | h <;> omega)
        · exact Or.inr ⟨rfl, le_refl _⟩
      · next hge =>
        cases h
        refine ⟨Or.inl hmem, ?_⟩
        rintro j (hj | rfl)
        · exact hbest j hj
        · have := hbelow k hmem
          omega

/-- The eligible sources of a target stand in rising order. -/
theorem Block.eligibles_rising (b : Block) (t : Nat) : (b.eligibles t).Pairwise (· < ·) := List.pairwise_lt_range.filter _

section
variable {b : Block} {t k : Nat}

theorem Block.claim_none (h : pickClaim b.prio (b.eligibles t) = none) : b.claim t = (none, b) := by
  unfold Block.claim
  rw [h]

theorem Block.claim_some (h : pickClaim b.prio (b.eligibles t) = some k) {x : IrqTgt} (hx : x = b.tgt t) :
    b.claim t = (some k, (b.setTgt t { x with stack := (k, x.rp) :: x.stack, rp := b.prio k }).irqLine t) := by
  subst hx
  unfold Block.claim
  rw [h]

variable {src rp : Nat} {rest : List (Nat × Nat)}

/-- EOI of the source on top of the stack restores RP and judges the line again (R335). -/
theorem Block.eoi_top {x : IrqTgt} (hx : x = b.tgt t) (htop : x.stack = (src, rp) :: rest) {c : Block}
    (hc : c = b.setTgt t { x with stack := rest, rp := rp }) (hquiet : c.pends src = false) : b.eoi t src = c.irqLine t := by
  subst hx
  simp [Block.eoi, htop, ← hc, hquiet]

/-- EOI of any other source raises EOI_BAD (R335). -/
theorem Block.eoi_other (h : ((b.tgt t).stack.head?).map (fun p => p.1) ≠ some src) : b.eoi t src = b.raise Ev.STW_EOI_BAD := by
  unfold Block.eoi
  split
  · next k rp rest hstack =>
    rw [hstack] at h
    rw [if_neg (fun e => h (congrArg some e))]
  · rfl

end

/-- Settles O50, each clause from the lemma on its command; what a claim takes by `pickClaim_best`. -/
theorem interrupts : Obligations.Interrupts := by
  unfold Obligations.Interrupts
  refine ⟨?_, ?_, ?_, ?_, ?_, ?_, ?_, ?_, ?_, ?_, ?_, ?_, ?_, ?_, ?_, ?_, ?_⟩
  · rintro s n level k rfl hon hmode c hc
    rw [exec_irqInEdge, Block.irqIn_rising hon hmode hc]
  · rintro s n level k rfl hon hmode c hc
    rw [exec_irqInEdge, Block.irqIn_level hon hmode hc]
  · rintro s n k rfl hret hoff hmode hold
    rw [exec_irqInEdge, Block.irqIn_latched hret hoff hmode hold]
  · intro s m hok
    rw [exec_irqClaim_master, Block.read_ok _ hok]
    rfl
  · intro s m t0 ht hok hnone
    have hcut : t0 % 4 = t0 := by omega
    rw [exec_irqClaim_master, hcut, Block.read_ok _ hok, Block.claimRead, if_neg (by omega), Block.claim_none hnone]
    rfl
  · intro s m t0 k ht hok hsome x hx c hc
    have hcut : t0 % 4 = t0 := by omega
    rw [exec_irqClaim_master, hcut, Block.read_ok _ hok, Block.claimRead, if_neg (by omega), Block.claim_some hsome hx, ← hc]
    simp only [claimWord]
  · intro s w k hruns hsome x hx
    rw [exec_irqClaim_thread, if_pos hruns, Block.claim_some hsome hx]
  · intro b t0 k hsome
    obtain ⟨hmem, hbest⟩ := pickClaim_best b.prio _ (b.eligibles_rising t0) k hsome
    exact ⟨(List.mem_filter.mp hmem).2, List.all_eq_true.mpr (fun j hj => decide_eq_true (hbest j hj))⟩
  · intro s m t0 src rp rest ht hsrc hok x hx htop _ c hc hquiet
    have hcut : t0 % 4 = t0 := Nat.mod_eq_of_lt ht
    have hcut' : src % 512 = src := Nat.mod_eq_of_lt hsrc
    rw [exec_irqEoi_master, hcut, hcut', Block.write_ok _ hok, Block.eoi_top hx htop hc hquiet]
  · intro s w src rp rest hsrc hruns x hx htop _ c hc hquiet
    rw [exec_irqEoi_thread, if_pos hruns, Nat.mod_eq_of_lt hsrc, Block.eoi_top hx htop hc hquiet]
  · intro s m t0 src ht hsrc hok hother
    have hcut : t0 % 4 = t0 := Nat.mod_eq_of_lt ht
    have hcut' : src % 512 = src := Nat.mod_eq_of_lt hsrc
    rw [exec_irqEoi_master, hcut, hcut', Block.write_ok _ hok, Block.eoi_other hother]
  · intro s n hon
    rw [exec_irqHoldExpire, if_pos hon]
  · intro b t0 hnone
    unfold Block.irqLine
    dsimp only
    rw [if_pos hnone]
  · rintro s src e g rfl hguard hover
    simp only [exec_stormGuardEnd, Block.guardEnd, hguard, if_pos hover]
  · intro s src hguard
    simp only [exec_stormGuardEnd, Block.guardEnd, hguard]
  · rintro s src e g rfl hguard hlast hover
    simp only [exec_guardCountClear, Block.guardClear, hguard, hlast, if_pos hover]
  · intro s src hlast
    rw [exec_guardCountClear, Block.guardClear]
    dsimp only
    rw [hlast]
    split
    · next h => cases h
    · rfl

end Sys2Proof.Machine
end

section
namespace Sys2Proof.Machine

/-! The commands of the Security unit: each is its function on the block -/

section
variable (s : State) (m : Master) (word : Nat)

theorem exec_unlockChal : exec (.unlockChal m) s = .next (s.put (s.b.write m 0x11050 1 (fun b => b.chal m))) := rfl

theorem exec_unlockRespond :
    exec (.unlockRespond m word) s = .next (s.put (s.b.write m 0x11050 (word / 16 * 16 + 2) (fun b => b.respond m word))) := rfl

theorem exec_unlockPassword :
    exec (.unlockPassword m word) s = .next (s.put (s.b.write m 0x11050 (word / 16 * 16 + 4) (fun b => b.password m word))) := rfl

theorem exec_unlockRelock : exec (.unlockRelock m) s = .next (s.put (s.b.write m 0x11050 8 (fun b => b.relock m))) := rfl

theorem exec_nonceExpire : exec (.nonceExpire m) s = .next (s.put (s.b.nonceExpire m)) := rfl

theorem exec_lockoutEnd : exec (.lockoutEnd m) s = .next (s.put (s.b.lockoutEnd m)) := rfl

theorem exec_keyRevoke : exec (.keyRevoke m) s = .next (s.put (s.b.keyRevoke m)) := rfl

theorem exec_keyPgmDone (fail : Bool) : exec (.keyPgmDone fail) s = .next (s.put (s.b.pgmDone fail)) := rfl

theorem exec_testInstruction (code : Nat) : exec (.testInstruction code) s = .next (s.put (s.b.testInstr code)) := rfl

end

/-! The record of a master -/

section
variable (b : Block) (m : Master) (f g : MasterSec → MasterSec)

@[simp] theorem Block.setSec_of_same : (b.setSec m f).sec.of m = f (b.sec.of m) := by cases m <;> rfl

theorem Block.setSec_of_other {n : Master} (h : m ≠ n) : (b.setSec m f).sec.of n = b.sec.of n := by
  cases m <;> cases n
  case mgmt.mgmt | vsb.vsb | test.test => exact absurd rfl h
  all_goals rfl

@[simp] theorem Block.setSec_keys : (b.setSec m f).sec.keys = b.sec.keys := by cases m <;> rfl

@[simp] theorem Block.setSec_clk : (b.setSec m f).clk = b.clk := rfl

/-- Two changes of one record are one. -/
@[simp] theorem Block.setSec_setSec : (b.setSec m f).setSec m g = b.setSec m (fun x => g (f x)) := by cases m <;> rfl

/-- A lockout stands where a change of the record leaves its end. -/
theorem Block.lockedOut_setSec (h : ∀ x, (f x).lockEnd = x.lockEnd) : (b.setSec m f).lockedOut m = b.lockedOut m := by
  unfold Block.lockedOut
  rw [Block.setSec_of_same, h]
  rfl

end

/-! Attempts (R371, R372) -/

section
variable {b : Block} {m : Master} {word : Nat}

theorem Block.respond_locked (h : b.lockedOut m = true) :
    b.respond m word = b.setSec m (fun x => { x with nonce := none, result := 2, resp := [0, 0, 0, 0, 0, 0, 0, 0] }) := by
  have hlock : (b.setSec m (fun x => { x with nonce := none })).lockedOut m = true := by rw [Block.lockedOut_setSec, h]; exact fun _ => rfl
  unfold Block.respond
  dsimp only
  rw [if_pos hlock, Block.attempt, Block.setSec_setSec]

/-- Without a lockout RESPOND turns on the live nonce, which it uses up. -/
theorem Block.respond_open (h : b.lockedOut m = false) :
    b.respond m word = match b.liveNonce m with
      | none => (b.setSec m (fun x => { x with nonce := none })).attempt m 3
      | some v =>
        if hmac256 (keyBytes b.sec.keys 0x330 32) (b.chalMsg m v word) = (b.sec.of m).respBytes then
          (b.setSec m (fun x => { x with nonce := none })).goodAttempt m (bits word 4 4) (bits word 8 8)
        else (b.setSec m (fun x => { x with nonce := none })).badAttempt m := by
  have hlock : (b.setSec m (fun x => { x with nonce := none })).lockedOut m = false := by rw [Block.lockedOut_setSec, h]; exact fun _ => rfl
  unfold Block.respond
  dsimp only
  rw [if_neg (by simp [hlock]), Block.setSec_keys]
  rfl

theorem Block.goodAttempt_eq (rights part : Nat) :
    b.goodAttempt m rights part = (b.setSec m (fun x =>
      { x with result := 0, resp := [0, 0, 0, 0, 0, 0, 0, 0], fails := 0, addR := x.addR ||| rights, addP := x.addP ||| part })).raise
        Ev.SEC_UNLOCK [(m.num, 8)] := by
  rw [Block.goodAttempt, Block.attempt, Block.setSec_setSec]

/-- A first or second BAD in a row starts no lockout (R372). -/
theorem Block.badAttempt_few (h : (b.sec.of m).fails + 1 < 3) :
    b.badAttempt m = (b.setSec m (fun x =>
      { x with result := 1, resp := [0, 0, 0, 0, 0, 0, 0, 0], fails := (b.sec.of m).fails + 1 })).raise
        Ev.SEC_UNLOCK_FAIL [(m.num, 8)] := by
  unfold Block.badAttempt
  dsimp only
  rw [if_neg (by omega), Block.attempt, Block.setSec_setSec]

/-- From the third on it does (R372). -/
theorem Block.badAttempt_many {n : Nat} (hn : n = (b.sec.of m).fails + 1) (h : 3 ≤ n) {c : Block}
    (hc : c = (b.setSec m (fun x => { x with result := 1, resp := [0, 0, 0, 0, 0, 0, 0, 0], fails := n })).raise
      Ev.SEC_UNLOCK_FAIL [(m.num, 8)]) :
    b.badAttempt m = (c.setSec m (fun x => { x with lockEnd := some (c.clk.aon + min 1024 (2 ^ (n - 3)) * 25000000) })).raise
      Ev.SEC_LOCKOUT [(m.num, 8)] := by
  have hsec : lockoutSec n = min 1024 (2 ^ (n - 3)) := if_neg (by omega)
  unfold Block.badAttempt
  dsimp only
  rw [← hn, if_pos h, Block.attempt, Block.setSec_setSec, ← hc, hsec]
  rfl

theorem Block.password_locked (h : b.lockedOut m = true) : b.password m word = b.attempt m 2 := if_pos h

theorem Block.password_sealed (h : b.lockedOut m = false) (hs : b.sealed = true ∨ b.pwDigest = List.replicate 32 0xFF) :
    b.password m word = b.attempt m 4 := by
  rw [Block.password, if_neg (by simp [h]), if_pos hs]

/-- Where a password is stored and not sealed, PASSWORD turns on its digest. -/
theorem Block.password_judged (h : b.lockedOut m = false) (hs : b.sealed = false) (hp : b.pwDigest ≠ List.replicate 32 0xFF) :
    b.password m word = if sha256 (b.sec.of m).respBytes = b.pwDigest then b.goodAttempt m (bits word 4 3) (bits word 8 8)
      else b.badAttempt m := by
  rw [Block.password, if_neg (by simp [h]), if_neg]
  simp only [hs, Bool.false_eq_true, false_or]
  exact hp

end

/-- Settles O53, each clause from the lemma on its attempt. -/
theorem unlockAndLockout : Obligations.UnlockAndLockout := by
  unfold Obligations.UnlockAndLockout
  refine ⟨?_, ?_, ?_, ?_, ?_, ?_, ?_, ?_, ?_, ?_, ?_, ?_, ?_, ?_, ?_⟩
  · rintro s m hok v rfl c rfl
    rw [exec_unlockChal, Block.write_ok _ hok]
    rfl
  · intro s m word hok hlock
    rw [exec_unlockRespond, Block.write_ok _ hok, Block.respond_locked hlock]
  · intro s m word hok hopen hnone
    rw [exec_unlockRespond, Block.write_ok _ hok, Block.respond_open hopen, hnone, Block.attempt, Block.setSec_setSec]
  · rintro s m word v hok hopen hsome hright c rfl
    rw [exec_unlockRespond, Block.write_ok _ hok, Block.respond_open hopen, hsome]
    dsimp only
    rw [if_pos hright, Block.goodAttempt_eq, Block.setSec_setSec]
  · rintro s m word v hok hopen hsome hwrong n rfl hfew c rfl
    have hsame : ((s.b.setSec m (fun x => { x with nonce := none })).sec.of m).fails = (s.b.sec.of m).fails := by
      rw [Block.setSec_of_same]
    rw [exec_unlockRespond, Block.write_ok _ hok, Block.respond_open hopen, hsome]
    dsimp only
    rw [if_neg hwrong, Block.badAttempt_few (by rwa [hsame]), Block.setSec_setSec, hsame]
  · intro s m word hok hlock
    rw [exec_unlockPassword, Block.write_ok _ hok, Block.password_locked hlock]
    rfl
  · intro s m word hok hopen hsealed
    rw [exec_unlockPassword, Block.write_ok _ hok, Block.password_sealed hopen hsealed]
    rfl
  · rintro s m word hok hopen hsealed hstored hright c rfl
    rw [exec_unlockPassword, Block.write_ok _ hok, Block.password_judged hopen hsealed hstored, if_pos hright, Block.goodAttempt_eq]
  · rintro s m word hok hopen hsealed hstored hwrong n hn hmany c hc d rfl
    rw [exec_unlockPassword, Block.write_ok _ hok, Block.password_judged hopen hsealed hstored, if_neg hwrong,
      Block.badAttempt_many hn hmany hc]
  · rintro s m hok c rfl
    rw [exec_unlockRelock, Block.write_ok _ hok]
    rfl
  · intro s m hlive
    rw [exec_nonceExpire, Block.nonceExpire, if_pos hlive]
  · intro s m hdead
    rw [exec_nonceExpire, Block.nonceExpire, if_neg (by simp [hdead])]
  · intro s m hlock
    rw [exec_lockoutEnd, Block.lockoutEnd, if_pos hlock]
  · intro s m hopen
    rw [exec_lockoutEnd, Block.lockoutEnd, if_neg (by simp [hopen])]
  · intro b m n f hmn
    exact ⟨Block.setSec_of_other b m f hmn, Block.setSec_of_same b m f, Block.setSec_keys b m f⟩

/-! Revocation and the test port (R368, R375) -/

theorem Block.revokeRefused_iff (b : Block) (k : Nat) :
    b.revokeRefused k = true ↔ b.sec.signer = some k ∨ liveSlots b.sec.keys = [k] := by
  simp [Block.revokeRefused]

theorem Block.keyRevoke_refused {b : Block} {m : Master} (hok : b.respCode m 0x11078 0xF true 8 = 0)
    (h : b.revokeRefused (b.f F.SEC_KEY_SEL_SLOT) = true) :
    b.keyRevoke m = (b.answer m 2 0).raise Ev.SEC_DENIED [(m.num, 8), (0x11078, 24)] := if_pos ⟨hok, h⟩

theorem Block.keyRevoke_begins {b : Block} {m : Master} (hok : b.respCode m 0x11078 0xF true 8 = 0)
    (h : ¬b.revokeRefused (b.f F.SEC_KEY_SEL_SLOT) = true) (hidle : b.sec.pgm = none) :
    b.keyRevoke m = ({ b with sec := { b.sec with pgm := some (b.f F.SEC_KEY_SEL_SLOT) } } : Block).answer m 0 0 := by
  unfold Block.keyRevoke
  dsimp only
  rw [if_neg (fun e => h e.2), Block.write_ok _ hok, Block.revoke, if_neg (by simp [hidle])]

/-- A failed program leaves the slot as it was, and a program that was not on ends nothing. -/
theorem Block.pgmDone_failed (b : Block) : b.pgmDone true = { b with sec := { b.sec with pgm := none } } := by
  unfold Block.pgmDone
  split
  · next hnone => rw [← hnone]
  · rfl

theorem Block.pgmDone_done {b : Block} {k : Nat} (h : b.sec.pgm = some k) {c : Block}
    (hc : c = { b with sec := { b.sec with pgm := none, otp := b.sec.otp.put (102 * k + 101) 1, keys := b.sec.keys.put (102 * k + 101) 1 } }) :
    b.pgmDone false = c.raise Ev.SEC_KEY_REVOKED [(slotKeyId b.sec.keys k, 32)] := by
  unfold Block.pgmDone
  rw [h, hc]
  rfl

/-- An instruction that needs DEBUG, given without it, selects bypass. -/
theorem Block.testInstr_denied {b : Block} {code : Nat} (hcode : code = 0x30 ∨ code = 0x31) (h : bit (b.rights .test) 0 = 0) :
    b.testInstr code = ({ b with sec := { b.sec with jtag := 0xFF } } : Block).raise Ev.SEC_JTAG_DENIED := by
  unfold Block.testInstr
  dsimp only
  rw [if_pos hcode, if_neg (by simp [h])]

theorem Block.testInstr_private {b : Block} {code : Nat} (hcode : code = 0x30 ∨ code = 0x31) (h : bit (b.rights .test) 0 = 1) {c : Block}
    (hc : c = if code = 0x31 then b.scanClear else b) : b.testInstr code = { c with sec := { c.sec with jtag := code } } := by
  unfold Block.testInstr
  dsimp only
  rw [if_pos hcode, if_pos h, hc]

theorem Block.testInstr_public {b : Block} {code : Nat} (h0 : code ≠ 0x30) (h1 : code ≠ 0x31) :
    b.testInstr code = { b with sec := { b.sec with jtag := if code = 0x01 ∨ code = 0x10 ∨ code = 0x20 then code else 0xFF } } := by
  unfold Block.testInstr
  dsimp only
  rw [if_neg (by simp [h0, h1])]
  split <;> rfl

/-- Settles O54, each clause from the lemma on its command. -/
theorem revocationAndTestPort : Obligations.RevocationAndTestPort := by
  unfold Obligations.RevocationAndTestPort
  refine ⟨?_, ?_, ?_, ?_, ?_, ?_, ?_, ?_, ?_⟩
  · rintro s m hok k rfl hkeep
    rw [exec_keyRevoke, Block.keyRevoke_refused hok ((Block.revokeRefused_iff _ _).mpr hkeep)]
  · rintro s m hok k rfl hsigner hlast hidle
    have hmay : ¬s.b.revokeRefused (s.b.f F.SEC_KEY_SEL_SLOT) = true := by
      rw [Block.revokeRefused_iff]
      exact not_or.mpr ⟨hsigner, hlast⟩
    rw [exec_keyRevoke, Block.keyRevoke_begins hok hmay hidle]
  · rintro s k hpgm i rfl c hc
    rw [exec_keyPgmDone, Block.pgmDone_done hpgm hc]
  · intro s
    rw [exec_keyPgmDone, Block.pgmDone_failed]
  · intro k n _
    have hrev : slotRevoked (k.put (102 * n + 101) 1) n = true := by simp [slotRevoked]
    refine ⟨hrev, fun hlive => ?_⟩
    have hnot := (List.mem_filter.mp hlive).2
    rw [hrev] at hnot
    simp at hnot
  · intro s code hcode hno
    rw [exec_testInstruction, Block.testInstr_denied hcode hno]
  · rintro s hdebug m rfl v rfl
    rw [exec_testInstruction, Block.testInstr_private (Or.inr rfl) hdebug rfl, if_pos rfl]
    rfl
  · intro s hdebug
    rw [exec_testInstruction, Block.testInstr_private (Or.inl rfl) hdebug rfl, if_neg (by decide)]
  · intro s code h0 h1
    rw [exec_testInstruction, Block.testInstr_public h0 h1]

end Sys2Proof.Machine
end

section
namespace Sys2Proof.Machine

/-! Which registers an event can write: its own, and those of the log, the storm guard and the source's EN (R337, R338) -/

/-- The registers that any event may write, whatever its source: STW_EVENTS, STW_LOG_STAT, IRQ_SRC_CFG and IRQ_STORM_LAST. -/
def eventOffs : List Nat := [0xF008, 0xF030, 0xF204, 0xF254]

/-- A write of one register leaves the fields of another. -/
theorem Block.f_setf_off (b : Block) {x y : Fld} (v : Nat) (hx : x.lo < 32) (hy : y.lo < 32) (h : x.off ≠ y.off) :
    (b.setf y v).f x = b.f x := by
  refine Block.f_setf_other b v (fun e => h ?_)
  unfold Fld.key at e
  omega

/-- So does a count. -/
theorem Block.f_count_off (b : Block) {x y : Fld} (n : Nat) (hx : x.lo < 32) (hy : y.lo < 32) (h : x.off ≠ y.off) :
    (b.count y n).f x = b.f x := Block.f_setf_off b _ hx hy h

section
variable {x : Fld} (hx : x.lo < 32) (hlog : x.off % 2 ^ 18 ∉ eventOffs)
include hx hlog

theorem Block.f_logRaise (b : Block) (src arg : Nat) : (b.logRaise src arg).f x = b.f x := by
  have hoff : x.off ≠ 0xF030 := fun e => hlog (by rw [e]; decide)
  unfold Block.logRaise
  dsimp only
  split
  · rfl
  · split
    · exact Block.f_count_off _ (y := F.STW_LOG_STAT_OVERWRITTEN) _ hx (by decide) hoff
    · exact Block.f_count_off _ (y := F.STW_LOG_STAT_MISSED) _ hx (by decide) hoff

theorem Block.f_raiseRaw (b : Block) {src : Nat} (args : List (Nat × Nat)) (hsrc : x.off ≠ (srcFld src).off) :
    (b.raiseRaw src args).f x = b.f x := by
  rw [Block.raiseRaw, Block.f_logRaise hx hlog, Block.f_setf_off b 1 hx (srcFld_lo src) hsrc]

theorem Block.f_begins (b : Block) (src : Nat) : (b.begins src).f x = b.f x := by
  have hev : x.off ≠ 0xF008 := fun e => hlog (by rw [e]; decide)
  have hlast : x.off ≠ 0xF254 := fun e => hlog (by rw [e]; decide)
  have hen : x.off ≠ (F.IRQ_SRC_CFG_EN.ix src).off := by
    intro e
    have : x.off % 2 ^ 18 = 0xF204 := by
      rw [e]
      simp only [Fld.ix, F.IRQ_SRC_CFG_EN]
      omega
    exact hlog (by rw [this]; decide)
  unfold Block.begins
  split
  · extract_lets g bs before n g' i d d1 d2
    have hd : d2.f x = b.f x := by
      rw [Block.f_raiseRaw hx hlog d1 (src := Ev.STW_STORM) _ hev, Block.f_setf_off _ (y := F.IRQ_STORM_LAST_VALID) _ hx (by decide) hlast,
        Block.f_setf_off _ (y := F.IRQ_STORM_LAST_SRC) _ hx (by decide) hlast]
      rfl
    clear_value d2
    split
    · rfl
    · split
      · split
        · rw [Block.f_raiseRaw hx hlog _ (src := Ev.STW_STORM_OFF) _ hev,
            Block.f_setf_off _ 0 hx (by rw [Fld.lo_ix]; decide) hen, hd]
        · exact hd
      · rfl
  · rfl

/-- An event leaves the fields of every register but its own and those of `eventOffs`. -/
theorem Block.f_raise (b : Block) {src : Nat} (args : List (Nat × Nat)) (hsrc : x.off ≠ (srcFld src).off) :
    (b.raise src args).f x = b.f x := by
  unfold Block.raise
  split
  · exact Block.f_raiseRaw hx hlog b args hsrc
  · rw [Block.f_begins hx hlog, Block.f_raiseRaw hx hlog b args hsrc]

end

/-- What an event leaves, read off its frame. -/
theorem Block.raise_frame {α : Type} (p : Block → α) (hp : ∀ c : Block, p c.noEvents = p c) (b : Block) (src : Nat) (args : List (Nat × Nat)) :
    p (b.raise src args) = p b := by
  rw [← hp, Block.noEvents_raise, hp]

@[simp] theorem Block.raise_syn (b : Block) (src : Nat) (args : List (Nat × Nat)) : (b.raise src args).syn = b.syn :=
  Block.raise_frame Block.syn (fun _ => rfl) b src args

/-! The commands of the sideband: each is its function on the block -/

section
variable (s : State) (src : Nat) (acked : Bool)

theorem exec_vsbFrameSend (f : VsbFrame) (won : Bool) :
    exec (.vsbFrameSend f won acked) s = .next (s.put (s.b.vsbSend f won acked).drivenCheck) := rfl

theorem exec_vsbRespReceived (status value : Nat) :
    exec (.vsbRespReceived src status value) s = .next (s.put (s.b.vsbResp src status value)) := rfl

theorem exec_vsbBeaconReceived (ploc role : Nat) (solo : Bool) :
    exec (.vsbBeaconReceived src ploc role solo) s = .next (s.put (s.b.vsbTake src id)) := rfl

theorem exec_vsbProcReceived (proc ldi step repoch : Nat) :
    exec (.vsbProcReceived src proc ldi step repoch) s = .next (s.put (s.b.vsbTake src (fun b => b.vsbProc proc ldi step repoch))) := rfl

theorem exec_vsbNoackRetry : exec (.vsbNoackRetry acked) s = .next (s.put (s.b.vsbRetry acked).drivenCheck) := rfl

theorem exec_vsbRespTimeout : exec (.vsbRespTimeout acked) s = .next (s.put (s.b.vsbRespTimeout acked)) := rfl

theorem exec_vsbStuck : exec .vsbStuck s = .next (s.put (s.b.raiseIf s.b.vsbOn Ev.STW_VSB_STUCK)) := rfl

theorem exec_vsbSoloBeacon : exec .vsbSoloBeacon s = .next (s.put s.b.vsbSoloBeacon) := rfl

theorem exec_vsbFrameCrcFail :
    exec .vsbFrameCrcFail s = .next (s.put (if s.b.vsbOn then (s.b.count F.STW_VSB_STAT_CRC).raise Ev.STW_VSB_CRC else s.b)) := rfl

end

/-! Frames put on the wire (R342, R344) -/

section
variable {b c : Block} {f : VsbFrame} {acked : Bool} (hon : b.vsbOn = true)
include hon

/-- Where the frame may go out, it takes its place on the wire or waits for its next try. -/
theorem Block.vsbSend_free {won : Bool} (hfree : ¬(b.is F.STW_VSB_STATUS_SOLO = true ∧ (f.dest ≠ 0x3F ∨ f.typ ≠ 4)))
    (hc : c = { b with vsb := { b.vsb with queue := b.vsb.queue.filter (fun x => x != f) } }) :
    b.vsbSend f won acked =
      if ¬won = true ∨ (f.dest ≠ 0x3F ∧ b.vsb.out.isSome = true) then
        { b with vsb := { b.vsb with queue := b.vsb.queue.filter (fun x => x != f) ++ [f] } }
      else if f.dest = 0x3F then (c.vsbPut f).checkIn 3 else ((c.vsbPut f).checkIn 3).vsbTried f 0 acked := by
  subst hc
  unfold Block.vsbSend
  rw [if_neg (by simp [hon]), if_neg hfree]

/-- In solo-listen a frame to a node fails, and waits for another node to be heard. -/
theorem Block.vsbSend_alone {won : Bool} (hsolo : b.is F.STW_VSB_STATUS_SOLO = true) (hdest : f.dest ≠ 0x3F) :
    b.vsbSend f won acked = { b with vsb := { b.vsb with failed := f :: b.vsb.failed, lone := b.vsb.lone ++ [f] } } := by
  unfold Block.vsbSend
  rw [if_neg (by simp [hon]), if_pos ⟨hsolo, Or.inl hdest⟩]

end

/-! Frames heard (R343, R344) -/

theorem Block.vsbTake_on {b : Block} (hon : b.vsbOn = true) (src : Nat) (act : Block → Block) : b.vsbTake src act = act (b.vsbHeard src) :=
  if_pos hon

theorem Block.vsbTake_off {b : Block} (hoff : b.vsbOn = false) (src : Nat) (act : Block → Block) : b.vsbTake src act = b :=
  if_neg (by simp [hoff])

/-- Counting frames leaves the node's address. -/
theorem Block.count_frames_vsbAddr (b : Block) : (b.count F.STW_VSB_STAT_FRAMES).vsbAddr = b.vsbAddr :=
  Block.f_count_off b 1 (by decide) (by decide) (by decide)

/-- A frame with this node's own address (R344). -/
theorem Block.vsbHeard_own {b c : Block} {src : Nat} (hsrc : src = b.vsbAddr) (hc : c = b.count F.STW_VSB_STAT_FRAMES) :
    b.vsbHeard src = ({ c with vsb := { c.vsb with seen := true } } : Block).raise Ev.STW_VSB_ADDR_CLASH [(src, 8)] := by
  have haddr : src = (b.count F.STW_VSB_STAT_FRAMES).vsbAddr := by rw [Block.count_frames_vsbAddr, hsrc]
  subst hc
  exact if_pos haddr

/-- The end of solo-listen leaves what a BEACON carries of the node. -/
theorem Block.vsbBeacon_rejoined (d : Block) :
    ((d.setf F.STW_VSB_STATUS_SOLO 0).raise Ev.STW_VSB_REJOIN).vsbBeacon false = d.vsbBeacon false := by
  have hother (x : Fld) (hx : x.lo < 32) (hlog : x.off % 2 ^ 18 ∉ eventOffs) (hown : x.off ≠ 0xF008) (hsolo : x.off ≠ 0xF084) :
      ((d.setf F.STW_VSB_STATUS_SOLO 0).raise Ev.STW_VSB_REJOIN).f x = d.f x := by
    rw [Block.f_raise hx hlog _ (src := Ev.STW_VSB_REJOIN) _ hown, Block.f_setf_off d 0 hx (by decide) hsolo]
  have haddr : ((d.setf F.STW_VSB_STATUS_SOLO 0).raise Ev.STW_VSB_REJOIN).vsbAddr = d.vsbAddr := by
    unfold Block.vsbAddr
    rw [Block.f_raise (by decide) (by decide) _ _ (by decide)]
    exact Block.f_setf_other d 0 (by decide)
  unfold Block.vsbBeacon Block.roleByte
  rw [haddr, Block.raise_syn, Block.setf_syn, hother F.SELF_PLOC_PLOC (by decide) (by decide) (by decide) (by decide),
    hother F.ROLE_STATUS_STRAP (by decide) (by decide) (by decide) (by decide),
    hother F.ROLE_STATUS_ROLE (by decide) (by decide) (by decide) (by decide),
    hother F.ROLE_STATUS_STRAP_BAD (by decide) (by decide) (by decide) (by decide),
    hother F.ROLE_STATUS_MISMATCH (by decide) (by decide) (by decide) (by decide)]

/-- A frame of another node ends solo-listen: REJOIN, one BEACON, and what had failed waits again (R344). -/
theorem Block.vsbHeard_rejoins {b c d e v : Block} {src : Nat} (hsrc : src ≠ b.vsbAddr) (hc : c = b.count F.STW_VSB_STAT_FRAMES)
    (hd : d = { c with vsb := { c.vsb with seen := true, heard := some c.clk.aon } }) (hsolo : d.is F.STW_VSB_STATUS_SOLO = true)
    (he : e = (d.setf F.STW_VSB_STATUS_SOLO 0).raise Ev.STW_VSB_REJOIN) (hv : v = e.vsbPut (e.vsbBeacon false)) :
    b.vsbHeard src = { v with vsb := { v.vsb with queue := v.vsb.queue ++ d.vsb.lone, lone := [] } } := by
  have haddr : ¬src = (b.count F.STW_VSB_STAT_FRAMES).vsbAddr := by rw [Block.count_frames_vsbAddr]; exact hsrc
  have hbeacon : e.vsbBeacon false = d.vsbBeacon false := by rw [he, Block.vsbBeacon_rejoined]
  rw [hbeacon] at hv
  subst hc
  rw [hv, he]
  rw [hd] at hsolo ⊢
  unfold Block.vsbHeard
  extract_lets
  exact (if_neg haddr).trans (if_pos hsolo)

/-- A RESP to the request that is out completes it (R343). -/
theorem Block.vsbResp_completes {b c : Block} {src status value : Nat} {o : VsbOut} (hon : b.vsbOn = true) (hc : c = b.vsbHeard src)
    (hout : c.vsb.out = some o) (hacked : o.acked = true) (hsrc : o.frame.dest = src) :
    b.vsbResp src status value = { c with vsb := { c.vsb with out := none, answer := some (status, value) } } := by
  rw [Block.vsbResp, Block.vsbTake_on hon, ← hc]
  simp only [hout]
  rw [if_pos ⟨hacked, hsrc⟩]

/-! Retries (R343, R344) -/

section
variable {b : Block} {o : VsbOut} {acked : Bool}

/-- What becomes of a frame without an acknowledgement turns on its tries and on when another node was heard. -/
theorem Block.vsbRetry_unacked (hout : b.vsb.out = some o) (hunacked : o.acked = false) :
    b.vsbRetry acked =
      if o.tries < atLeast1 (b.f F.STW_VSB_CFG_RETRY) then
        if o.sentAt + aonUs (100 * 2 ^ o.tries) ≤ b.clk.aon then (b.vsbPut o.frame).vsbTried o.frame (o.tries + 1) acked else b
      else if b.vsb.heard.elim false (fun t => decide (b.clk.aon - t ≤ aonUs 10000)) = true then
        ({ b with vsb := { b.vsb with out := none, failed := o.frame :: b.vsb.failed } } : Block).count F.STW_VSB_STAT_NOACK
      else b.vsbAlone o.frame := by
  unfold Block.vsbRetry
  rw [hout]
  exact if_neg (by simp [hunacked])

theorem Block.vsbRespTimeout_due (hout : b.vsb.out = some o) (hacked : o.acked = true) (hdue : o.sentAt + aonUs 1000 ≤ b.clk.aon) :
    b.vsbRespTimeout acked = (b.vsbPut o.frame).vsbTried o.frame 0 acked := by
  unfold Block.vsbRespTimeout
  rw [hout]
  exact if_pos ⟨hacked, hdue⟩

end

/-- Settles O52, each clause from the lemma on its command. -/
theorem sideband : Obligations.Sideband := by
  unfold Obligations.Sideband
  refine ⟨?_, ?_, ?_, ?_, ?_, ?_, ?_, ?_, ?_, ?_, ?_, ?_, ?_, ?_, ?_, ?_, ?_, ?_, ?_, ?_⟩
  · rintro s f acked hon hdest hsolo hout c hc d rfl o rfl
    rw [exec_vsbFrameSend, Block.vsbSend_free hon (by simp [hsolo]) hc, if_neg (by simp [hout]), if_neg hdest]
    rfl
  · intro s f acked hon hdest hfree c hc
    have hmay : ¬(s.b.is F.STW_VSB_STATUS_SOLO = true ∧ (f.dest ≠ 0x3F ∨ f.typ ≠ 4)) := by
      rcases hfree with h | h <;> simp [h, hdest]
    rw [exec_vsbFrameSend, Block.vsbSend_free hon hmay hc, if_neg (by simp [hdest]), if_pos hdest]
  · intro s f acked hon hsolo
    rw [exec_vsbFrameSend, Block.vsbSend_free hon (by simp [hsolo]) rfl, if_pos (Or.inl Bool.false_ne_true)]
  · intro s f won acked hon hsolo hdest
    rw [exec_vsbFrameSend, Block.vsbSend_alone hon hsolo hdest]
  · intro s src status value o hon c hc hout hacked hsrc
    rw [exec_vsbRespReceived, Block.vsbResp_completes hon hc hout hacked hsrc]
  · intro s src status value hon c hc hout
    rw [exec_vsbRespReceived, Block.vsbResp, Block.vsbTake_on hon, ← hc]
    simp only [hout]
  · intro b src hsrc c hc
    exact Block.vsbHeard_own hsrc hc
  · intro s src ploc role solo hon hsrc _ c hc d hd _ hsolo e he v hv
    rw [exec_vsbBeaconReceived, Block.vsbTake_on hon, id_eq, Block.vsbHeard_rejoins hsrc hc hd hsolo he hv]
  · intro s src ploc role solo hoff
    rw [exec_vsbBeaconReceived, Block.vsbTake_off hoff]
  · intro s src proc ldi step repoch hon
    rw [exec_vsbProcReceived, Block.vsbTake_on hon]
  · rintro s acked o hout hunacked htries hdue c rfl n rfl
    rw [exec_vsbNoackRetry, Block.vsbRetry_unacked hout hunacked, if_pos htries, if_pos hdue]
    rfl
  · intro s acked o hout hunacked htries hheard
    have hnear : s.b.vsb.heard.elim false (fun t => decide (s.b.clk.aon - t ≤ aonUs 10000)) = true := by
      cases h : s.b.vsb.heard <;> rw [h] at hheard
      · cases hheard
      · exact hheard
    rw [exec_vsbNoackRetry, Block.vsbRetry_unacked hout hunacked, if_neg (by omega), if_pos hnear]
  · rintro s acked o hout hunacked htries hheard gone rfl c rfl
    rw [exec_vsbNoackRetry, Block.vsbRetry_unacked hout hunacked, if_neg (by omega), if_neg (by simp [hheard])]
    rfl
  · intro s acked hout
    rw [exec_vsbNoackRetry, Block.vsbRetry, hout]
  · rintro s acked o hout hacked hdue c rfl n rfl
    rw [exec_vsbRespTimeout, Block.vsbRespTimeout_due hout hacked hdue]
    rfl
  · intro s acked hout
    rw [exec_vsbRespTimeout, Block.vsbRespTimeout, hout]
  · intro s hon
    rw [exec_vsbStuck, hon]
    rfl
  · rintro s hon hsolo hdue iv rfl c rfl
    rw [exec_vsbSoloBeacon, Block.vsbSoloBeacon, if_pos ⟨hon, hsolo, hdue⟩]
  · intro s hsolo
    rw [exec_vsbSoloBeacon, Block.vsbSoloBeacon, if_neg (by simp [hsolo])]
  · intro s hon
    rw [exec_vsbFrameCrcFail, if_pos hon]

end Sys2Proof.Machine
end

section
namespace Sys2Proof.Machine

/-! The commands of the event log and of the wake watcher: each is its function on the block -/

section
variable (s : State)

theorem exec_evtLogRecord : exec .evtLogRecord s = .next (s.put s.b.evtLog) := rfl

theorem exec_logSelect (m : Master) (n : Nat) :
    exec (.logSelect m n) s = .next (s.put (s.b.write m 0xF038 n (fun b => b.logSelect n))) := rfl

theorem exec_wakeWatchFire (n : Nat) : exec (.wakeWatchFire n) s = .next (s.put (s.b.watchFire n)) := rfl

theorem exec_wakeTimerExpire : exec .wakeTimerExpire s = .next (s.put s.b.timerExpire) := rfl

end

/-! Records and copies of the log (R339) -/

/-- A record carries the oldest entries that wait, at most 64 (R339). -/
theorem Block.evtLog_formed {b c : Block} {l : List LogEntry} (hl : l = b.evl.uncarried) (hruns : b.threadRuns 5 = true)
    (hemit : b.is F.STW_CTRL_LOG_EMIT = true)
    (hdue : 64 ≤ l.length ∨ l.head?.any (fun e => decide (e.time + b.us 1000 ≤ b.clk.core)) = true)
    (hc : c = { b with evl := { b.evl with carried := ((l.take 64).getLast?).elim b.evl.carried (fun e => e.seqno) } }) :
    b.evtLog = c.emitRow 7 0x03 0 0 0 ((l.take 64).flatMap LogEntry.bytes) := by
  subst hl hc
  unfold Block.evtLog
  extract_lets l old
  have hold : old = l.head?.any (fun e => decide (e.time + b.us 1000 ≤ b.clk.core)) := by cases h : l.head? <;> simp [old, h]
  rw [if_pos ⟨hruns, hemit, by rw [hold]; exact hdue⟩]

theorem Block.evtLog_none {b : Block} (h : b.is F.STW_CTRL_LOG_EMIT = false ∨ b.shed 5 = true ∨ b.evl.uncarried = []) : b.evtLog = b := by
  unfold Block.evtLog
  dsimp only
  rw [if_neg]
  rintro ⟨hruns, hemit, hdue⟩
  rcases h with hoff | hshed | hnone
  · simp [hoff] at hemit
  · simp [Block.threadRuns, hshed] at hruns
  · simp [hnone] at hdue

theorem Block.logSelect_eq {b c : Block} {n : Nat} (hn : n < 2 ^ 32) (hc : c = b.setf F.STW_LOG_SEL_SEQNO n) :
    b.logSelect n = { c with evl := { c.evl with latch := match b.evl.ring.find? (fun e => e.seqno == n) with
      | some e => e.words
      | none => [] } } := by
  subst hc
  unfold Block.logSelect
  rw [Nat.mod_eq_of_lt hn]
  rfl

/-! The wake watcher (R340) -/

/-- A slot that is enabled and sees its condition latches it; what follows turns on the sequence in progress. -/
theorem Block.watchFire_seen {b c : Block} {n : Nat} (hen : b.is (F.PWR_WAKE_SRC_EN.at (n % 32)) = true)
    (hsees : b.watched (b.f (F.PWR_WAKE_SRC_SRC.at (n % 32))) = true) (hc : c = b.setf ⟨0x10880, n % 32, 1, 0⟩ 1) :
    b.watchFire n = match b.pwr.seq with
      | some q =>
        match q.kind with
        | .entry => { c with pwr := { c.pwr with woken := true } }
        | .rollback => { c with pwr := { c.pwr with late := true } }
        | _ => c
      | none => if c.is F.PWR_STATUS_ASLEEP then c.wakeAll .wake else c := by
  subst hc
  unfold Block.watchFire
  dsimp only
  rw [if_pos ⟨hen, hsees⟩]
  rfl

/-- Settles O51, each clause from the lemma on its command. -/
theorem eventLogAndWatcher : Obligations.EventLogAndWatcher := by
  unfold Obligations.EventLogAndWatcher
  refine ⟨?_, ?_, ?_, ?_, ?_, ?_, ?_, ?_, ?_⟩
  · intro s l hl hruns hemit hdue c hc
    rw [exec_evtLogRecord, Block.evtLog_formed hl hruns hemit hdue hc]
  · intro s h
    rw [exec_evtLogRecord, Block.evtLog_none h]
  · intro s m n e hn hok c hc hfind
    rw [exec_logSelect, Block.write_ok _ hok, Block.logSelect_eq hn hc, hfind]
    rfl
  · intro s m n hn hok c hc hfind
    rw [exec_logSelect, Block.write_ok _ hok, Block.logSelect_eq hn hc, hfind]
  · intro s hset hover
    rw [exec_wakeTimerExpire, Block.timerExpire, if_pos ⟨hset, Nat.sub_eq_zero_of_le hover⟩]
  · intro s h
    rw [exec_wakeTimerExpire, Block.timerExpire, if_neg]
    unfold Block.wakeTimer
    omega
  · rintro s n k rfl h
    rw [exec_wakeWatchFire, Block.watchFire, if_neg]
    rcases h with h | h <;> simp [h]
  · rintro s n q k rfl hen hsees hseq hkind c hc
    rw [exec_wakeWatchFire, Block.watchFire_seen hen hsees hc, hseq]
    simp only [hkind]
  · rintro s n k rfl hen hsees hseq c hc
    rw [exec_wakeWatchFire, Block.watchFire_seen hen hsees hc, hseq]

end Sys2Proof.Machine
end

section
namespace Sys2Proof.Machine

/-! The frame of the sync counters (R331, R332) -/

/-- The block without its sync counters and without the masters' responses. -/
def Block.noSync (b : Block) : Block := { b with syn_ := {}, rspMgmt := {}, rspVsb := {}, rspTest := {} }

/-- What a command of the sync counters may change. -/
abbrev Block.SyncFramed (b c : Block) : Prop := Block.Framed Block.noSync [0xF, 0x11] b c

theorem Block.noSync_answer (b : Block) (m : Master) (code data : Nat) : (b.answer m code data).noEvents.noSync = b.noEvents.noSync := by
  cases m <;> rfl

/-- With its sync counters put back, the block is as before but for events. -/
theorem Block.SyncFramed.restored {b c : Block} (h : b.SyncFramed c) :
    ({ c.noEvents with syn_ := b.syn_, rspMgmt := b.rspMgmt, rspVsb := b.rspVsb, rspTest := b.rspTest } : Block) = b.noEvents :=
  congrArg (fun x : Block => { x with syn_ := b.syn_, rspMgmt := b.rspMgmt, rspVsb := b.rspVsb, rspTest := b.rspTest }) h.2

section
variable {b c : Block} (h : b.SyncFramed c)
include h

theorem Block.SyncFramed.syn_ (x : Syn) : b.SyncFramed { c with syn_ := x } := h.of_unit rfl rfl

theorem Block.SyncFramed.synFault (who i kind : Nat) : b.SyncFramed (c.synFault who i kind) := by
  have hshown := ((h.setf (y := F.SYN_FAULT_INDEX) i (by decide) (by decide)).setf (y := F.SYN_FAULT_KIND) kind (by decide)
    (by decide)).setf (y := F.SYN_FAULT_VALID) 1 (by decide) (by decide)
  unfold Block.synFault
  dsimp only
  split
  · exact hshown.raise (src := Ev.STW_SYN_OVERFLOW) (by decide) (by decide) _
  · exact hshown.raise (src := Ev.STW_SYN_UNDERFLOW) (by decide) (by decide) _

theorem Block.SyncFramed.synWake (i : Nat) : b.SyncFramed (c.synWake i) :=
  h.foldl (fun _ _ _ he => Block.Framed.ite _ (fun _ => Block.SyncFramed.syn_ (Block.SyncFramed.syn_ (Block.SyncFramed.syn_ he _) _) _) (fun _ => he))

end

/-- Each operation on a counter keeps the frame. -/
theorem Block.synOp_framed (b : Block) (who : Agent) (op i n : Nat) : b.SyncFramed (b.synOp who op i n) := by
  have h : b.SyncFramed b := Block.Framed.refl _ _ b
  have hset (i : Nat) (x : SynCtr) : b.SyncFramed (b.setCtr i x) := h.syn_ _
  have hanswer (i st : Nat) : b.SyncFramed (b.synAnswer who.num i st) := h.syn_ _
  have hput (i st : Nat) (x : SynCtr) : b.SyncFramed ((b.setCtr i x).synAnswer who.num i st) := (hset i x).syn_ _
  unfold Block.synOp
  refine Block.Framed.ite _ (fun _ => hanswer _ _) (fun _ => Block.Framed.ite _ (fun _ => hanswer _ _) (fun _ => ?_))
  split
  · exact Block.SyncFramed.synWake (Block.Framed.ite _ (fun _ => (hput _ _ _).synFault _ _ _) (fun _ => hput _ _ _)) _
  · exact Block.Framed.ite _ (fun _ => (hput _ _ _).synFault _ _ _) (fun _ => hput _ _ _)
  · cases who
    · exact hput _ _ _
    · exact Block.Framed.ite _ (fun _ => Block.SyncFramed.syn_ (hput _ _ _) _) (fun _ => hput _ _ _)
  · exact Block.Framed.ite _ (fun _ => hanswer _ _) (fun _ => hput _ _ _)
  · exact hput _ _ _
  · exact hanswer _ _

/-- So does an operation by its requester. -/
theorem Block.synBy_framed (b : Block) (who : Agent) (op i n : Nat) : b.SyncFramed (b.synBy who op i n) := by
  have hop := b.synOp_framed who op i n
  cases who with
  | master m => exact Block.Framed.write Block.noSync_answer m (by decide) (by decide) hop
  | thread w => exact Block.Framed.ite _ (fun _ => hop) (fun _ => Block.Framed.refl _ _ b)

theorem exec_sync_framed (s : State) (who : Agent) (op n k : Nat) {i : Instr}
    (hi : i ∈ [Instr.synRead who n k, .synInc who n k, .synDec who n k, .synTake who n k, .synSet who n k, .synClrf who n k,
      .synReservedOp who op n k]) : ∃ c : Block, exec i s = .next (s.put c) ∧ s.b.SyncFramed c := by
  simp only [List.mem_cons, List.not_mem_nil, or_false] at hi
  rcases hi with rfl | rfl | rfl | rfl | rfl | rfl | rfl
  · exact ⟨_, exec_synRead s who n k, s.b.synBy_framed who _ n k⟩
  · exact ⟨_, exec_synInc s who n k, s.b.synBy_framed who _ n k⟩
  · exact ⟨_, exec_synDec s who n k, s.b.synBy_framed who _ n k⟩
  · exact ⟨_, exec_synTake s who n k, s.b.synBy_framed who _ n k⟩
  · exact ⟨_, exec_synSet s who n k, s.b.synBy_framed who _ n k⟩
  · exact ⟨_, exec_synClrf s who n k, s.b.synBy_framed who _ n k⟩
  · exact ⟨_, exec_synReservedOp s who n k op, s.b.synBy_framed who _ n k⟩

/-! The frame of the Security unit (R371 to R375) -/

/-- The block without the Security unit, the counter of free values and the masters' responses. -/
def Block.noSecurity (b : Block) : Block := { b with sec := {}, freeN := 0, rspMgmt := {}, rspVsb := {}, rspTest := {} }

/-- What a command of the Security unit may change. -/
abbrev Block.SecFramed (b c : Block) : Prop := Block.Framed Block.noSecurity [0xF, 0x11] b c

theorem Block.noSecurity_answer (b : Block) (m : Master) (code data : Nat) :
    (b.answer m code data).noEvents.noSecurity = b.noEvents.noSecurity := by
  cases m <;> rfl

/-- With the Security unit put back, the block is as before but for events. -/
theorem Block.SecFramed.restored {b c : Block} (h : b.SecFramed c) :
    ({ c.noEvents with sec := b.sec, freeN := b.freeN, rspMgmt := b.rspMgmt, rspVsb := b.rspVsb, rspTest := b.rspTest } : Block) =
      b.noEvents :=
  congrArg (fun x : Block => { x with sec := b.sec, freeN := b.freeN, rspMgmt := b.rspMgmt, rspVsb := b.rspVsb, rspTest := b.rspTest }) h.2

section
variable {b c : Block} (h : b.SecFramed c)
include h

theorem Block.SecFramed.sec (x : Sec) : b.SecFramed { c with sec := x } := h.of_unit rfl rfl

theorem Block.SecFramed.setSec (m : Master) (f : MasterSec → MasterSec) : b.SecFramed (c.setSec m f) := h.sec _

theorem Block.SecFramed.raise {src : Nat} (hr : (srcFld src).region ∈ [0xF, 0x11]) (args : List (Nat × Nat) := []) :
    b.SecFramed (c.raise src args) := Block.Framed.raise h (by decide) hr args

theorem Block.SecFramed.badAttempt (m : Master) : b.SecFramed (c.badAttempt m) := by
  have hfail := ((h.setSec m (fun x => { x with result := 1, resp := [0, 0, 0, 0, 0, 0, 0, 0] })).setSec m
    (fun x => { x with fails := (c.sec.of m).fails + 1 })).raise (src := Ev.SEC_UNLOCK_FAIL) (by decide) [(m.num, 8)]
  exact Block.Framed.ite _ (fun _ => (hfail.setSec m _).raise (src := Ev.SEC_LOCKOUT) (by decide) _) (fun _ => hfail)

theorem Block.SecFramed.goodAttempt (m : Master) (rights part : Nat) : b.SecFramed (c.goodAttempt m rights part) :=
  ((h.setSec m _).setSec m _).raise (src := Ev.SEC_UNLOCK) (by decide) _

theorem Block.SecFramed.respond (m : Master) (word : Nat) : b.SecFramed (c.respond m word) := by
  have hused : b.SecFramed (c.setSec m (fun x => { x with nonce := none })) := h.setSec m _
  unfold Block.respond
  refine Block.Framed.ite _ (fun _ => hused.setSec m _) (fun _ => ?_)
  split
  · exact hused.setSec m _
  · exact Block.Framed.ite _ (fun _ => hused.goodAttempt m _ _) (fun _ => hused.badAttempt m)

theorem Block.SecFramed.password (m : Master) (word : Nat) : b.SecFramed (c.password m word) :=
  Block.Framed.ite _ (fun _ => h.setSec m _) (fun _ => Block.Framed.ite _ (fun _ => h.setSec m _) (fun _ =>
    Block.Framed.ite _ (fun _ => h.goodAttempt m _ _) (fun _ => h.badAttempt m)))

theorem Block.SecFramed.pgmDone (fail : Bool) : b.SecFramed (c.pgmDone fail) := by
  unfold Block.pgmDone
  split
  · exact h
  · exact Block.Framed.ite _ (fun _ => h.sec _) (fun _ => ((h.sec _).sec _).raise (src := Ev.SEC_KEY_REVOKED) (by decide) _)

theorem Block.SecFramed.testInstr (code : Nat) : b.SecFramed (c.testInstr code) := by
  unfold Block.testInstr
  refine Block.Framed.ite _ (fun _ => Block.Framed.ite _ (fun _ => ?_) (fun _ => ?_)) (fun _ =>
    Block.Framed.ite _ (fun _ => h.sec _) (fun _ => h.sec _))
  · exact Block.SecFramed.sec (Block.Framed.ite _ (fun _ => h.sec _) (fun _ => h)) _
  · exact (h.sec _).raise (src := Ev.SEC_JTAG_DENIED) (by decide) _

end

theorem Block.SecFramed.write {b : Block} {act : Block → Block} (m : Master) (off data : Nat) (h : b.SecFramed (act b)) :
    b.SecFramed (b.write m off data act) := Block.Framed.write Block.noSecurity_answer m (by decide) (by decide) h

/-- A revocation is a write that R368 may refuse. -/
theorem Block.keyRevoke_framed (b : Block) (m : Master) : b.SecFramed (b.keyRevoke m) := by
  have h : b.SecFramed b := Block.Framed.refl _ _ b
  refine Block.Framed.ite _ (fun _ => ?_) (fun _ => ?_)
  · exact Block.SecFramed.raise (Block.Framed.answer Block.noSecurity_answer m h _ _) (src := Ev.SEC_DENIED) (by decide) _
  · exact Block.SecFramed.write m _ _ (Block.Framed.ite _ (fun _ => h) (fun _ => h.sec _))

theorem exec_security_framed (s : State) (m : Master) (n : Nat) (fail : Bool) {i : Instr}
    (hi : i ∈ [Instr.unlockChal m, .unlockRespond m n, .unlockPassword m n, .unlockRelock m, .nonceExpire m, .lockoutEnd m, .keyRevoke m,
      .keyPgmDone fail, .testInstruction n]) : ∃ c : Block, exec i s = .next (s.put c) ∧ s.b.SecFramed c := by
  have h : s.b.SecFramed s.b := Block.Framed.refl _ _ s.b
  have hfresh : s.b.SecFramed s.b.fresh.2 := h.of_unit rfl rfl
  simp only [List.mem_cons, List.not_mem_nil, or_false] at hi
  rcases hi with rfl | rfl | rfl | rfl | rfl | rfl | rfl | rfl | rfl
  · exact ⟨_, exec_unlockChal s m, Block.SecFramed.write m _ _ (hfresh.setSec m _)⟩
  · exact ⟨_, exec_unlockRespond s m n, Block.SecFramed.write m _ _ (h.respond m n)⟩
  · exact ⟨_, exec_unlockPassword s m n, Block.SecFramed.write m _ _ (h.password m n)⟩
  · exact ⟨_, exec_unlockRelock s m, Block.SecFramed.write m _ _ ((h.setSec m _).raise (src := Ev.SEC_RELOCK) (by decide) _)⟩
  · exact ⟨_, exec_nonceExpire s m, Block.Framed.ite _ (fun _ => h) (fun _ => h.setSec m _)⟩
  · exact ⟨_, exec_lockoutEnd s m, Block.Framed.ite _ (fun _ => h) (fun _ => h.setSec m _)⟩
  · exact ⟨_, exec_keyRevoke s m, s.b.keyRevoke_framed m⟩
  · exact ⟨_, exec_keyPgmDone s fail, h.pgmDone fail⟩
  · exact ⟨_, exec_testInstruction s n, h.testInstr n⟩

/-! The frame of the interrupt controller (R334 to R337) -/

/-- The block without the masters' responses. -/
def Block.noResponses (b : Block) : Block := { b with rspMgmt := {}, rspVsb := {}, rspTest := {} }

/-- What a command of the interrupt controller may change. -/
abbrev Block.IrqFramed (b c : Block) : Prop := Block.Framed Block.noResponses [0xF, 0x11] b c

theorem Block.noResponses_answer (b : Block) (m : Master) (code data : Nat) :
    (b.answer m code data).noEvents.noResponses = b.noEvents.noResponses := by
  cases m <;> rfl

/-- With the masters' responses put back, the block is as before but for events. -/
theorem Block.IrqFramed.restored {b c : Block} (h : b.IrqFramed c) :
    ({ c.noEvents with rspMgmt := b.rspMgmt, rspVsb := b.rspVsb, rspTest := b.rspTest } : Block) = b.noEvents :=
  congrArg (fun x : Block => { x with rspMgmt := b.rspMgmt, rspVsb := b.rspVsb, rspTest := b.rspTest }) h.2

/-- An external input's bit stands in region 0xF. -/
theorem extFld_region (n : Nat) : (extFld n).region = 0xF := by simp [Fld.region, extFld]

section
variable {b c : Block} (h : b.IrqFramed c)
include h

theorem Block.IrqFramed.irq (x : Irq) : b.IrqFramed { c with irq := x } := h.of_unit rfl rfl

/-- A source that begins to pend keeps the frame. -/
theorem Block.IrqFramed.begins (src : Nat) : b.IrqFramed (c.begins src) :=
  ⟨Block.sameRegs_begins h.1 (by decide) src, (congrArg Block.noResponses (Block.noEvents_begins c src)).trans h.2⟩

theorem Block.IrqFramed.extSet {n : Nat} (hn : n < 32) : b.IrqFramed (c.extSet n) :=
  Block.Framed.ite _ (fun _ => h) (fun _ => Block.IrqFramed.begins (h.setf (y := extFld n) 1 hn (by rw [extFld_region]; decide)) _)

theorem Block.IrqFramed.extFollow {n : Nat} (hn : n < 32) : b.IrqFramed (c.extFollow n) := by
  have hclear := h.setf (y := extFld n) 0 hn (by rw [extFld_region]; decide)
  unfold Block.extFollow
  split
  · exact Block.Framed.ite _ (fun _ => h.extSet hn) (fun _ => hclear)
  · exact Block.Framed.ite _ (fun _ => h.extSet hn) (fun _ => hclear)
  · exact h

theorem Block.IrqFramed.irqLine (t : Nat) : b.IrqFramed (c.irqLine t) := by
  have hset (x : IrqTgt) : b.IrqFramed (c.setTgt t x) := h.irq _
  unfold Block.irqLine
  extract_lets
  exact Block.Framed.ite _ (fun _ => hset _) (fun _ => Block.Framed.ite _ (fun _ => h) (fun _ =>
    Block.Framed.ite _ (fun _ => hset _) (fun _ => Block.Framed.ite _ (fun _ => hset _) (fun _ => h))))

theorem Block.IrqFramed.claim (t : Nat) : b.IrqFramed (c.claim t).2 := by
  unfold Block.claim
  split
  · exact h
  · dsimp only
    exact Block.IrqFramed.irqLine (h.irq _) t

theorem Block.IrqFramed.eoi (t src : Nat) : b.IrqFramed (c.eoi t src) := by
  have hbad := Block.Framed.raise h (src := Ev.STW_EOI_BAD) (by decide) (by decide)
  unfold Block.eoi
  split
  · refine Block.Framed.ite _ (fun _ => ?_) (fun _ => hbad)
    refine Block.IrqFramed.irqLine (Block.Framed.ite _ (fun _ => ?_) (fun _ => ?_)) t
    · exact Block.IrqFramed.begins (h.irq _) src
    · exact h.irq _
  · exact hbad

theorem Block.IrqFramed.guardEnd (src : Nat) : b.IrqFramed (c.guardEnd src) := by
  unfold Block.guardEnd
  dsimp only
  split
  · exact Block.Framed.ite _ (fun _ => h.irq _) (fun _ => h)
  · exact h

theorem Block.IrqFramed.guardClear (src : Nat) : b.IrqFramed (c.guardClear src) := by
  unfold Block.guardClear
  dsimp only
  split
  · exact Block.Framed.ite _ (fun _ => h.irq _) (fun _ => h)
  · exact h

end

/-- A level of an input keeps the frame (R334). -/
theorem Block.irqIn_framed (b : Block) (n : Nat) (level : Bool) : b.IrqFramed (b.irqIn n level) := by
  have hn : n % 32 < 32 := Nat.mod_lt n (by decide)
  have h : b.IrqFramed b := Block.Framed.refl _ _ b
  unfold Block.irqIn
  extract_lets n' old new _ c hit
  have hc : b.IrqFramed c := h.irq _
  clear_value c
  exact Block.Framed.ite _ (fun _ => Block.Framed.ite _ (fun _ => hc.extSet hn) (fun _ => hc.extFollow hn)) (fun _ =>
    Block.Framed.ite _ (fun _ => Block.Framed.ite _ (fun _ => hc.irq _) (fun _ => hc)) (fun _ => hc))

theorem exec_irq_framed (s : State) (who : Agent) (n src : Nat) (level : Bool) {i : Instr}
    (hi : i ∈ [Instr.irqInEdge n level, .irqClaim who n, .irqEoi who n src, .irqHoldExpire n, .stormGuardEnd src, .guardCountClear src]) :
    ∃ c : Block, exec i s = .next (s.put c) ∧ s.b.IrqFramed c := by
  have h : s.b.IrqFramed s.b := Block.Framed.refl _ _ s.b
  simp only [List.mem_cons, List.not_mem_nil, or_false] at hi
  rcases hi with rfl | rfl | rfl | rfl | rfl | rfl
  · exact ⟨_, exec_irqInEdge s n level, s.b.irqIn_framed n level⟩
  · cases who with
    | master m =>
      refine ⟨_, exec_irqClaim_master s m n, Block.Framed.read Block.noResponses_answer m (by decide) (by decide) ?_⟩
      unfold Block.claimRead
      split
      · exact h
      · dsimp only
        exact h.claim _
    | thread w => exact ⟨_, exec_irqClaim_thread s w n, Block.Framed.ite _ (fun _ => h.claim 0) (fun _ => h)⟩
  · cases who with
    | master m =>
      exact ⟨_, exec_irqEoi_master s m n src, Block.Framed.write Block.noResponses_answer m (by decide) (by decide) (h.eoi _ _)⟩
    | thread w => exact ⟨_, exec_irqEoi_thread s w n src, Block.Framed.ite _ (fun _ => h.eoi 0 _) (fun _ => h)⟩
  · exact ⟨_, exec_irqHoldExpire s n, Block.Framed.ite _ (fun _ => h.irqLine _) (fun _ => h)⟩
  · exact ⟨_, exec_stormGuardEnd s src, h.guardEnd src⟩
  · exact ⟨_, exec_guardCountClear s src, h.guardClear src⟩

/-! The frame of the Steward's posts, windows and warnings (R329, R330) -/

/-- The block without the Steward. -/
def Block.noSteward (b : Block) : Block := { b with stw := {} }

/-- What a command of the Steward's posts and windows may change. -/
abbrev Block.StewardFramed (b c : Block) : Prop := Block.Framed Block.noSteward [0xF] b c

/-- With the Steward put back, the block is as before but for events. -/
theorem Block.StewardFramed.restored {b c : Block} (h : b.StewardFramed c) : ({ c.noEvents with stw := b.stw } : Block) = b.noEvents :=
  congrArg (fun x : Block => { x with stw := b.stw }) h.2

section
variable {b c : Block} (h : b.StewardFramed c)
include h

theorem Block.StewardFramed.stw (x : Stw) : b.StewardFramed { c with stw := x } := h.of_unit rfl rfl

theorem Block.StewardFramed.raise {src : Nat} (hr : (srcFld src).region ∈ [0xF]) : b.StewardFramed (c.raise src) :=
  Block.Framed.raise h (by decide) hr

theorem Block.StewardFramed.raiseIf {src : Nat} (hr : (srcFld src).region ∈ [0xF]) (p : Bool) : b.StewardFramed (c.raiseIf p src) :=
  Block.Framed.ite _ (fun _ => h.raise hr) (fun _ => h)

theorem Block.StewardFramed.post (duty : Nat) : b.StewardFramed (c.post duty) :=
  Block.Framed.ite _ (fun _ => h.stw _) (fun _ =>
    Block.StewardFramed.raise (h.count (y := F.STW_POSTS_LOST) 1 (by decide) (by decide)) (src := Ev.STW_POST_LOST) (by decide))

theorem Block.StewardFramed.postRecheck : b.StewardFramed c.postRecheck :=
  Block.Framed.ite _ (fun _ => Block.Framed.foldl (h.stw _) (fun duty _ _ he => Block.StewardFramed.post he duty)) (fun _ => h)

theorem Block.StewardFramed.loadWindow (ready : Nat) : b.StewardFramed (c.loadWindow ready) := by
  refine Block.Framed.ite _ (fun _ => ?_) (fun _ => h)
  refine Block.StewardFramed.raiseIf (src := Ev.STW_SHED) ?_ (by decide) _
  refine Block.Framed.setf (y := F.STW_STATUS_LEVEL) ?_ _ (by decide) (by decide)
  refine Block.StewardFramed.raiseIf (src := Ev.STW_OVERLOAD) ?_ (by decide) _
  refine Block.Framed.count ?_ _ (by rw [Fld.lo_ix]; decide) (by rw [Fld.region_ix]; decide)
  exact Block.Framed.setf (y := F.STW_STATUS_LOAD) (h.stw _) _ (by decide) (by decide)

theorem Block.StewardFramed.wdogWarn (duty : Nat) : b.StewardFramed (c.wdogWarn duty) :=
  Block.Framed.ite _ (fun _ => Block.StewardFramed.raise (h.stw _) (src := Ev.STW_WDOG_WARN) (by decide)) (fun _ => h)

end

theorem exec_steward_framed (s : State) (n : Nat) {i : Instr} (hi : i ∈ [Instr.postRecheck, .loadWindow n, .wdogWarn n]) :
    ∃ c : Block, exec i s = .next (s.put c) ∧ s.b.StewardFramed c := by
  have h : s.b.StewardFramed s.b := Block.Framed.refl _ _ s.b
  simp only [List.mem_cons, List.not_mem_nil, or_false] at hi
  rcases hi with rfl | rfl | rfl
  · exact ⟨_, exec_postRecheck s, h.postRecheck⟩
  · exact ⟨_, exec_loadWindow s n, h.loadWindow n⟩
  · exact ⟨_, exec_wdogWarn s n, h.wdogWarn n⟩

/-- Settles O11: each command of a group acts on the block alone, and keeps the frame of its unit. -/
theorem controlFrames : Obligations.ControlFrames := by
  unfold Obligations.ControlFrames
  refine ⟨?_, ?_, ?_, ?_⟩
  · intro who op n k i s t hi hexec
    obtain ⟨c, hnext, hframe⟩ := exec_sync_framed s who op n k hi
    cases hnext.symm.trans hexec
    exact ⟨rfl, hframe.1, hframe.restored⟩
  · intro m n fail i s t hi hexec
    obtain ⟨c, hnext, hframe⟩ := exec_security_framed s m n fail hi
    cases hnext.symm.trans hexec
    exact ⟨rfl, hframe.1, hframe.restored⟩
  · intro who n src level i s t hi hexec
    obtain ⟨c, hnext, hframe⟩ := exec_irq_framed s who n src level hi
    cases hnext.symm.trans hexec
    exact ⟨rfl, hframe.1, hframe.restored⟩
  · intro n i s t hi hexec
    obtain ⟨c, hnext, hframe⟩ := exec_steward_framed s n hi
    cases hnext.symm.trans hexec
    exact ⟨rfl, hframe.1, hframe.restored⟩

end Sys2Proof.Machine
end

section
namespace Sys2Proof.Machine

/-! The commands of power fail, resets and starts: each is its function on the block -/

section
variable (s : State) (m : Master) (n : Nat)

theorem exec_pfWarn : exec .pfWarn s = .next (s.put s.b.pfWarn) := rfl

theorem exec_pfClear : exec .pfClear s = .next (s.put s.b.pfClear) := rfl

theorem exec_mainReset : exec .mainReset s = .next (s.put (s.b.reset 2)) := rfl

theorem exec_pinReset : exec .pinReset s = .next (s.put (s.b.reset 3)) := rfl

theorem exec_softReset :
    exec (.softReset m n) s =
      .next (s.put (s.b.write m 0x10104 (n % 65536 * 65536 + 1) (fun b => if n % 65536 = 0xA5C3 then b.reset 5 else b))) := rfl

theorem exec_unitReset : exec (.unitReset m n) s = .next (s.put (s.b.write m 0x10108 n (fun b => b.unitResetWrite n))) := rfl

theorem exec_startSequence : exec .startSequence s = .next (s.put s.b.startSequence) := rfl

theorem exec_startGood : exec .startGood s = .next (s.put s.b.startGood) := rfl

theorem exec_startLimit : exec .startLimit s = .next (s.put s.b.startLimit) := rfl

theorem exec_startFailReset : exec .startFailReset s = .next (s.put s.b.startFailReset) := rfl

end

/-! Edges of PF_WARN_N (R355) -/

theorem Block.holding_iff (b : Block) : b.holding = true ↔ ∃ n, b.pwr.start = .hold n := by
  unfold Block.holding
  split <;> simp_all

section
variable {b c d : Block}

/-- A falling edge with no sequence in progress and the start's inputs steady. -/
theorem Block.pfWarn_idle (hnohold : b.holding = false) (hc : c = ({ b with pwr := { b.pwr with pfLow := true } } : Block).setf F.PWR_STATUS_PF 1)
    (hd : d = (c.raise Ev.PWR_PF_WARN).pfBegin) (hseq : d.pwr.seq = none) :
    b.pfWarn = if d.is F.PWR_STATUS_ASLEEP then d.wakeAll .wake else d := by
  have hstart : ∀ n, c.pwr.start ≠ .hold n := by
    intro n e
    have : b.holding = true := b.holding_iff.mpr ⟨n, by rw [hc] at e; exact e⟩
    simp [hnohold] at this
  unfold Block.pfWarn
  dsimp only
  rw [← hc]
  cases e : c.pwr.start
  case hold n => exact absurd e (hstart n)
  all_goals
    dsimp only
    rw [← hd, hseq]

theorem Block.pfClear_steady (hnohold : b.holding = false)
    (hc : c = ({ b with pwr := { b.pwr with pfLow := false } } : Block).setf F.PWR_STATUS_PF 0) :
    b.pfClear = (c.raise Ev.PWR_PF_CLEAR).pfEnd := by
  have hstart : ∀ n, c.pwr.start ≠ .hold n := by
    intro n e
    have : b.holding = true := b.holding_iff.mpr ⟨n, by rw [hc] at e; exact e⟩
    simp [hnohold] at this
  unfold Block.pfClear
  dsimp only
  rw [← hc]
  split
  · next n e => exact absurd e (hstart n)
  · rfl

/-- While the inputs of a start are awaited, a rising edge starts the 50,000 cycles again (R358). -/
theorem Block.pfClear_held {n : Nat} (hhold : b.pwr.start = .hold n)
    (hc : c = ({ b with pwr := { b.pwr with pfLow := false } } : Block).setf F.PWR_STATUS_PF 0)
    (hd : d = { c with pwr := { c.pwr with start := .hold c.clk.aon } }) : b.pfClear = (d.raise Ev.PWR_PF_CLEAR).pfEnd := by
  have hstart : c.pwr.start = .hold n := by rw [hc]; exact hhold
  unfold Block.pfClear
  dsimp only
  rw [← hc, hstart, hd]

end

/-! Resets (R357, R359, R361) -/

/-- MAIN does not wait for a flush. -/
theorem Block.reset_main (b : Block) : b.reset 2 = b.resetCore 2 := by
  unfold Block.reset
  rw [if_neg (by simp)]
  exact congrArg (fun c => Block.resetCore c 2) (if_neg (by simp))

theorem Block.reset_now {b : Block} {k : Nat} (hflush : b.flushing = false) (hk : k ≠ 4) : b.reset k = b.resetCore k := by
  unfold Block.reset
  rw [if_neg (by simp [hflush])]
  exact congrArg (fun c => Block.resetCore c k) (if_neg (by simp [hk]))

theorem Block.reset_held {b : Block} {k : Nat} (hflush : b.flushing = true) (hk : k ≠ 2) :
    b.reset k = { b with pwr := { b.pwr with heldReset := some k } } := if_pos ⟨hflush, hk⟩

/-- What every reset but a power-on reset leaves: domains 1 to 11 held, no sequence, masters relocked, the cause recorded (R357, R359). -/
theorem Block.resetCore_leaves (b : Block) {k : Nat} (hk : k = 2 ∨ k = 3 ∨ k = 4 ∨ k = 5) {c : Block} (hc : c = b.resetCore k) :
    c.holding = true ∧ c.pwr.seq = none ∧ c.busy = none ∧ c.f F.RST_CAUSE_LAST = k ∧ c.f F.ROLE_STATUS_ROLE = 3 ∧ c.sec.mgmt.addR = 0 ∧
      c.sec.vsb.addR = 0 ∧ c.sec.test.addR = 0 ∧ c.pwr.held = [1, 2, 3, 4, 5, 6, 7, 8, 9, 10, 11] ∧ c.is F.PWR_STATUS_ASLEEP = false := by
  have hcause (e : Block) (x : Fld) (hx : x.lo < 32) (hoff : x.off ≠ 0x10100) : (e.setf (causeFld k) 1).f x = e.f x :=
    Block.f_setf_off e 1 hx (by unfold causeFld; dsimp only; omega) hoff
  rw [hc]
  unfold Block.resetCore
  extract_lets _ u z _ _ v p q r
  have hlast : (((r.setf (causeFld k) 1).setf F.RST_CAUSE_LAST k)).f F.RST_CAUSE_LAST = k := by
    rw [Block.f_setf_same]
    exact Nat.mod_eq_of_lt (by simp only [F.RST_CAUSE_LAST]; omega)
  have hrole : (((r.setf (causeFld k) 1).setf F.RST_CAUSE_LAST k)).f F.ROLE_STATUS_ROLE = 3 := by
    rw [Block.f_setf_off _ k (by decide) (by decide) (by decide), hcause r _ (by decide) (by decide), Block.f_setf_same]
    rfl
  have hawake : (((r.setf (causeFld k) 1).setf F.RST_CAUSE_LAST k)).f F.PWR_STATUS_ASLEEP = 0 := by
    rw [Block.f_setf_off _ k (by decide) (by decide) (by decide), hcause r _ (by decide) (by decide),
      Block.f_setf_off _ 3 (by decide) (by decide) (by decide), Block.f_setf_off _ 0 (by decide) (by decide) (by decide),
      Block.f_setf_off _ 0 (by decide) (by decide) (by decide), Block.f_setf_other _ 0 (by decide), Block.f_setf_same]
    rfl
  exact ⟨rfl, rfl, rfl, hlast, hrole, rfl, rfl, rfl, rfl, by rw [Block.is, hawake]; rfl⟩

theorem Block.unitResetWrite_no_key {b : Block} {word : Nat} (h : bits word 16 16 ≠ 0xA5C3) : b.unitResetWrite word = b := if_pos h

theorem Block.unitResetWrite_refused {b : Block} {word : Nat} (hkey : bits word 16 16 = 0xA5C3)
    (h : b.pwr.seq.isSome = true ∨ b.is F.PWR_STATUS_ASLEEP = true ∨ b.flushing = true) :
    b.unitResetWrite word = b.setf F.RST_STAT_UREF 1 := by
  unfold Block.unitResetWrite
  rw [if_neg (not_not.mpr hkey), if_pos]
  rcases h with h | h | h
  · exact Or.inl h
  · exact Or.inr (Or.inl h)
  · exact Or.inr (Or.inr (Or.inl h))

theorem Block.unitResetWrite_acts {b : Block} {word : Nat} (hkey : bits word 16 16 = 0xA5C3) (hseq : b.pwr.seq = none)
    (hawake : b.is F.PWR_STATUS_ASLEEP = false) (hflush : b.flushing = false) (hhold : b.holding = false)
    (hon : (b.unitDoms word).all (fun d => b.on d) = true) :
    b.unitResetWrite word = (b.unitDoms word).foldl (fun b d => b.returned d) b := by
  have hall : (b.unitDoms word).any (fun d => !b.on d) = false := by
    rw [List.any_eq_false]
    intro d hd
    simp [List.all_eq_true.mp hon d hd]
  unfold Block.unitResetWrite
  rw [if_neg (not_not.mpr hkey), if_neg (by simp only [hseq, hawake, hflush, hhold, hall, Option.isSome_none, Bool.false_eq_true, or_self,
    not_false_eq_true])]

/-! Starts (R358, R359, R360, R362) -/

section
variable {b c : Block} {n : Nat}

theorem Block.startSequence_waits (hhold : b.pwr.start = .hold n) (h : b.clk.aon < n + 50000 ∨ b.pwr.pfLow = true) : b.startSequence = b := by
  unfold Block.startSequence
  rw [hhold]
  refine if_neg ?_
  rintro ⟨hdue, hhigh⟩
  rcases h with h | h
  · omega
  · exact hhigh h

section
variable (hhold : b.pwr.start = .hold n) (hdue : n + 50000 ≤ b.clk.aon) (hhigh : b.pwr.pfLow = false)
  (hc : c = (b.setf F.RST_STAT_GOOD 0).count F.RST_STAT_BOOTS)
include hhold hdue hhigh hc

/-- A start that is due counts a boot; then it enters Chrysalis or releases the domains. -/
theorem Block.startSequence_due :
    b.startSequence = if c.is F.ROLE_STATUS_STRAP_BAD = true ∨ 3 ≤ c.f F.RST_STAT_FAILS then c.chrysalis
      else ({ c with pwr := { c.pwr with start := .release } } : Block).wakeNext .start
        (releaseOrder.filter (fun d => !domAbsent c.syn.agg d)) id := by
  unfold Block.startSequence
  rw [hhold, hc]
  exact if_pos ⟨hdue, by simp [hhigh]⟩

theorem Block.startSequence_releases (hstrap : c.is F.ROLE_STATUS_STRAP_BAD = false) (hfails : c.f F.RST_STAT_FAILS < 3) {d : Nat}
    {l : List Nat} (horder : releaseOrder.filter (fun d => !domAbsent c.syn.agg d) = d :: l) {e : Block}
    (he : e = { c with pwr := { c.pwr with start := .release } }) :
    b.startSequence = (e.request d 2).setSeq (some { kind := .start, wait := .ack, dom := d, todo := l, since := e.clk.aon }) := by
  rw [Block.startSequence_due hhold hdue hhigh hc, if_neg (by simp only [hstrap, Bool.false_eq_true, false_or, not_le]; exact hfails), horder,
    he]
  rfl

/-- Three failed starts lead into Chrysalis. -/
theorem Block.startSequence_chrysalis (hstrap : c.is F.ROLE_STATUS_STRAP_BAD = false) (hfails : 3 ≤ c.f F.RST_STAT_FAILS) {d e : Block}
    (hd : d = (((c.stopUnit dTRACE true).setf F.PWR_STATUS_CHRYS 1).setf F.RST_STAT_CHRYS 1).setf F.RST_STAT_CCAUSE 1)
    (he : e = { d with pwr := { d.pwr with start := .release } }) :
    b.startSequence = (e.request 1 2).setSeq (some { kind := .start, wait := .ack, dom := 1, todo := [5, 3], since := e.clk.aon }) := by
  rw [Block.startSequence_due hhold hdue hhigh hc, if_pos (Or.inr hfails), Block.chrysalis, hstrap, he, hd]
  rfl

end

theorem Block.startGood_due (hrun : b.pwr.start = .running n) (hdue : n + atLeast1 (b.f F.RST_START_GOOD) * 25000000 ≤ b.clk.aon) :
    b.startGood = (({ b with pwr := { b.pwr with start := .good } } : Block).setf F.RST_STAT_GOOD 1).setf F.RST_STAT_FAILS 0 := by
  unfold Block.startGood
  rw [hrun]
  exact if_pos hdue

theorem Block.startGood_early (hrun : b.pwr.start = .running n) (h : b.clk.aon < n + atLeast1 (b.f F.RST_START_GOOD) * 25000000) :
    b.startGood = b := by
  unfold Block.startGood
  rw [hrun]
  exact if_neg (Nat.not_le.mpr h)

/-- Without an image within LIMIT the start has failed. -/
theorem Block.startLimit_due (hwait : b.pwr.start = .noImage n) (hstore : b.hasStore = true) (hnormal : b.is F.RST_STAT_CHRYS = false)
    (hdue : n + atLeast1 (b.f F.RST_START_LIMIT) * 25000000 ≤ b.clk.aon) : b.startLimit = b.startFail 3 := by
  unfold Block.startLimit
  rw [hwait]
  exact if_pos ⟨hstore, by simp [hnormal], hdue⟩

theorem Block.startLimit_no_store (hstore : b.hasStore = false) : b.startLimit = b := by
  unfold Block.startLimit
  split
  · exact if_neg (by simp [hstore])
  · rfl

theorem Block.startFailReset_due (hfail : b.pwr.start = .failed n) (hdue : n + 25000000 ≤ b.clk.aon) : b.startFailReset = b.reset 5 := by
  unfold Block.startFailReset
  rw [hfail]
  exact if_pos hdue

theorem Block.startFailReset_early (hfail : b.pwr.start = .failed n) (h : b.clk.aon < n + 25000000) : b.startFailReset = b := by
  unfold Block.startFailReset
  rw [hfail]
  exact if_neg (Nat.not_le.mpr h)

end

/-- Settles O56, each clause from the lemma on its command. -/
theorem powerFailAndResets : Obligations.PowerFailAndResets := by
  unfold Obligations.PowerFailAndResets
  refine ⟨?_, ?_, ?_, ?_, ?_, ?_, ?_, ?_, ?_, ?_, ?_, ?_, ?_, ?_, ?_, ?_, ?_, ?_, ?_, ?_, ?_, ?_⟩
  · intro s _ hnohold c hc d hd _ hseq
    rw [exec_pfWarn, Block.pfWarn_idle hnohold hc hd hseq]
  · intro s hnohold c hc
    rw [exec_pfClear, Block.pfClear_steady hnohold hc]
  · intro s n hhold c hc d hd
    rw [exec_pfClear, Block.pfClear_held hhold hc hd]
  · intro s
    exact ⟨_, exec_porReset s, rfl, rfl, rfl⟩
  · intro s
    rw [exec_mainReset, Block.reset_main]
  · intro s hflush
    rw [exec_pinReset, Block.reset_now hflush (by decide)]
  · intro s hflush
    rw [exec_pinReset, Block.reset_held hflush (by decide)]
  · intro b k hk c hc
    exact b.resetCore_leaves hk hc
  · intro s m key hok hkey
    rw [exec_softReset, Block.write_ok _ hok, if_neg hkey]
  · intro s m key hok hkey hflush
    rw [exec_softReset, Block.write_ok _ hok, if_pos hkey, Block.reset_now hflush (by decide)]
  · intro s m word hok hkey
    rw [exec_unitReset, Block.write_ok _ hok, Block.unitResetWrite_no_key hkey]
  · intro s m word hok hkey h
    rw [exec_unitReset, Block.write_ok _ hok, Block.unitResetWrite_refused hkey h]
  · intro s m word hok hkey hseq hawake hflush hhold hon
    rw [exec_unitReset, Block.write_ok _ hok, Block.unitResetWrite_acts hkey hseq hawake hflush hhold hon]
  · intro s n hhold h
    rw [exec_startSequence, Block.startSequence_waits hhold h]
  · intro s n d l hhold hdue hhigh c hc hstrap hfails horder e he
    rw [exec_startSequence, Block.startSequence_releases hhold hdue hhigh hc hstrap hfails horder he]
  · intro s n hhold hdue hhigh c hc hstrap hfails d hd e he
    rw [exec_startSequence, Block.startSequence_chrysalis hhold hdue hhigh hc hstrap hfails hd he]
  · intro s n hrun hdue
    rw [exec_startGood, Block.startGood_due hrun hdue]
  · intro s n hrun h
    rw [exec_startGood, Block.startGood_early hrun h]
  · rintro s n hwait hstore hnormal hdue k rfl c rfl
    rw [exec_startLimit, Block.startLimit_due hwait hstore hnormal hdue]
    rfl
  · intro s hstore
    rw [exec_startLimit, Block.startLimit_no_store hstore]
  · intro s n hfail hdue hflush
    rw [exec_startFailReset, Block.startFailReset_due hfail hdue, Block.reset_now hflush (by decide)]
  · intro s n hfail h
    rw [exec_startFailReset, Block.startFailReset_early hfail h]

end Sys2Proof.Machine
end

section
namespace Sys2Proof.Machine

/-! The commands of Cocoon's journal and medium: each is its function on the block -/

section
variable (s : State) (ch tgt : Nat)

theorem exec_groupClose : exec .groupClose s = .next (s.put s.b.groupClose) := rfl

theorem exec_nandStatus (r : NandResult) : exec (.nandStatus r) s = .next (s.put (s.b.nandStatus r)) := rfl

theorem exec_targetFailTimeout : exec (.targetFailTimeout ch tgt) s = .next (s.put (s.b.targetTimeout ch tgt)) := rfl

theorem exec_patrolRead (blk page : Nat) (l : Ladder) :
    exec (.patrolRead ch tgt blk page l) s = .next (s.put (s.b.patrolRead ch tgt blk page l)) := rfl

theorem exec_journalRecoveryDone (bad : List (Nat × Nat × Nat)) :
    exec (.journalRecoveryDone bad) s = .next (s.put (s.b.recoveryDone bad)) := rfl

theorem exec_cocoonReadyTimeout : exec .cocoonReadyTimeout s = .next (s.put s.b.cocLate) := rfl

end

/-! Groups (R274, R283) -/

section
variable {b c : Block} (hc : c = b.consume)
include hc

/-- GTIME after its first byte the group closes. -/
theorem Block.groupClose_due (hmay : c.mayClose = true) (hflush : c.coc.flush = false) {t : Nat} (hsince : c.coc.bufSince = some t)
    (hdue : t + c.us (atLeast1 (c.f F.COC_CFG_GTIME)) ≤ c.clk.core) : b.groupClose = c.closeGroup.settleAll := by
  subst hc
  unfold Block.groupClose
  dsimp only
  rw [if_neg (by simp [hmay]), if_neg (by simp [hflush]), hsince]
  exact if_pos (Or.inr hdue)

/-- With no byte waiting no group closes. -/
theorem Block.groupClose_empty (hflush : c.coc.flush = false) (hsince : c.coc.bufSince = none) : b.groupClose = c := by
  subst hc
  unfold Block.groupClose
  dsimp only
  rw [hsince, if_neg (c := b.consume.coc.flush = true) (by simp [hflush])]
  exact ite_self _

/-- In a flush whose records all stand in groups, the FLUSHED group follows. -/
theorem Block.groupClose_flushEnd (hmay : c.mayClose = true) (hflush : c.coc.flush = true) (hbuf : c.coc.buf = []) (hnone : c.coc.flushG = none)
    (hprogs : c.coc.progs = []) (hraises : c.coc.raises = []) : b.groupClose = c.flushEnd.settleAll := by
  subst hc
  unfold Block.groupClose
  dsimp only
  rw [if_neg (by simp [hmay]), if_pos hflush, if_neg (by simp [hbuf]), if_pos ⟨by simp [hnone], hprogs, hraises⟩]

end

/-! NAND status (R268, R269, R272, R287) -/

section
variable {b : Block} {ch tgt : Nat} (hagg : b.syn.agg = true) (hon : b.on dSTORE = true)
include hagg hon

theorem Block.nandStatus_param (hch : bit b.syn.nvmPresent ch = 1) (htgt : tgt < 8) (geo : Option Geo) :
    b.nandStatus (.param ch tgt geo) = b.targetFound ch tgt geo := by
  unfold Block.nandStatus
  rw [if_neg (by simp [hagg, hon])]
  exact if_pos ⟨hch, htgt⟩

theorem Block.nandStatus_program (blk page : Nat) (pass : Bool) :
    b.nandStatus (.program ch tgt blk page pass) = (b.programDone ch tgt blk page pass).settleAll :=
  if_neg (by simp [hagg, hon])

theorem Block.nandStatus_read (blk page : Nat) (l : Ladder) : b.nandStatus (.read ch tgt blk page l) = b.ladder ch tgt blk page l :=
  if_neg (by simp [hagg, hon])

theorem Block.nandStatus_counter (copyB pass : Bool) :
    b.nandStatus (.counter copyB pass) = { b with coc := b.coc.ctrStatus copyB pass } :=
  if_neg (by simp [hagg, hon])

end

theorem Block.targetFound_good (b : Block) (ch tgt : Nat) {g : Geo} (hgood : g.good = true) :
    b.targetFound ch tgt (some g) =
      { b with coc := { b.coc with tgts := b.coc.tgts.put (ch * 8 + tgt) g, excl := b.coc.excl.filter (fun x => x != ch * 8 + tgt) } } :=
  if_pos hgood

/-- A read that step 1 of the ladder answers within TH corrected bits leaves nothing behind. -/
theorem Block.ladder_clean (b : Block) (ch tgt blk page : Nat) {l : Ladder} (hstep : l.step = 1) (hfixed : l.fixed ≤ b.f F.COC_SCRUB_TH) :
    b.ladder ch tgt blk page l = b := by
  unfold Block.ladder
  dsimp only
  rw [if_neg (c := 2 ≤ l.step) (by omega), if_neg (c := l.step = 4) (by omega), if_neg (c := 5 ≤ l.step) (by omega),
    if_neg (c := 2 ≤ l.step ∨ b.f F.COC_SCRUB_TH < l.fixed) (by omega)]

/-- The append to copy A passed: it stands there, and the append to copy B begins. -/
theorem Coc.ctrStatus_copyA (c : Coc) {slot v : Nat} {l : List (Nat × Nat × Bool)} (h : c.raises = (slot, v, false) :: l) :
    c.ctrStatus false true =
      { c with logA := c.logA.put slot (max v (c.logA.getD slot 0)), raises := (slot, v, true) :: l } := by
  simp [Coc.ctrStatus, h]

theorem Block.targetTimeout_due {b : Block} {ch tgt t : Nat} (hfail : b.coc.failing.find (ch * 8 + tgt) = some t)
    (hdue : t + aonUs 1000 ≤ b.clk.aon) : b.targetTimeout ch tgt = (b.excludeTgt ch tgt).settleAll := by
  unfold Block.targetTimeout tgtKey
  rw [hfail]
  exact if_pos hdue

theorem Block.targetTimeout_none {b : Block} {ch tgt : Nat} (hfail : b.coc.failing.find (ch * 8 + tgt) = none) :
    b.targetTimeout ch tgt = b := by
  unfold Block.targetTimeout tgtKey
  rw [hfail]

/-! The patrol (R271): the ladder leaves the fields of the patrol's own register -/

/-- A refresh works on the medium alone. -/
theorem Block.f_refreshBlk (b : Block) (k : Nat) (x : Fld) : (b.refreshBlk k).f x = b.f x := by
  unfold Block.refreshBlk
  split
  · rfl
  · extract_lets _ c gs _ _ d
    split
    · split <;> rfl
    · refine foldl_keeps (fun b => b.f x) _ (fun b g => ?_) gs d
      split <;> rfl

theorem Block.f_markBlk (b : Block) (k : Nat) (x : Fld) : (b.markBlk k).f x = b.f x :=
  Block.f_refreshBlk _ k x

/-- An event of Cocoon leaves COC_SCRUB. -/
theorem Block.raise_scrubAge (b : Block) {src : Nat} (args : List (Nat × Nat)) (hsrc : (srcFld src).off = 0xC008) :
    (b.raise src args).f F.COC_SCRUB_AGE = b.f F.COC_SCRUB_AGE :=
  Block.f_raise (x := F.COC_SCRUB_AGE) (by decide) (by decide) b args (by rw [hsrc]; decide)

theorem Block.count_scrubAge (b : Block) {y : Fld} (hlo : y.lo < 32) (hoff : y.off = 0xC030) :
    (b.count y).f F.COC_SCRUB_AGE = b.f F.COC_SCRUB_AGE :=
  Block.f_count_off b 1 (by decide) hlo (by rw [hoff]; decide)

theorem Block.ladder_scrubAge (b : Block) (ch tgt blk page : Nat) (l : Ladder) :
    (b.ladder ch tgt blk page l).f F.COC_SCRUB_AGE = b.f F.COC_SCRUB_AGE := by
  unfold Block.ladder
  extract_lets args c d e hit _ e'
  have hc : c.f F.COC_SCRUB_AGE = b.f F.COC_SCRUB_AGE := by
    unfold c
    split
    · rw [Block.raise_scrubAge _ _ (by decide), Block.count_scrubAge _ (by decide) rfl]
    · rfl
  have hd : d.f F.COC_SCRUB_AGE = b.f F.COC_SCRUB_AGE := by
    unfold d
    split
    · rw [Block.raise_scrubAge _ _ (by decide), Block.count_scrubAge _ (by decide) rfl, hc]
    · exact hc
  have he : e'.f F.COC_SCRUB_AGE = b.f F.COC_SCRUB_AGE := by
    change e.f F.COC_SCRUB_AGE = _
    rw [Block.raise_scrubAge _ _ (by decide), Block.count_scrubAge _ (by decide) rfl, hd]
  clear_value e' d
  split
  · rw [Block.f_markBlk, foldl_keeps (fun b => b.f F.COC_SCRUB_AGE) _ (fun b g => Block.raise_scrubAge b _ (by decide)), he]
  · split
    · rw [Block.f_markBlk, hd]
    · exact hd

theorem Block.patrolRead_unpatrolled {b : Block} {ch tgt blk page : Nat} (h : b.coc.patrolled ch tgt blk page = false) (l : Ladder) :
    b.patrolRead ch tgt blk page l = b :=
  if_pos (by simp [h])

theorem Block.patrolRead_young {b : Block} {ch tgt blk page : Nat} (hagg : b.syn.agg = true) (hready : b.cocReady = true)
    (hruns : b.threadRuns 6 = true) (h : b.coc.patrolled ch tgt blk page = true) (hage : b.f F.COC_SCRUB_AGE = 0) (l : Ladder) :
    b.patrolRead ch tgt blk page l = b.ladder ch tgt blk page l := by
  have hage' := (Block.ladder_scrubAge b ch tgt blk page l).trans hage
  unfold Block.patrolRead
  rw [if_neg (by simp [hagg, hready, hruns, h])]
  exact if_neg (fun hdays => hdays.1 hage')

/-! Recovery (R275, R279, R280) -/

theorem Block.recoveryDone_small {b : Block} (hon : b.on dSTORE = true) (hstate : b.f F.COC_STATUS_STATE = 1) (hagg : b.syn.agg = true)
    (hcap : b.coc.capKib * 1024 < 320 * 10 ^ 9) (bad : List (Nat × Nat × Nat)) : b.recoveryDone bad = b.setf F.COC_STATUS_STATE 3 := by
  unfold Block.recoveryDone
  rw [if_neg (by simp [hon, hstate]), if_pos ⟨hagg, hcap⟩]

/-- The D build keeps no account to recover. -/
theorem Block.energyRecover_hub {b : Block} (hagg : b.syn.agg = false) : b.energyRecover = b :=
  if_neg (fun h => by simp [Block.energyOn, Block.isRoot, hagg] at h)

theorem Block.recoveryDone_hub {b c : Block} (hon : b.on dSTORE = true) (hstate : b.f F.COC_STATUS_STATE = 1) (hagg : b.syn.agg = false)
    (hc : c = (b.setf F.COC_STATUS_STATE 2).raise Ev.COC_RECOVERED) :
    b.recoveryDone [] = ({ c with fab := { c.fab with cocSilent := false } }).opResume := by
  have hsyn : c.syn.agg = false := by rw [hc, Block.raise_syn]; exact hagg
  unfold Block.recoveryDone
  rw [if_neg (by simp [hon, hstate]), if_neg (by simp [hagg])]
  dsimp only
  rw [if_neg (by simp [hagg]), ← hc, Block.energyRecover_hub (by exact hsyn)]

theorem Block.cocLate_due {b : Block} {t : Nat} (hsince : b.coc.since = some t) (hagg : b.syn.agg = true)
    (hstate : b.f F.COC_STATUS_STATE ≠ 2) (hdue : t + aonUs 1000000 ≤ b.clk.aon) :
    b.cocLate = { b with fab := { b.fab with cocSilent := true } } := by
  unfold Block.cocLate
  rw [hsince]
  exact if_pos ⟨hagg, hstate, hdue⟩

theorem Block.cocLate_ready {b : Block} (hstate : b.f F.COC_STATUS_STATE = 2) : b.cocLate = b := by
  unfold Block.cocLate
  split
  · exact if_neg (fun h => h.2.1 hstate)
  · rfl

/-- Settles O41: each command is its function on the block, and each function's case above says what becomes of it. -/
theorem journalAndMedium : Obligations.JournalAndMedium := by
  unfold Obligations.JournalAndMedium
  refine ⟨?_, ?_, ?_, ?_, ?_, ?_, ?_, ?_, ?_, ?_, ?_, ?_, ?_, ?_, ?_, ?_⟩
  · intro s t c hc hmay hflush hsince hdue
    rw [exec_groupClose, Block.groupClose_due hc hmay hflush hsince hdue]
  · intro s c hc hflush hsince
    rw [exec_groupClose, Block.groupClose_empty hc hflush hsince]
  · intro s c hc hmay hflush hbuf hnone hprogs hraises
    rw [exec_groupClose, Block.groupClose_flushEnd hc hmay hflush hbuf hnone hprogs hraises]
  · intro s ch tgt g hagg hon hch htgt hgood
    rw [exec_nandStatus, Block.nandStatus_param hagg hon hch htgt, Block.targetFound_good _ _ _ hgood]
  · intro s ch tgt hagg hon hch htgt
    rw [exec_nandStatus, Block.nandStatus_param hagg hon hch htgt]
    rfl
  · rintro s ch tgt blk page hagg hon c rfl
    rw [exec_nandStatus, Block.nandStatus_program hagg hon]
    rfl
  · intro s ch tgt blk page l hagg hon hstep hfixed
    rw [exec_nandStatus, Block.nandStatus_read hagg hon, Block.ladder_clean _ _ _ _ _ hstep hfixed]
  · intro s slot v l hagg hon hraises
    rw [exec_nandStatus, Block.nandStatus_counter hagg hon, Coc.ctrStatus_copyA _ hraises]
  · intro s ch tgt t hfail hdue
    rw [exec_targetFailTimeout, Block.targetTimeout_due hfail hdue]
  · intro s ch tgt hfail
    rw [exec_targetFailTimeout, Block.targetTimeout_none hfail]
  · intro s ch tgt blk page l h
    rw [exec_patrolRead, Block.patrolRead_unpatrolled h]
  · intro s ch tgt blk page l hagg hready hruns h hage
    rw [exec_patrolRead, Block.patrolRead_young hagg hready hruns h hage]
  · intro s bad hon hstate hagg hcap
    rw [exec_journalRecoveryDone, Block.recoveryDone_small hon hstate hagg hcap]
  · intro s hon hstate hagg c hc
    rw [exec_journalRecoveryDone, Block.recoveryDone_hub hon hstate hagg hc]
  · intro s t hsince hagg hstate hdue
    rw [exec_cocoonReadyTimeout, Block.cocLate_due hsince hagg hstate hdue]
  · intro s hstate
    rw [exec_cocoonReadyTimeout, Block.cocLate_ready hstate]

end Sys2Proof.Machine
end

section
namespace Sys2Proof.Machine

/-! Cursors and the release point (R281, R282) -/

theorem exec_cursorRelease (s : State) (m : Master) (word : Nat) :
    exec (.cursorRelease m word) s = .next (s.put (s.b.write m 0xC10C (word / 8 * 8 + 6) (fun b => b.release word))) := rfl

section
variable {b c : Block} {word : Nat} (hc : c = b.writeFields 0xC10C word)
include hc

/-- A move with a record to load leaves its cursor BUSY. -/
theorem Block.curCommand_loads (hstate : c.f F.COC_STATUS_STATE = 2) {n : Nat} (hn : n = c.curNum) {cmd : Nat} {r : JRec}
    (hmove : (c.curMove n cmd).2 = some r) :
    b.curCommand cmd word =
      (c.setCursor n { c.cursor n with load := some ((c.curMove n cmd).1, r.jpos, some r) }).setf (F.COC_CUR_CTRL_STAT.ix n) 1 := by
  subst hc hn
  unfold Block.curCommand
  dsimp only
  rw [if_neg (by simp [hstate]), hmove]

/-- A move with none shows at once how it ended. -/
theorem Block.curCommand_ends (hstate : c.f F.COC_STATUS_STATE = 2) {n : Nat} (hn : n = c.curNum) {cmd : Nat}
    (hmove : (c.curMove n cmd).2 = none) :
    b.curCommand cmd word = (c.setCursor n { c.cursor n with load := none }).setf (F.COC_CUR_CTRL_STAT.ix n) (c.curMove n cmd).1 := by
  subst hc hn
  unfold Block.curCommand
  dsimp only
  rw [if_neg (by simp [hstate]), hmove]

/-- RELEASE moves the release point up to the cursor's record and one. -/
theorem Block.release_moves (hagg : c.syn.agg = true) (harea : c.is (F.COC_CUR_CTRL_AREA.ix c.curNum) = false)
    (hstate : c.f F.COC_STATUS_STATE = 2) {j : Nat} (hj : j = (c.cursor c.curNum).pos + 1) (hnext : j ≤ c.coc.nextJ) (hrel : c.coc.rel < j)
    {d : Block} (hd : d = { c with coc := ({ c.coc with rel := j } : Coc).reclaim }) (hfull : d.is F.COC_STATUS_FULL = false) :
    b.release word = d := by
  subst hc hj hd
  unfold Block.release
  dsimp only
  rw [if_neg (by simp only [hagg, harea, hstate]; simp; omega)]
  exact if_neg (by simp [hfull])

/-- It moves never back, and not in the D build. -/
theorem Block.release_stays (h : c.syn.agg = false ∨ (c.cursor c.curNum).pos + 1 ≤ c.coc.rel) : b.release word = c := by
  subst hc
  unfold Block.release
  refine if_pos ?_
  rcases h with hagg | hrel
  · exact Or.inl (by simp [hagg])
  · exact Or.inr (Or.inr (Or.inr (Or.inr hrel)))

end

theorem Block.loadDone_loaded {b : Block} {k stat pos : Nat} {r : JRec} (h : (b.cursor k).load = some (stat, pos, some r)) :
    b.loadDone k =
      ((b.setCursor k { b.cursor k with load := none, pos := pos, loaded := some r }).setf (F.COC_CUR_INFO_TAG.ix k)
        (r.tag (b.is (F.COC_CUR_CTRL_AREA.ix k)))).setf (F.COC_CUR_CTRL_STAT.ix k) stat := by
  unfold Block.loadDone
  dsimp only
  rw [h]
  rfl

/-- Settles O42: a cursor command by its move, RELEASE by its guards, the reads by what they latch. -/
theorem cursorsAndReleases : Obligations.CursorsAndReleases := by
  unfold Obligations.CursorsAndReleases
  refine ⟨?_, ?_, ?_, ?_, ?_, ?_, ?_, ?_, ?_, ?_, ?_, ?_, ?_, ?_, ?_⟩
  · intro s m word hok c hc hstate n hn hmove
    rw [exec_cursorOldest, Block.write_ok _ hok, Block.curCommand_ends hc hstate hn hmove]
  · intro s m word r hok c hc hstate n hn hmove
    rw [exec_cursorNewest, Block.write_ok _ hok, Block.curCommand_loads hc hstate hn hmove]
  · intro s m word r hok c hc hstate n hn hmove
    rw [exec_cursorOldest, Block.write_ok _ hok, Block.curCommand_loads hc hstate hn hmove]
  · intro s m word r hok c hc hstate n hn hmove
    rw [exec_cursorPrev, Block.write_ok _ hok, Block.curCommand_loads hc hstate hn hmove]
  · intro s m word r hok c hc hstate n hn hmove
    rw [exec_cursorSeek, Block.write_ok _ hok, Block.curCommand_loads hc hstate hn hmove]
  · intro s m word r hok c hc hstate n hn hmove
    rw [exec_cursorNext, Block.write_ok _ hok, Block.curCommand_loads hc hstate hn hmove]
  · intro s m word hok c hc hstate n hn hmove
    rw [exec_cursorPrev, Block.write_ok _ hok, Block.curCommand_ends hc hstate hn hmove]
  · intro s m word hok c hc hstate n hn hmove
    rw [exec_cursorSeek, Block.write_ok _ hok, Block.curCommand_ends hc hstate hn hmove]
  · intro s m word hok c hc hagg harea hstate j hj hnext hrel d hd hfull
    rw [exec_cursorRelease, Block.write_ok _ hok, Block.release_moves hc hagg harea hstate hj hnext hrel hd hfull]
  · intro s m word hok c hc h
    rw [exec_cursorRelease, Block.write_ok _ hok, Block.release_stays hc h]
  · rintro s n stat pos r k rfl x rfl hload c rfl
    rw [exec_cursorLoadDone, Block.loadDone_loaded hload]
  · intro s m hok
    rw [exec_relLoRead, Block.read_ok _ hok]
    rfl
  · intro s m hok
    rw [exec_newLoRead, Block.read_ok _ hok]
    rfl
  · rintro s m hok n rfl
    rw [exec_curPosRead, Block.read_ok _ hok]
    rfl
  · rintro s m hok v rfl
    rw [exec_mctrRead, Block.read_ok _ hok]
    rfl

end Sys2Proof.Machine
end

section
namespace Sys2Proof.Machine

/-! The counters' raises, the long operations, the NOR copy and the end of a flush: each is its function on the block -/

section
variable (s : State) (m : Master)

theorem exec_counterRaise : exec (.counterRaise m) s = .next (s.put (s.b.write m 0xC20C 1 Block.softRaise)) := rfl

theorem exec_counterRaiseDone : exec .counterRaiseDone s = .next (s.put (if s.b.on dSTORE then s.b.raiseDone else s.b)) := rfl

theorem exec_cocoonClear : exec (.cocoonClear m) s = .next (s.put (s.b.write m 0xC060 1 Block.clearStart)) := rfl

theorem exec_cocoonFormat (force : Bool) :
    exec (.cocoonFormat m force) s = .next (s.put (s.b.write m 0xC060 (if force then 6 else 2) (fun b => b.formatStart force))) := rfl

theorem exec_opDone : exec .opDone s = .next (s.put s.b.opDone) := rfl

theorem exec_norWriteDone :
    exec .norWriteDone s = .next (s.put (if ¬ s.b.syn.agg ∧ s.b.on dSTORE then { s.b with coc := s.b.coc.norDone } else s.b)) := rfl

theorem exec_pfFlushDone : exec .pfFlushDone s = .next (s.put s.b.flushDone_.takeHeld) := rfl

end

/-! Raises (R287, R288) -/

/-- With no raise in progress, a value above the counter's begins one. -/
theorem Block.raiseCtr_first {b : Block} {slot v : Nat} (hraises : b.coc.raises = []) (hv : b.coc.ctr slot < v) :
    b.raiseCtr slot v = { b with coc := { b.coc with raises := [(slot, v % 2 ^ 64, false)] } } := by
  unfold Block.raiseCtr
  rw [hraises]
  exact if_neg (by simpa using hv)

theorem Block.softRaise_starts {b : Block} {slot v : Nat} (hagg : b.syn.agg = true) (hslot : slot = b.f F.COC_MCTR_SEL_SLOT)
    (hsoft : 2048 ≤ slot) (hv : v = b.f F.COC_MCTR_LO_VAL_LO + 2 ^ 32 * b.f F.COC_MCTR_HI_VAL_HI) (hraises : b.coc.raises = [])
    (habove : b.coc.ctr slot < v) :
    b.softRaise = ({ b with coc := { b.coc with raises := [(slot, v % 2 ^ 64, false)] } }).setf F.COC_MCTR_CMD_DONE 0 := by
  subst hslot hv
  unfold Block.softRaise
  rw [if_neg (by simp [hagg]; omega), Block.raiseCtr_first hraises habove]
  exact if_neg (by simp [hraises])

theorem Block.softRaise_ignored {b : Block} (hslot : b.f F.COC_MCTR_SEL_SLOT < 2048) : b.softRaise = b := if_pos (Or.inr hslot)

/-- The last raise stands in both copies: DONE. -/
theorem Block.raiseDone_last {b : Block} {slot v : Nat} {x : Bool} (hagg : b.syn.agg = true) (hraises : b.coc.raises = [(slot, v, x)])
    (hA : v ≤ b.coc.logA.getD slot 0) (hB : v ≤ b.coc.logB.getD slot 0)
    (hldi : (b.fab.topo.homeLdis ++ b.fab.topo.buddyLdis)[slot]? = none) :
    b.raiseDone = ({ b with coc := { b.coc with raises := [] } }).setf F.COC_MCTR_CMD_DONE 1 := by
  unfold Block.raiseDone
  rw [hraises]
  dsimp only
  rw [if_pos hagg, if_neg (by omega), if_pos rfl]
  dsimp only [Block.setf_fab]
  rw [hldi]

/-! CLEAR and FORMAT (R291) -/

theorem Block.clearStart_taken {b : Block} (hstate : b.f F.COC_STATUS_STATE = 2) (hop : b.coc.op = none) (hflush : b.coc.flush = false) :
    b.clearStart = b.opStart .clear .clear :=
  if_pos ⟨hstate, by simp [hop], by simp [hflush]⟩

theorem Block.formatStart_not_running {b : Block} (force : Bool) (hstate : b.f F.COC_STATUS_STATE < 2) :
    b.formatStart force = b.raise Ev.COC_OP_REFUSED :=
  if_pos (Or.inl hstate)

/-- FORMAT of a D-role's NOR with nothing unreleased needs no FORCE. -/
theorem Block.formatStart_hub {b : Block} (hagg : b.syn.agg = false) (hstate : b.f F.COC_STATUS_STATE = 2) (hop : b.coc.op = none)
    (hflush : b.coc.flush = false) (hrel : (b.index false).any (fun r => decide (b.coc.rel ≤ r.jpos)) = false) (hprogs : b.coc.progs = []) :
    b.formatStart false = b.opStart .format .format := by
  unfold Block.formatStart
  rw [hrel, if_neg (by simp [hstate, hop, hflush, hprogs])]
  dsimp only
  rw [if_neg Bool.false_ne_true, if_neg (by simp [hagg])]

theorem Block.opDone_clear {b : Block} (hon : b.on dSTORE = true) (hstop : b.coc.opStop = false) (hstate : 2 ≤ b.f F.COC_STATUS_STATE)
    (hop : b.coc.op = some .clear) :
    b.opDone =
      (({ b with coc := { b.coc.cleared with op := none }, busy := if b.busy = some BusyOp.clear then none else b.busy }).setf
        F.COC_STATUS_FULL 0).raise Ev.COC_OP_DONE := by
  unfold Block.opDone
  dsimp only
  rw [if_neg (by simp [hon, hstop]; omega), hop]

theorem Block.opDone_none {b : Block} (hop : b.coc.op = none) : b.opDone = b := by
  unfold Block.opDone
  dsimp only
  rw [hop]
  exact ite_self _

/-! The NOR's commit words (R290) -/

/-- Changing the entry numbered 0 changes the head alone. -/
theorem map_zipIdx_head {α : Type} (f : α → α) (x : α) (l : List α) :
    (x :: l).zipIdx.map (fun p => if p.2 = 0 then f p.1 else p.1) = f x :: l := by
  have htail : ∀ p ∈ l.zipIdx 1, (if p.2 = 0 then f p.1 else p.1) = p.1 := fun p hp =>
    if_neg (by have := List.le_snd_of_mem_zipIdx hp; omega)
  rw [List.zipIdx_cons, List.map_cons, List.map_congr_left htail, if_pos rfl, List.zipIdx_map_fst]

theorem Coc.norDone_head {c : Coc} {r : NorRec} {l : List NorRec} (hnor : c.nor = r :: l) (hdone : r.done = false) :
    c.norDone = { c with nor := { r with done := true } :: l } := by
  have hfirst : c.nor.findIdx? (fun x => !x.done) = some 0 := by simp [hnor, List.findIdx?_cons, hdone]
  unfold Coc.norDone
  rw [hfirst]
  dsimp only
  rw [hnor, map_zipIdx_head (fun r : NorRec => { r with done := true })]

/-! The end of a power-fail flush (R283) -/

theorem Block.flushDone_none {b : Block} (hnone : b.coc.flushG = none) : b.flushDone_ = b := by
  unfold Block.flushDone_
  rw [hnone]

theorem Block.flushDone_committed {b : Block} {g : Nat} (hg : b.coc.flushG = some g) (hflush : b.flushing = true)
    (hprogs : b.coc.progs.any (fun p => p.gseq == g) = false) :
    b.flushDone_ = (({ b with coc := { b.coc with flushed := true } }).raise Ev.COC_PF_DONE).flushResume := by
  unfold Block.flushDone_
  rw [hg]
  exact if_pos ⟨hflush, by simp [hprogs]⟩

/-- Settles O43: each command is its function on the block, and each function's case above says what becomes of it. -/
theorem countersAndLongOperations : Obligations.CountersAndLongOperations := by
  unfold Obligations.CountersAndLongOperations
  refine ⟨?_, ?_, ?_, ?_, ?_, ?_, ?_, ?_, ?_, ?_, ?_⟩
  · intro s m hok hagg hsoft slot hslot v hv hraises habove
    rw [exec_counterRaise, Block.write_ok _ hok, Block.softRaise_starts hagg hslot (hslot ▸ hsoft) hv hraises habove]
  · intro s m hok hslot
    rw [exec_counterRaise, Block.write_ok _ hok, Block.softRaise_ignored hslot]
  · intro s slot v x hon hagg hraises hA hB hldi
    rw [exec_counterRaiseDone, if_pos hon, Block.raiseDone_last hagg hraises hA hB hldi]
  · intro s m hok hstate hop hflush
    rw [exec_cocoonClear, Block.write_ok _ hok, Block.clearStart_taken hstate hop hflush]
    rfl
  · intro s m force hok hstate
    rw [exec_cocoonFormat, Block.write_ok _ hok, Block.formatStart_not_running force hstate]
  · intro s m hok hagg hstate hop hflush hrel hprogs
    rw [exec_cocoonFormat, if_neg Bool.false_ne_true, Block.write_ok _ hok, Block.formatStart_hub hagg hstate hop hflush hrel hprogs]
    rfl
  · rintro s hon hstop hstate hop c rfl
    rw [exec_opDone, Block.opDone_clear hon hstop hstate hop]
  · intro s hop
    rw [exec_opDone, Block.opDone_none hop]
  · intro s r l hagg hon hnor hdone
    rw [exec_norWriteDone, if_pos ⟨by simp [hagg], hon⟩, Coc.norDone_head hnor hdone]
  · intro s hnone
    rw [exec_pfFlushDone, Block.flushDone_none hnone]
  · rintro s g hg hflush hprogs c rfl
    rw [exec_pfFlushDone, Block.flushDone_committed hg hflush hprogs]

end Sys2Proof.Machine
end

section
namespace Sys2Proof.Machine

/-! A load of a rollback that ends while a long operation holds MGMT_BUSY (R14, R307) -/

theorem exec_loadComplete (s : State) (dram : List Byte) :
    exec (.loadComplete dram) s = .next (s.put (if s.b.on dSTEWARD then s.b.loadDone_ dram else s.b)) := rfl

/-- The load of a rollback waits for MGMT_BUSY to fall. -/
theorem Block.loadDone_waits {b : Block} {x : ImgLoad} (hload : b.fim.load = some x) (hroll : x.roll.isSome = true) (hbusy : b.busy.isSome = true)
    (dram : List Byte) : b.loadDone_ dram = b := by
  unfold Block.loadDone_
  rw [hload]
  exact if_pos ⟨hroll, hbusy⟩

/-- An image of no bytes fails FORMAT. -/
theorem Block.imgCheck_nil (b : Block) (wordsOk : Bool) : b.imgCheck [] wordsOk = some (1, 0, 0x1F) := by
  have hformat : checkFormat [] = imgErr 1 := by
    unfold checkFormat
    exact if_pos (Or.inl (by decide))
  unfold Block.imgCheck
  rw [hformat]
  rfl

/-- The load of a rollback to a copy that holds nothing. -/
def rollbackLoad : ImgLoad := { src := 2, roll := some (0, false) }

/-- A die with STEWARD ON in which `rollbackLoad` is under way while an expansion holds MGMT_BUSY. -/
def rollbackWhileBusy : State :=
  { b := { flds := [((domFld dSTEWARD).key, 2)], pwr := { held := [] }, busy := some .expand, fim := { load := some rollbackLoad } } }

/-- The load goes on there. -/
theorem rollbackWhileBusy_loadComplete : exec (.loadComplete []) rollbackWhileBusy = .next rollbackWhileBusy := by
  rw [exec_loadComplete, if_pos (by decide), Block.loadDone_waits (x := rollbackLoad) rfl rfl rfl]
  rfl

/-- Refutes O44 in its clause on a load that fails its checks: where the load is a rollback's and another operation holds MGMT_BUSY,
LOAD_COMPLETE waits (R14, R307), so the load does not end. -/
theorem not_imageLoads : ¬ Obligations.ImageLoads := by
  unfold Obligations.ImageLoads
  rintro ⟨-, -, -, -, -, -, -, -, -, -, hfailed, -⟩
  obtain ⟨t, hexec, -, -, hload, -⟩ :=
    hfailed rollbackWhileBusy rollbackLoad [] [] (1, 0, 0x1F) (by decide) rfl (by decide) _ rfl (Block.imgCheck_nil _ _)
  rw [rollbackWhileBusy_loadComplete] at hexec
  cases hexec
  exact absurd hload (by decide)

end Sys2Proof.Machine
end

section
namespace Sys2Proof.Machine

/-! The commands of a commit, of a rollback and of a model's expansion: each is its function on the block -/

section
variable (s : State) (m : Master) (word : Nat)

theorem exec_imageCommit :
    exec (.imageCommit m word) s = .next (s.put (s.b.write m 0xD008 (setBit word 4 1) (fun b => b.fimCmd (setBit word 4 1)))) := rfl

theorem exec_imageRollback :
    exec (.imageRollback m word) s = .next (s.put (s.b.write m 0xD008 (setBit word 5 1) (fun b => b.fimCmd (setBit word 5 1)))) := rfl

theorem exec_imageConfirm :
    exec (.imageConfirm m word) s = .next (s.put (s.b.write m 0xD008 (setBit word 6 1) (fun b => b.fimCmd (setBit word 6 1)))) := rfl

theorem exec_commitNoBoundary : exec .commitNoBoundary s = .next (s.put s.b.commitLate) := rfl

theorem exec_imageApply : exec .imageApply s = .next (s.put (if s.b.on dSTEWARD then s.b.commitNow else s.b)) := rfl

theorem exec_commitDone : exec .commitDone s = .next (s.put s.b.commitDone) := rfl

theorem exec_probationEnd : exec .probationEnd s = .next (s.put s.b.probEnd) := rfl

theorem exec_modelExpand :
    exec (.modelExpand m word) s = .next (s.put (s.b.write m 0x600C (setBit word 0 1) Block.expandGo)) := rfl

theorem exec_expandDone : exec .expandDone s = .next (s.put s.b.expandDone_) := rfl

end

/-! FIM_CMD: the one command bit that is set acts (R301, R396) -/

section
variable {b c : Block} {w : Nat} (hc : c = b.writeFields 0xD008 w)
include hc

theorem Block.fimCmd_commit (hcmd : bits w 2 5 = 4) : b.fimCmd w = c.commitBegin (c.f F.FIM_CMD_IDX) (c.is F.FIM_CMD_ANY) := by
  subst hc
  simp only [Block.fimCmd, hcmd]

theorem Block.fimCmd_rollback (hcmd : bits w 2 5 = 8) : b.fimCmd w = c.rollbackBegin (c.f F.FIM_CMD_IDX) (c.is F.FIM_CMD_ANY) := by
  subst hc
  simp only [Block.fimCmd, hcmd]

theorem Block.fimCmd_confirm (hcmd : bits w 2 5 = 16) : b.fimCmd w = c.confirm_ := by
  subst hc
  simp only [Block.fimCmd, hcmd]

end

/-! Commit (R304, R306) -/

theorem Block.commitBegin_unverified {b : Block} (hstate : b.f F.FIM_STATUS_STATE ≠ 2) (idx : Nat) (any : Bool) :
    b.commitBegin idx any = b.commitRefuse 0xFF :=
  if_pos hstate

theorem Block.commitBegin_unexpanded {b : Block} {l : List Byte} (hstate : b.f F.FIM_STATUS_STATE = 2) (hagg : b.syn.agg = true)
    (hmodel : imgBody b.fim.stage 5 = some l) (hstaged : b.hwk.staged = none) (hchrys : b.is F.PWR_STATUS_CHRYS = false) (idx : Nat) (any : Bool) :
    b.commitBegin idx any = b.commitRefuse 0xB := by
  unfold Block.commitBegin Block.fimState Block.stagedModel
  rw [if_neg (by simp [hstate]), if_pos ⟨hagg, by simp [hmodel], by simp [hstaged], by simp [hchrys]⟩]

theorem Block.commitBegin_taken {b : Block} (hstate : b.f F.FIM_STATUS_STATE = 2)
    (hmodel : b.syn.agg = false ∨ imgBody b.fim.stage 5 = none ∨ b.hwk.staged.isSome = true ∨ b.is F.PWR_STATUS_CHRYS = true)
    {idx : Nat} {any : Bool} {e : Commit} (he : e = { since := b.clk.core, idx := idx, any := any, now := b.f F.ROLE_STATUS_ROLE == 3 }) :
    b.commitBegin idx any = ({ b with busy := some .commit, fim := { b.fim with commit := some e } }).setf F.FIM_STATUS_STATE 4 := by
  subst he
  unfold Block.commitBegin Block.fimState Block.stagedModel
  rw [if_neg (by simp [hstate])]
  refine if_neg ?_
  rintro ⟨hagg, hsome, hnone, hchrys⟩
  rcases hmodel with h | h | h | h
  · simp [h] at hagg
  · simp [h] at hsome
  · simp [Option.isNone_iff_eq_none.mp hnone] at h
  · exact hchrys h

section
variable {b : Block} {c : Commit} (hcommit : b.fim.commit = some c)
include hcommit

theorem Block.commitLate_due (happlied : c.applied = false) (hnow : c.now = false) (hdue : c.since + b.us 30000 ≤ b.clk.core) :
    b.commitLate = (({ b with busy := none, fim := { b.fim with commit := none } }).setf F.FIM_STATUS_STATE 2).raise Ev.FIM_NOBOUNDARY := by
  unfold Block.commitLate
  rw [hcommit]
  exact if_pos ⟨by simp [happlied], by simp [hnow], hdue⟩

theorem Block.commitLate_waits (h : c.applied = true ∨ c.now = true ∨ b.clk.core < c.since + b.us 30000) : b.commitLate = b := by
  unfold Block.commitLate
  rw [hcommit]
  refine if_neg ?_
  rintro ⟨happlied, hnow, hdue⟩
  rcases h with h | h | h
  · exact happlied h
  · exact hnow h
  · omega

theorem Block.commitNow_now (happlied : c.applied = false) (hnow : c.now = true) (hchrys : b.is F.PWR_STATUS_CHRYS = false) :
    b.commitNow = b.commitApply b.phase := by
  unfold Block.commitNow
  rw [hcommit]
  dsimp only
  rw [if_neg (by simp [happlied]), if_pos hnow, if_neg (by simp [hchrys])]

theorem Block.commitNow_boundary (happlied : c.applied = false) (hnow : c.now = false) {r : FireReq} (hdue : b.dueFire = some r)
    (hbound : b.isBoundary (b.fireCause r) = true) (hidx : c.any = true ∨ c.idx = r.idx) {d : Block} (hd : d = b.commitApply (b.firePhase r)) :
    b.commitNow = { d with fim := { d.fim with probSkip := true } } := by
  subst hd
  unfold Block.commitNow
  rw [hcommit]
  dsimp only
  rw [if_neg (by simp [happlied]), if_neg (by simp [hnow]), hdue]
  exact if_pos ⟨hbound, hidx⟩

theorem Block.commitNow_waits (happlied : c.applied = false) (hnow : c.now = false) (hdue : b.dueFire = none) : b.commitNow = b := by
  unfold Block.commitNow
  rw [hcommit]
  dsimp only
  rw [if_neg (by simp [happlied]), if_neg (by simp [hnow]), hdue]

theorem Block.commitDone_unraised (happlied : c.applied = true) (hgen : c.gen = 0) : b.commitDone = b.commitEnd c := by
  unfold Block.commitDone
  rw [hcommit]
  dsimp only
  rw [if_neg (by simp [happlied]), if_pos hgen]

/-- An aggregator's commit of a new copy is complete where the raise stands in both copies of the counter. -/
theorem Block.commitDone_raised (happlied : c.applied = true) (hgen : c.gen ≠ 0) (hagg : b.syn.agg = true) :
    b.commitDone = if b.coc.ctrBoth (b.imgSlot (b.activeCopy.getD true)) c.gen then b.commitEnd c else b := by
  unfold Block.commitDone
  rw [hcommit]
  dsimp only
  rw [if_neg (by simp [happlied]), if_neg hgen, if_pos hagg]

end

/-- With a store, a commit from outside makes the former ACTIVE the PREVIOUS. -/
theorem Block.commitEnd_stored {b d g e : Block} (hstore : b.hasStore = true) (hsrc : b.fim.stageSrc ≠ 3)
    (hd : d = ({ b with fim := { b.fim with prevOk := b.fim.actOk } }).setf F.FIM_PREV_BUILD_BUILD
      (if b.fim.actOk then b.f F.FIM_ACT_BUILD_BUILD else 0))
    {l : List Byte} (hl : l = d.fim.stage)
    (hg : g = { d with sec := { d.sec with
      signer := (liveSlots d.sec.keys).find? (fun k => slotKeyId d.sec.keys k == leAt l (l.length - 112) 4) } })
    (he : e = ((g.setf F.FIM_ACT_BUILD_BUILD (imgBuild l)).setf F.FIM_TOPO_TOPO (imgTopo l % 2 ^ 32)).setf F.FIM_STATUS_STATE 0) (c : Commit) :
    b.commitEnd c =
      ({ e with busy := none, fim := { e.fim with commit := none, actOk := true, prob := true } }).raise Ev.FIM_COMMITTED
        [(imgBuild l, 32), (c.phase, 64)] := by
  subst hd hl hg he
  unfold Block.commitEnd
  rw [if_pos hstore, if_neg hsrc]
  rfl

/-! Rollback and confirmation (R307, R309) -/

theorem Block.rollbackBegin_none {b : Block} (hprev : b.fim.prevOk = false) (idx : Nat) (any : Bool) :
    b.rollbackBegin idx any = b.raise Ev.FIM_COMMIT_REFUSED [(b.stored 0xD01C, 32)] :=
  if_neg (by simp [hprev])

theorem Block.rollbackBegin_loads {b : Block} (hprev : b.fim.prevOk = true) (idx : Nat) (any : Bool) :
    b.rollbackBegin idx any = b.loadBegin 2 (some (idx, any)) :=
  if_pos hprev

theorem Block.confirm_probation {b : Block} (hprob : b.fim.prob = true) :
    b.confirm_ = ({ b with fim := { b.fim with prob := false } }).raise Ev.FIM_CONFIRMED :=
  if_pos hprob

theorem Block.confirm_none {b : Block} (hprob : b.fim.prob = false) : b.confirm_ = b := if_neg (by simp [hprob])

theorem Block.probEnd_over {b : Block} (hsome : b.f F.FIM_PROB_BOUNDARIES ≠ 0) (hseen : b.f F.FIM_PROB_BOUNDARIES ≤ b.fim.probSeen) :
    b.probEnd = b.confirm_ :=
  if_pos ⟨hsome, hseen⟩

theorem Block.probEnd_not_over {b : Block} (h : b.f F.FIM_PROB_BOUNDARIES = 0 ∨ b.fim.probSeen < b.f F.FIM_PROB_BOUNDARIES) :
    b.probEnd = b :=
  if_neg (by omega)

/-! Expansion (R163, R164) -/

theorem Block.expandGo_begins {b : Block} {l : List Byte} (hagg : b.syn.agg = true) (hstate : b.f F.FIM_STATUS_STATE = 2)
    (hmodel : imgBody b.fim.stage 5 = some l) : b.expandGo = b.expandBegin l := by
  unfold Block.expandGo Block.stagedModel
  rw [if_pos ⟨hagg, hstate⟩, hmodel]

theorem Block.expandGo_nothing {b : Block}
    (h : b.syn.agg = false ∨ b.f F.FIM_STATUS_STATE ≠ 2 ∨ imgBody b.fim.stage 5 = none) : b.expandGo = b := by
  unfold Block.expandGo Block.fimState Block.stagedModel
  rcases h with hagg | hstate | hmodel
  · exact if_neg (by simp [hagg])
  · exact if_neg (fun h => hstate h.2)
  · rw [hmodel]
    exact ite_self _

theorem Block.expandEnd_none {b : Block} (h : b.hwk.expanding = none) : b.expandEnd = (none, b) := by
  unfold Block.expandEnd
  rw [h]

/-- The end of an expansion leaves the Fabric Image unit. -/
theorem Block.expandEnd_fim (b : Block) : b.expandEnd.2.fim = b.fim := by
  unfold Block.expandEnd
  split
  · rfl
  · dsimp only
    split
    · exact Block.raise_frame Block.fim (fun _ => rfl) _ _ _
    · exact Block.raise_frame Block.fim (fun _ => rfl) _ _ _

/-- With no expansion under way nothing ends. -/
theorem Block.expandDone_none {b : Block} (h : b.hwk.expanding = none) : b.expandDone_ = b := by
  unfold Block.expandDone_
  rw [Block.expandEnd_none h]

/-- Outside a rollback nothing follows an expansion. -/
theorem Block.expandDone_plain {b : Block} (hroll : b.fim.rollWait = none) : b.expandDone_ = b.expandEnd.2 := by
  have hroll' : b.expandEnd.2.fim.rollWait = none := by rw [Block.expandEnd_fim, hroll]
  unfold Block.expandDone_
  dsimp only
  rw [hroll']
  cases b.expandEnd.1 <;> rfl

/-- Settles O45: each command is its function on the block, and each function's case above says what becomes of it. -/
theorem commitsAndRollback : Obligations.CommitsAndRollback := by
  unfold Obligations.CommitsAndRollback
  refine ⟨?_, ?_, ?_, ?_, ?_, ?_, ?_, ?_, ?_, ?_, ?_, ?_, ?_, ?_, ?_, ?_, ?_, ?_, ?_, ?_, ?_⟩
  · rintro s m word w rfl hok hcmd c hc hstate d rfl
    rw [exec_imageCommit, Block.write_ok _ hok, Block.fimCmd_commit hc hcmd, Block.commitBegin_unverified hstate]
    rfl
  · rintro s m word l w rfl hok hcmd c hc hstate hagg hmodel hstaged hchrys d rfl
    rw [exec_imageCommit, Block.write_ok _ hok, Block.fimCmd_commit hc hcmd,
      Block.commitBegin_unexpanded hstate hagg hmodel hstaged hchrys]
    rfl
  · rintro s m word w rfl hok hcmd c hc hstate hmodel e he
    rw [exec_imageCommit, Block.write_ok _ hok, Block.fimCmd_commit hc hcmd, Block.commitBegin_taken hstate hmodel he]
  · intro s c hcommit happlied hnow hdue
    rw [exec_commitNoBoundary, Block.commitLate_due hcommit happlied hnow hdue]
  · intro s c hcommit h
    rw [exec_commitNoBoundary, Block.commitLate_waits hcommit h]
  · intro s c hon hcommit happlied hnow hchrys
    rw [exec_imageApply, if_pos hon, Block.commitNow_now hcommit happlied hnow hchrys]
  · intro s c r hon hcommit happlied hnow hdue hbound hidx d hd
    rw [exec_imageApply, if_pos hon, Block.commitNow_boundary hcommit happlied hnow hdue hbound hidx hd]
  · intro s c hcommit happlied hnow hdue
    rw [exec_imageApply, Block.commitNow_waits hcommit happlied hnow hdue, ite_self]
  · intro s c hcommit happlied hgen hstore hsrc d hd l hl g hg e he
    rw [exec_commitDone, Block.commitDone_unraised hcommit happlied hgen, Block.commitEnd_stored hstore hsrc hd hl hg he]
  · intro s c hcommit happlied hgen hagg hboth
    rw [exec_commitDone, Block.commitDone_raised hcommit happlied hgen hagg, if_pos hboth]
  · intro s c hcommit happlied hgen hagg hboth
    rw [exec_commitDone, Block.commitDone_raised hcommit happlied hgen hagg, if_neg (by simp [hboth])]
  · intro s m word w hw hok hcmd c hc hprev
    subst hw
    rw [exec_imageRollback, Block.write_ok _ hok, Block.fimCmd_rollback hc hcmd, Block.rollbackBegin_none hprev]
  · rintro s m word w rfl hok hcmd c hc hprev d rfl
    rw [exec_imageRollback, Block.write_ok _ hok, Block.fimCmd_rollback hc hcmd, Block.rollbackBegin_loads hprev]
    rfl
  · intro s m word w hw hok hcmd c hc hprob
    subst hw
    rw [exec_imageConfirm, Block.write_ok _ hok, Block.fimCmd_confirm hc hcmd, Block.confirm_probation hprob]
  · intro s m word w hw hok hcmd c hc hprob
    subst hw
    rw [exec_imageConfirm, Block.write_ok _ hok, Block.fimCmd_confirm hc hcmd, Block.confirm_none hprob]
  · intro s hprob hsome hseen
    rw [exec_probationEnd, Block.probEnd_over hsome hseen, Block.confirm_probation hprob]
  · intro s h
    rw [exec_probationEnd, Block.probEnd_not_over h]
  · intro s m word l hok hagg hstate hmodel
    rw [exec_modelExpand, Block.write_ok _ hok, Block.expandGo_begins hagg hstate hmodel]
    rfl
  · intro s m word hok h
    rw [exec_modelExpand, Block.write_ok _ hok, Block.expandGo_nothing h]
  · rintro s l hexp hroll c rfl no rfl
    rw [exec_expandDone, Block.expandDone_plain hroll]
    unfold Block.expandEnd
    rw [hexp]
    dsimp only
    cases expandModel s.b.syn.agg l <;> rfl
  · intro s hexp
    rw [exec_expandDone, Block.expandDone_none hexp]

end Sys2Proof.Machine
end

section
namespace Sys2Proof.Machine

/-! The commands of the sensors, the self-tests and the confirmations: each is its function on the block -/

section
variable (s : State) (m : Master)

theorem exec_sensorSample (temp vdd : Nat) : exec (.sensorSample temp vdd) s = .next (s.put (s.b.sensor temp vdd)) := rfl

theorem exec_selftestDue : exec .selftestDue s = .next (s.put s.b.selftestDue) := rfl

theorem exec_selftestStart : exec .selftestStart s = .next (s.put s.b.selftestStart) := rfl

theorem exec_selftestWaitExpire : exec .selftestWaitExpire s = .next (s.put s.b.selftestWait) := rfl

theorem exec_selftestDone (pass : Bool) : exec (.selftestDone pass) s = .next (s.put (s.b.selftestDone pass).slkGo) := rfl

theorem exec_confirmationStart : exec .confirmationStart s = .next (s.put s.b.confirmStart) := rfl

theorem exec_partUnfence : exec (.partUnfence m) s = .next (s.put (s.b.write m 0xE024 0x4000 Block.unfence)) := rfl

theorem exec_sclFenceWrite (word : Nat) :
    exec (.sclFenceWrite m word) s =
      .next (s.put (s.b.write m 0xE030 word (fun b => if b.syn.agg then b else b.setf F.INT_SCL_FENCE_FENCE word))) := rfl

theorem exec_intLastRead : exec (.intLastRead m) s = .next (s.put (s.b.read m 0xE050 Block.intLast)) := rfl

end

/-! Sensors (R312, R316) -/

section
variable {b : Block} {temp vdd : Nat} (hon : b.on dSTEWARD = true)
include hon

/-- RANGE follows the sample without an event where it does not change to 1. -/
theorem Block.sensor_quiet (h : b.is F.INT_STATUS_RANGE = true ∨ outOfRange temp (vdd % 65536) = false) :
    b.sensor temp vdd =
      ((b.setf F.INT_SENSE_TEMP temp).setf F.INT_SENSE_VDD vdd).setf F.INT_STATUS_RANGE (flag (outOfRange temp (vdd % 65536))) := by
  have hquiet : (outOfRange temp (vdd % 65536) && !b.is F.INT_STATUS_RANGE) = false := by
    rcases h with h | h <;> simp [h]
  unfold Block.sensor
  rw [if_pos hon]
  dsimp only
  rw [hquiet, Block.raiseIf_false]
  rfl

/-- Its change to 1 raises RANGE. -/
theorem Block.sensor_raises (hwas : b.is F.INT_STATUS_RANGE = false) (hnow : outOfRange temp (vdd % 65536) = true) {c : Block}
    (hc : c = ((b.setf F.INT_SENSE_TEMP temp).setf F.INT_SENSE_VDD vdd).setf F.INT_STATUS_RANGE 1) :
    b.sensor temp vdd = c.raise Ev.INT_RANGE c.intArgs := by
  subst hc
  unfold Block.sensor
  rw [if_pos hon]
  dsimp only
  rw [hwas, hnow]
  rfl

end

/-- The range in words of TEMP: from -80, which is 65,456, to 840 eighths of a degree, and 650 to 950 mV. -/
theorem outOfRange_eq_false_iff {temp vdd : Nat} (h : temp < 65536) :
    outOfRange temp vdd = false ↔ (temp ≤ 840 ∨ 65456 ≤ temp) ∧ 650 ≤ vdd ∧ vdd ≤ 950 := by
  unfold outOfRange
  rw [Nat.mod_eq_of_lt h]
  dsimp only
  simp only [Bool.or_eq_false_iff, decide_eq_false_iff_not]
  split <;> omega

/-! The parts due for a self-test (R319) -/

section
variable {b : Block}

theorem Block.selftestDue_due (hon : b.on dSTEWARD = true) (hen : b.is F.INT_CTRL_ST_EN = true) (hwait : b.int.waitSince = none)
    (hdue : b.int.dueAt + b.us (1000 * atLeast1 (b.f F.INT_ST_CFG_PERIOD)) ≤ b.clk.core) :
    b.selftestDue = { b with int := { b.int with waitSince := some b.clk.core, dueAt := b.clk.core } } :=
  if_pos ⟨hon, hen, by simp [hwait], hdue⟩

theorem Block.selftestDue_not (h : b.is F.INT_CTRL_ST_EN = false ∨ b.int.waitSince.isSome = true) : b.selftestDue = b := by
  refine if_neg ?_
  rintro ⟨-, hen, hnone, -⟩
  rcases h with h | h
  · simp [h] at hen
  · simp [Option.isNone_iff_eq_none.mp hnone] at h

theorem Block.selftestStart_starts (hon : b.on dSTEWARD = true) (hwait : b.int.waitSince.isSome = true) (hrun : b.int.running = none)
    (hconf : b.int.confQ = []) (hidle : b.partIdle b.duePart.1 b.duePart.2 = true) (hlast : b.lastOfKind b.duePart.1 b.duePart.2 = false) :
    b.selftestStart =
      (((b.setPart b.duePart.1 b.duePart.2 (fun x => { x with test := true })).nextDue).setRun
        (some { kind := b.duePart.1, index := b.duePart.2, left := 1 })).fenceEvent b.duePart.1 b.duePart.2 :=
  if_pos ⟨hon, hwait, by simp [hrun], hconf, hidle, by simp [hlast]⟩

theorem Block.selftestStart_not (h : b.int.waitSince = none ∨ b.int.running.isSome = true ∨ b.int.confQ ≠ [] ∨
    b.partIdle b.duePart.1 b.duePart.2 = false ∨ b.lastOfKind b.duePart.1 b.duePart.2 = true) : b.selftestStart = b := by
  refine if_neg ?_
  rintro ⟨-, hwait, hrun, hconf, hidle, hlast⟩
  rcases h with h | h | h | h | h
  · simp [h] at hwait
  · simp [Option.isNone_iff_eq_none.mp hrun] at h
  · exact h hconf
  · simp [h] at hidle
  · exact hlast h

theorem Block.selftestWait_due {t : Nat} (hon : b.on dSTEWARD = true) (hwait : b.int.waitSince = some t)
    (hdue : t + b.us (atLeast1 (b.f F.INT_ST_CFG_WAIT)) ≤ b.clk.core) :
    b.selftestWait = b.nextDue.raise Ev.INT_ST_SKIP [(b.duePart.1, 8), (b.duePart.2, 16)] := by
  unfold Block.selftestWait
  rw [hwait]
  exact if_pos ⟨hon, hdue⟩

theorem Block.selftestWait_early {t : Nat} (hwait : b.int.waitSince = some t)
    (h : b.clk.core < t + b.us (atLeast1 (b.f F.INT_ST_CFG_WAIT))) : b.selftestWait = b := by
  unfold Block.selftestWait
  rw [hwait]
  exact if_neg (fun hdue => by omega)

/-! The end of a run (R319 to R321) -/

theorem Block.f_setPart (b : Block) (kind i : Nat) (g : PartSt → PartSt) (x : Fld) : (b.setPart kind i g).f x = b.f x := rfl

/-- Showing another part under test leaves the other registers. -/
theorem Block.f_setRun (b : Block) (t : Option TestRun) {x : Fld} (hlo : x.lo < 32) (hoff : x.off ≠ F.INT_STATUS_TKIND.off) :
    (b.setRun t).f x = b.f x := by
  have hoff' : x.off ≠ F.INT_STATUS_TINDEX.off := hoff
  unfold Block.setRun Block.showTest
  split <;> rw [Block.f_setf_off _ _ hlo (by decide) hoff', Block.f_setf_off _ _ hlo (by decide) hoff] <;> rfl

section
variable {t : TestRun} (hrun : b.int.running = some t)
include hrun

theorem Block.selftestDone_next (hleft : 1 < t.left) : b.selftestDone true = b.setRun (some { t with left := t.left - 1 }) := by
  unfold Block.selftestDone
  rw [hrun]
  exact if_pos ⟨rfl, hleft⟩

/-- A test of the rotation ends: a pass clears TEST, a failure is reported and starts a confirmation. -/
theorem Block.selftestDone_test {pass : Bool} (hleft : t.left ≤ 1) (hunf : t.unfence = false) (hconf : t.confirm = none) {c : Block}
    (hc : c = (b.setRun none).setPart t.kind t.index (fun x => { x with test := false })) {d : Block}
    (hd : d = c.checkFail t.kind t.index t.kind 0 0 (if t.kind = 0 then 4 * t.index else t.index) 0 0 0 false true) :
    b.selftestDone pass = if pass then c else d.raise Ev.INT_ST_FAIL d.intArgs := by
  subst hc hd
  unfold Block.selftestDone
  rw [hrun]
  dsimp only
  rw [if_neg (fun h => by omega), if_neg (by simp [hunf]), if_neg (by simp [hconf])]
  rfl

/-- An UNFENCE run ends: FAULT clears where it passed. -/
theorem Block.selftestDone_unfence {pass : Bool} (hleft : t.left ≤ 1) (hunf : t.unfence = true) {c : Block}
    (hc : c = (b.setRun none).setPart t.kind t.index (fun x => { x with test := false, fault := x.fault && !pass })) :
    b.selftestDone pass = if pass then c else c.raise Ev.INT_ST_FAIL c.intArgs := by
  subst hc
  unfold Block.selftestDone
  rw [hrun]
  dsimp only
  rw [if_neg (fun h => by omega), if_pos hunf]
  cases pass <;> rfl

/-- A confirmation ends at its first failure, or with its last pass. -/
theorem Block.selftestDone_confirm {pass : Bool} (hend : pass = false ∨ t.left ≤ 1) (hunf : t.unfence = false) {n : Nat}
    (hconf : t.confirm = some n) : b.selftestDone pass = b.endConfirm t pass := by
  unfold Block.selftestDone
  rw [hrun]
  dsimp only
  rw [if_neg, if_neg (by simp [hunf]), if_pos (by simp [hconf])]
  rintro ⟨hpass, hleft⟩
  rcases hend with h | h
  · simp [h] at hpass
  · omega

end

/-- A failed confirmation: the part takes FAULT with class PERMANENT. -/
theorem Block.endConfirm_fails {t : TestRun} {n : Nat} (hconf : t.confirm = some n) {c : Block}
    (hc : c = (b.setRun none).faultPart t.kind t.index 2 (some n)) :
    b.endConfirm t false = if 2 = t.firstCls then c else c.updateReport n 2 := by
  subst hc
  unfold Block.endConfirm
  rw [hconf]
  rfl

/-- Below TLIMIT a passed confirmation counts a transient, and its class is TRANSIENT. -/
theorem Block.countTransient_below {b : Block} {kind i : Nat} {ts : List Nat} (hts : ts = b.clk.aon :: b.recentTrans (b.part kind i))
    (hfew : ts.length < atLeast1 (b.f F.INT_CLASS_TLIMIT)) :
    b.countTransient kind i = (1, b.setPart kind i (fun x => { x with trans := ts })) := by
  subst hts
  unfold Block.countTransient
  dsimp only
  rw [Block.f_setPart, if_neg (by omega)]

/-- A passed confirmation below TLIMIT: the part goes on. -/
theorem Block.endConfirm_transient {t : TestRun} {n : Nat} (hconf : t.confirm = some n) {b0 : Block} (hb0 : b0 = b.setRun none) {ts : List Nat}
    (hts : ts = b0.clk.aon :: b0.recentTrans (b0.part t.kind t.index)) (hfew : ts.length < atLeast1 (b.f F.INT_CLASS_TLIMIT)) {c d : Block}
    (hc : c = b0.setPart t.kind t.index (fun x => { x with trans := ts }))
    (hd : d = (c.setPart t.kind t.index (fun x => { x with test := false, cls := 1 })).raise Ev.INT_TRANSIENT (c.argsOf (some n))) :
    b.endConfirm t true = if 1 = t.firstCls then d else d.updateReport n 1 := by
  have hlimit : b0.f F.INT_CLASS_TLIMIT = b.f F.INT_CLASS_TLIMIT := by
    rw [hb0]
    exact Block.f_setRun b none (by decide) (by decide)
  have hcount := Block.countTransient_below hts (hlimit ▸ hfew)
  rw [← hc] at hcount
  unfold Block.endConfirm
  rw [← hb0]
  dsimp only
  rw [if_pos rfl, hcount, hconf, hd]
  rfl

/-! Confirmations and UNFENCE runs begin (R320, R321) -/

section
variable (hon : b.on dSTEWARD = true) (hrun : b.int.running = none) {r : TestRun} {l : List TestRun}
include hon hrun

theorem Block.confirmStart_confirms (hconf : b.int.confQ = r :: l) :
    b.confirmStart =
      ((({ b with int := { b.int with confQ := l } }).setPart r.kind r.index (fun x => { x with test := true })).setRun
        (some r)).fenceEvent r.kind r.index := by
  unfold Block.confirmStart
  rw [if_neg (by simp [hon, hrun]), hconf]

theorem Block.confirmStart_unfences (hconf : b.int.confQ = []) (hunf : b.int.unfQ = r :: l) :
    b.confirmStart =
      ((({ b with int := { b.int with unfQ := l } }).setPart r.kind r.index (fun x => { x with test := true })).setRun
        (some r)).fenceEvent r.kind r.index := by
  unfold Block.confirmStart
  rw [if_neg (by simp [hon, hrun]), hconf, hunf]

end

theorem Block.confirmStart_none (h : b.int.running.isSome = true ∨ (b.int.confQ = [] ∧ b.int.unfQ = [])) : b.confirmStart = b := by
  unfold Block.confirmStart
  rcases h with hrun | ⟨hconf, hunf⟩
  · exact if_pos (Or.inl hrun)
  · rw [hconf, hunf]
    exact ite_self _

/-! UNFENCE and INT_LAST (R321, R326) -/

section
variable {k i : Nat} (hk : k = b.f F.INT_PART_SEL_KIND) (hi : i = b.f F.INT_PART_SEL_INDEX)
include hk hi

theorem Block.unfence_tests (hkind : k ≠ 4) (hfault : (b.part k i).fault = true) :
    b.unfence =
      { b with int := { b.int with unfQ := b.int.unfQ ++
          [{ kind := k, index := i, left := atLeast1 (b.f F.INT_ST_CFG_REPEAT), unfence := true }] } } := by
  subst hk hi
  unfold Block.unfence
  dsimp only
  rw [if_pos hfault, if_neg hkind]

theorem Block.unfence_core (hkind : k = 4) (hfault : (b.part k i).fault = true) :
    b.unfence = (b.setPart 4 i (fun x => { x with fault := false })).driveFence i false := by
  subst hk hi
  unfold Block.unfence
  dsimp only
  rw [if_pos hfault, if_pos hkind, hkind]

end

theorem Block.unfence_sound (hfault : (b.part (b.f F.INT_PART_SEL_KIND) (b.f F.INT_PART_SEL_INDEX)).fault = false) : b.unfence = b :=
  if_neg (by simp [hfault])

theorem Block.intLast_none (hlast : b.int.last = none) : b.intLast = (b.int.rnum, b) := by
  unfold Block.intLast
  rw [hlast]

theorem Block.intLast_some {r : Report} (hlast : b.int.last = some r) :
    b.intLast =
      (r.rnum, (((b.setf F.INT_LAST_INFO_UNIT r.unit).setf F.INT_LAST_INFO_CLASS r.cls).setf F.INT_LAST_INFO_OP r.op).setf
        F.INT_LAST_INFO_PART r.part) := by
  unfold Block.intLast
  rw [hlast]

end

/-- Settles O46: each command is its function on the block, and each function's case above says what becomes of it. -/
theorem selfTests : Obligations.SelfTests := by
  unfold Obligations.SelfTests
  refine ⟨?_, ?_, ?_, ?_, ?_, ?_, ?_, ?_, ?_, ?_, ?_, ?_, ?_, ?_, ?_, ?_, ?_, ?_, ?_, ?_, ?_, ?_, ?_, ?_⟩
  · intro s temp vdd hon h
    rw [exec_sensorSample, Block.sensor_quiet hon h]
  · intro s temp vdd hon hwas hnow c hc
    rw [exec_sensorSample, Block.sensor_raises hon hwas hnow hc]
  · intro temp vdd htemp h
    rw [← Bool.not_eq_false, outOfRange_eq_false_iff (by omega)]
    omega
  · intro temp vdd htemp hlow hhigh
    rw [outOfRange_eq_false_iff (by omega)]
    omega
  · intro s hon hen hwait hdue
    rw [exec_selftestDue, Block.selftestDue_due hon hen hwait hdue]
  · intro s h
    rw [exec_selftestDue, Block.selftestDue_not h]
  · rintro s hon hwait hrun hconf k rfl i rfl hidle hlast c rfl d rfl
    rw [exec_selftestStart, Block.selftestStart_starts hon hwait hrun hconf hidle hlast]
    rfl
  · intro s h
    rw [exec_selftestStart, Block.selftestStart_not h]
  · intro s t hon hwait hdue
    rw [exec_selftestWaitExpire, Block.selftestWait_due hon hwait hdue]
    rfl
  · intro s t hwait h
    rw [exec_selftestWaitExpire, Block.selftestWait_early hwait h]
  · intro s r hrun hleft
    rw [exec_selftestDone, Block.selftestDone_next hrun hleft]
  · rintro s r pass hrun hleft hunf hconf c hc part rfl
    rw [exec_selftestDone, Block.selftestDone_test hrun hleft hunf hconf hc rfl, apply_ite Block.slkGo]
  · intro s r pass hrun hleft hunf c hc
    rw [exec_selftestDone, Block.selftestDone_unfence hrun hleft hunf hc]
  · intro s r n hrun hunf hconf c hc
    rw [exec_selftestDone, Block.selftestDone_confirm hrun (Or.inl rfl) hunf hconf, Block.endConfirm_fails hconf hc]
  · intro s r n hrun hleft hunf hconf b0 hb0 ts hts hfew c hc d hd
    rw [exec_selftestDone, Block.selftestDone_confirm hrun (Or.inr hleft) hunf hconf, Block.endConfirm_transient hconf hb0 hts hfew hc hd]
  · rintro s r l hon hrun hconf c rfl
    rw [exec_confirmationStart, Block.confirmStart_confirms hon hrun hconf]
  · rintro s r l hon hrun hconf hunf c rfl
    rw [exec_confirmationStart, Block.confirmStart_unfences hon hrun hconf hunf]
  · intro s h
    rw [exec_confirmationStart, Block.confirmStart_none h]
  · intro s m hok k hk i hi hkind hfault
    rw [exec_partUnfence, Block.write_ok _ hok, Block.unfence_tests hk hi hkind hfault]
  · rintro s m hok hkind i hi hfault c rfl
    rw [exec_partUnfence, Block.write_ok _ hok, Block.unfence_core hkind.symm hi rfl hfault]
    rfl
  · intro s m hok hfault
    rw [exec_partUnfence, Block.write_ok _ hok, Block.unfence_sound hfault]
  · intro s m word hok hagg
    rw [exec_sclFenceWrite, Block.write_ok _ hok, if_neg (by simp [hagg])]
  · intro s m hok hlast
    rw [exec_intLastRead, Block.read_ok _ hok, Block.intLast_none hlast]
  · rintro s m r hok hlast c rfl
    rw [exec_intLastRead, Block.read_ok _ hok, Block.intLast_some hlast]

end Sys2Proof.Machine
end

section
namespace Sys2Proof.Machine

/-! The commands of the shadow recomputation: each is its function on the block -/

section
variable (s : State)

theorem exec_shadowOp (cls id digest : Nat) : exec (.shadowOp cls id digest) s = .next (s.put (s.b.shadowOp cls id digest)) := rfl

theorem exec_shadowRequestTaken : exec .shadowRequestTaken s = .next (s.put s.b.shadowTaken) := rfl

theorem exec_shadowResult (tag digest : Nat) : exec (.shadowResult tag digest) s = .next (s.put (s.b.shadowResult tag digest)) := rfl

theorem exec_shadowTimeout (tag : Nat) : exec (.shadowTimeout tag) s = .next (s.put (s.b.shadowTimeout tag)) := rfl

theorem exec_shadowTargetMove : exec .shadowTargetMove s = .next (s.put s.b.targetMove) := rfl

end

/-! Operations presented (R323) -/

section
variable {b : Block} {cls id digest : Nat}

theorem Block.shadowOp_off (hon : b.shadowOn = false) : b.shadowOp cls id digest = b := if_pos (by simp [hon])

theorem Block.shadowOp_counts (hon : b.shadowOn = true) (hcount : b.int.opCount + 1 < 2 ^ b.f F.INT_SHD_CFG_SHIFT) :
    b.shadowOp cls id digest = { b with int := { b.int with opCount := b.int.opCount + 1 } } := by
  unfold Block.shadowOp
  rw [if_neg (by simp [hon]), if_pos hcount]

/-- One operation in 2^SHIFT becomes a sample. -/
theorem Block.shadowOp_samples (hon : b.shadowOn = true) (hcount : 2 ^ b.f F.INT_SHD_CFG_SHIFT ≤ b.int.opCount + 1) {n k : Nat}
    (htag : freeTag b.int.samples = some n) (hk : k = b.f F.INT_SHD_STAT_TARGET) {c : Block}
    (hc : c = { b with int := { b.int with opCount := 0 } }) {x : Sample}
    (hx : x = { core := k, cls := cls % 256, id := id % 2 ^ 48, d0 := digest % 2 ^ 64, step := b.ant.step, tag := n, on := c.nextCore k }) :
    b.shadowOp cls id digest = ({ c with int := { c.int with samples := c.int.samples ++ [x] } }).count F.INT_SHD_COUNT_SAMPLED := by
  subst hk hc hx
  unfold Block.shadowOp
  rw [if_neg (by simp [hon]), if_neg (by omega)]
  dsimp only
  rw [htag]
  rfl

theorem Block.shadowOp_loses (hon : b.shadowOn = true) (hcount : 2 ^ b.f F.INT_SHD_CFG_SHIFT ≤ b.int.opCount + 1)
    (htag : freeTag b.int.samples = none) :
    b.shadowOp cls id digest = ({ b with int := { b.int with opCount := 0 } }).count F.INT_SHD_COUNT_LOST := by
  unfold Block.shadowOp
  rw [if_neg (by simp [hon]), if_neg (by omega)]
  dsimp only
  rw [htag]

end

/-! Requests taken -/

/-- Replacing a sample whose tag no later one has leaves the later ones. -/
theorem Block.putSample_head {b : Block} {x y : Sample} {l : List Sample} (hl : b.int.samples = x :: l) (htag : x.tag = y.tag)
    (hfree : l.any (fun z => z.tag == y.tag) = false) : b.putSample y = { b with int := { b.int with samples := y :: l } } := by
  have htail : ∀ z ∈ l, (if z.tag = y.tag then y else z) = z := fun z hz =>
    if_neg (fun e => by simpa [e] using List.any_eq_false.mp hfree z hz)
  unfold Block.putSample
  rw [hl, List.map_cons, if_pos htag, List.map_congr_left htail, List.map_id']

theorem Block.shadowTaken_head {b : Block} {x : Sample} {l : List Sample} (hl : b.int.samples = x :: l) (hwait : x.waiting = true)
    (hfree : l.any (fun y => y.tag == x.tag) = false) :
    b.shadowTaken = { b with int := { b.int with samples := { x with waiting := false, asked := some b.clk.core } :: l } } := by
  have hfirst : b.int.samples.find? (fun y => y.waiting) = some x := by rw [hl, List.find?_cons_of_pos hwait]
  unfold Block.shadowTaken
  rw [hfirst]
  exact Block.putSample_head hl rfl hfree

theorem Block.shadowTaken_none {b : Block} (h : b.int.samples.any (fun x => x.waiting) = false) : b.shadowTaken = b := by
  have hnone : b.int.samples.find? (fun x => x.waiting) = none := by
    rw [List.find?_eq_none]
    exact List.any_eq_false.mp h
  unfold Block.shadowTaken
  rw [hnone]

/-! A replay of a step (R325) -/

/-- It is ordered the first time and within MAXAGE. -/
theorem Block.orderReplay_orders {b : Block} {step : Nat} (hnew : b.int.replayed.contains step = false)
    (hage : b.ant.step - step ≤ b.f F.INT_SHD_CFG_MAXAGE) :
    (b.orderReplay step).2 =
      ({ b with int := { b.int with replayed := (step :: b.int.replayed).take 256 },
                pins := { b.pins with shdReplay := some step } }).raise Ev.INT_REPLAY b.intArgs := by
  unfold Block.orderReplay
  rw [hnew, if_neg Bool.false_ne_true, if_pos hage]

theorem Block.orderReplay_not {b : Block} {step : Nat}
    (h : b.int.replayed.contains step = true ∨ b.f F.INT_SHD_CFG_MAXAGE < b.ant.step - step) : (b.orderReplay step).2 = b := by
  unfold Block.orderReplay
  split
  · rfl
  · rename_i hnew
    have hage : b.f F.INT_SHD_CFG_MAXAGE < b.ant.step - step := h.resolve_left hnew
    rw [if_neg (by omega)]

/-! Results (R324) -/

section
variable {b : Block} {tag digest : Nat} {x : Sample} (hfind : b.int.samples.find? (fun y => y.tag == tag && !y.waiting) = some x)
include hfind

/-- The sample found has the tag of the result. -/
theorem Block.tag_of_found : x.tag = tag := by
  have h := List.find?_some hfind
  simp only [Bool.and_eq_true, beq_iff_eq] at h
  exact h.1

theorem Block.shadowResult_agrees (hstage : x.stage = 0) (hdigest : digest = x.d0) : b.shadowResult tag digest = b.dropSample tag := by
  unfold Block.shadowResult
  rw [hfind]
  dsimp only
  rw [hstage]
  exact if_pos hdigest

/-- The checker differs: a third core is asked. -/
theorem Block.shadowResult_differs (hstage : x.stage = 0) (hdigest : digest ≠ x.d0) {c : Block}
    (hc : c = (b.count F.INT_SHD_COUNT_MISMATCH).raise Ev.INT_SHD_MISMATCH (b.count F.INT_SHD_COUNT_MISMATCH).intArgs) :
    b.shadowResult tag digest =
      c.putSample { x with d1 := digest, stage := 1, chk := x.on, on := c.nextCore x.on, waiting := true, asked := none } := by
  subst hc
  unfold Block.shadowResult
  rw [hfind]
  dsimp only
  rw [hstage]
  exact if_neg hdigest

/-- The third core agrees with the checker: a replay, and reruns on the core. -/
theorem Block.shadowResult_accuses (hstage : x.stage = 1) (hdigest : digest = x.d1) :
    b.shadowResult tag digest =
      ((((b.orderReplay x.step).2.setPart 4 x.core (fun y => { y with test := true })).driveFence x.core true).putSample
        { x with d2 := digest, stage := 2, on := x.core, waiting := true, asked := none }) := by
  unfold Block.shadowResult
  rw [hfind]
  dsimp only
  rw [hstage]
  exact if_pos hdigest

/-- It agrees with the core: reruns on the checker. -/
theorem Block.shadowResult_checks (hstage : x.stage = 1) (hchk : digest ≠ x.d1) (hdigest : digest = x.d0) :
    b.shadowResult tag digest =
      ((b.setPart 4 x.chk (fun y => { y with test := true })).driveFence x.chk true).putSample
        { x with d2 := digest, stage := 3, on := x.chk, waiting := true, asked := none } := by
  unfold Block.shadowResult
  rw [hfind]
  dsimp only
  rw [hstage]
  exact (if_neg hchk).trans (if_pos hdigest)

/-- It agrees with neither. -/
theorem Block.shadowResult_inconclusive (hstage : x.stage = 1) (hchk : digest ≠ x.d1) (hdigest : digest ≠ x.d0) :
    b.shadowResult tag digest = (b.dropSample tag).report 4 x.cls 0 4 x.core x.d1 x.d0 x.id false false x.step := by
  unfold Block.shadowResult
  rw [hfind]
  dsimp only
  rw [hstage]
  exact (if_neg hchk).trans (if_neg hdigest)

/-- A rerun before the last. -/
theorem Block.shadowResult_reruns (hstage : x.stage = 2 ∨ x.stage = 3) (hruns : x.runs + 1 < atLeast1 (b.f F.INT_ST_CFG_REPEAT)) {right : Nat}
    (hright : right = if x.stage = 2 then x.d1 else x.d0) :
    b.shadowResult tag digest =
      b.putSample { x with runs := x.runs + 1, bad := x.bad + if digest = right then 0 else 1, waiting := true, asked := none } := by
  subst hright
  unfold Block.shadowResult
  rw [hfind]
  dsimp only
  rcases hstage with hstage | hstage <;>
  · rw [hstage]
    exact if_pos hruns

/-- The last rerun on the core of the sample ends its judgement. -/
theorem Block.shadowResult_last (hstage : x.stage = 2) (hruns : atLeast1 (b.f F.INT_ST_CFG_REPEAT) ≤ x.runs + 1) :
    b.shadowResult tag digest =
      b.endJudge { x with runs := x.runs + 1, bad := x.bad + if digest = x.d1 then 0 else 1 } x.on x.d1 false := by
  unfold Block.shadowResult
  rw [hfind]
  dsimp only
  rw [hstage]
  exact if_neg (by omega)

end

/-- A core with a bad rerun is reported PERMANENT and keeps its fence as FAULT. -/
theorem Block.endJudge_bad {b c : Block} {x : Sample} (hbad : x.bad ≠ 0) (hc : c = b.dropSample x.tag) (core right : Nat) :
    b.endJudge x core right false =
      ((c.report 4 x.cls 0 2 core right x.d0 x.id false false (x.step + if c.int.replayed.contains x.step then 2 ^ 63 else 0)).faultPart
        4 core 2).driveFence core true := by
  subst hc
  unfold Block.endJudge
  dsimp only
  rw [if_neg hbad, if_neg Bool.false_ne_true]
  rfl

/-! Results that do not come (R323) -/

section
variable {b : Block} {tag t0 : Nat} {x : Sample} (hfind : b.int.samples.find? (fun y => y.tag == tag) = some x) (hasked : x.asked = some t0)
include hfind hasked

theorem Block.shadowTimeout_due (hdue : t0 + b.us (atLeast1 (b.f F.INT_SHD_CFG_TMO)) ≤ b.clk.core) (hstage : x.stage < 2) {c : Block}
    (hc : c = (b.dropSample tag).count F.INT_SHD_COUNT_LOST) : b.shadowTimeout tag = c.raise Ev.INT_SHD_LOST c.intArgs := by
  subst hc
  unfold Block.shadowTimeout
  rw [hfind]
  dsimp only
  rw [hasked]
  dsimp only
  rw [if_pos hdue, if_neg (by omega)]

theorem Block.shadowTimeout_early (h : b.clk.core < t0 + b.us (atLeast1 (b.f F.INT_SHD_CFG_TMO))) : b.shadowTimeout tag = b := by
  unfold Block.shadowTimeout
  rw [hfind]
  dsimp only
  rw [hasked]
  exact if_neg (by omega)

end

/-! The target and the cores (R324) -/

theorem Block.targetMove_moves {b d : Block} {c : Nat} (hc : c = b.f F.INT_SHD_STAT_TARGET) (hon : b.shadowOn = true)
    (hdwell : b.int.dwellStep + atLeast1 (b.f F.INT_SHD_CFG_DWELL) ≤ b.ant.step) (hfree : b.int.samples.any (fun x => x.core == c) = false)
    (hd : d = { b with int := { b.int with dwellStep := b.ant.step } }) : b.targetMove = d.setf F.INT_SHD_STAT_TARGET (d.nextCore c) := by
  subst hc hd
  exact if_pos ⟨hon, hdwell, by simp [hfree]⟩

theorem Block.targetMove_judging {b : Block} (h : b.int.samples.any (fun x => x.core == b.f F.INT_SHD_STAT_TARGET) = true) :
    b.targetMove = b :=
  if_neg (fun hmove => hmove.2.2 h)

/-- Counting on from c with wrap reaches every core. -/
theorem mem_wrap {n c x : Nat} (hx : x < n) (hc : c < n) : x ∈ (List.range n).map (fun i => (c + 1 + i) % n) := by
  rw [List.mem_map]
  refine ⟨(x + n - (c + 1)) % n, List.mem_range.mpr (Nat.mod_lt _ (by omega)), ?_⟩
  rw [Nat.add_mod_mod, show c + 1 + (x + n - (c + 1)) = x + n by omega, Nat.add_mod_right, Nat.mod_eq_of_lt hx]

/-- Where a core is unfenced, the next core is one. -/
theorem Block.nextCore_unfenced {b : Block} {c : Nat} (hc : c < b.syn.hostUnits)
    (hfree : (List.range b.syn.hostUnits).any (fun x => !b.coreFenced x) = true) :
    b.nextCore c < b.syn.hostUnits ∧ b.coreFenced (b.nextCore c) = false := by
  obtain ⟨x, hx, hxfree⟩ := List.any_eq_true.mp hfree
  have hsome : (((List.range b.syn.hostUnits).map (fun i => (c + 1 + i) % b.syn.hostUnits)).find? (fun x => !b.coreFenced x)).isSome = true :=
    List.find?_isSome.mpr ⟨x, mem_wrap (List.mem_range.mp hx) hc, hxfree⟩
  obtain ⟨n, hn⟩ := Option.isSome_iff_exists.mp hsome
  have hnext : b.nextCore c = n := by
    unfold Block.nextCore
    dsimp only
    rw [hn]
    rfl
  obtain ⟨i, -, hi⟩ := List.mem_map.mp (List.mem_of_find?_eq_some hn)
  have hnfree := List.find?_some hn
  rw [hnext]
  exact ⟨hi ▸ Nat.mod_lt _ (by omega), by simpa using hnfree⟩

/-- Settles O47: each command is its function on the block, and the stages of a sample are its cases. -/
theorem shadowRecomputation : Obligations.ShadowRecomputation := by
  unfold Obligations.ShadowRecomputation
  refine ⟨?_, ?_, ?_, ?_, ?_, ?_, ?_, ?_, ?_, ?_, ?_, ?_, ?_, ?_, ?_, ?_, ?_, ?_, ?_⟩
  · intro s cls id digest hon hcount
    rw [exec_shadowOp, Block.shadowOp_counts hon hcount]
  · intro s cls id digest n hon hcount htag k hk c hc x hx
    rw [exec_shadowOp, Block.shadowOp_samples hon hcount htag hk hc hx]
  · intro s cls id digest hon hcount htag
    rw [exec_shadowOp, Block.shadowOp_loses hon hcount htag]
  · intro s cls id digest hon
    rw [exec_shadowOp, Block.shadowOp_off hon]
  · intro s x l hl hwait hfree
    rw [exec_shadowRequestTaken, Block.shadowTaken_head hl hwait hfree]
  · intro s h
    rw [exec_shadowRequestTaken, Block.shadowTaken_none h]
  · intro s tag digest x hfind hstage hdigest
    rw [exec_shadowResult, Block.shadowResult_agrees hfind hstage hdigest]
    rfl
  · intro s tag digest x hfind hstage hdigest c hc
    rw [exec_shadowResult, Block.shadowResult_differs hfind hstage hdigest hc]
  · rintro s tag digest x hfind hstage hdigest hnew hage c rfl d rfl e rfl
    rw [exec_shadowResult, Block.shadowResult_accuses hfind hstage hdigest, Block.orderReplay_orders hnew hage]
    rfl
  · rintro s tag digest x hfind hstage hdigest h d rfl e rfl
    rw [exec_shadowResult, Block.shadowResult_accuses hfind hstage hdigest, Block.orderReplay_not h]
    rfl
  · rintro s tag digest x hfind hstage hchk hdigest d rfl e rfl
    rw [exec_shadowResult, Block.shadowResult_checks hfind hstage hchk hdigest]
    rfl
  · intro s tag digest x hfind hstage hchk hdigest
    rw [exec_shadowResult, Block.shadowResult_inconclusive hfind hstage hchk hdigest]
  · intro s tag digest x hfind hstage hruns right hright
    rw [exec_shadowResult, Block.shadowResult_reruns hfind hstage hruns hright]
  · rintro s tag digest x hfind hstage hruns hbad c hc d rfl
    have hbad' : (x.bad + if digest = x.d1 then 0 else 1) ≠ 0 := by
      rcases hbad with h | h
      · omega
      · rw [if_neg h]
        omega
    have hc' : c = s.b.dropSample x.tag := by rw [hc, Block.tag_of_found hfind]
    have hjudge := Block.endJudge_bad (x := { x with runs := x.runs + 1, bad := x.bad + if digest = x.d1 then 0 else 1 })
      hbad' hc' x.on x.d1
    rw [exec_shadowResult, Block.shadowResult_last hfind hstage hruns, hjudge]
    rfl
  · intro s tag t0 x hfind hasked hdue hstage c hc
    rw [exec_shadowTimeout, Block.shadowTimeout_due hfind hasked hdue hstage hc]
  · intro s tag t0 x hfind hasked h
    rw [exec_shadowTimeout, Block.shadowTimeout_early hfind hasked h]
  · intro s c hc hon hdwell hfree d hd
    rw [exec_shadowTargetMove, Block.targetMove_moves hc hon hdwell hfree hd]
  · intro s h
    rw [exec_shadowTargetMove, Block.targetMove_judging h]
  · rintro b c n rfl hc hfree
    exact Block.nextCore_unfenced hc hfree

end Sys2Proof.Machine
end
